-- ==== Sys2Proof/Word.lean ====
section
/-! DEFINITION. The words of the module: octets, register words, endpoint numbers, the two dies
and the access ports (R9, R11, R15, R26, R99). -/

namespace Sys2Proof

/-- One octet of a buffer, a frame or an object value. -/
abbrev Byte := BitVec 8

/-- One register word (R18: every block has 32-bit access). -/
abbrev Word := BitVec 32

/-- A 20-bit endpoint number (R15). -/
abbrev Endpoint := BitVec 20

/-- The two Gletis controller dies (R26). -/
inductive DieId where
  | a
  | b
  deriving DecidableEq, Repr

/-- The other die of the pair. -/
def DieId.other : DieId → DieId
  | .a => .b
  | .b => .a

/-- The number the manual gives the die: 0 die A, 1 die B. -/
def DieId.num : DieId → Nat
  | .a => 0
  | .b => 1

/-- The die whose number is 0 or 1. -/
def DieId.ofNum (n : Nat) : DieId := if n = 1 then .b else .a

/-- The base of the die's own space in the host map (R586). -/
def DieId.space : DieId → Nat
  | .a => 0x40000000
  | .b => 0x80000000

/-- The access ports that own shadows and holding registers (R99, R593): the host port, the
cores of die A and the cores of die B.  The numbers are those of VIOL_INFO.requester (R599). -/
inductive Port where
  | host
  | coresA
  | coresB
  deriving DecidableEq, Repr

def Port.num : Port → Nat
  | .host => 0
  | .coresA => 1
  | .coresB => 2

/-- The three planes in callboard order (R55, R674). -/
inductive Plane where
  | control
  | data
  | management
  deriving DecidableEq, Repr

def Plane.num : Plane → Nat
  | .control => 0
  | .data => 1
  | .management => 2

/-- The two orderable parts (R2). -/
inductive Part where
  | e8
  | u9
  deriving DecidableEq, Repr

end Sys2Proof
end

