-- ==== Sys2Proof/Forms.lean ====
section
/-! DEFINITION. The operand forms of the commands: what an outside event, frame or message carries
into the module. -/

namespace Sys2Proof

/-- A grant of a slot or window (R301): index, use (0 up, 1 down, 2 beacon, 3 rendezvous), exponent
and remainder, and the run of a powerline grant. -/
structure NodeGrant where
  k : Nat
  use_ : Nat
  m : Nat
  r : Nat
  run : Nat
  deriving DecidableEq, Repr

/-- A decision of the module's scheduler: the grants a node has from here on. -/
structure SchedGrant where
  node : BitVec 16
  /-- The transport: radio 0-3, or 4 + port. -/
  transport : Fin 6
  version : BitVec 8
  grants : List NodeGrant
  deriving DecidableEq, Repr

/-- A frame as a receiver delivers it: the PSDU, whether its PHY header was one the module accepts
(R287, R336), the measured offset of its SFD end in 1/64 step, and the SNR in 0.25 dB. -/
structure RxFrame where
  psdu : List Byte
  phyOk : Bool
  offset : Option Int
  snr : Int
  deriving DecidableEq, Repr

/-- What the return-line of a chain brings (R378): whether it was silent, the preamble, the number of
bits after it, and those bits split into words. -/
structure ChainReturn where
  silent : Bool
  preamble : BitVec 16
  bits : Nat
  words : List (BitVec 24)
  deriving DecidableEq, Repr

/-- What the metering front end measured at its lands over a window (R403, R407), after the delays of the
phase corrections and the integrators: V1 to V3 as rms in 2^-32 V and frequency in 0.01 Hz; current inputs
0 to 17 as rms in 2^-32 V and the means of v × i and v′ × i in 2^-64 V²; the neutral's rms in 2^-32 V; the
inputs that were over-range; and the offset a calibration run measured (log entry 121). -/
structure MeterIn where
  volts : List (Nat × Nat)
  amps : List (Nat × Int × Int)
  neutral : Nat
  overrange : Nat
  offset : Option Int
  deriving DecidableEq, Repr

/-- The way a request comes that both an object and a register take: a WRITE of the object in a session, or
a write of the register by a port. -/
inductive Via where
  | object (session : Fin 33) (request : BitVec 32)
  | register (p : Port)
  deriving DecidableEq, Repr

/-- What a cycle boundary brings in from the front ends. -/
structure BoundaryIn where
  /-- R83: the crossing phase of V1 to V3 against phase 0 in the closing cycle, where measured. -/
  skews : List (Option Nat)
  /-- R301: what the scheduler grants at this boundary. -/
  grants : List SchedGrant
  /-- R300: the radios for which the scheduler has delivered every grant of the new version. -/
  delivered : List (Fin 4)
  /-- R345, R346: new window plans of the powerline ports: port, version, entries. -/
  plans : List (Fin 2 × BitVec 8 × List (BitVec 32))
  meter : MeterIn
  deriving DecidableEq, Repr

/-- What a failed cue unit could not give (R145, R193): slots whose hot record, scene level or
daylight entry lay in words that could not be corrected, and pre-lights lost. -/
structure UnitLoss where
  hot : List (Fin 4096)
  scene : List (Fin 4096)
  daylight : List (Fin 64)
  preLights : Nat
  deriving DecidableEq, Repr

/-- A digest that a fault of one cue unit or clone made differ from what a sound one forms: the
logical unit, the die, whether it is the clone's, and the digest. -/
structure BadDigest where
  unit : Fin 256
  die : DieId
  clone : Bool
  digest : BitVec 64
  deriving DecidableEq, Repr

/-- A frame handed for backbone or service transmit: its traffic class, its octets from the
destination address to the end of the payload, without tag and FCS, whether it is a one-step Sync
message, and the identifier of a two-step request. -/
structure EthFrame where
  cls : Fin 8
  octets : List Byte
  oneStep : Bool
  stamp : Option (BitVec 16)
  deriving DecidableEq, Repr

/-- A block with an enable (R266). -/
inductive DrainBlock where
  | radio (r : Fin 4)
  | plc (p : Fin 2)
  | chain (n : Fin 16)
  | meter
  | eth (e : Fin 3)
  deriving DecidableEq, Repr

/-- What a queued packet is to the rest of the module (R263, R264). -/
inductive ItemKind where
  | other
  | followSpot
  | callboard
  /-- A request of the object protocol: its session and request identifier. -/
  | object (session request : Nat)
  deriving DecidableEq, Repr

/-- A packet a producer sends: the queue that holds it and the queue it goes to (R281), the ring of
a priority queue, its words, and whether the producer counts credits (a faulty producer does
not, R254). -/
structure Send where
  src : Fin 65536
  dst : Fin 65536
  ring : Fin 4
  words : List (BitVec 64)
  kind : ItemKind
  counts : Bool
  deriving DecidableEq, Repr

/-- What the winner of a grant transfers: the queue that holds it, the receiving queue, its ring and the
packet. -/
structure Transfer where
  src : Fin 65536
  dst : Fin 65536
  ring : Fin 4
  words : List (BitVec 64)
  kind : ItemKind
  deriving DecidableEq, Repr

/-- The privileged requesters of R275. -/
inductive Privileged where
  | journalCommit
  | emergencyCue
  | powerFailSave
  deriving DecidableEq, Repr

end Sys2Proof
end

