-- ==== Sys2Proof/Syntax.lean ====
section
/-! DEFINITION. The commands of the module: one constructor per row of the opcode table. -/

namespace Sys2Proof

/-- A command: one row of the opcode table with its operands. -/
inductive Instr where
  /-- CROSSING_DETECTED (R61): A rising zero crossing of the reference input is detected and time-interpolated, then judged by the acceptance and qualification rules. -/
  | crossingDetected (tickHalf : Nat) (before after low : Int) (peak : Nat)
  /-- CROSSING_TIMEOUT (R75): No accepted crossing for the crossing timeout puts the clock in GHOST, or returns RELOCK to GHOST. -/
  | crossingTimeout
  /-- CYCLE_BOUNDARY (R65): The phase passes from 1,023 to 0, the cycle counter increments and all boundary work of the new cycle runs. -/
  | cycleBoundary (b : BoundaryIn)
  /-- OPTIME_TICK (R95): The operating-time counter advances by one unit of 1/4,096 h, saturating. -/
  | optimeTick
  /-- RTC_TICK (R97): The ghost-light RTC count advances at a 32.768 kHz tick and the Apron mirror is refreshed. -/
  | rtcTick
  /-- RTC_LO_READ (R99): A read of GHL_RTC_LO freezes the RTC time words into the port's shadows. -/
  | rtcLoRead (p : Port)
  /-- RTC_HI_READ (R99): A read of GHL_RTC_HI returns its shadow and releases the freeze, or the live value without a freeze. -/
  | rtcHiRead (p : Port)
  /-- RTC_SET_HI_WRITE (R101): A write of GHL_RTC_SET_HI stores seconds bit 32 in the holding register. -/
  | rtcSetHiWrite (p : Port) (v : Word)
  /-- RTC_SET_COMMIT (R101): A write of GHL_RTC_SET_LO commits a set of the RTC seconds and sets set_busy. -/
  | rtcSetCommit (p : Port) (v : Word)
  /-- RTC_SET_APPLY (R102): At the first 32.768 kHz edge after a commit the last committed seconds are applied, time_lost clears and a record is posted. -/
  | rtcSetApply
  /-- RTC_SET_FROM_TAI (R104): When the RTC follows TAI and time is lost or off by the threshold, the RTC is set from TAI at the next TAI second. -/
  | rtcSetFromTai
  /-- RTC_COMPENSATION (R106): Every 8 s the temperature correction is computed and whole ticks are added or suppressed. -/
  | rtcCompensation (celsius : Int)
  /-- DATA_PLANE_INPUT (R53): A data-plane input from the Apron reaches the stage holder, is journaled and applied in journal order. -/
  | dataPlaneInput
  /-- REPORT_PERIOD_EXPIRY (R120): A report period passes without a report, setting no_report, incrementing missed and starting a new period. -/
  | reportPeriodExpiry (e : Endpoint)
  /-- WRITE_BEHIND (R140): A dirty hot record is written to its MRAM hot image within the write-behind age. -/
  | writeBehind (d : DieId) (e : Endpoint)
  /-- BACKGROUND_STATISTICS_PASS (R126): A background pass visits every active endpoint at least once in 4,096 cycles. -/
  | backgroundStatisticsPass (d : DieId)
  /-- SCRUB_PASS (R136): The scrubber reads and checks each code word, rewriting corrected words. -/
  | scrubPass (d : DieId) (bank : Fin 4) (row : Fin 65536) (word : Fin 32) (bits : Fin 3)
  /-- MRAM_UNCORRECTABLE (R137): A read finds an uncorrectable MRAM word and repairs it from the other die when possible. -/
  | mramUncorrectable (d : DieId) (bank : Fin 4) (row : Fin 65536) (word : Fin 32) (sound : Bool)
  /-- UNIT_FAILURE (R143): A cue unit fails and its logical unit is moved to a free spare position, or the die becomes unfit. -/
  | unitFailure (d : DieId) (u : Fin 256) (loss : UnitLoss)
  /-- REMAP_SNAPSHOT_INSTALL (R144): The hot records and working parts from the stage holder are installed in the spare, which runs its late pass. -/
  | remapSnapshotInstall (d : DieId)
  /-- REMAP_COMMAND (R151): A write of EPS_REMAP_CMD.go remaps the named logical unit as if it had failed. -/
  | remapCommand (d : DieId) (w : Word)
  /-- FOLLOW_SPOT_RECEIVE (R175): A pre-light message reaches its unit and is stored, merged or dropped when the store is full. -/
  | followSpotReceive (d : DieId)
  /-- EVENT_EVALUATION (R183): A queued event evaluation runs evaluate with mode event. -/
  | eventEvaluation (d : DieId) (u : Fin 256)
  /-- EVENT_CUTOFF (R184): After phase 1,016 no further event evaluation starts in the cycle. -/
  | eventCutoff
  /-- SWEEP_OVERRUN (R158): A unit pass not ended at the overrun limit reports a sweep overrun, a die diagnosis failure. -/
  | sweepOverrun (d : DieId)
  /-- EMISSION_HANDOFF (R180): The stage-link sender clears an emission bit and hands the Apron one transport update with the device value. -/
  | emissionHandoff (d : DieId) (e : Endpoint)
  /-- AGGREGATE_DEADLINE (R186): At phase 64 an aggregate result not ready sets CUE_AGG_STATUS.late. -/
  | aggregateDeadline (d : DieId) (ready : Option (Fin 1024))
  /-- BALANCE_CHECK (R191): After each balance period the stage holder forms metered, accounted and unaccounted power per feeder. -/
  | balanceCheck
  /-- BANK_SWAP_REQUEST (R214): A write of the object Bank swap is checked against the inactive sequence and journaled. -/
  | bankSwapRequest (session : Fin 33) (request : BitVec 32) (v : BitVec 32)
  /-- BANK_SYNC_END (R215): The bank sync after a swap ends and the inactive bank takes the next sequence. -/
  | bankSyncEnd
  /-- GO_COMMAND (R217): A write of the object Go command is checked and journaled. -/
  | goCommand (session : Fin 33) (request : BitVec 32) (b : List Byte)
  /-- BLACKOUT_COMMAND (R235): A tagged blackout command is verified against key and counter and placed as a go, or refused. -/
  | blackoutCommand (session : Fin 33) (request : BitVec 32) (b : List Byte)
  /-- QUEUE_PACKET_SEND (R251): A producer sends a packet against credits, debiting them. -/
  | queuePacketSend (d : DieId) (x : Send)
  /-- CREDIT_RETURN (R251): A credit returns to the producer on the sideband when its word is read or discarded. -/
  | creditReturn (d : DieId) (q : Fin 65536)
  /-- LEVEL_TIMEOUT (R261): The oldest waiter of an instance reaches the level timeout and is discarded with its credits. -/
  | levelTimeout (d : DieId) (level : Fin 6) (inst : Fin 512)
  /-- QUEUE_FLUSH (R248): A write of QCM_Q_FLUSH.go discards waiting packets of the selected queue at a packet boundary. -/
  | queueFlush (p : Port) (d : DieId)
  /-- BLOCK_DISABLE (R266): Clearing a block's enable stops intake at the packet boundary and starts the drain. -/
  | blockDisable (b : DrainBlock)
  /-- DRAINED (R266): A disabled block completes its accepted items and sets DRAINED. -/
  | drained (b : DrainBlock)
  /-- DRAIN_TIMEOUT (R267): A drain not done by the level timeout discards the remaining items. -/
  | drainTimeout (b : DrainBlock)
  /-- BLOCK_ENABLE (R269): Setting a block's enable clears DRAINED and resumes intake. -/
  | blockEnable (p : Port) (b : DrainBlock)
  /-- ARB_WINDOW_BOUNDARY (R270): At a window boundary every share counter is reset to its weight and masks clear. -/
  | arbWindowBoundary (d : DieId) (a : Fin 256) (clocks : Nat)
  /-- ARB_GRANT (R270): At a grant point the arbiter grants the requester with the highest counter. -/
  | arbGrant (d : DieId) (a : Fin 256) (clocks requests : Nat) (emergency : Bool) (t : Option Transfer)
  /-- ARB_PREEMPT (R272): A small arbiter takes back a grant when another requester leads by the margin. -/
  | arbPreempt (d : DieId) (a : Fin 256) (clocks : Nat) (j : Fin 16)
  /-- ARB_EMERGENCY (R273): A large arbiter's emergency requester preempts the holder at once. -/
  | arbEmergency (d : DieId) (a : Fin 256) (clocks : Nat) (t : Option Transfer)
  /-- ARB_CUTOFF (R271): A requester holding a grant beyond its hold limit is cut off and masked. -/
  | arbCutoff (d : DieId) (a : Fin 256) (clocks : Nat)
  /-- ARB_WITHDRAW (R275): A privileged requester withdraws after grant and the arbiter picks again. -/
  | arbWithdraw (d : DieId) (a : Fin 256) (clocks : Nat) (who : Privileged) (requests : Nat) (emergency : Bool) (t : Option Transfer)
  /-- TIMEOUT_WRITE (R260): A write of a QCM timeout register is checked against ratio and bounds and journaled. -/
  | timeoutWrite (p : Port) (space : Option DieId) (level : Fin 6) (w : Word)
  /-- RADIO_SLOT_START (R292): A radio slot begins and the radio sends or listens according to its slot table. -/
  | radioSlotStart (r : Fin 4) (j : Fin 8)
  /-- RADIO_BAD_FRAME (R303): A received frame with bad FCS, format or segment is discarded and counted. -/
  | radioBadFrame (r : Fin 4) (f : RxFrame)
  /-- REPORT (R309): A report frame from a node writes sense, fault and node status records and counts as a report. -/
  | report (r : Fin 4) (f : RxFrame)
  /-- ACKNOWLEDGEMENT (R313): An acknowledgement received for a sent frame ends its retries and updates timing. -/
  | acknowledgement (r : Fin 4) (f : RxFrame)
  /-- GRANT_REQUEST (R302): A grant request of code 0 makes the scheduler give the node grants. -/
  | grantRequest (r : Fin 4) (f : RxFrame) (gs : List NodeGrant)
  /-- REPAIR_REQUEST (R321): A grant request of code 1 is answered by unicast arm or cancel from the arming store. -/
  | repairRequest (r : Fin 4) (f : RxFrame)
  /-- REHOME_REQUEST (R327): A grant request of code 2 on a new radio re-homes the node there. -/
  | rehomeRequest (r : Fin 4) (f : RxFrame) (gs : List NodeGrant)
  /-- JOIN_REQUEST (R319): A join request is answered with a join response giving address, parent and keys. -/
  | joinRequest (r : Fin 4) (f : RxFrame) (eui : BitVec 64) (gs : List NodeGrant)
  /-- ACK_MISSING (R315): A sent frame lacks its acknowledgement and is retransmitted in the next usable slot. -/
  | ackMissing (r : Fin 4)
  /-- SLOT_TABLE_SWAP (R300): A write of RAD_SWAP requests a slot-table swap, checked for version and form. -/
  | slotTableSwap (r : Fin 4) (version : BitVec 8)
  /-- SLOT_DATA_ACCESS (R299): An access to RAD_SLOT_DATA reads or writes an inactive entry and increments the index. -/
  | slotDataAccess (p : Port) (r : Fin 4) (w : Option Word)
  /-- RADIO_LEAVE (R327): A planned leave begins, with beacons carrying leaving and the target radio. -/
  | radioLeave (r : Fin 4)
  /-- RADIO_LEAVE_END (R327): After two superframes the leaving radio clears its enable and drains. -/
  | radioLeaveEnd (r : Fin 4)
  /-- RADIO_FAILURE (R328): A failed radio is taken out of service at once and its nodes spread over the other radios. -/
  | radioFailure (r : Fin 4)
  /-- NODE_LEAVE (R311): A write of TRUE to object 0x5024 sends node command 4 and frees the address. -/
  | nodeLeave (n : BitVec 16)
  /-- PLC_WINDOW_START (R341): A powerline window begins and the port sends or listens by its plan. -/
  | plcWindowStart (p : Fin 2) (w : Fin 4)
  /-- PLC_REPORT (R352): A powerline report is accepted, applied and queued for acknowledgement. -/
  | plcReport (p : Fin 2) (f : RxFrame)
  /-- PLC_GRANT_REQUEST (R349): A powerline grant request in a shared window is served by the scheduler. -/
  | plcGrantRequest (p : Fin 2) (f : RxFrame) (gs : List NodeGrant)
  /-- PLC_JOIN_REQUEST (R358): A powerline join request is answered by a join response without relays. -/
  | plcJoinRequest (p : Fin 2) (f : RxFrame) (eui : BitVec 64) (gs : List NodeGrant)
  /-- PLC_REPLY_MISSING (R353): A down group not confirmed by down_ack is resent, or dropped at the retry limit. -/
  | plcReplyMissing (p : Fin 2) (n : BitVec 16)
  /-- PLC_LEAVE (R359): A planned leave of a port moves its nodes to the other port or leaves them unserved, then drains. -/
  | plcLeave (p : Fin 2)
  /-- PLC_LINE_FAULT (R360): A line-driver overcurrent or over-temperature takes the port out of service at once. -/
  | plcLineFault (p : Fin 2)
  /-- PLAN_DATA_READ (R345): A read of PLC_PLAN_DATA returns a plan entry and increments the index. -/
  | planDataRead (q : Port) (p : Fin 2)
  /-- CHAIN_FRAME_START (R382): Each enabled chain starts a frame at phase 256 of every even cycle. -/
  | chainFrameStart (n : Fin 16)
  /-- CHAIN_RETURN_END (R378): The return stream ends and is judged for preamble, length and per-word checks. -/
  | chainReturnEnd (n : Fin 16) (r : ChainReturn)
  /-- CHAIN_LATCH (R380): The module drives the latch pulse at t_L after phase 256. -/
  | chainLatch (n : Fin 16)
  /-- LATCH_MISSING (R381): A latch pulse not returned within 30 µs is counted and raises latch_missing. -/
  | latchMissing (n : Fin 16)
  /-- CHAIN_COUNT_REQUEST (R394): A write of FLC_CTRL.count makes the next frame a count frame. -/
  | chainCountRequest (n : Fin 16)
  /-- METER_RESULTS_READY (R408): At phase 32 the previous cycle's results are published and journaled. -/
  | meterResultsReady
  /-- HISTORY_INTERVAL_END (R423): At each history interval end one interval record per enabled feeder is written. -/
  | historyIntervalEnd
  /-- PULSE_OUTPUT (R428): A pulse output with backlog drives its land active then inactive for its width. -/
  | pulseOutput (n : Fin 8)
  /-- HARMONIC_REQUEST (R429): A harmonic request names an input, or is refused as busy. -/
  | harmonicRequest (via : Via) (input : BitVec 8)
  /-- HARMONIC_DONE (R429): After eight LOCKED windows the harmonic result becomes valid. -/
  | harmonicDone (fundamental thd : Nat) (amps : List Nat)
  /-- CALIBRATION_REQUEST (R430): An offset-calibration request is queued, ignored as repeat or refused for the reference. -/
  | calibrationRequest (via : Via) (input : BitVec 8)
  /-- CALIBRATION_AUTO (R430): The automatic calibration interval queues the next input in turn. -/
  | calibrationAuto
  /-- THEFT_SECOND (R432): The ghost light forms a 1-s rms of each watched input. -/
  | theftSecond (a b c : Nat)
  /-- THEFT_MINUTE (R433): At a minute end with flow the ghost light writes a theft record and updates the header. -/
  | theftMinute
  /-- THEFT_LOG_CLEAR (R436): A write of TRUE to object 0x6065 clears the theft log, or is refused while the watch runs. -/
  | theftLogClear (session : Fin 33) (request : BitVec 32)
  /-- RESULT_SELECT (R439): A write of MTR_RES_SEL snapshots the result registers of the selected input. -/
  | resultSelect (p : Port) (w : Word)
  /-- TOTAL_SELECT (R439): A write of MTR_TOT_SEL snapshots the selected total and window. -/
  | totalSelect (p : Port) (w : Word)
  /-- HEALTH_DEADLINE (R446): At phase 16 the Apron takes the health words and fitness is judged. -/
  | healthDeadline (a b : Option Bool) (bad : List BadDigest)
  /-- DATA_WRITE_RECORD (R450): The understudy receives a data write record and applies its writes in journal order. -/
  | dataWriteRecord
  /-- MANAGEMENT_WRITE_RECORD (R451): The understudy receives a management write record for application at the boundary. -/
  | managementWriteRecord
  /-- CUE_FIX_RECORD (R450): The understudy receives a journaled cue stamp and uses it. -/
  | cueFixRecord
  /-- SCHEDULE_OCCURRENCE_RECORD (R450): The understudy receives the TAI of a schedule entry's next occurrence. -/
  | scheduleOccurrenceRecord
  /-- METERING_RECORD (R450): The understudy receives metering results or a commit record and writes them. -/
  | meteringRecord
  /-- COMMIT_TOTALS_RECORD (R456): The understudy receives the per-unit event totals of a cycle. -/
  | commitTotalsRecord
  /-- COMMIT_CLOSE (R457): The understudy checks the closing packet and commits the cycle or enters RESYNC. -/
  | commitClose
  /-- RESERVED_RECORD (R450): A journal packet of a reserved type sends the understudy into RESYNC. -/
  | reservedRecord (d : DieId)
  /-- EPOCH_MARK (R453): At each phase step from 16 to 1,016 an epoch mark applies pending writes and starts counted evaluations. -/
  | epochMark (e : Fin 1024)
  /-- JOURNAL_ACK (R458): The Falsia link acknowledges a journal packet, releasing its outside effects. -/
  | journalAck
  /-- MIRROR_WRITE (R452): A mirror write from the stage holder is written into the understudy's stack. -/
  | mirrorWrite
  /-- CLOSING_WAIT_EXPIRY (R459): The understudy's wait for the closing packet ends and it runs the cycle. -/
  | closingWaitExpiry (d : DieId)
  /-- UNIT_RESYNC_INSTALL (R467): The working store of a disputed unit is installed on the understudy before its next pass. -/
  | unitResyncInstall (d : DieId) (u : Fin 256)
  /-- STAGE_RELEASE (R470): On an unplanned cause the stage holder stops output and journaling and releases the gate. -/
  | stageRelease (cause : Fin 7)
  /-- RESYNC_REQUEST (R478): A die in RESYNC requests resynchronisation and the MRAM copy starts, or it is refused on format. -/
  | resyncRequest (d : DieId)
  /-- RESYNC_COPY_DONE (R478): After the copy the working stores are sent at the next commit marker. -/
  | resyncCopyDone (d : DieId)
  /-- RESYNC_RESTART (R479): A resynchronisation past its limit, overflowing or losing the link restarts. -/
  | resyncRestart (d : DieId)
  /-- HAND_OVER_COMMAND (R482): Object 0x2103 or TWN_CMD code 1 requests a commanded handover. -/
  | handOverCommand (via : Via) (die : BitVec 8)
  /-- SELF_TEST_COMMAND (R483): Object 0x2104 or TWN_CMD code 2 sends the understudy into full self-test. -/
  | selfTestCommand (via : Via) (d : DieId)
  /-- LINK_PACKET_ERROR (R484): A Falsia packet received with an error is resent. -/
  | linkPacketError (d : DieId) (again : Bool)
  /-- LANE_FAILURE (R484): A Falsia lane fails and the link retrains on two lanes. -/
  | laneFailure (lane : Fin 4)
  /-- LINK_DOWN (R485): The Falsia link goes down and the understudy enters RESYNC. -/
  | linkDown
  /-- LINK_RETRAIN (R485): While down the link tries to retrain every 64 cycles. -/
  | linkRetrain (lanes : Fin 3)
  /-- ETH_FRAME_RECEIVE (R495): A backbone or service frame is received, filtered and delivered to the ring. -/
  | ethFrameReceive (e : Fin 3) (octets : List Byte) (symbol : Bool) (taken : Nat)
  /-- PAUSE_REFRESH (R509): While above the low watermark the port repeats or cancels its PAUSE. -/
  | pauseRefresh (e : Fin 3) (taken : Nat)
  /-- PAUSE_RECEIVE (R510): A received PAUSE frame stops transmission for its quanta or is discarded. -/
  | pauseReceive (e : Fin 3) (quanta : BitVec 16)
  /-- PAUSE_EXPIRY (R510): The pause quanta elapse and transmission resumes. -/
  | pauseExpiry (e : Fin 3)
  /-- ETH_FRAME_TRANSMIT (R505): A frame whose gate allows it is sent and completes, or is discarded as no-fit. -/
  | ethFrameTransmit (e : Fin 3) (handed : List EthFrame)
  /-- TXTS_READ (R519): A read of ETH_TXTS_ID takes the head entry and latches its time. -/
  | txtsRead (p : Port) (e : Fin 2)
  /-- LINK_FAILURE (R500): A backbone PHY reports a link failure. -/
  | linkFailure (e : Fin 3) (partly : Bool)
  /-- FAILOVER_FORCE (R500): A write of ETH_BKP.force fails over at once. -/
  | failoverForce
  /-- FAILBACK (R502): In revertive mode the preferred port takes transmit after 10 s of link. -/
  | failback
  /-- GCL_CHANGE_REQUEST (R504): A write of ETH_GCL_CTRL.change requests a gate list change, checked and timed. -/
  | gclChangeRequest (e : Fin 2)
  /-- GCL_CHANGE (R504): At the change time the administrative gate list becomes operational. -/
  | gclChange (e : Fin 2)
  /-- GCL_ENTRY_END (R503): A gate list interval ends and the next entry's gates take effect. -/
  | gclEntryEnd (e : Fin 2)
  /-- MDIO_COMMAND (R528): A write of ETH_MDIO_CMD.go starts a PHY register access. -/
  | mdioCommand (p : Port) (e : Fin 3) (w : Word)
  /-- MDIO_DONE (R528): The PHY access ends and busy clears. -/
  | mdioDone (e : Fin 3) (data : BitVec 16)
  /-- PTP_OFFSET_WRITE (R521): A measured offset is judged: servoed, stepped or refused. -/
  | ptpOffsetWrite (o : BitVec 64)
  /-- PTP_HOLDOVER_EXPIRY (R523): No accepted offset for the holdover limit clears valid. -/
  | ptpHoldoverExpiry
  /-- ACCEPT_PENDING_STEP (R522): A write of TRUE to object 0x20C9 arms an authorisation for the pending step. -/
  | acceptPendingStep (session : Fin 33) (request : BitVec 32)
  /-- SESSION_OPEN (R535): A DTLS handshake opens a session or is left unanswered when none is free. -/
  | sessionOpen (service commissioning : Bool)
  /-- SESSION_IDLE_TIMEOUT (R538): A session idle for the limit closes. -/
  | sessionIdleTimeout
  /-- READ (R545): A READ message is answered item by item from the values in force. -/
  | read (session : Fin 33) (m : List Byte)
  /-- WRITE (R546): A WRITE message's items are checked and journaled for the next boundary. -/
  | write (session : Fin 33) (m : List Byte)
  /-- EP_READ (R553): An EP_READ returns one field for consecutive endpoints. -/
  | epRead (session : Fin 33) (m : List Byte)
  /-- EP_WRITE (R554): An EP_WRITE stages endpoint field writes as management-plane writes. -/
  | epWrite (session : Fin 33) (m : List Byte)
  /-- COMPANY (R570): A company command is checked for target, tag and counter and carried out at its TAI. -/
  | company (session : Option (Fin 33)) (m : List Byte)
  /-- COMMIT_PROMPT_BOOK (R559): A write of the object Commit prompt book requests a commit of RWP values. -/
  | commitPromptBook (session : Fin 33) (request : BitVec 32) (v : BitVec 32)
  /-- PROMPT_COMMIT_END (R559): The prompt book copy is written and the commit response follows. -/
  | promptCommitEnd
  /-- ERASE_PROMPT_BOOK (R561): A write of the object Erase prompt book invalidates both copies at its boundary. -/
  | erasePromptBook (session : Fin 33) (request : BitVec 32) (v : BitVec 32)
  /-- JOIN (R565): A write of TRUE to object 0x1203 moves a NUMBERED module to JOINED. -/
  | join (session : Fin 33) (request : BitVec 32)
  /-- DECOMMISSION (R566): A decommission write moves the module through LEAVING to UNJOINED. -/
  | decommission (session : Fin 33) (request : BitVec 32) (v : BitVec 16)
  /-- COMPANY_COMMAND_SEND (R574): A write of object 0x1210 makes the module sign and send a company command. -/
  | companyCommandSend (session : Fin 33) (request : BitVec 32) (b : List Byte)
  /-- CLEAR_SENDERS (R570): A write of TRUE to object 0x1214 clears the sender counter table. -/
  | clearSenders (session : Fin 33) (request : BitVec 32)
  /-- HOST_PORT_LOCK (R577): A write of TRUE to object 0x1109 locks host-port writes until start. -/
  | hostPortLock (session : Fin 33) (request : BitVec 32)
  /-- HOST_READ (R581): A host-port read transaction reads a burst of words from one space. -/
  | hostRead (known : Bool) (addr : Word) (n : Fin 64) (held : Fin 401) (bad : List (Fin 64))
  /-- HOST_WRITE (R581): A host-port write transaction writes a burst of words in address order. -/
  | hostWrite (addr : Word) (data : List Word) (held : Fin 401)
  /-- HOST_ABORT (R585): HCS_N rising before the status phase abandons the transaction. -/
  | hostAbort (write : Bool) (addr : Word) (n : Fin 65) (data : List Word)
  /-- STALL_CAP (R596): An access held for 4 µs ends with STALL_NONE or STALL_TAKEN. -/
  | stallCap (write taken : Bool) (addr : Word) (n : Fin 64) (data : List Word) (last : Word)
  /-- LOW_WORD_READ (R593): A read of a 64-bit low word copies the high word into the port's shadow. -/
  | lowWordRead (p : Port) (addr : Word)
  /-- HIGH_WORD_READ (R593): A read of a 64-bit high word returns and releases the shadow, or the live word. -/
  | highWordRead (p : Port) (addr : Word)
  /-- HIGH_WORD_WRITE (R594): A write of a 64-bit high word is held in the port's holding register. -/
  | highWordWrite (p : Port) (addr v : Word)
  /-- LOW_WORD_WRITE (R594): A write of a 64-bit low word commits both words and clears the holding register. -/
  | lowWordWrite (p : Port) (addr v : Word)
  /-- READ_CLEAR (R19): A read of an RC register returns its value and clears it. -/
  | readClear (p : Port) (addr : Word)
  /-- REGISTER_WRITE (R19): A write to a register without a row of its own acts by its access code. -/
  | registerWrite (p : Port) (addr v : Word)
  /-- MSG_DOORBELL (R600): A write of HPT_MSG_DOOR submits a host-port request and sets busy. -/
  | msgDoorbell (p : Port) (v : Word)
  /-- MSG_RESPONSE (R600): The response is placed in HPT_MSG_RSP, ready is set and msg_ready raised. -/
  | msgResponse
  /-- INTERRUPT_PENDING (R602): A source line high sets the source's pending latch. -/
  | interruptPending (d : DieId)
  /-- ICU_CLAIM (R604): A read of ICU_CLAIMt claims the lowest offered source or returns the empty value. -/
  | icuClaim (p : Port) (d : DieId) (t : Fin 6)
  /-- ICU_COMPLETE (R605): A write of ICU_COMPLETEt ends a source's active state or counts a stray. -/
  | icuComplete (p : Port) (d : DieId) (t : Fin 6) (v : Word)
  /-- ICU_PEND_SET (R602): A write of ICU_PEND_SET sets pending bits. -/
  | icuPendSet (p : Port) (d : DieId) (k : Fin 8) (v : Word)
  /-- ICU_PEND_CLEAR (R602): A write of ICU_PEND_CLR clears pending bits. -/
  | icuPendClear (p : Port) (d : DieId) (k : Fin 8) (v : Word)
  /-- KEY_INVALIDATE (R617): A key and every key beneath it are invalidated by overwriting seals. -/
  | keyInvalidate (c : Fin 16)
  /-- TAMPER_SAMPLE (R634): At each grid tick the switches are sampled and a mesh trace checked. -/
  | tamperSample (open_ : Fin 16) (mesh : Bool)
  /-- KEY_REMASK (R620): Every 32 s the ghost light draws new shares for every unsealed key. -/
  | keyRemask
  /-- KEY_IMPORT (R625): A write of object 0x7010 imports a wrapped key into a slot. -/
  | keyImport (session : Fin 33) (request : BitVec 32) (b : List Byte)
  /-- GENERATE_MANAGEMENT_BRANCH (R627): A write of TRUE to object 0x7012 generates slots 4 and 5. -/
  | generateManagementBranch (session : Fin 33) (request : BitVec 32)
  /-- MANAGEMENT_CERTIFICATE (R628): A write of object 0x7004 stores the management certificate. -/
  | managementCertificate (session : Fin 33) (request : BitVec 32) (b : List Byte)
  /-- ATTESTATION_REQUEST (R630): A write of object 0x7020 requests an attestation statement for a slot. -/
  | attestationRequest (session : Fin 33) (request : BitVec 32) (b : List Byte)
  /-- ATTESTATION_READY (R630): The signed attestation statement is ready in object 0x7021. -/
  | attestationReady
  /-- SEGMENT_KEY_CHANGE (R631): A segment key change generates a new key and sends node command 5. -/
  | segmentKeyChange (session : Fin 33) (request : BitVec 32)
  /-- SEGMENT_KEY_PERIOD (R631): The segment key period expires and starts a key change. -/
  | segmentKeyPeriod
  /-- SEGMENT_KEY_USE (R631): At the TAI second of use every frame is sent under the new key. -/
  | segmentKeyUse
  /-- SEGMENT_KEY_RETIRE (R631): After the lead the previous generation is emptied. -/
  | segmentKeyRetire
  /-- RENEW_SEGMENT_BRANCH (R633): A write of TRUE to object 0x701C derives slot 9 afresh and generates slot 10. -/
  | renewSegmentBranch (session : Fin 33) (request : BitVec 32)
  /-- TAMPER_ACKNOWLEDGE (R642): A write of object 0x7031 clears the tamper latch and marks. -/
  | tamperAcknowledge (session : Fin 33) (request : BitVec 32) (v : BitVec 16)
  /-- STAGE_BEGIN (R652): A Stage begin write names a target slot and header and invalidates the slot. -/
  | stageBegin (session : Fin 33) (request : BitVec 32) (b : List Byte)
  /-- STAGE_BLOCK (R652): A Stage block write stores body octets at an offset. -/
  | stageBlock (session : Fin 33) (request : BitVec 32) (b : List Byte)
  /-- STAGE_END (R653): A Stage end write checks the image and marks the slot valid or invalid. -/
  | stageEnd (session : Fin 33) (request : BitVec 32)
  /-- ENDORSEMENT (R655): A write of object 0x7406 stores a verified endorsement of the staged header. -/
  | endorsement (session : Fin 33) (request : BitVec 32) (b : List Byte)
  /-- ACTIVATE (R659): An activation request naming a version and TAI is accepted or refused. -/
  | activate (session : Fin 33) (request : BitVec 32) (b : List Byte)
  /-- PROBATION_EXPIRY (R665): The probation period expires and the image is accepted. -/
  | probationExpiry
  /-- REJECT_IMAGE (R664): A rejection returns the stage to the old-image die and records the rejected version. -/
  | rejectImage (session : Fin 33) (request : BitVec 32)
  /-- ACCEPT_IMAGE (R665): A write of TRUE to object 0x7415 ends probation with acceptance. -/
  | acceptImage (session : Fin 33) (request : BitVec 32)
  /-- NODE_CAMPAIGN (R666): A write of object 0x7421 starts broadcasting a node image in rounds. -/
  | nodeCampaign (session : Fin 33) (request : BitVec 32) (b : List Byte)
  /-- CAMPAIGN_DONE (R666): A node image campaign ends its last round. -/
  | campaignDone
  /-- NODE_IMAGE_ACTIVATE (R668): A write of object 0x7423 sends node command 6 to the nodes of the slot's class. -/
  | nodeImageActivate (session : Fin 33) (request : BitVec 32) (b : List Byte)
  /-- DIE_BOOT (R656): A die checks and boots its run slot at start. -/
  | dieBoot (d : DieId) (sound0 sound1 : Bool)
  /-- CALLBOARD_POST (R679): A record posted by any block is stored with the next sequence. -/
  | callboardPost
  /-- CLEAR_CALLBOARD (R683): A write of object 0x7801 clears the main log at its boundary. -/
  | clearCallboard (session : Fin 33) (request : BitVec 32) (v : BitVec 32)
  /-- TEST_REQUEST (R687): A write of object 0x7810 queues a test request. -/
  | testRequest (session : Fin 33) (request : BitVec 32) (b : List Byte)
  /-- DIE_FULL_SELF_TEST (R688): Test 1 runs full self-test on the understudy, after a handover for the stage holder. -/
  | dieFullSelfTest (d : DieId)
  /-- SPARE_UNIT_TEST (R689): Test 2 tests the free spare of a cluster and marks it failed on failure. -/
  | spareUnitTest (c : Fin 32) (a b : Bool)
  /-- MRAM_SCRUB_TEST (R688): Test 3 runs a scrub pass of one bank. -/
  | mramScrubTest (bank : Fin 4) (found : List (DieId × Fin 65536 × Fin 32 × Fin 3)) (pass : Bool)
  /-- RADIO_CALIBRATION (R688): Test 4 calibrates a radio in idle slots. -/
  | radioCalibration (r : Fin 4) (pass : Bool)
  /-- PLC_LINE_MEASUREMENT (R688): Test 5 measures a powerline port in idle windows. -/
  | plcLineMeasurement (p : Fin 2) (pass : Bool)
  /-- CHAIN_COUNT_TEST (R688): Test 6 sends one count frame on a chain. -/
  | chainCountTest (n : Fin 16)
  /-- OFFSET_CALIBRATION_TEST (R688): Test 7 runs an offset calibration of a metering input. -/
  | offsetCalibrationTest (k : Fin 22)
  /-- CABLE_DIAGNOSTIC (R688): Test 8 runs a cable diagnostic on a standby or disabled port. -/
  | cableDiagnostic (e : Fin 3) (pass : Bool)
  /-- FALSIA_LANE_TEST (R688): Test 9 tests the Falsia lanes in offline mode. -/
  | falsiaLaneTest (pass : Bool)
  /-- PHY_LOOPBACK (R688): Test 10 runs a PHY loopback in offline mode. -/
  | phyLoopback (e : Fin 3) (pass : Bool)
  /-- TEST_END (R687): A test ends with a TEST_RESULT record and the next queued test starts. -/
  | testEnd (full : Option (DieId × Bool))
  /-- TEST_PERIODIC (R688): The spare-test period or radio calibration interval expires and runs its test. -/
  | testPeriodic (radio : Option (Fin 4)) (bad : List (DieId × Fin 32))
  /-- OFFLINE_MODE (R690): A write of object 0x7820 enters offline mode and closes the output gate. -/
  | offlineMode (session : Fin 33) (request : BitVec 32) (v : BitVec 16)
  /-- TAP_RELEASE (R691): The test access port leaves reset in offline mode or with TEST_EN high at supply-good. -/
  | tapRelease
  /-- SUPPLY_GOOD (R700): The input qualifies at 20 V for 10 ms and a start begins. -/
  | supplyGood (testEn : Bool)
  /-- POWER_FAIL (R701): The input below 16 V for 50 µs starts the power-fail sequence. -/
  | powerFail (m : MeterIn)
  /-- MODULE_RESET (R704): The module enters reset when both flushes end or the input falls below 12 V. -/
  | moduleReset (below12 : Bool) (flushedA flushedB : Nat)
  /-- COUNTER_LOAD (R422): At start-up step 4 totals and counters load from the latest valid commit record. -/
  | counterLoad (bad : List (DieId × Fin 2))
  /-- START_SELF_TEST (R707): Each die runs the tamper step, unseals and self-tests, then sends its first health word. -/
  | startSelfTest (d : DieId) (pass : Bool)
  /-- STAGE_CHOICE (R709): The Apron chooses the stage holder from the health words, or none at 800 ms. -/
  | stageChoice
  /-- HOT_RESTORE (R142): The chosen die restores hot records, scene levels and cue engine state. -/
  | hotRestore
  /-- RESTART (R713): A write of object 0x7C10 restarts the module at the next boundary. -/
  | restart (session : Fin 33) (request : BitVec 32) (v : BitVec 16)
  /-- BACKUP_SWITCH (R714): The ghost light switches to the backup when the standby rail falls. -/
  | backupSwitch (vstby vbat : BitVec 13)
  /-- STANDBY_RETURN (R714): The ghost light switches back to the standby rail. -/
  | standbyReturn (vstby vbat : BitVec 13)
  /-- GHOST_LIGHT_RESET (R715): The ghost light resets when its supply stays below 1.9 V for 10 µs. -/
  | ghostLightReset
  /-- VBAT_MEASURE (R718): Every 8 s VBAT is measured and backup_low set below the threshold. -/
  | vbatMeasure (vstby vbat : BitVec 13)
  /-- CHARGE_FAULT (R717): A supercapacitor below 2.8 V after 1 h of charging raises charge_fault. -/
  | chargeFault
  /-- VIN_MONITOR (R702): An input between 16 V and 18 V or above 36 V sets vin_low or vin_high. -/
  | vinMonitor (mv : BitVec 16)
  /-- LOCKSTEP_MISMATCH (R47): A stage-manager core lockstep mismatch on either die makes it leave the stage if it holds it and run full self-test. -/
  | lockstepMismatch (d : DieId)
  /-- WATCHDOG_EXPIRY (R469): A die's watchdog expires, releasing the stage in hardware or sending the understudy to full self-test. -/
  | watchdogExpiry (d : DieId)
  /-- CROSSBAR_FAULT (R47): A cluster crossbar, follow-spot exchange, region bank port, region crossbar or cross-region queue fails and the die is declared unfit. -/
  | crossbarFault (d : DieId)
  /-- CONTINUITY_MESSAGE (R649): A continuity message on Falsia requester 3 reaches the other die, carrying staging or node-slot data, session state or forwarded callboard records, and is written there. -/
  | continuityMessage
  /-- ETH_LINK_UP (R499): A backbone or service PHY reports link up, which may make it the active port or restart the failback wait. -/
  | ethLinkUp (e : Fin 3) (fast : Bool)
  /-- SESSION_PEER_CLOSE (R538): The peer of a DTLS session closes it, freeing its place. -/
  | sessionPeerClose (n : Fin 33)
  /-- COMPANY_RESPONSE (R574): A COMPANY response from a target module arrives for a command this module sent, ends that company-level wait and is counted in object 0x1211. -/
  | companyResponse (target : BitVec 14) (status : BitVec 8)
  /-- GHOST_LIGHT_LEAVES_RESET (R715): The ghost light's supply rises above 2.0 V and it leaves reset, with the RTC at 0, time_lost set and lapsed set. -/
  | ghostLightLeavesReset (vstby vbat : BitVec 13)
  /-- VOLTAGE_INPUT_PRESENCE (R63): A voltage input's running peak crosses 1/8 of full scale, so the input becomes absent or present and CYC_STATUS.v_present changes. -/
  | voltageInputPresence (input : Fin 3) (peak : Nat)
  /-- ANNOUNCE_RECEIPT_TIMEOUT (R514): No Announce message arrives within announceReceiptTimeout intervals, so the PTP port state changes under the best master clock algorithm. -/
  | announceReceiptTimeout (st : Fin 7)
  /-- TAP_CLOCK_EDGE (R691): An edge on TCK with TMS and TDI drives the IEEE 1149.1 test access port while it is out of reset. -/
  | tapClockEdge (rising tms tdi : Bool)
  deriving DecidableEq, Repr

end Sys2Proof
end

