-- ==== Sys2Proof/Config.lean ====
section
/-! DEFINITION. What an implementation of the module fixes and the manual leaves open: free
values, unstated roundings, and factory content.
Nothing here has a body, so no proof can see a value. -/

namespace Sys2Proof

/-- A free value: the n-th value the manual leaves open (log entry 2). -/
opaque Config.freeValue : Nat → Nat

/-- Which way an unstated rounding goes, by site and operands (log entry 3). -/
opaque Config.roundsUp : (site : Nat) → (num : Int) → (den : Nat) → Bool

/-- The fixed delay of the metering filter chain, in 25 MHz ticks (R62; no figure is given). -/
opaque Config.filterDelay : Nat

/-- The level word of a derated emergency level above full scale (log entry 15). -/
opaque Config.levelOverflow : Nat → Nat

/-- How far the module's instant of sunrise or sunset lies from the computed one, in seconds, at site
coordinates on a local day (R211; log entry 21). -/
opaque Config.sunError : (rise : Bool) → (latitude longitude : Int) → (day : Nat) → Int

/-- The number the module draws for the signature of a message under a private key (FIPS 186-5; R630). -/
opaque Config.ecdsaNumber : (priv msg : List Byte) → Nat

/-- The values of the objects that the factory book gives (R576, R646): part number, stepping, serial number,
type code, EUI-64, MAC addresses, identity certificate. -/
opaque Config.factory : (index sub : Nat) → List Byte

/-- The keys set at manufacture: slots 0, 1 and 2 (R614, R615), and the commissioning anchor of the factory
book (R624). -/
opaque Config.factoryKey : (slot : Nat) → List Byte
opaque Config.factoryAnchor : List Byte

/-- The header of the image a die is delivered with (R650; log entry 71). -/
opaque Config.factoryImage : List Byte

/-- The n-th output of the module's random bit generator. -/
opaque Config.drbg : (draw octets : Nat) → List Byte

/-- The part of the 1,080 µs before an OFDM frame's payload that is its preamble, in µs (R287 gives the sum; log
entry 120). -/
opaque Config.ofdmPreamble : Nat

/-- The depth of a queue, its rank at the module level and whether it has priority rings: fixed by
the module's build and not given in the manual (log entry 22). -/
opaque Config.queueLog2 : (queue : Nat) → Nat
opaque Config.queueRank : (queue : Nat) → Nat
opaque Config.queuePrio : (queue : Nat) → Bool

/-- The block that a module queue feeds, by `DrainBlock.key`; a larger number where it feeds none (log
entry 62). -/
opaque Config.queueBlock : (queue : Nat) → Nat

/-- The power factor of an input with current and no voltage (log entry 41). -/
opaque Config.powerFactor0 : (input : Nat) → Int

/-- The test access port of R691, of which the manual names the instructions only: the bits its
instruction register captures above the two that IEEE 1149.1 fixes, the instruction of a code (0 BYPASS,
1 IDCODE, 2 SAMPLE/PRELOAD, 3 EXTEST), the identification code and the cells of the boundary register. -/
opaque Config.tapCapture : List Bool
opaque Config.tapDecode : List Bool → Fin 4
opaque Config.tapIdcode : BitVec 32
opaque Config.tapCells : Nat

/-- What a field takes of a value beyond its size where the manual does not say (log entry 42). -/
opaque Config.fit : (site value : Nat) → Nat

/-- The factory values that registers load and no object shows, by address (ETH_TS_LAT, GHL_RTC_CURVE;
log entry 85). -/
opaque Config.factoryWord : (addr : Nat) → Nat

/-- What an object shows in a part whose content the manual does not give (log entry 80). -/
opaque Config.objOpen : (index sub : Nat) → Nat

end Sys2Proof
end

