-- ==== Sys2Proof/Machine/Regs.lean ====
section
/-! DEFINITION. Every register of every block, written out from the register tables of the manual:
one named field each (REGISTER.field, R17) at its address in the host map (R586-R589), and for
each block the table of its registers with the access code of every field (R19).  Die blocks take
the die, repeated blocks their instance, repeated registers their index counted from 0. -/

namespace Sys2Proof.Machine

/-- The access codes of the register tables (R19). -/
inductive Acc where
  | ro
  | rw
  | wo
  | w1c
  | w1s
  | wo1
  | rwl
  | rc
  deriving DecidableEq, Repr

/-- A register field: the host-map address of its word, its lowest bit and its width. -/
structure Fld where
  addr : Nat
  lo : Nat
  width : Nat
  deriving DecidableEq, Repr

/-- The key of a field in the register file. -/
def Fld.key (f : Fld) : Nat := f.addr * 8 + f.lo

/-- The number of values a field can hold. -/
def Fld.size (f : Fld) : Nat := 2 ^ f.width

/-- One row of a register table: bits `hi:lo` and their access code. -/
structure FieldDesc where
  hi : Nat
  lo : Nat
  acc : Acc
  deriving DecidableEq, Repr

/-- One register, or an array of `count` registers `stride` bytes apart. -/
structure RegDesc where
  off : Nat
  stride : Nat
  count : Nat
  fields : List FieldDesc
  deriving DecidableEq, Repr

/-- The register blocks, with the instance where a block is repeated (R588, R589). -/
inductive Block where
  | icu (d : DieId)
  | cue (d : DieId)
  | eps (d : DieId)
  | qcm (d : DieId)
  | twn (d : DieId)
  | key (d : DieId)
  | grn (d : DieId)
  | cbd (d : DieId)
  | tst (d : DieId)
  | mctl
  | hpt
  | cyc
  | ghl
  | rad (r : Nat)
  | plc (p : Nat)
  | flc (n : Nat)
  | mtr
  | eth (e : Nat)
  | ptp
  deriving DecidableEq, Repr

def radBase (r : Nat) : Nat := 0xC0040000 + 0x4000 * r
def plcBase (p : Nat) : Nat := 0xC0050000 + 0x4000 * p
/-- R397: four chains to a window, 0x400 apart. -/
def flcBase (n : Nat) : Nat := 0xC0060000 + 0x4000 * (n / 4) + 0x400 * (n % 4)
/-- ETH0, ETH1 and, as number 2, the service port SVC. -/
def ethBase (e : Nat) : Nat := 0xC0080000 + 0x4000 * e

/-! ## CYC -/

/-- crossing timeout in 1/16 measured period; 0x14-0x40; a write outside this range is a violation -/
def CYC_CTRL.zc_timeout : Fld := ⟨0xC0020000, 16, 8⟩
/-- detector hysteresis in 1/256 of running peak; 0x04-0x40; a write outside this range is a violation -/
def CYC_CTRL.hyst : Fld := ⟨0xC0020000, 8, 8⟩
/-- reference input: 0b00 V1, 0b01 V2, 0b10 V3; 0b11 is a violation; takes effect at the next phase 0 -/
def CYC_CTRL.ref_sel : Fld := ⟨0xC0020000, 2, 2⟩
/-- nominal frequency for ACQUIRE: 0 = 50 Hz, 1 = 60 Hz -/
def CYC_CTRL.nominal_60 : Fld := ⟨0xC0020000, 1, 1⟩
/-- 1: ignore all crossings -/
def CYC_CTRL.force_ghost : Fld := ⟨0xC0020000, 0, 1⟩

/-- crossings qualified so far, 0-4 -/
def CYC_STATUS.qual_count : Fld := ⟨0xC0020004, 12, 4⟩
/-- bit k: input V(k+1) present -/
def CYC_STATUS.v_present : Fld := ⟨0xC0020004, 8, 3⟩
/-- TAI mapping valid -/
def CYC_STATUS.map_valid : Fld := ⟨0xC0020004, 6, 1⟩
/-- PTP engine reports valid time -/
def CYC_STATUS.tai_valid : Fld := ⟨0xC0020004, 5, 1⟩
/-- out-of-range condition -/
def CYC_STATUS.oor : Fld := ⟨0xC0020004, 4, 1⟩
/-- stamps now carry the ghost flag -/
def CYC_STATUS.ghost : Fld := ⟨0xC0020004, 3, 1⟩
/-- clock state; 5-7 do not occur -/
def CYC_STATUS.state : Fld := ⟨0xC0020004, 0, 3⟩

/-- cycle bits 21:0; loaded at start from the saved count + 2 -/
def CYC_STAMP_LO.cycle_lo : Fld := ⟨0xC0020008, 10, 22⟩
/-- phase step -/
def CYC_STAMP_LO.phase : Fld := ⟨0xC0020008, 0, 10⟩

/-- ghost flag -/
def CYC_STAMP_HI.ghost : Fld := ⟨0xC002000C, 31, 1⟩
/-- cycle bits 47:22 -/
def CYC_STAMP_HI.cycle_hi : Fld := ⟨0xC002000C, 0, 26⟩

/-- measured period, 25 MHz ticks × 256 -/
def CYC_PERIOD.period : Fld := ⟨0xC0020010, 0, 32⟩

/-- signed whole steps still to slew -/
def CYC_PHASE_ERR.slew_left : Fld := ⟨0xC0020014, 16, 16⟩
/-- signed last phase error, 1/16 step -/
def CYC_PHASE_ERR.error : Fld := ⟨0xC0020014, 0, 16⟩

/-- signed ticks added to crossing times -/
def CYC_ZC_OFFSET.offset : Fld := ⟨0xC0020018, 0, 16⟩

/-- skew measured in LOCKED -/
def CYC_SKEW_V.valid (k : Nat) : Fld := ⟨0xC002001C + 4 * k, 31, 1⟩
/-- crossing phase of the input against phase 0 -/
def CYC_SKEW_V.skew (k : Nat) : Fld := ⟨0xC002001C + 4 * k, 0, 10⟩

/-- entries into GHOST; saturating -/
def CYC_GHOST_EVENTS.count : Fld := ⟨0xC0020028, 0, 32⟩

/-- cycles with any ghost-flagged stamp; saturating -/
def CYC_GHOST_CYCLES.count : Fld := ⟨0xC002002C, 0, 32⟩

/-- discarded glitches; saturating -/
def CYC_GLITCHES.count : Fld := ⟨0xC0020030, 0, 32⟩

/-- predicted cycle length, ns × 16 -/
def CYC_MAP_PERIOD.period : Fld := ⟨0xC0020034, 0, 32⟩

/-- TAI ns of the last phase 0, bits 31:0; the read latches the high word -/
def CYC_TAI_P0_LO.tai_lo : Fld := ⟨0xC0020038, 0, 32⟩

/-- bits 63:32 -/
def CYC_TAI_P0_HI.tai_hi : Fld := ⟨0xC002003C, 0, 32⟩

/-- signed ns: captured minus predicted -/
def CYC_MAP_ERR.err : Fld := ⟨0xC0020040, 0, 32⟩

/-- largest absolute error since last read -/
def CYC_MAP_ERR_MAX.max : Fld := ⟨0xC0020044, 0, 32⟩

/-- ns; default 100,000 -/
def CYC_MAP_ERR_LIMIT.limit : Fld := ⟨0xC0020048, 0, 32⟩

/-- 1/4,096 h; loaded from MRAM -/
def CYC_OPTIME.optime : Fld := ⟨0xC002004C, 0, 32⟩

/-- Apron starts; loaded from MRAM, then incremented -/
def CYC_PWRCYC.count : Fld := ⟨0xC0020050, 0, 24⟩

/-- counter resumed with a gap at start -/
def CYC_INT_STATUS.cycle_gap : Fld := ⟨0xC0020054, 6, 1⟩
/-- CYC_MAP_ERR beyond its limit -/
def CYC_INT_STATUS.map_err : Fld := ⟨0xC0020054, 5, 1⟩
/-- mapping became invalid -/
def CYC_INT_STATUS.map_invalid : Fld := ⟨0xC0020054, 4, 1⟩
/-- OUT_OF_RANGE left -/
def CYC_INT_STATUS.oor_exit : Fld := ⟨0xC0020054, 3, 1⟩
/-- OUT_OF_RANGE entered -/
def CYC_INT_STATUS.oor_enter : Fld := ⟨0xC0020054, 2, 1⟩
/-- LOCKED entered -/
def CYC_INT_STATUS.locked : Fld := ⟨0xC0020054, 1, 1⟩
/-- GHOST entered -/
def CYC_INT_STATUS.ghost_enter : Fld := ⟨0xC0020054, 0, 1⟩

/-- counter resumed with a gap at start -/
def CYC_INT_ENABLE.cycle_gap : Fld := ⟨0xC0020058, 6, 1⟩
/-- CYC_MAP_ERR beyond its limit -/
def CYC_INT_ENABLE.map_err : Fld := ⟨0xC0020058, 5, 1⟩
/-- mapping became invalid -/
def CYC_INT_ENABLE.map_invalid : Fld := ⟨0xC0020058, 4, 1⟩
/-- OUT_OF_RANGE left -/
def CYC_INT_ENABLE.oor_exit : Fld := ⟨0xC0020058, 3, 1⟩
/-- OUT_OF_RANGE entered -/
def CYC_INT_ENABLE.oor_enter : Fld := ⟨0xC0020058, 2, 1⟩
/-- LOCKED entered -/
def CYC_INT_ENABLE.locked : Fld := ⟨0xC0020058, 1, 1⟩
/-- GHOST entered -/
def CYC_INT_ENABLE.ghost_enter : Fld := ⟨0xC0020058, 0, 1⟩

/-! ## GHL -/

/-- count bits 31:0; the read freezes -/
def GHL_RTC_LO.count_lo : Fld := ⟨0xC0030000, 0, 32⟩

/-- count bits 47:32; the read releases the freeze -/
def GHL_RTC_HI.count_hi : Fld := ⟨0xC0030004, 0, 16⟩

/-- signed correction now applied, 0.01 ppm -/
def GHL_RTC_STATUS.comp_ppm : Fld := ⟨0xC0030008, 16, 16⟩
/-- signed die temperature, °C -/
def GHL_RTC_STATUS.temp : Fld := ⟨0xC0030008, 8, 8⟩
/-- set committed, not yet applied -/
def GHL_RTC_STATUS.set_busy : Fld := ⟨0xC0030008, 1, 1⟩
/-- count restarted; cleared by a seconds write -/
def GHL_RTC_STATUS.time_lost : Fld := ⟨0xC0030008, 0, 1⟩

/-- seconds bits 31:0; the write commits -/
def GHL_RTC_SET_LO.sec_lo : Fld := ⟨0xC003000C, 0, 32⟩

/-- seconds bit 32; held until commit -/
def GHL_RTC_SET_HI.sec_hi : Fld := ⟨0xC0030010, 0, 1⟩

/-- signed 0.01 ppm; loaded from ghost-light store -/
def GHL_RTC_TRIM.trim : Fld := ⟨0xC0030014, 0, 16⟩

/-- temperature compensation on -/
def GHL_RTC_COMP.enable : Fld := ⟨0xC0030018, 0, 1⟩

/-- signed deviation at -40 + 4k °C, 0.01 ppm; factory; point 32 lies at 0x0F8 -/
def GHL_RTC_CURVE.dev (k : Nat) : Fld := ⟨0xC0030078 + 4 * k, 0, 16⟩

/-- the module set the RTC from TAI, by R104 -/
def GHL_RTC_INT_STATUS.tai_set : Fld := ⟨0xC0030070, 2, 1⟩
/-- a set was applied, by R102 -/
def GHL_RTC_INT_STATUS.set_applied : Fld := ⟨0xC0030070, 1, 1⟩
/-- time_lost was found set at start, by R103 -/
def GHL_RTC_INT_STATUS.time_lost : Fld := ⟨0xC0030070, 0, 1⟩

/-- the module set the RTC from TAI, by R104 -/
def GHL_RTC_INT_ENABLE.tai_set : Fld := ⟨0xC0030074, 2, 1⟩
/-- a set was applied, by R102 -/
def GHL_RTC_INT_ENABLE.set_applied : Fld := ⟨0xC0030074, 1, 1⟩
/-- time_lost was found set at start, by R103 -/
def GHL_RTC_INT_ENABLE.time_lost : Fld := ⟨0xC0030074, 0, 1⟩

/-! ## EPS -/

/-- write-behind age limit in cycles, 0x04-0x40; a write outside this range is a violation -/
def EPS_CTRL.wb_max_age (d : DieId) : Fld := ⟨d.space + 0x20000, 8, 8⟩
/-- 1: remap failed units by R143; 0: mark failed only -/
def EPS_CTRL.auto_remap (d : DieId) : Fld := ⟨d.space + 0x20000, 1, 1⟩
/-- write-behind on; 0 is permitted only in TST offline mode, otherwise a violation -/
def EPS_CTRL.wb_enable (d : DieId) : Fld := ⟨d.space + 0x20000, 0, 1⟩

/-- staged field writes waiting -/
def EPS_STATUS.stage_used (d : DieId) : Fld := ⟨d.space + 0x20004, 16, 16⟩
/-- a remap is in progress -/
def EPS_STATUS.remap_busy (d : DieId) : Fld := ⟨d.space + 0x20004, 1, 1⟩
/-- a dirty record is older than wb_max_age -/
def EPS_STATUS.wb_overdue (d : DieId) : Fld := ⟨d.space + 0x20004, 0, 1⟩

/-- writes refused as busy; saturating -/
def EPS_STAGE_REFUSED.count (d : DieId) : Fld := ⟨d.space + 0x20008, 0, 32⟩

/-- dirty hot records not yet written -/
def EPS_WB_BACKLOG.count (d : DieId) : Fld := ⟨d.space + 0x2000C, 0, 32⟩

/-- oldest dirty age seen, cycles -/
def EPS_WB_AGE_MAX.age (d : DieId) : Fld := ⟨d.space + 0x20010, 0, 32⟩

/-- corrected code words; saturating -/
def EPS_ECC_CORR.count (d : DieId) : Fld := ⟨d.space + 0x20014, 0, 32⟩

/-- uncorrectable code words; saturating -/
def EPS_ECC_UNCORR.count (d : DieId) : Fld := ⟨d.space + 0x20018, 0, 32⟩

/-- words repaired from the other die -/
def EPS_ECC_REPAIRED.count (d : DieId) : Fld := ⟨d.space + 0x2001C, 0, 32⟩

/-- MRAM window address of the last uncorrectable word -/
def EPS_ECC_LAST_ADDR.addr (d : DieId) : Fld := ⟨d.space + 0x20020, 0, 32⟩

/-- spare rows free in the bank, 0-512; loaded from the bank's row map -/
def EPS_SPARE_B.free (d : DieId) (k : Nat) : Fld := ⟨d.space + 0x20030 + 4 * k, 0, 10⟩

/-- bank being scrubbed -/
def EPS_SCRUB_POS.bank (d : DieId) : Fld := ⟨d.space + 0x20040, 30, 2⟩
/-- row being scrubbed -/
def EPS_SCRUB_POS.row (d : DieId) : Fld := ⟨d.space + 0x20040, 0, 16⟩

/-- 1: remap the named logical unit as if it had failed -/
def EPS_REMAP_CMD.go (d : DieId) : Fld := ⟨d.space + 0x20050, 31, 1⟩
/-- logical unit, 64 × region + 8 × cluster + unit -/
def EPS_REMAP_CMD.unit (d : DieId) : Fld := ⟨d.space + 0x20050, 0, 8⟩

/-- logical unit of the last remap -/
def EPS_REMAP_STATUS.unit (d : DieId) : Fld := ⟨d.space + 0x20054, 24, 8⟩
/-- physical unit it now occupies -/
def EPS_REMAP_STATUS.phys (d : DieId) : Fld := ⟨d.space + 0x20054, 6, 9⟩
/-- 0 none, 1 done, 2 in progress, 3 no spare -/
def EPS_REMAP_STATUS.result (d : DieId) : Fld := ⟨d.space + 0x20054, 0, 2⟩

/-- logical unit n is not at its reset position -/
def EPS_UNIT_MAP.moved (d : DieId) (k : Nat) : Fld := ⟨d.space + 0x20400 + 4 * k, 31, 1⟩
/-- physical unit, 0-287; loaded from the die's unit map in MRAM -/
def EPS_UNIT_MAP.phys (d : DieId) (k : Nat) : Fld := ⟨d.space + 0x20400 + 4 * k, 0, 9⟩

/-- a dirty record passed wb_max_age -/
def EPS_INT_STATUS.wb_overdue (d : DieId) : Fld := ⟨d.space + 0x20060, 5, 1⟩
/-- staging buffer full -/
def EPS_INT_STATUS.stage_full (d : DieId) : Fld := ⟨d.space + 0x20060, 4, 1⟩
/-- a bank has fewer than 32 spare rows free -/
def EPS_INT_STATUS.spare_low (d : DieId) : Fld := ⟨d.space + 0x20060, 3, 1⟩
/-- uncorrectable MRAM word -/
def EPS_INT_STATUS.ecc_uncorr (d : DieId) : Fld := ⟨d.space + 0x20060, 2, 1⟩
/-- a row retired to a spare -/
def EPS_INT_STATUS.row_retired (d : DieId) : Fld := ⟨d.space + 0x20060, 1, 1⟩
/-- a remap completed or failed -/
def EPS_INT_STATUS.remap_done (d : DieId) : Fld := ⟨d.space + 0x20060, 0, 1⟩

/-- a dirty record passed wb_max_age -/
def EPS_INT_ENABLE.wb_overdue (d : DieId) : Fld := ⟨d.space + 0x20064, 5, 1⟩
/-- staging buffer full -/
def EPS_INT_ENABLE.stage_full (d : DieId) : Fld := ⟨d.space + 0x20064, 4, 1⟩
/-- a bank has fewer than 32 spare rows free -/
def EPS_INT_ENABLE.spare_low (d : DieId) : Fld := ⟨d.space + 0x20064, 3, 1⟩
/-- uncorrectable MRAM word -/
def EPS_INT_ENABLE.ecc_uncorr (d : DieId) : Fld := ⟨d.space + 0x20064, 2, 1⟩
/-- a row retired to a spare -/
def EPS_INT_ENABLE.row_retired (d : DieId) : Fld := ⟨d.space + 0x20064, 1, 1⟩
/-- a remap completed or failed -/
def EPS_INT_ENABLE.remap_done (d : DieId) : Fld := ⟨d.space + 0x20064, 0, 1⟩

/-! ## CUE -/

/-- overrun limit in µs, 0xC8-0xFF; a write outside this range is a violation -/
def CUE_CTRL.overrun_limit (d : DieId) : Fld := ⟨d.space + 0x10000, 0, 8⟩

/-- a pass runs in at least one unit -/
def CUE_SWEEP_STATUS.busy (d : DieId) : Fld := ⟨d.space + 0x10004, 31, 1⟩
/-- units whose pass of this cycle has ended, 0-256 -/
def CUE_SWEEP_STATUS.units_done (d : DieId) : Fld := ⟨d.space + 0x10004, 16, 9⟩
/-- event evaluations waiting in all units; saturating -/
def CUE_SWEEP_STATUS.events_queued (d : DieId) : Fld := ⟨d.space + 0x10004, 0, 16⟩

/-- cycle bits 31:0 of the last pass ended by all units; the read latches the high word -/
def CUE_PASS_CYCLE_LO.cycle_lo (d : DieId) : Fld := ⟨d.space + 0x10008, 0, 32⟩

/-- cycle bits 47:32 -/
def CUE_PASS_CYCLE_HI.cycle_hi (d : DieId) : Fld := ⟨d.space + 0x1000C, 0, 16⟩

/-- latest unit pass end of the last cycle, 10 ns from phase 0 -/
def CUE_PASS_TIME.time (d : DieId) : Fld := ⟨d.space + 0x10010, 0, 16⟩

/-- largest time since the last read -/
def CUE_PASS_TIME_MAX.time (d : DieId) : Fld := ⟨d.space + 0x10014, 0, 16⟩

/-- physical unit that ended last -/
def CUE_PASS_SLOWEST.phys (d : DieId) : Fld := ⟨d.space + 0x10018, 0, 9⟩

/-- sweep overruns; saturating -/
def CUE_OVERRUNS.count (d : DieId) : Fld := ⟨d.space + 0x1001C, 0, 32⟩

/-- emissions in the last cycle -/
def CUE_EMITS.count (d : DieId) : Fld := ⟨d.space + 0x10020, 0, 32⟩

/-- event evaluations in the last cycle -/
def CUE_EVENTS.count (d : DieId) : Fld := ⟨d.space + 0x10024, 0, 32⟩

/-- evaluations carried; saturating -/
def CUE_EVENTS_CARRIED.count (d : DieId) : Fld := ⟨d.space + 0x10028, 0, 32⟩

/-- follow-spot messages sent; wraps -/
def CUE_FS_SENT.count (d : DieId) : Fld := ⟨d.space + 0x1002C, 0, 32⟩

/-- messages discarded; saturating -/
def CUE_FS_DROPPED.count (d : DieId) : Fld := ⟨d.space + 0x10030, 0, 32⟩

/-- entries folded late; saturating -/
def CUE_FS_LATE.count (d : DieId) : Fld := ⟨d.space + 0x10034, 0, 32⟩

/-- last result not ready by phase 64 -/
def CUE_AGG_STATUS.late (d : DieId) : Fld := ⟨d.space + 0x10038, 31, 1⟩
/-- phase at which the last result was ready -/
def CUE_AGG_STATUS.ready_phase (d : DieId) : Fld := ⟨d.space + 0x10038, 0, 10⟩

/-- daylight step limit; loaded from object 0x4003 -/
def CUE_DL_CFG.step (d : DieId) : Fld := ⟨d.space + 0x1003C, 16, 16⟩
/-- daylight loop gain; loaded from object 0x4002 -/
def CUE_DL_CFG.gain (d : DieId) : Fld := ⟨d.space + 0x1003C, 8, 8⟩
/-- loaded from object 0x4001 -/
def CUE_DL_CFG.fs_enable (d : DieId) : Fld := ⟨d.space + 0x1003C, 0, 1⟩

/-- logical unit, 64 × region + 8 × cluster + unit -/
def CUE_DIGEST_SEL.unit (d : DieId) : Fld := ⟨d.space + 0x10040, 0, 8⟩

/-- digest bits 31:0 of the selected unit, last closed cycle; the read latches the high word -/
def CUE_DIGEST_LO.digest_lo (d : DieId) : Fld := ⟨d.space + 0x10044, 0, 32⟩

/-- digest bits 63:32 -/
def CUE_DIGEST_HI.digest_hi (d : DieId) : Fld := ⟨d.space + 0x10048, 0, 32⟩

/-- cycle bits 31:0 of that digest -/
def CUE_DIGEST_CYCLE.cycle (d : DieId) : Fld := ⟨d.space + 0x1004C, 0, 32⟩

/-- bit f: last check of feeder f incomplete -/
def CUE_BAL_STATUS.incomplete (d : DieId) : Fld := ⟨d.space + 0x10050, 8, 6⟩
/-- bit f: feeder f in alarm -/
def CUE_BAL_STATUS.alarm (d : DieId) : Fld := ⟨d.space + 0x10050, 0, 6⟩

/-- signed unaccounted power of the last check -/
def CUE_BAL_U.watts (d : DieId) (k : Nat) : Fld := ⟨d.space + 0x10054 + 4 * k, 0, 32⟩

/-- point k of curve c; loaded from object 0x4200 + c -/
def CUE_DERATE.factor (d : DieId) (c k : Nat) : Fld := ⟨d.space + 0x10100 + 32 * c + 4 * k, 16, 16⟩
/-- signed 1/16 °C -/
def CUE_DERATE.temp (d : DieId) (c k : Nat) : Fld := ⟨d.space + 0x10100 + 32 * c + 4 * k, 0, 16⟩

/-- every unit has ended its pass of this cycle -/
def CUE_INT_STATUS.pass_done (d : DieId) : Fld := ⟨d.space + 0x10070, 8, 1⟩
/-- a balance check was incomplete -/
def CUE_INT_STATUS.bal_incomplete (d : DieId) : Fld := ⟨d.space + 0x10070, 7, 1⟩
/-- a feeder alarm cleared -/
def CUE_INT_STATUS.bal_clear (d : DieId) : Fld := ⟨d.space + 0x10070, 6, 1⟩
/-- a feeder alarm set -/
def CUE_INT_STATUS.bal_alarm (d : DieId) : Fld := ⟨d.space + 0x10070, 5, 1⟩
/-- evaluations carried to the next cycle -/
def CUE_INT_STATUS.events_carried (d : DieId) : Fld := ⟨d.space + 0x10070, 4, 1⟩
/-- a pre-light folded late -/
def CUE_INT_STATUS.fs_late (d : DieId) : Fld := ⟨d.space + 0x10070, 3, 1⟩
/-- a follow-spot message discarded -/
def CUE_INT_STATUS.fs_dropped (d : DieId) : Fld := ⟨d.space + 0x10070, 2, 1⟩
/-- aggregates not ready by phase 64 -/
def CUE_INT_STATUS.agg_late (d : DieId) : Fld := ⟨d.space + 0x10070, 1, 1⟩
/-- sweep overrun -/
def CUE_INT_STATUS.overrun (d : DieId) : Fld := ⟨d.space + 0x10070, 0, 1⟩

/-- every unit has ended its pass of this cycle -/
def CUE_INT_ENABLE.pass_done (d : DieId) : Fld := ⟨d.space + 0x10074, 8, 1⟩
/-- a balance check was incomplete -/
def CUE_INT_ENABLE.bal_incomplete (d : DieId) : Fld := ⟨d.space + 0x10074, 7, 1⟩
/-- a feeder alarm cleared -/
def CUE_INT_ENABLE.bal_clear (d : DieId) : Fld := ⟨d.space + 0x10074, 6, 1⟩
/-- a feeder alarm set -/
def CUE_INT_ENABLE.bal_alarm (d : DieId) : Fld := ⟨d.space + 0x10074, 5, 1⟩
/-- evaluations carried to the next cycle -/
def CUE_INT_ENABLE.events_carried (d : DieId) : Fld := ⟨d.space + 0x10074, 4, 1⟩
/-- a pre-light folded late -/
def CUE_INT_ENABLE.fs_late (d : DieId) : Fld := ⟨d.space + 0x10074, 3, 1⟩
/-- a follow-spot message discarded -/
def CUE_INT_ENABLE.fs_dropped (d : DieId) : Fld := ⟨d.space + 0x10074, 2, 1⟩
/-- aggregates not ready by phase 64 -/
def CUE_INT_ENABLE.agg_late (d : DieId) : Fld := ⟨d.space + 0x10074, 1, 1⟩
/-- sweep overrun -/
def CUE_INT_ENABLE.overrun (d : DieId) : Fld := ⟨d.space + 0x10074, 0, 1⟩

/-- bank sync in progress -/
def CUE_BANK_STATUS.sync_busy (d : DieId) : Fld := ⟨d.space + 0x10800, 2, 1⟩
/-- swap accepted, not yet made -/
def CUE_BANK_STATUS.swap_pending (d : DieId) : Fld := ⟨d.space + 0x10800, 1, 1⟩
/-- active cue bank -/
def CUE_BANK_STATUS.active (d : DieId) : Fld := ⟨d.space + 0x10800, 0, 1⟩

/-- sequence number of the active bank -/
def CUE_BANK_SEQ.seq (d : DieId) : Fld := ⟨d.space + 0x10804, 0, 32⟩

/-- arming-store records in use, 0-16 -/
def CUE_ARM_STATUS.armed (d : DieId) : Fld := ⟨d.space + 0x10808, 16, 5⟩
/-- pending go entries, 0-1,024 -/
def CUE_ARM_STATUS.pending_go (d : DieId) : Fld := ⟨d.space + 0x10808, 0, 11⟩

/-- next cue identifier -/
def CUE_NEXT_ID.id (d : DieId) : Fld := ⟨d.space + 0x1080C, 0, 32⟩

/-- last executed go sequence -/
def CUE_GO_SEQ.seq (d : DieId) : Fld := ⟨d.space + 0x10810, 0, 32⟩

/-- stamp of the last execution, bits 31:0; the read latches the high word -/
def CUE_LAST_EXEC_LO.stamp_lo (d : DieId) : Fld := ⟨d.space + 0x10814, 0, 32⟩

/-- bits 63:32 -/
def CUE_LAST_EXEC_HI.stamp_hi (d : DieId) : Fld := ⟨d.space + 0x10818, 0, 32⟩

/-- cues executed; wraps -/
def CUE_EXECUTED.count (d : DieId) : Fld := ⟨d.space + 0x1081C, 0, 32⟩

/-- cues executed late; saturating -/
def CUE_LATE.count (d : DieId) : Fld := ⟨d.space + 0x10820, 0, 32⟩

/-- cues discarded; saturating -/
def CUE_EXPIRED.count (d : DieId) : Fld := ⟨d.space + 0x10824, 0, 32⟩

/-- cues deferred by R221; saturating -/
def CUE_DEFERRED.count (d : DieId) : Fld := ⟨d.space + 0x10828, 0, 32⟩

/-- cues with arm flag not armed; saturating -/
def CUE_UNARMED.count (d : DieId) : Fld := ⟨d.space + 0x1082C, 0, 32⟩

/-- endpoints that stopped following with exact bit; saturating -/
def CUE_TRACK_DROPS.count (d : DieId) : Fld := ⟨d.space + 0x10830, 0, 32⟩

/-- endpoints skipped by R233 or R234; saturating -/
def CUE_OVR_REFUSED.count (d : DieId) : Fld := ⟨d.space + 0x10834, 0, 32⟩

/-- blackout commands refused; saturating -/
def CUE_AUTH_FAIL.count (d : DieId) : Fld := ⟨d.space + 0x10838, 0, 32⟩

/-- endpoints with ovr_ctrl bit 2 set -/
def CUE_BLACKOUT_EPS.count (d : DieId) : Fld := ⟨d.space + 0x1083C, 0, 21⟩

/-- blackout command refused -/
def CUE_TBL_INT_STATUS.auth_fail (d : DieId) : Fld := ⟨d.space + 0x10870, 7, 1⟩
/-- a blackout set, released or preempted -/
def CUE_TBL_INT_STATUS.blackout_change (d : DieId) : Fld := ⟨d.space + 0x10870, 6, 1⟩
/-- a cue could not be armed -/
def CUE_TBL_INT_STATUS.unarmed (d : DieId) : Fld := ⟨d.space + 0x10870, 5, 1⟩
/-- cues deferred at a boundary -/
def CUE_TBL_INT_STATUS.deferred (d : DieId) : Fld := ⟨d.space + 0x10870, 4, 1⟩
/-- a cue discarded -/
def CUE_TBL_INT_STATUS.expired (d : DieId) : Fld := ⟨d.space + 0x10870, 3, 1⟩
/-- a cue executed late -/
def CUE_TBL_INT_STATUS.late (d : DieId) : Fld := ⟨d.space + 0x10870, 2, 1⟩
/-- a swap request refused -/
def CUE_TBL_INT_STATUS.swap_refused (d : DieId) : Fld := ⟨d.space + 0x10870, 1, 1⟩
/-- a bank swap made -/
def CUE_TBL_INT_STATUS.swap_done (d : DieId) : Fld := ⟨d.space + 0x10870, 0, 1⟩

/-- blackout command refused -/
def CUE_TBL_INT_ENABLE.auth_fail (d : DieId) : Fld := ⟨d.space + 0x10874, 7, 1⟩
/-- a blackout set, released or preempted -/
def CUE_TBL_INT_ENABLE.blackout_change (d : DieId) : Fld := ⟨d.space + 0x10874, 6, 1⟩
/-- a cue could not be armed -/
def CUE_TBL_INT_ENABLE.unarmed (d : DieId) : Fld := ⟨d.space + 0x10874, 5, 1⟩
/-- cues deferred at a boundary -/
def CUE_TBL_INT_ENABLE.deferred (d : DieId) : Fld := ⟨d.space + 0x10874, 4, 1⟩
/-- a cue discarded -/
def CUE_TBL_INT_ENABLE.expired (d : DieId) : Fld := ⟨d.space + 0x10874, 3, 1⟩
/-- a cue executed late -/
def CUE_TBL_INT_ENABLE.late (d : DieId) : Fld := ⟨d.space + 0x10874, 2, 1⟩
/-- a swap request refused -/
def CUE_TBL_INT_ENABLE.swap_refused (d : DieId) : Fld := ⟨d.space + 0x10874, 1, 1⟩
/-- a bank swap made -/
def CUE_TBL_INT_ENABLE.swap_done (d : DieId) : Fld := ⟨d.space + 0x10874, 0, 1⟩

/-! ## QCM -/

/-- unit failure limit of R265, 0x01-0xFF; 0 is a violation -/
def QCM_CTRL.unit_tmo_limit (d : DieId) : Fld := ⟨d.space + 0x30000, 8, 8⟩

/-- cue unit timeout, 250-2,000 ns; default 0x3E8 -/
def QCM_TMO_UNIT.ns (d : DieId) : Fld := ⟨d.space + 0x30010, 0, 12⟩

/-- 1,000-8,000 ns; default 0x0FA0 -/
def QCM_TMO_CLUSTER.ns (d : DieId) : Fld := ⟨d.space + 0x30014, 0, 16⟩

/-- 4,000-32,000 ns; default 0x3E80 -/
def QCM_TMO_REGION.ns (d : DieId) : Fld := ⟨d.space + 0x30018, 0, 16⟩

/-- 16,000-128,000 ns; default 0x0_FA00 -/
def QCM_TMO_DIE.ns (d : DieId) : Fld := ⟨d.space + 0x3001C, 0, 17⟩

/-- 1-4 cycles; default 1 -/
def QCM_TMO_MODULE.cycles (d : DieId) : Fld := ⟨d.space + 0x30020, 0, 3⟩

/-- 4-1,024 cycles; default 0x040 -/
def QCM_TMO_COMPANY.cycles (d : DieId) : Fld := ⟨d.space + 0x30024, 0, 11⟩

/-- items discarded by the timeout of level L: 0 unit to 5 company; saturating -/
def QCM_TMO_DROPS_L.count (d : DieId) (k : Nat) : Fld := ⟨d.space + 0x30030 + 4 * k, 0, 32⟩

/-- items discarded by drain timeouts; saturating -/
def QCM_DRAIN_DISCARDS.count (d : DieId) : Fld := ⟨d.space + 0x30048, 0, 32⟩

/-- words discarded by flushes; saturating -/
def QCM_FLUSH_DISCARDS.count (d : DieId) : Fld := ⟨d.space + 0x3004C, 0, 32⟩

/-- packets discarded under R254; saturating -/
def QCM_CREDIT_OVERRUNS.count (d : DieId) : Fld := ⟨d.space + 0x30050, 0, 32⟩

/-- queue identifier of the last discard -/
def QCM_LAST_DROP.queue (d : DieId) : Fld := ⟨d.space + 0x30054, 16, 16⟩
/-- 1 timeout, 2 drain, 3 flush, 4 credit overrun, 5 cut-off -/
def QCM_LAST_DROP.reason (d : DieId) : Fld := ⟨d.space + 0x30054, 8, 8⟩

/-- privileged withdrawals; saturating -/
def QCM_WITHDRAWALS.count (d : DieId) : Fld := ⟨d.space + 0x30058, 0, 32⟩

/-- priority ring 0-3 of a priority queue -/
def QCM_Q_SEL.ring (d : DieId) : Fld := ⟨d.space + 0x30100, 16, 2⟩
/-- queue identifier -/
def QCM_Q_SEL.queue (d : DieId) : Fld := ⟨d.space + 0x30100, 0, 16⟩

/-- the selection names a queue -/
def QCM_Q_STATUS.exists (d : DieId) : Fld := ⟨d.space + 0x30104, 31, 1⟩
/-- the queue's block is enabled -/
def QCM_Q_STATUS.enabled (d : DieId) : Fld := ⟨d.space + 0x30104, 30, 1⟩
/-- the queue's block is DRAINED -/
def QCM_Q_STATUS.drained (d : DieId) : Fld := ⟨d.space + 0x30104, 29, 1⟩
/-- the queue has four priority rings -/
def QCM_Q_STATUS.prio (d : DieId) : Fld := ⟨d.space + 0x30104, 28, 1⟩
/-- k -/
def QCM_Q_STATUS.log2_depth (d : DieId) : Fld := ⟨d.space + 0x30104, 24, 4⟩
/-- credits held by the producer -/
def QCM_Q_STATUS.credits (d : DieId) : Fld := ⟨d.space + 0x30104, 0, 13⟩

/-- whole packets waiting -/
def QCM_Q_FILL.packets (d : DieId) : Fld := ⟨d.space + 0x30108, 16, 13⟩
/-- words waiting -/
def QCM_Q_FILL.words (d : DieId) : Fld := ⟨d.space + 0x30108, 0, 13⟩

/-- write pointer, k + 1 bits -/
def QCM_Q_PTR.wr_ptr (d : DieId) : Fld := ⟨d.space + 0x3010C, 16, 13⟩
/-- read pointer, k + 1 bits -/
def QCM_Q_PTR.rd_ptr (d : DieId) : Fld := ⟨d.space + 0x3010C, 0, 13⟩

/-- most words waiting since the last read -/
def QCM_Q_HWM.words (d : DieId) : Fld := ⟨d.space + 0x30110, 0, 13⟩

/-- 1: flush the selected queue by R248 -/
def QCM_Q_FLUSH.go (d : DieId) : Fld := ⟨d.space + 0x30114, 0, 1⟩

/-- requester index -/
def QCM_ARB_SEL.req (d : DieId) : Fld := ⟨d.space + 0x30200, 8, 4⟩
/-- arbiter index of R276 -/
def QCM_ARB_SEL.arb (d : DieId) : Fld := ⟨d.space + 0x30200, 0, 8⟩

/-- preemption margin, small arbiters only; otherwise RO 0 -/
def QCM_ARB_CFG.margin (d : DieId) : Fld := ⟨d.space + 0x30204, 16, 8⟩
/-- window in arbiter clocks, 64-4,096; outside this range a violation -/
def QCM_ARB_CFG.window (d : DieId) : Fld := ⟨d.space + 0x30204, 0, 13⟩

/-- hold limit of the selected requester, clocks, 16-65,535 -/
def QCM_ARB_REQ.hold_limit (d : DieId) : Fld := ⟨d.space + 0x30208, 16, 16⟩
/-- weight of the selected requester, 0-4,096 -/
def QCM_ARB_REQ.weight (d : DieId) : Fld := ⟨d.space + 0x30208, 0, 16⟩

/-- signed share counter of the selected requester -/
def QCM_ARB_COUNTER.counter (d : DieId) : Fld := ⟨d.space + 0x3020C, 0, 24⟩

/-- grants to the selected requester; wraps -/
def QCM_ARB_GRANTS.count (d : DieId) : Fld := ⟨d.space + 0x30210, 0, 32⟩

/-- cut-offs at the selected arbiter; saturating -/
def QCM_ARB_CUTOFF.count (d : DieId) : Fld := ⟨d.space + 0x30214, 16, 16⟩
/-- bit i: requester i cut off since last cleared -/
def QCM_ARB_CUTOFF.flags (d : DieId) : Fld := ⟨d.space + 0x30214, 0, 16⟩

/-- grants taken back at the selected arbiter; saturating -/
def QCM_ARB_PREEMPTS.count (d : DieId) : Fld := ⟨d.space + 0x30218, 0, 32⟩

/-- a unit reached the limit of R265 -/
def QCM_INT_STATUS.unit_limit (d : DieId) : Fld := ⟨d.space + 0x30070, 10, 1⟩
/-- a requester cut off -/
def QCM_INT_STATUS.cutoff (d : DieId) : Fld := ⟨d.space + 0x30070, 9, 1⟩
/-- a packet arrived without credits -/
def QCM_INT_STATUS.credit_overrun (d : DieId) : Fld := ⟨d.space + 0x30070, 8, 1⟩
/-- a flush discarded words -/
def QCM_INT_STATUS.flush_discard (d : DieId) : Fld := ⟨d.space + 0x30070, 7, 1⟩
/-- a drain timeout discarded items -/
def QCM_INT_STATUS.drain_discard (d : DieId) : Fld := ⟨d.space + 0x30070, 6, 1⟩
/-- company timeout discard -/
def QCM_INT_STATUS.tmo_company (d : DieId) : Fld := ⟨d.space + 0x30070, 5, 1⟩
/-- module timeout discard -/
def QCM_INT_STATUS.tmo_module (d : DieId) : Fld := ⟨d.space + 0x30070, 4, 1⟩
/-- die timeout discard -/
def QCM_INT_STATUS.tmo_die (d : DieId) : Fld := ⟨d.space + 0x30070, 3, 1⟩
/-- region timeout discard -/
def QCM_INT_STATUS.tmo_region (d : DieId) : Fld := ⟨d.space + 0x30070, 2, 1⟩
/-- cluster timeout discard -/
def QCM_INT_STATUS.tmo_cluster (d : DieId) : Fld := ⟨d.space + 0x30070, 1, 1⟩
/-- cue unit timeout discard -/
def QCM_INT_STATUS.tmo_unit (d : DieId) : Fld := ⟨d.space + 0x30070, 0, 1⟩

/-- a unit reached the limit of R265 -/
def QCM_INT_ENABLE.unit_limit (d : DieId) : Fld := ⟨d.space + 0x30074, 10, 1⟩
/-- a requester cut off -/
def QCM_INT_ENABLE.cutoff (d : DieId) : Fld := ⟨d.space + 0x30074, 9, 1⟩
/-- a packet arrived without credits -/
def QCM_INT_ENABLE.credit_overrun (d : DieId) : Fld := ⟨d.space + 0x30074, 8, 1⟩
/-- a flush discarded words -/
def QCM_INT_ENABLE.flush_discard (d : DieId) : Fld := ⟨d.space + 0x30074, 7, 1⟩
/-- a drain timeout discarded items -/
def QCM_INT_ENABLE.drain_discard (d : DieId) : Fld := ⟨d.space + 0x30074, 6, 1⟩
/-- company timeout discard -/
def QCM_INT_ENABLE.tmo_company (d : DieId) : Fld := ⟨d.space + 0x30074, 5, 1⟩
/-- module timeout discard -/
def QCM_INT_ENABLE.tmo_module (d : DieId) : Fld := ⟨d.space + 0x30074, 4, 1⟩
/-- die timeout discard -/
def QCM_INT_ENABLE.tmo_die (d : DieId) : Fld := ⟨d.space + 0x30074, 3, 1⟩
/-- region timeout discard -/
def QCM_INT_ENABLE.tmo_region (d : DieId) : Fld := ⟨d.space + 0x30074, 2, 1⟩
/-- cluster timeout discard -/
def QCM_INT_ENABLE.tmo_cluster (d : DieId) : Fld := ⟨d.space + 0x30074, 1, 1⟩
/-- cue unit timeout discard -/
def QCM_INT_ENABLE.tmo_unit (d : DieId) : Fld := ⟨d.space + 0x30074, 0, 1⟩

/-! ## RAD -/

/-- target radio of a planned leave -/
def RAD_CTRL.leave_to (r : Nat) : Fld := ⟨radBase r + 0x0, 6, 2⟩
/-- 1: begin a planned leave by R327; clears when enable clears -/
def RAD_CTRL.leave (r : Nat) : Fld := ⟨radBase r + 0x0, 5, 1⟩
/-- beacons carry leaving -/
def RAD_CTRL.leaving (r : Nat) : Fld := ⟨radBase r + 0x0, 4, 1⟩
/-- beacons carry join open -/
def RAD_CTRL.join_open (r : Nat) : Fld := ⟨radBase r + 0x0, 3, 1⟩
/-- DRAINED of R266 -/
def RAD_CTRL.drained (r : Nat) : Fld := ⟨radBase r + 0x0, 1, 1⟩
/-- radio in service -/
def RAD_CTRL.enable (r : Nat) : Fld := ⟨radBase r + 0x0, 0, 1⟩

/-- preamble octets, 0x04-0x10; outside this range a violation -/
def RAD_PHY.preamble (r : Nat) : Fld := ⟨radBase r + 0x4, 16, 8⟩
/-- dBm, 0-20; above 20 a violation -/
def RAD_PHY.power (r : Nat) : Fld := ⟨radBase r + 0x4, 8, 5⟩
/-- channel list length - 1 -/
def RAD_PHY.hop_len (r : Nat) : Fld := ⟨radBase r + 0x4, 4, 4⟩
/-- PHY mode of R285 -/
def RAD_PHY.mode (r : Nat) : Fld := ⟨radBase r + 0x4, 0, 3⟩

/-- µs, 128-512; outside this range a violation -/
def RAD_GUARD.guard (r : Nat) : Fld := ⟨radBase r + 0x8, 0, 9⟩

/-- channel list entries 4i to 4i + 3, 8 bits each, entry 4i in bits 7:0 -/
def RAD_CHAN.chan (r : Nat) (k : Nat) : Fld := ⟨radBase r + 0x10 + 4 * k, 0, 32⟩

/-- transmit time in the last hour, 0.1 % -/
def RAD_DUTY.used (r : Nat) : Fld := ⟨radBase r + 0x20, 16, 16⟩
/-- 0.1 %, 1-1,000; outside this range a violation -/
def RAD_DUTY.limit (r : Nat) : Fld := ⟨radBase r + 0x20, 0, 16⟩

/-- capacity margin, 0.1 Hz, 0-160 -/
def RAD_CAP.margin (r : Nat) : Fld := ⟨radBase r + 0x24, 0, 8⟩

/-- retries of R315 -/
def RAD_RETRY.limit (r : Nat) : Fld := ⟨radBase r + 0x28, 0, 3⟩

/-- active bank version -/
def RAD_STATUS.act_ver (r : Nat) : Fld := ⟨radBase r + 0x2C, 24, 8⟩
/-- inactive bank version -/
def RAD_STATUS.inact_ver (r : Nat) : Fld := ⟨radBase r + 0x2C, 16, 8⟩
/-- swap accepted, not yet made -/
def RAD_STATUS.swap_pending (r : Nat) : Fld := ⟨radBase r + 0x2C, 2, 1⟩
/-- beacons every cycle by R297 -/
def RAD_STATUS.ghost_beacons (r : Nat) : Fld := ⟨radBase r + 0x2C, 1, 1⟩
/-- transmitting now -/
def RAD_STATUS.tx_active (r : Nat) : Fld := ⟨radBase r + 0x2C, 0, 1⟩

/-- 0 inactive, 1 active -/
def RAD_SLOT_ADDR.bank (r : Nat) : Fld := ⟨radBase r + 0x30, 16, 1⟩
/-- slot index; increments after each RAD_SLOT_DATA access -/
def RAD_SLOT_ADDR.index (r : Nat) : Fld := ⟨radBase r + 0x30, 0, 9⟩

/-- entry of R299; a write with bank = 1 is a violation -/
def RAD_SLOT_DATA.entry (r : Nat) : Fld := ⟨radBase r + 0x34, 0, 32⟩

/-- inactive version; requests a swap by R300 -/
def RAD_SWAP.version (r : Nat) : Fld := ⟨radBase r + 0x38, 0, 8⟩

/-- sfd_phase of the last module beacon -/
def RAD_BCN_PHASE.sfd_phase (r : Nat) : Fld := ⟨radBase r + 0x3C, 0, 16⟩

/-- frames sent; wraps -/
def RAD_TX_FRAMES.count (r : Nat) : Fld := ⟨radBase r + 0x40, 0, 32⟩

/-- frames accepted; wraps -/
def RAD_RX_FRAMES.count (r : Nat) : Fld := ⟨radBase r + 0x44, 0, 32⟩

/-- FCS or format discards; saturating -/
def RAD_RX_BAD.count (r : Nat) : Fld := ⟨radBase r + 0x48, 0, 32⟩

/-- MIC or counter failures; saturating -/
def RAD_SEC_FAIL.count (r : Nat) : Fld := ⟨radBase r + 0x4C, 0, 32⟩

/-- saturating -/
def RAD_DUPLICATES.count (r : Nat) : Fld := ⟨radBase r + 0x50, 0, 32⟩

/-- saturating -/
def RAD_RETRIES.count (r : Nat) : Fld := ⟨radBase r + 0x54, 0, 32⟩

/-- saturating -/
def RAD_DROPS.count (r : Nat) : Fld := ⟨radBase r + 0x58, 0, 32⟩

/-- saturating -/
def RAD_DEFERS.count (r : Nat) : Fld := ⟨radBase r + 0x5C, 0, 32⟩

/-- saturating -/
def RAD_DUTY_BLOCKS.count (r : Nat) : Fld := ⟨radBase r + 0x60, 0, 32⟩

/-- saturating -/
def RAD_CCA_BUSY.count (r : Nat) : Fld := ⟨radBase r + 0x64, 0, 32⟩

/-- saturating -/
def RAD_RDV_MISSED.count (r : Nat) : Fld := ⟨radBase r + 0x68, 0, 32⟩

/-- repair requests answered; saturating -/
def RAD_REPAIRS.count (r : Nat) : Fld := ⟨radBase r + 0x6C, 0, 32⟩

/-- a frame failed security -/
def RAD_INT_STATUS.sec_fail (r : Nat) : Fld := ⟨radBase r + 0x70, 7, 1⟩
/-- a sleepy node switched to its miss mode -/
def RAD_INT_STATUS.long_mode (r : Nat) : Fld := ⟨radBase r + 0x70, 6, 1⟩
/-- a node joined -/
def RAD_INT_STATUS.join (r : Nat) : Fld := ⟨radBase r + 0x70, 5, 1⟩
/-- the duty limit held a frame back -/
def RAD_INT_STATUS.duty_block (r : Nat) : Fld := ⟨radBase r + 0x70, 4, 1⟩
/-- a frame discarded after retries -/
def RAD_INT_STATUS.drop (r : Nat) : Fld := ⟨radBase r + 0x70, 3, 1⟩
/-- DRAINED set -/
def RAD_INT_STATUS.drained (r : Nat) : Fld := ⟨radBase r + 0x70, 2, 1⟩
/-- a swap request refused -/
def RAD_INT_STATUS.swap_refused (r : Nat) : Fld := ⟨radBase r + 0x70, 1, 1⟩
/-- a slot table swap made -/
def RAD_INT_STATUS.swap_done (r : Nat) : Fld := ⟨radBase r + 0x70, 0, 1⟩

/-- a frame failed security -/
def RAD_INT_ENABLE.sec_fail (r : Nat) : Fld := ⟨radBase r + 0x74, 7, 1⟩
/-- a sleepy node switched to its miss mode -/
def RAD_INT_ENABLE.long_mode (r : Nat) : Fld := ⟨radBase r + 0x74, 6, 1⟩
/-- a node joined -/
def RAD_INT_ENABLE.join (r : Nat) : Fld := ⟨radBase r + 0x74, 5, 1⟩
/-- the duty limit held a frame back -/
def RAD_INT_ENABLE.duty_block (r : Nat) : Fld := ⟨radBase r + 0x74, 4, 1⟩
/-- a frame discarded after retries -/
def RAD_INT_ENABLE.drop (r : Nat) : Fld := ⟨radBase r + 0x74, 3, 1⟩
/-- DRAINED set -/
def RAD_INT_ENABLE.drained (r : Nat) : Fld := ⟨radBase r + 0x74, 2, 1⟩
/-- a swap request refused -/
def RAD_INT_ENABLE.swap_refused (r : Nat) : Fld := ⟨radBase r + 0x74, 1, 1⟩
/-- a slot table swap made -/
def RAD_INT_ENABLE.swap_done (r : Nat) : Fld := ⟨radBase r + 0x74, 0, 1⟩

/-! ## PLC -/

/-- sync frames carry leaving -/
def PLC_CTRL.leaving (p : Nat) : Fld := ⟨plcBase p + 0x0, 4, 1⟩
/-- 1: begin a planned leave by R359; clears when enable clears -/
def PLC_CTRL.leave (p : Nat) : Fld := ⟨plcBase p + 0x0, 3, 1⟩
/-- sync frames carry join open -/
def PLC_CTRL.join_open (p : Nat) : Fld := ⟨plcBase p + 0x0, 2, 1⟩
/-- DRAINED of R266 -/
def PLC_CTRL.drained (p : Nat) : Fld := ⟨plcBase p + 0x0, 1, 1⟩
/-- port in service -/
def PLC_CTRL.enable (p : Nat) : Fld := ⟨plcBase p + 0x0, 0, 1⟩

/-- 0.5 dB, 0-60; above 60 a violation -/
def PLC_PHY.atten (p : Nat) : Fld := ⟨plcBase p + 0x4, 8, 6⟩
/-- 0 ROBO, 1 DBPSK, 2 DQPSK, 3 D8PSK -/
def PLC_PHY.mod (p : Nat) : Fld := ⟨plcBase p + 0x4, 4, 2⟩
/-- 0 CENELEC-A, 1 FCC -/
def PLC_PHY.band (p : Nat) : Fld := ⟨plcBase p + 0x4, 0, 1⟩

/-- retries of R352 and R353 -/
def PLC_RETRY.limit (p : Nat) : Fld := ⟨plcBase p + 0x8, 0, 3⟩

/-- plan version in force -/
def PLC_STATUS.plan_ver (p : Nat) : Fld := ⟨plcBase p + 0xC, 24, 8⟩
/-- a run holds the line -/
def PLC_STATUS.line_held (p : Nat) : Fld := ⟨plcBase p + 0xC, 2, 1⟩
/-- sending under R357 -/
def PLC_STATUS.ghost_sync (p : Nat) : Fld := ⟨plcBase p + 0xC, 1, 1⟩
/-- transmitting now -/
def PLC_STATUS.tx_active (p : Nat) : Fld := ⟨plcBase p + 0xC, 0, 1⟩

/-- window index; increments after each PLC_PLAN_DATA read -/
def PLC_PLAN_ADDR.index (p : Nat) : Fld := ⟨plcBase p + 0x10, 0, 8⟩

/-- entry of R345 -/
def PLC_PLAN_DATA.entry (p : Nat) : Fld := ⟨plcBase p + 0x14, 0, 32⟩

/-- signed SNR of the last accepted frame, 0.25 dB -/
def PLC_SNR.snr (p : Nat) : Fld := ⟨plcBase p + 0x18, 0, 8⟩

/-- the first two wrap; the others saturate -/
def PLC_TX_FRAMES.count (p : Nat) : Fld := ⟨plcBase p + 0x40, 0, 32⟩

/-- the first two wrap; the others saturate -/
def PLC_RX_FRAMES.count (p : Nat) : Fld := ⟨plcBase p + 0x44, 0, 32⟩

/-- the first two wrap; the others saturate -/
def PLC_RX_BAD.count (p : Nat) : Fld := ⟨plcBase p + 0x48, 0, 32⟩

/-- the first two wrap; the others saturate -/
def PLC_SEC_FAIL.count (p : Nat) : Fld := ⟨plcBase p + 0x4C, 0, 32⟩

/-- the first two wrap; the others saturate -/
def PLC_DUPLICATES.count (p : Nat) : Fld := ⟨plcBase p + 0x50, 0, 32⟩

/-- the first two wrap; the others saturate -/
def PLC_RETRIES.count (p : Nat) : Fld := ⟨plcBase p + 0x54, 0, 32⟩

/-- the first two wrap; the others saturate -/
def PLC_DROPS.count (p : Nat) : Fld := ⟨plcBase p + 0x58, 0, 32⟩

/-- the first two wrap; the others saturate -/
def PLC_DEFERS.count (p : Nat) : Fld := ⟨plcBase p + 0x5C, 0, 32⟩

/-- the first two wrap; the others saturate -/
def PLC_CCA_BUSY.count (p : Nat) : Fld := ⟨plcBase p + 0x60, 0, 32⟩

/-- the first two wrap; the others saturate -/
def PLC_REPAIRS.count (p : Nat) : Fld := ⟨plcBase p + 0x64, 0, 32⟩

/-- line driver fault; port out of service -/
def PLC_INT_STATUS.line_fault (p : Nat) : Fld := ⟨plcBase p + 0x70, 5, 1⟩
/-- a frame failed security -/
def PLC_INT_STATUS.sec_fail (p : Nat) : Fld := ⟨plcBase p + 0x70, 4, 1⟩
/-- a node joined -/
def PLC_INT_STATUS.join (p : Nat) : Fld := ⟨plcBase p + 0x70, 3, 1⟩
/-- a frame or group discarded -/
def PLC_INT_STATUS.drop (p : Nat) : Fld := ⟨plcBase p + 0x70, 2, 1⟩
/-- DRAINED set -/
def PLC_INT_STATUS.drained (p : Nat) : Fld := ⟨plcBase p + 0x70, 1, 1⟩
/-- a new plan version in force -/
def PLC_INT_STATUS.plan_swap (p : Nat) : Fld := ⟨plcBase p + 0x70, 0, 1⟩

/-- line driver fault; port out of service -/
def PLC_INT_ENABLE.line_fault (p : Nat) : Fld := ⟨plcBase p + 0x74, 5, 1⟩
/-- a frame failed security -/
def PLC_INT_ENABLE.sec_fail (p : Nat) : Fld := ⟨plcBase p + 0x74, 4, 1⟩
/-- a node joined -/
def PLC_INT_ENABLE.join (p : Nat) : Fld := ⟨plcBase p + 0x74, 3, 1⟩
/-- a frame or group discarded -/
def PLC_INT_ENABLE.drop (p : Nat) : Fld := ⟨plcBase p + 0x74, 2, 1⟩
/-- DRAINED set -/
def PLC_INT_ENABLE.drained (p : Nat) : Fld := ⟨plcBase p + 0x74, 1, 1⟩
/-- a new plan version in force -/
def PLC_INT_ENABLE.plan_swap (p : Nat) : Fld := ⟨plcBase p + 0x74, 0, 1⟩

/-! ## FLC -/

/-- N, 0-512; above 512 a violation -/
def FLC_CTRL.devices (n : Nat) : Fld := ⟨flcBase n + 0x0, 16, 10⟩
/-- resolution - 8, 0-8; above 8 a violation -/
def FLC_CTRL.pwm_bits (n : Nat) : Fld := ⟨flcBase n + 0x0, 8, 4⟩
/-- 1: next frame is a count frame; clears when done -/
def FLC_CTRL.count (n : Nat) : Fld := ⟨flcBase n + 0x0, 4, 1⟩
/-- fade 1 in level shares -/
def FLC_CTRL.smooth (n : Nat) : Fld := ⟨flcBase n + 0x0, 3, 1⟩
/-- latch with the aligned chains -/
def FLC_CTRL.align (n : Nat) : Fld := ⟨flcBase n + 0x0, 2, 1⟩
/-- DRAINED of R266 -/
def FLC_CTRL.drained (n : Nat) : Fld := ⟨flcBase n + 0x0, 1, 1⟩
/-- chain in service -/
def FLC_CTRL.enable (n : Nat) : Fld := ⟨flcBase n + 0x0, 0, 1⟩

/-- valid status words in the last frame -/
def FLC_STATUS.returned (n : Nat) : Fld := ⟨flcBase n + 0x4, 16, 10⟩
/-- last return preamble wrong -/
def FLC_STATUS.frame_error (n : Nat) : Fld := ⟨flcBase n + 0x4, 4, 1⟩
/-- last return length wrong -/
def FLC_STATUS.length_error (n : Nat) : Fld := ⟨flcBase n + 0x4, 3, 1⟩
/-- last latch pulse returned -/
def FLC_STATUS.latch_seen (n : Nat) : Fld := ⟨flcBase n + 0x4, 2, 1⟩
/-- a frame is in progress -/
def FLC_STATUS.in_frame (n : Nat) : Fld := ⟨flcBase n + 0x4, 1, 1⟩

/-- last count valid -/
def FLC_COUNT.valid (n : Nat) : Fld := ⟨flcBase n + 0x8, 31, 1⟩
/-- a of R394 -/
def FLC_COUNT.devices (n : Nat) : Fld := ⟨flcBase n + 0x8, 0, 10⟩

/-- t_L of the last frame, µs after phase 256 -/
def FLC_LATCH_AT.us (n : Nat) : Fld := ⟨flcBase n + 0xC, 0, 16⟩

/-- signed 1/16 °C -/
def FLC_TREF.tref (n : Nat) : Fld := ⟨flcBase n + 0x10, 0, 16⟩

/-- signed factor change per °C, 0x8000 = 1.0 -/
def FLC_SLOPE.slope (n : Nat) (k : Nat) : Fld := ⟨flcBase n + 0x14 + 4 * k, 0, 16⟩

/-- signed 1/16 °C, sent by configure -/
def FLC_OTEMP.threshold (n : Nat) : Fld := ⟨flcBase n + 0x24, 0, 16⟩

/-- frames sent; wraps -/
def FLC_FRAMES.count (n : Nat) : Fld := ⟨flcBase n + 0x28, 0, 32⟩

/-- saturating -/
def FLC_CHECK_ERRORS.count (n : Nat) : Fld := ⟨flcBase n + 0x2C, 0, 32⟩

/-- saturating -/
def FLC_SHARE_ERRORS.count (n : Nat) : Fld := ⟨flcBase n + 0x30, 0, 32⟩

/-- length and frame errors; saturating -/
def FLC_LEN_ERRORS.count (n : Nat) : Fld := ⟨flcBase n + 0x34, 0, 32⟩

/-- saturating -/
def FLC_LATCH_MISSING.count (n : Nat) : Fld := ⟨flcBase n + 0x38, 0, 32⟩

/-- statuses with reset set; saturating -/
def FLC_RESETS.count (n : Nat) : Fld := ⟨flcBase n + 0x3C, 0, 32⟩

/-- command shares sent; wraps -/
def FLC_CMDS.count (n : Nat) : Fld := ⟨flcBase n + 0x40, 0, 32⟩

/-- position for the two registers below -/
def FLC_DEV_SEL.position (n : Nat) : Fld := ⟨flcBase n + 0x50, 0, 9⟩

/-- a status word has been received -/
def FLC_DEV_STATUS.valid (n : Nat) : Fld := ⟨flcBase n + 0x54, 31, 1⟩
/-- last word failed its check -/
def FLC_DEV_STATUS.check_error (n : Nat) : Fld := ⟨flcBase n + 0x54, 30, 1⟩
/-- last valid status word -/
def FLC_DEV_STATUS.word (n : Nat) : Fld := ⟨flcBase n + 0x54, 0, 24⟩

/-- sent in the last frame -/
def FLC_DEV_LEVEL01.level1 (n : Nat) : Fld := ⟨flcBase n + 0x58, 16, 16⟩
/-- sent in the last frame -/
def FLC_DEV_LEVEL01.level0 (n : Nat) : Fld := ⟨flcBase n + 0x58, 0, 16⟩

/-- sent in the last frame -/
def FLC_DEV_LEVEL23.level3 (n : Nat) : Fld := ⟨flcBase n + 0x5C, 16, 16⟩
/-- sent in the last frame -/
def FLC_DEV_LEVEL23.level2 (n : Nat) : Fld := ⟨flcBase n + 0x5C, 0, 16⟩

/-- a count frame completed -/
def FLC_INT_STATUS.count_done (n : Nat) : Fld := ⟨flcBase n + 0x70, 6, 1⟩
/-- a status showed reset -/
def FLC_INT_STATUS.device_reset (n : Nat) : Fld := ⟨flcBase n + 0x70, 5, 1⟩
/-- latch pulse not returned -/
def FLC_INT_STATUS.latch_missing (n : Nat) : Fld := ⟨flcBase n + 0x70, 4, 1⟩
/-- length or preamble error -/
def FLC_INT_STATUS.frame_error (n : Nat) : Fld := ⟨flcBase n + 0x70, 3, 1⟩
/-- a status word failed its check -/
def FLC_INT_STATUS.check_error (n : Nat) : Fld := ⟨flcBase n + 0x70, 2, 1⟩
/-- a bound position silent for 4 frames -/
def FLC_INT_STATUS.absent (n : Nat) : Fld := ⟨flcBase n + 0x70, 1, 1⟩
/-- DRAINED set -/
def FLC_INT_STATUS.drained (n : Nat) : Fld := ⟨flcBase n + 0x70, 0, 1⟩

/-- a count frame completed -/
def FLC_INT_ENABLE.count_done (n : Nat) : Fld := ⟨flcBase n + 0x74, 6, 1⟩
/-- a status showed reset -/
def FLC_INT_ENABLE.device_reset (n : Nat) : Fld := ⟨flcBase n + 0x74, 5, 1⟩
/-- latch pulse not returned -/
def FLC_INT_ENABLE.latch_missing (n : Nat) : Fld := ⟨flcBase n + 0x74, 4, 1⟩
/-- length or preamble error -/
def FLC_INT_ENABLE.frame_error (n : Nat) : Fld := ⟨flcBase n + 0x74, 3, 1⟩
/-- a status word failed its check -/
def FLC_INT_ENABLE.check_error (n : Nat) : Fld := ⟨flcBase n + 0x74, 2, 1⟩
/-- a bound position silent for 4 frames -/
def FLC_INT_ENABLE.absent (n : Nat) : Fld := ⟨flcBase n + 0x74, 1, 1⟩
/-- DRAINED set -/
def FLC_INT_ENABLE.drained (n : Nat) : Fld := ⟨flcBase n + 0x74, 0, 1⟩

/-! ## MTR -/

/-- bit f: feeder f enabled -/
def MTR_CTRL.feeder_en : Fld := ⟨0xC0070000, 8, 6⟩
/-- DRAINED of R266 -/
def MTR_CTRL.drained : Fld := ⟨0xC0070000, 1, 1⟩
/-- metering running -/
def MTR_CTRL.enable : Fld := ⟨0xC0070000, 0, 1⟩

/-- R435: watch data lost at this start -/
def MTR_STATUS.theft_lost : Fld := ⟨0xC0070004, 11, 1⟩
/-- R435: records added during the outage -/
def MTR_STATUS.theft_flow : Fld := ⟨0xC0070004, 10, 1⟩
/-- harmonic request in progress -/
def MTR_STATUS.harm_busy : Fld := ⟨0xC0070004, 9, 1⟩
/-- offset calibration run in progress -/
def MTR_STATUS.cal_busy : Fld := ⟨0xC0070004, 8, 1⟩
/-- input of the run -/
def MTR_STATUS.cal_input : Fld := ⟨0xC0070004, 3, 5⟩
/-- history intervals counted without TAI -/
def MTR_STATUS.hist_unaligned : Fld := ⟨0xC0070004, 2, 1⟩
/-- totals at start came from a final commit -/
def MTR_STATUS.final_loaded : Fld := ⟨0xC0070004, 1, 1⟩
/-- R422 -/
def MTR_STATUS.energy_gap : Fld := ⟨0xC0070004, 0, 1⟩

/-- bit i: input i in absolute mode -/
def MTR_MODE.absolute : Fld := ⟨0xC0070008, 0, 18⟩

/-- bit i: input i in Rogowski mode -/
def MTR_ROGO.rogowski : Fld := ⟨0xC007000C, 0, 18⟩

/-- input 0-21; 22-31 a violation -/
def MTR_RES_SEL.input : Fld := ⟨0xC0070010, 0, 5⟩

/-- cycle bits 31:0 of the snapshot -/
def MTR_RES_CYCLE.cycle : Fld := ⟨0xC0070014, 0, 32⟩

/-- Vrms, mV -/
def MTR_RES_V.mv : Fld := ⟨0xC0070018, 0, 32⟩

/-- Irms, mA -/
def MTR_RES_I.ma : Fld := ⟨0xC007001C, 0, 32⟩

/-- signed 0.1 W -/
def MTR_RES_P.p : Fld := ⟨0xC0070020, 0, 32⟩

/-- signed 0.1 var -/
def MTR_RES_Q.q : Fld := ⟨0xC0070024, 0, 32⟩

/-- 0.1 VA -/
def MTR_RES_S.s : Fld := ⟨0xC0070028, 0, 32⟩

/-- 0.01 Hz -/
def MTR_RES_PF.freq : Fld := ⟨0xC007002C, 16, 16⟩
/-- signed 1/10,000 -/
def MTR_RES_PF.pf : Fld := ⟨0xC007002C, 0, 16⟩

/-- R409 -/
def MTR_RES_FLAGS.flags : Fld := ⟨0xC0070030, 0, 8⟩

/-- 0-2, or 3 feeder sum; 4-7 a violation -/
def MTR_TOT_SEL.phase : Fld := ⟨0xC0070040, 8, 3⟩
/-- 0-4; 5-7 a violation -/
def MTR_TOT_SEL.quantity : Fld := ⟨0xC0070040, 4, 3⟩
/-- 0-5; 6-7 a violation -/
def MTR_TOT_SEL.feeder : Fld := ⟨0xC0070040, 0, 3⟩

/-- total bits 31:0, mWh -/
def MTR_TOT_LO.mwh_lo : Fld := ⟨0xC0070044, 0, 32⟩

/-- total bits 63:32 -/
def MTR_TOT_HI.mwh_hi : Fld := ⟨0xC0070048, 0, 32⟩

/-- energy window, Wh -/
def MTR_TOT_WIN.wh : Fld := ⟨0xC007004C, 0, 32⟩

/-- cycles with an over-range input; saturating -/
def MTR_OVERRANGE.count : Fld := ⟨0xC0070050, 0, 32⟩

/-- offset calibration runs; wraps -/
def MTR_CAL_RUNS.count : Fld := ⟨0xC0070054, 0, 32⟩

/-- pulses lost, all outputs; saturating -/
def MTR_PULSE_LOST.count : Fld := ⟨0xC0070058, 0, 32⟩

/-- sequence of the newest history record -/
def MTR_HIST_SEQ.seq : Fld := ⟨0xC007005C, 0, 32⟩

/-- live energy window n of R415 -/
def MTR_WIN.wh (k : Nat) : Fld := ⟨0xC0070100 + 4 * k, 0, 32⟩

/-- bit j: window 32r + j crossed half range; bits of windows above 119 reserved -/
def MTR_HALF.half (k : Nat) : Fld := ⟨0xC0070300 + 4 * k, 0, 32⟩

/-- output on -/
def MTR_PULSE_CFG.enable (k : Nat) : Fld := ⟨0xC0070400 + 8 * k, 31, 1⟩
/-- 0-5 -/
def MTR_PULSE_CFG.feeder (k : Nat) : Fld := ⟨0xC0070400 + 8 * k, 24, 3⟩
/-- 0-2, or 3 feeder sum -/
def MTR_PULSE_CFG.phase (k : Nat) : Fld := ⟨0xC0070400 + 8 * k, 22, 2⟩
/-- 0-4 -/
def MTR_PULSE_CFG.quantity (k : Nat) : Fld := ⟨0xC0070400 + 8 * k, 19, 3⟩
/-- impulses per kWh, 1-100,000; outside this range a violation -/
def MTR_PULSE_CFG.constant (k : Nat) : Fld := ⟨0xC0070400 + 8 * k, 0, 17⟩

/-- owed pulses -/
def MTR_PULSE_TIM.backlog (k : Nat) : Fld := ⟨0xC0070404 + 8 * k, 16, 16⟩
/-- ms, 1-100; outside this range a violation -/
def MTR_PULSE_TIM.width (k : Nat) : Fld := ⟨0xC0070404 + 8 * k, 0, 7⟩

/-- 1: request harmonics by R429 -/
def MTR_HARM_REQ.go : Fld := ⟨0xC0070500, 31, 1⟩
/-- input 0-21 -/
def MTR_HARM_REQ.input : Fld := ⟨0xC0070500, 0, 5⟩

/-- result complete -/
def MTR_HARM_STATUS.valid : Fld := ⟨0xC0070504, 31, 1⟩
/-- request aborted -/
def MTR_HARM_STATUS.aborted : Fld := ⟨0xC0070504, 30, 1⟩
/-- input of the result -/
def MTR_HARM_STATUS.input : Fld := ⟨0xC0070504, 0, 5⟩

/-- fundamental, mV or mA -/
def MTR_HARM_FUND.rms : Fld := ⟨0xC0070508, 0, 32⟩

/-- 0.01 % -/
def MTR_HARM_THD.thd : Fld := ⟨0xC007050C, 0, 16⟩

/-- harmonic h, 0.01 % of fundamental -/
def MTR_HARM.amp (k : Nat) : Fld := ⟨0xC0070510 + 4 * k, 0, 16⟩

/-- 1: queue a run for the input by R430 -/
def MTR_CAL_REQ.go : Fld := ⟨0xC0070600, 31, 1⟩
/-- input 0-21 -/
def MTR_CAL_REQ.input : Fld := ⟨0xC0070600, 0, 5⟩

/-- automatic interval, h; 0 off -/
def MTR_CAL_AUTO.hours : Fld := ⟨0xC0070604, 0, 16⟩

/-- factory × installation gain, 0x0100_0000 = 1.0 -/
def MTR_GAIN.gain (k : Nat) : Fld := ⟨0xC0070800 + 4 * k, 0, 32⟩

/-- signed 1/1,024 sample -/
def MTR_PHASE.corr (k : Nat) : Fld := ⟨0xC0070880 + 4 * k, 0, 16⟩

/-- signed measured offset, LSB of the 24-bit code × 256 -/
def MTR_OFFSET.offset (k : Nat) : Fld := ⟨0xC0070900 + 4 * k, 0, 32⟩

/-- interval records written -/
def MTR_INT_STATUS.history : Fld := ⟨0xC0070070, 10, 1⟩
/-- DRAINED set -/
def MTR_INT_STATUS.drained : Fld := ⟨0xC0070070, 9, 1⟩
/-- R435 -/
def MTR_INT_STATUS.theft_lost : Fld := ⟨0xC0070070, 8, 1⟩
/-- R435 -/
def MTR_INT_STATUS.theft_flow : Fld := ⟨0xC0070070, 7, 1⟩
/-- a pulse lost -/
def MTR_INT_STATUS.pulse_lost : Fld := ⟨0xC0070070, 6, 1⟩
/-- harmonic result valid or aborted -/
def MTR_INT_STATUS.harm_done : Fld := ⟨0xC0070070, 5, 1⟩
/-- a calibration run ended -/
def MTR_INT_STATUS.cal_done : Fld := ⟨0xC0070070, 4, 1⟩
/-- an input over-range -/
def MTR_INT_STATUS.over_range : Fld := ⟨0xC0070070, 3, 1⟩
/-- R422 -/
def MTR_INT_STATUS.energy_gap : Fld := ⟨0xC0070070, 2, 1⟩
/-- a window crossed half range -/
def MTR_INT_STATUS.half_range : Fld := ⟨0xC0070070, 1, 1⟩
/-- results of a cycle ready -/
def MTR_INT_STATUS.cycle_ready : Fld := ⟨0xC0070070, 0, 1⟩

/-- interval records written -/
def MTR_INT_ENABLE.history : Fld := ⟨0xC0070074, 10, 1⟩
/-- DRAINED set -/
def MTR_INT_ENABLE.drained : Fld := ⟨0xC0070074, 9, 1⟩
/-- R435 -/
def MTR_INT_ENABLE.theft_lost : Fld := ⟨0xC0070074, 8, 1⟩
/-- R435 -/
def MTR_INT_ENABLE.theft_flow : Fld := ⟨0xC0070074, 7, 1⟩
/-- a pulse lost -/
def MTR_INT_ENABLE.pulse_lost : Fld := ⟨0xC0070074, 6, 1⟩
/-- harmonic result valid or aborted -/
def MTR_INT_ENABLE.harm_done : Fld := ⟨0xC0070074, 5, 1⟩
/-- a calibration run ended -/
def MTR_INT_ENABLE.cal_done : Fld := ⟨0xC0070074, 4, 1⟩
/-- an input over-range -/
def MTR_INT_ENABLE.over_range : Fld := ⟨0xC0070074, 3, 1⟩
/-- R422 -/
def MTR_INT_ENABLE.energy_gap : Fld := ⟨0xC0070074, 2, 1⟩
/-- a window crossed half range -/
def MTR_INT_ENABLE.half_range : Fld := ⟨0xC0070074, 1, 1⟩
/-- results of a cycle ready -/
def MTR_INT_ENABLE.cycle_ready : Fld := ⟨0xC0070074, 0, 1⟩

/-! ## TWN -/

/-- loaded from object 0x2102 -/
def TWN_CTRL.comeback_en (d : DieId) : Fld := ⟨d.space + 0x40000, 16, 1⟩
/-- cycles; loaded from object 0x2105 -/
def TWN_CTRL.resync_limit (d : DieId) : Fld := ⟨d.space + 0x40000, 0, 16⟩

/-- the gate is open to a die -/
def TWN_STATUS.gate_open (d : DieId) : Fld := ⟨d.space + 0x40004, 31, 1⟩
/-- 0 die A, 1 die B; valid when gate_open is 1 -/
def TWN_STATUS.gate_die (d : DieId) : Fld := ⟨d.space + 0x40004, 30, 1⟩
/-- 0 die A, 1 die B; loaded from the package strap -/
def TWN_STATUS.this_die (d : DieId) : Fld := ⟨d.space + 0x40004, 29, 1⟩
/-- role of R443 -/
def TWN_STATUS.other_role (d : DieId) : Fld := ⟨d.space + 0x40004, 26, 3⟩
/-- role of R443 -/
def TWN_STATUS.role (d : DieId) : Fld := ⟨d.space + 0x40004, 23, 3⟩
/-- fit under R446 -/
def TWN_STATUS.fit (d : DieId) : Fld := ⟨d.space + 0x40004, 22, 1⟩
/-- running provisionally -/
def TWN_STATUS.provisional (d : DieId) : Fld := ⟨d.space + 0x40004, 21, 1⟩
/-- a dispute is open -/
def TWN_STATUS.dispute (d : DieId) : Fld := ⟨d.space + 0x40004, 20, 1⟩
/-- Falsia link up -/
def TWN_STATUS.link_up (d : DieId) : Fld := ⟨d.space + 0x40004, 19, 1⟩
/-- 0 down, 1 two lanes, 2 four lanes -/
def TWN_STATUS.lanes (d : DieId) : Fld := ⟨d.space + 0x40004, 17, 2⟩
/-- journal format versions agree -/
def TWN_STATUS.format_ok (d : DieId) : Fld := ⟨d.space + 0x40004, 16, 1⟩

/-- 1 hand over, by R482; 2 self-test, by R483; other codes a violation -/
def TWN_CMD.code (d : DieId) : Fld := ⟨d.space + 0x40008, 0, 8⟩

/-- refused commands; saturating -/
def TWN_CMD_REFUSED.count (d : DieId) : Fld := ⟨d.space + 0x4000C, 0, 32⟩

/-- cycles matched in a row -/
def TWN_MATCH_RUN.run (d : DieId) : Fld := ⟨d.space + 0x40010, 0, 32⟩

/-- cycle bits 31:0 of the last marker sent or committed; the read latches the high word -/
def TWN_COMMIT_LO.cycle_lo (d : DieId) : Fld := ⟨d.space + 0x40014, 0, 32⟩

/-- cycle bits 47:32 -/
def TWN_COMMIT_HI.cycle_hi (d : DieId) : Fld := ⟨d.space + 0x40018, 0, 16⟩

/-- journal bytes of the last cycle -/
def TWN_JOURNAL_BYTES.bytes (d : DieId) : Fld := ⟨d.space + 0x4001C, 0, 32⟩

/-- largest since the last read -/
def TWN_JOURNAL_MAX.bytes (d : DieId) : Fld := ⟨d.space + 0x40020, 0, 32⟩

/-- unit digests that differed; saturating -/
def TWN_MISMATCHES.count (d : DieId) : Fld := ⟨d.space + 0x40024, 0, 32⟩

/-- saturating -/
def TWN_DISPUTES.count (d : DieId) : Fld := ⟨d.space + 0x40028, 0, 32⟩

/-- logical unit of the last dispute -/
def TWN_ARB_LAST.unit (d : DieId) : Fld := ⟨d.space + 0x4002C, 24, 8⟩
/-- 0 none; 1-5 codes of R465; 6 no clone -/
def TWN_ARB_LAST.result (d : DieId) : Fld := ⟨d.space + 0x4002C, 0, 3⟩

/-- wraps -/
def TWN_HANDOVERS.count (d : DieId) : Fld := ⟨d.space + 0x40030, 0, 32⟩

/-- cycle bits 31:0 of the last handover boundary -/
def TWN_HO_CYCLE.cycle (d : DieId) : Fld := ⟨d.space + 0x40034, 0, 32⟩

/-- die that took the stage -/
def TWN_HO_CAUSE.to_die (d : DieId) : Fld := ⟨d.space + 0x40038, 8, 1⟩
/-- cause of R469 -/
def TWN_HO_CAUSE.cause (d : DieId) : Fld := ⟨d.space + 0x40038, 0, 8⟩

/-- provisional cycles; saturating -/
def TWN_PROVISIONAL.count (d : DieId) : Fld := ⟨d.space + 0x4003C, 0, 32⟩

/-- inputs replayed at the last takeover -/
def TWN_REPLAYED.count (d : DieId) : Fld := ⟨d.space + 0x40040, 0, 32⟩

/-- saturating -/
def TWN_REPLAY_LOST.count (d : DieId) : Fld := ⟨d.space + 0x40044, 0, 32⟩

/-- 0 idle, 1 MRAM copy, 2 working stores, 3 catch-up, 4 done -/
def TWN_RESYNC.stage (d : DieId) : Fld := ⟨d.space + 0x40048, 28, 4⟩
/-- cycles since the request; saturating -/
def TWN_RESYNC.cycles (d : DieId) : Fld := ⟨d.space + 0x40048, 0, 16⟩

/-- saturating -/
def TWN_LINK_RETRIES.count (d : DieId) : Fld := ⟨d.space + 0x4004C, 0, 32⟩

/-- saturating -/
def TWN_LINK_DOWNS.count (d : DieId) : Fld := ⟨d.space + 0x40050, 0, 32⟩

/-- bit j: logical unit 32i + j excluded from comparison -/
def TWN_EXCLUDED.units (d : DieId) (k : Nat) : Fld := ⟨d.space + 0x40080 + 4 * k, 0, 32⟩

/-- journal format versions differ -/
def TWN_INT_STATUS.format_mismatch (d : DieId) : Fld := ⟨d.space + 0x40070, 14, 1⟩
/-- a comeback took place -/
def TWN_INT_STATUS.comeback (d : DieId) : Fld := ⟨d.space + 0x40070, 13, 1⟩
/-- Falsia link down -/
def TWN_INT_STATUS.link_down (d : DieId) : Fld := ⟨d.space + 0x40070, 12, 1⟩
/-- link on two lanes -/
def TWN_INT_STATUS.link_degraded (d : DieId) : Fld := ⟨d.space + 0x40070, 11, 1⟩
/-- inputs lost at a takeover -/
def TWN_INT_STATUS.replay_lost (d : DieId) : Fld := ⟨d.space + 0x40070, 10, 1⟩
/-- R471 -/
def TWN_INT_STATUS.holder_silent (d : DieId) : Fld := ⟨d.space + 0x40070, 9, 1⟩
/-- a provisional cycle ran -/
def TWN_INT_STATUS.provisional (d : DieId) : Fld := ⟨d.space + 0x40070, 8, 1⟩
/-- a resynchronisation restarted -/
def TWN_INT_STATUS.resync_failed (d : DieId) : Fld := ⟨d.space + 0x40070, 7, 1⟩
/-- UNDERSTUDY reached -/
def TWN_INT_STATUS.resync_done (d : DieId) : Fld := ⟨d.space + 0x40070, 6, 1⟩
/-- a dispute settled -/
def TWN_INT_STATUS.arb_done (d : DieId) : Fld := ⟨d.space + 0x40070, 5, 1⟩
/-- a dispute opened -/
def TWN_INT_STATUS.dispute (d : DieId) : Fld := ⟨d.space + 0x40070, 4, 1⟩
/-- unit digests differed -/
def TWN_INT_STATUS.mismatch (d : DieId) : Fld := ⟨d.space + 0x40070, 3, 1⟩
/-- the other die left its role -/
def TWN_INT_STATUS.other_left (d : DieId) : Fld := ⟨d.space + 0x40070, 2, 1⟩
/-- this die gave up the stage -/
def TWN_INT_STATUS.gave_stage (d : DieId) : Fld := ⟨d.space + 0x40070, 1, 1⟩
/-- this die took the stage -/
def TWN_INT_STATUS.took_stage (d : DieId) : Fld := ⟨d.space + 0x40070, 0, 1⟩

/-- journal format versions differ -/
def TWN_INT_ENABLE.format_mismatch (d : DieId) : Fld := ⟨d.space + 0x40074, 14, 1⟩
/-- a comeback took place -/
def TWN_INT_ENABLE.comeback (d : DieId) : Fld := ⟨d.space + 0x40074, 13, 1⟩
/-- Falsia link down -/
def TWN_INT_ENABLE.link_down (d : DieId) : Fld := ⟨d.space + 0x40074, 12, 1⟩
/-- link on two lanes -/
def TWN_INT_ENABLE.link_degraded (d : DieId) : Fld := ⟨d.space + 0x40074, 11, 1⟩
/-- inputs lost at a takeover -/
def TWN_INT_ENABLE.replay_lost (d : DieId) : Fld := ⟨d.space + 0x40074, 10, 1⟩
/-- R471 -/
def TWN_INT_ENABLE.holder_silent (d : DieId) : Fld := ⟨d.space + 0x40074, 9, 1⟩
/-- a provisional cycle ran -/
def TWN_INT_ENABLE.provisional (d : DieId) : Fld := ⟨d.space + 0x40074, 8, 1⟩
/-- a resynchronisation restarted -/
def TWN_INT_ENABLE.resync_failed (d : DieId) : Fld := ⟨d.space + 0x40074, 7, 1⟩
/-- UNDERSTUDY reached -/
def TWN_INT_ENABLE.resync_done (d : DieId) : Fld := ⟨d.space + 0x40074, 6, 1⟩
/-- a dispute settled -/
def TWN_INT_ENABLE.arb_done (d : DieId) : Fld := ⟨d.space + 0x40074, 5, 1⟩
/-- a dispute opened -/
def TWN_INT_ENABLE.dispute (d : DieId) : Fld := ⟨d.space + 0x40074, 4, 1⟩
/-- unit digests differed -/
def TWN_INT_ENABLE.mismatch (d : DieId) : Fld := ⟨d.space + 0x40074, 3, 1⟩
/-- the other die left its role -/
def TWN_INT_ENABLE.other_left (d : DieId) : Fld := ⟨d.space + 0x40074, 2, 1⟩
/-- this die gave up the stage -/
def TWN_INT_ENABLE.gave_stage (d : DieId) : Fld := ⟨d.space + 0x40074, 1, 1⟩
/-- this die took the stage -/
def TWN_INT_ENABLE.took_stage (d : DieId) : Fld := ⟨d.space + 0x40074, 0, 1⟩

/-! ## ETH -/

/-- 1: evaluate wake filters, then discard every received frame -/
def ETH_CTRL.listen (e : Nat) : Fld := ⟨ethBase e + 0x0, 7, 1⟩
/-- R510 -/
def ETH_CTRL.pause_honour (e : Nat) : Fld := ⟨ethBase e + 0x0, 6, 1⟩
/-- R509 -/
def ETH_CTRL.pause_send (e : Nat) : Fld := ⟨ethBase e + 0x0, 5, 1⟩
/-- R497 -/
def ETH_CTRL.accept_untagged (e : Nat) : Fld := ⟨ethBase e + 0x0, 4, 1⟩
/-- DRAINED of R266 -/
def ETH_CTRL.drained (e : Nat) : Fld := ⟨ethBase e + 0x0, 1, 1⟩
/-- port in service -/
def ETH_CTRL.enable (e : Nat) : Fld := ⟨ethBase e + 0x0, 0, 1⟩

/-- a received pause is in force -/
def ETH_STATUS.tx_held (e : Nat) : Fld := ⟨ethBase e + 0x4, 7, 1⟩
/-- the port's own pause is in force -/
def ETH_STATUS.rx_pausing (e : Nat) : Fld := ⟨ethBase e + 0x4, 6, 1⟩
/-- backbone port with link, not active -/
def ETH_STATUS.standby (e : Nat) : Fld := ⟨ethBase e + 0x4, 5, 1⟩
/-- backbone port carrying transmit -/
def ETH_STATUS.active (e : Nat) : Fld := ⟨ethBase e + 0x4, 4, 1⟩
/-- 0 no link, 1 100 Mbit/s, 2 1000 Mbit/s -/
def ETH_STATUS.speed (e : Nat) : Fld := ⟨ethBase e + 0x4, 2, 2⟩
/-- link up -/
def ETH_STATUS.link (e : Nat) : Fld := ⟨ethBase e + 0x4, 0, 1⟩

/-- address bits 31:0; from identity -/
def ETH_MAC_LO.mac_lo (e : Nat) : Fld := ⟨ethBase e + 0x8, 0, 32⟩

/-- address bits 47:32 -/
def ETH_MAC_HI.mac_hi (e : Nat) : Fld := ⟨ethBase e + 0xC, 0, 16⟩

/-- 0 untagged; 4,095 a violation -/
def ETH_VLAN.vid (e : Nat) : Fld := ⟨ethBase e + 0x10, 0, 12⟩

/-- bits 3c + 2:3c: PCP of class c -/
def ETH_PCP_MAP.pcp (e : Nat) : Fld := ⟨ethBase e + 0x14, 0, 24⟩

/-- buffers used; R509 -/
def ETH_RX_WM.high (e : Nat) : Fld := ⟨ethBase e + 0x18, 16, 10⟩
/-- buffers used -/
def ETH_RX_WM.low (e : Nat) : Fld := ⟨ethBase e + 0x18, 0, 10⟩

/-- quanta sent -/
def ETH_PAUSE.quanta (e : Nat) : Fld := ⟨ethBase e + 0x1C, 0, 16⟩

/-- most buffers used since the last read -/
def ETH_RX_RING.max (e : Nat) : Fld := ⟨ethBase e + 0x20, 16, 10⟩
/-- buffers used -/
def ETH_RX_RING.used (e : Nat) : Fld := ⟨ethBase e + 0x20, 0, 10⟩

/-- hash bits 31:0 -/
def ETH_MC_HASH_LO.hash_lo (e : Nat) : Fld := ⟨ethBase e + 0x24, 0, 32⟩

/-- hash bits 63:32 -/
def ETH_MC_HASH_HI.hash_hi (e : Nat) : Fld := ⟨ethBase e + 0x28, 0, 32⟩

/-- ns added to transmit captures; factory -/
def ETH_TS_LAT.tx_lat (e : Nat) : Fld := ⟨ethBase e + 0x2C, 16, 16⟩
/-- ns subtracted from receive captures; factory -/
def ETH_TS_LAT.rx_lat (e : Nat) : Fld := ⟨ethBase e + 0x2C, 0, 16⟩

/-- 1: fail over now; clears when done -/
def ETH_BKP.force (e : Nat) : Fld := ⟨ethBase e + 0x30, 4, 1⟩
/-- object 0x6402 -/
def ETH_BKP.revertive (e : Nat) : Fld := ⟨ethBase e + 0x30, 3, 1⟩
/-- 0 ETH0, 1 ETH1 -/
def ETH_BKP.preferred (e : Nat) : Fld := ⟨ethBase e + 0x30, 1, 1⟩
/-- 0 ETH0, 1 ETH1 -/
def ETH_BKP.active_port (e : Nat) : Fld := ⟨ethBase e + 0x30, 0, 1⟩

/-- saturating -/
def ETH_FAILOVERS.count (e : Nat) : Fld := ⟨ethBase e + 0x34, 0, 32⟩

/-- PHY access in progress -/
def ETH_MDIO_CMD.busy (e : Nat) : Fld := ⟨ethBase e + 0x40, 31, 1⟩
/-- 1 write, 0 read -/
def ETH_MDIO_CMD.write (e : Nat) : Fld := ⟨ethBase e + 0x40, 26, 1⟩
/-- 1: start; a write of 1 while busy is a violation -/
def ETH_MDIO_CMD.go (e : Nat) : Fld := ⟨ethBase e + 0x40, 25, 1⟩
/-- IEEE 802.3 clause 22 register of the port's PHY -/
def ETH_MDIO_CMD.reg (e : Nat) : Fld := ⟨ethBase e + 0x40, 16, 5⟩
/-- data to write -/
def ETH_MDIO_CMD.wdata (e : Nat) : Fld := ⟨ethBase e + 0x40, 0, 16⟩

/-- result of the last read -/
def ETH_MDIO_DATA.rdata (e : Nat) : Fld := ⟨ethBase e + 0x44, 0, 16⟩

/-- last change request refused -/
def ETH_GCL_CTRL.error (e : Nat) : Fld := ⟨ethBase e + 0x100, 2, 1⟩
/-- 1: request a change by R504; clears when applied or refused -/
def ETH_GCL_CTRL.change (e : Nat) : Fld := ⟨ethBase e + 0x100, 1, 1⟩
/-- gate control on -/
def ETH_GCL_CTRL.enable (e : Nat) : Fld := ⟨ethBase e + 0x100, 0, 1⟩

/-- operational length; 0 none -/
def ETH_GCL_STATUS.oper_len (e : Nat) : Fld := ⟨ethBase e + 0x104, 16, 8⟩
/-- operational entry in force -/
def ETH_GCL_STATUS.entry (e : Nat) : Fld := ⟨ethBase e + 0x104, 8, 8⟩
/-- change accepted, not yet made -/
def ETH_GCL_STATUS.pending (e : Nat) : Fld := ⟨ethBase e + 0x104, 0, 1⟩

/-- administrative cycle time, 1,000-1,000,000,000 -/
def ETH_GCL_CYCLE.ns (e : Nat) : Fld := ⟨ethBase e + 0x108, 0, 32⟩

/-- administrative base time, TAI ns bits 31:0 -/
def ETH_GCL_BASE_LO.base_lo (e : Nat) : Fld := ⟨ethBase e + 0x10C, 0, 32⟩

/-- bits 63:32; held until LO is written -/
def ETH_GCL_BASE_HI.base_hi (e : Nat) : Fld := ⟨ethBase e + 0x110, 0, 32⟩

/-- administrative length, 1-64 -/
def ETH_GCL_LEN.length (e : Nat) : Fld := ⟨ethBase e + 0x114, 0, 7⟩

/-- operational cycle time -/
def ETH_GCL_OPER_CYCLE.ns (e : Nat) : Fld := ⟨ethBase e + 0x118, 0, 32⟩

/-- change time in force; the read latches the high word -/
def ETH_GCL_OPER_BASE_LO.base_lo (e : Nat) : Fld := ⟨ethBase e + 0x11C, 0, 32⟩

/-- bits 63:32 -/
def ETH_GCL_OPER_BASE_HI.base_hi (e : Nat) : Fld := ⟨ethBase e + 0x120, 0, 32⟩

/-- counter n of R513; wraps -/
def ETH_CNT.count (e : Nat) (k : Nat) : Fld := ⟨ethBase e + 0x200 + 4 * k, 0, 32⟩

/-- bit n: counter n reached bit 31 -/
def ETH_CNT_HALF.half (e : Nat) : Fld := ⟨ethBase e + 0x280, 0, 26⟩

/-- bit c: class c open -/
def ETH_GCL_ADMIN.gates (e : Nat) (k : Nat) : Fld := ⟨ethBase e + 0x400 + 4 * k, 24, 8⟩
/-- ns -/
def ETH_GCL_ADMIN.interval (e : Nat) (k : Nat) : Fld := ⟨ethBase e + 0x400 + 4 * k, 0, 24⟩

/-- operational entry, same layout -/
def ETH_GCL_OPER.entry (e : Nat) (k : Nat) : Fld := ⟨ethBase e + 0x600 + 4 * k, 0, 32⟩

/-- saturating -/
def ETH_TXTS_STATUS.overflows (e : Nat) : Fld := ⟨ethBase e + 0x800, 16, 16⟩
/-- entries held, 0-8 -/
def ETH_TXTS_STATUS.count (e : Nat) : Fld := ⟨ethBase e + 0x800, 0, 4⟩

/-- an entry was taken; 0 when empty -/
def ETH_TXTS_ID.valid (e : Nat) : Fld := ⟨ethBase e + 0x804, 31, 1⟩
/-- identifier; the read takes the head entry -/
def ETH_TXTS_ID.id (e : Nat) : Fld := ⟨ethBase e + 0x804, 0, 16⟩

/-- TAI ns bits 31:0 of the entry taken -/
def ETH_TXTS_LO.ts_lo (e : Nat) : Fld := ⟨ethBase e + 0x808, 0, 32⟩

/-- bits 63:32 -/
def ETH_TXTS_HI.ts_hi (e : Nat) : Fld := ⟨ethBase e + 0x80C, 0, 32⟩

/-- bit f: filter f on -/
def ETH_WAKE_CTRL.enable (e : Nat) : Fld := ⟨ethBase e + 0x900, 0, 8⟩

/-- filter of the last match -/
def ETH_WAKE_LAST.filter (e : Nat) : Fld := ⟨ethBase e + 0x904, 0, 3⟩

/-- filter shown at 0x910-0x920 -/
def ETH_WAKE_SEL.filter (e : Nat) : Fld := ⟨ethBase e + 0x908, 0, 3⟩

/-- bit i selects octet 32j + i -/
def ETH_WAKE_MASK.mask (e : Nat) (k : Nat) : Fld := ⟨ethBase e + 0x910 + 4 * k, 0, 32⟩

/-- check value of R512 -/
def ETH_WAKE_CRC.check (e : Nat) : Fld := ⟨ethBase e + 0x920, 0, 16⟩

/-- a wake filter matched -/
def ETH_INT_STATUS.wake (e : Nat) : Fld := ⟨ethBase e + 0x70, 7, 1⟩
/-- a timestamp entry discarded -/
def ETH_INT_STATUS.txts_overflow (e : Nat) : Fld := ⟨ethBase e + 0x70, 6, 1⟩
/-- this port became active -/
def ETH_INT_STATUS.failover (e : Nat) : Fld := ⟨ethBase e + 0x70, 5, 1⟩
/-- a timestamp entry placed -/
def ETH_INT_STATUS.txts_ready (e : Nat) : Fld := ⟨ethBase e + 0x70, 4, 1⟩
/-- a counter reached bit 31 -/
def ETH_INT_STATUS.cnt_half (e : Nat) : Fld := ⟨ethBase e + 0x70, 3, 1⟩
/-- a frame dropped by R508 -/
def ETH_INT_STATUS.rx_nobuf (e : Nat) : Fld := ⟨ethBase e + 0x70, 2, 1⟩
/-- DRAINED set -/
def ETH_INT_STATUS.drained (e : Nat) : Fld := ⟨ethBase e + 0x70, 1, 1⟩
/-- link went up or down -/
def ETH_INT_STATUS.link_change (e : Nat) : Fld := ⟨ethBase e + 0x70, 0, 1⟩

/-- a wake filter matched -/
def ETH_INT_ENABLE.wake (e : Nat) : Fld := ⟨ethBase e + 0x74, 7, 1⟩
/-- a timestamp entry discarded -/
def ETH_INT_ENABLE.txts_overflow (e : Nat) : Fld := ⟨ethBase e + 0x74, 6, 1⟩
/-- this port became active -/
def ETH_INT_ENABLE.failover (e : Nat) : Fld := ⟨ethBase e + 0x74, 5, 1⟩
/-- a timestamp entry placed -/
def ETH_INT_ENABLE.txts_ready (e : Nat) : Fld := ⟨ethBase e + 0x74, 4, 1⟩
/-- a counter reached bit 31 -/
def ETH_INT_ENABLE.cnt_half (e : Nat) : Fld := ⟨ethBase e + 0x74, 3, 1⟩
/-- a frame dropped by R508 -/
def ETH_INT_ENABLE.rx_nobuf (e : Nat) : Fld := ⟨ethBase e + 0x74, 2, 1⟩
/-- DRAINED set -/
def ETH_INT_ENABLE.drained (e : Nat) : Fld := ⟨ethBase e + 0x74, 1, 1⟩
/-- link went up or down -/
def ETH_INT_ENABLE.link_change (e : Nat) : Fld := ⟨ethBase e + 0x74, 0, 1⟩

/-! ## PTP -/

/-- object 0x20C4 -/
def PTP_CTRL.tt_capable : Fld := ⟨0xC0090000, 4, 1⟩
/-- 0 IEEE 802.3, 1 UDP over IPv6 -/
def PTP_CTRL.transport : Fld := ⟨0xC0090000, 3, 1⟩
/-- 0 end-to-end, 1 peer-to-peer -/
def PTP_CTRL.p2p : Fld := ⟨0xC0090000, 2, 1⟩
/-- engine on -/
def PTP_CTRL.enable : Fld := ⟨0xC0090000, 0, 1⟩

/-- agreeing refused offsets, 0-15 -/
def PTP_STATUS.run : Fld := ⟨0xC0090004, 23, 5⟩
/-- 0 initializing, 1 listening, 2 uncalibrated, 3 time receiver, 4 time transmitter, 5 passive, 6 faulty -/
def PTP_STATUS.port_state : Fld := ⟨0xC0090004, 16, 3⟩
/-- R522 -/
def PTP_STATUS.auth_armed : Fld := ⟨0xC0090004, 5, 1⟩
/-- valid since the engine was enabled -/
def PTP_STATUS.ever_valid : Fld := ⟨0xC0090004, 4, 1⟩
/-- a refused offset is pending -/
def PTP_STATUS.jump_pending : Fld := ⟨0xC0090004, 3, 1⟩
/-- no offset accepted in the last measurement interval -/
def PTP_STATUS.holdover : Fld := ⟨0xC0090004, 2, 1⟩
/-- last 8 offsets within the lock threshold -/
def PTP_STATUS.locked : Fld := ⟨0xC0090004, 1, 1⟩
/-- R523 -/
def PTP_STATUS.valid : Fld := ⟨0xC0090004, 0, 1⟩

/-- TAI ns bits 31:0; the read latches the high word -/
def PTP_TIME_LO.tai_lo : Fld := ⟨0xC0090008, 0, 32⟩

/-- bits 63:32 -/
def PTP_TIME_HI.tai_hi : Fld := ⟨0xC009000C, 0, 32⟩

/-- bits 31:0 of o; the write commits and calls R521 -/
def PTP_OFFSET_LO.off_lo : Fld := ⟨0xC0090010, 0, 32⟩

/-- bits 63:32, held until LO is written -/
def PTP_OFFSET_HI.off_hi : Fld := ⟨0xC0090014, 0, 32⟩

/-- last o, signed; the read latches the high word -/
def PTP_LAST_LO.last_lo : Fld := ⟨0xC0090018, 0, 32⟩

/-- bits 63:32 -/
def PTP_LAST_HI.last_hi : Fld := ⟨0xC009001C, 0, 32⟩

/-- signed frequency adjustment applied -/
def PTP_FREQ.ppb : Fld := ⟨0xC0090020, 0, 32⟩

/-- 1/256 -/
def PTP_GAIN.ki : Fld := ⟨0xC0090024, 16, 16⟩
/-- 1/256 -/
def PTP_GAIN.kp : Fld := ⟨0xC0090024, 0, 16⟩

/-- J, 10,001-1,000,000,000; outside this range a violation -/
def PTP_JUMP.ns : Fld := ⟨0xC0090028, 0, 32⟩

/-- holdover limit, s, 1-3,600 -/
def PTP_LOCK.holdover : Fld := ⟨0xC009002C, 16, 16⟩
/-- lock threshold, ns, 1-65,535 -/
def PTP_LOCK.lock : Fld := ⟨0xC009002C, 0, 16⟩

/-- saturating -/
def PTP_REFUSED.count : Fld := ⟨0xC0090030, 0, 32⟩

/-- saturating -/
def PTP_STEPS.count : Fld := ⟨0xC0090034, 0, 32⟩

/-- last step o, signed; the read latches the high word -/
def PTP_STEP_LO.step_lo : Fld := ⟨0xC0090038, 0, 32⟩

/-- bits 63:32 -/
def PTP_STEP_HI.step_hi : Fld := ⟨0xC009003C, 0, 32⟩

/-- pending refused o; the read latches the high word -/
def PTP_PEND_LO.pend_lo : Fld := ⟨0xC0090040, 0, 32⟩

/-- bits 63:32 -/
def PTP_PEND_HI.pend_hi : Fld := ⟨0xC0090044, 0, 32⟩

/-- port_state changed -/
def PTP_INT_STATUS.state_change : Fld := ⟨0xC0090070, 6, 1⟩
/-- locked set -/
def PTP_INT_STATUS.locked : Fld := ⟨0xC0090070, 5, 1⟩
/-- holdover entered -/
def PTP_INT_STATUS.holdover : Fld := ⟨0xC0090070, 4, 1⟩
/-- the clock was stepped -/
def PTP_INT_STATUS.step : Fld := ⟨0xC0090070, 3, 1⟩
/-- a run of refusals began -/
def PTP_INT_STATUS.jump_refused : Fld := ⟨0xC0090070, 2, 1⟩
/-- valid cleared -/
def PTP_INT_STATUS.valid_lost : Fld := ⟨0xC0090070, 1, 1⟩
/-- valid set -/
def PTP_INT_STATUS.valid_set : Fld := ⟨0xC0090070, 0, 1⟩

/-- port_state changed -/
def PTP_INT_ENABLE.state_change : Fld := ⟨0xC0090074, 6, 1⟩
/-- locked set -/
def PTP_INT_ENABLE.locked : Fld := ⟨0xC0090074, 5, 1⟩
/-- holdover entered -/
def PTP_INT_ENABLE.holdover : Fld := ⟨0xC0090074, 4, 1⟩
/-- the clock was stepped -/
def PTP_INT_ENABLE.step : Fld := ⟨0xC0090074, 3, 1⟩
/-- a run of refusals began -/
def PTP_INT_ENABLE.jump_refused : Fld := ⟨0xC0090074, 2, 1⟩
/-- valid cleared -/
def PTP_INT_ENABLE.valid_lost : Fld := ⟨0xC0090074, 1, 1⟩
/-- valid set -/
def PTP_INT_ENABLE.valid_set : Fld := ⟨0xC0090074, 0, 1⟩

/-! ## ICU -/

/-- bit t: target t's output may be asserted -/
def ICU_CTRL.target_en (d : DieId) : Fld := ⟨d.space + 0x0, 0, 6⟩

/-- ignored completions; saturating -/
def ICU_STRAY.count (d : DieId) : Fld := ⟨d.space + 0x4, 0, 32⟩

/-- claims that returned the empty claim value 0x100; saturating -/
def ICU_EMPTY_CLAIMS.count (d : DieId) : Fld := ⟨d.space + 0x8, 0, 32⟩

/-- pending bits -/
def ICU_PEND.pend (d : DieId) (k : Nat) : Fld := ⟨d.space + 0x40 + 4 * k, 0, 32⟩

/-- enable bits -/
def ICU_EN.en (d : DieId) (k : Nat) : Fld := ⟨d.space + 0x60 + 4 * k, 0, 32⟩

/-- 1 sets pending -/
def ICU_PEND_SET.set (d : DieId) (k : Nat) : Fld := ⟨d.space + 0x80 + 4 * k, 0, 32⟩

/-- 1 clears pending, by R602 -/
def ICU_PEND_CLR.clr (d : DieId) (k : Nat) : Fld := ⟨d.space + 0xA0 + 4 * k, 0, 32⟩

/-- 1 sets enable -/
def ICU_EN_SET.set (d : DieId) (k : Nat) : Fld := ⟨d.space + 0xC0 + 4 * k, 0, 32⟩

/-- 1 clears enable -/
def ICU_EN_CLR.clr (d : DieId) (k : Nat) : Fld := ⟨d.space + 0xE0 + 4 * k, 0, 32⟩

/-- active bits -/
def ICU_ACTIVE.act (d : DieId) (k : Nat) : Fld := ⟨d.space + 0x100 + 4 * k, 0, 32⟩

/-- source lines now -/
def ICU_LINE.line (d : DieId) (k : Nat) : Fld := ⟨d.space + 0x120 + 4 * k, 0, 32⟩

/-- bit t - 4: route to target t -/
def ICU_ROUTE.host (d : DieId) (k : Nat) : Fld := ⟨d.space + 0x400 + 4 * k, 4, 2⟩
/-- routes to targets 0-3; 0 at die reset, then written by firmware at start, by R760 -/
def ICU_ROUTE.cores (d : DieId) (k : Nat) : Fld := ⟨d.space + 0x400 + 4 * k, 0, 4⟩

/-- another source remains offered to t after this claim -/
def ICU_CLAIM.more (d : DieId) (k : Nat) : Fld := ⟨d.space + 0x800 + 16 * k, 31, 1⟩
/-- the read claims, by R604; 0x100 empty claim -/
def ICU_CLAIM.source (d : DieId) (k : Nat) : Fld := ⟨d.space + 0x800 + 16 * k, 0, 9⟩

/-- completes, by R605 -/
def ICU_COMPLETE.source (d : DieId) (k : Nat) : Fld := ⟨d.space + 0x804 + 16 * k, 0, 9⟩

/-- target's output asserted -/
def ICU_TSTATUS.asserted (d : DieId) (k : Nat) : Fld := ⟨d.space + 0x808 + 16 * k, 31, 1⟩
/-- active source, 0x100 when none -/
def ICU_TSTATUS.active (d : DieId) (k : Nat) : Fld := ⟨d.space + 0x808 + 16 * k, 0, 9⟩

/-! ## HPT -/

/-- message window in service -/
def HPT_CTRL.msg_en : Fld := ⟨0xC0010000, 0, 1⟩

/-- space 0b00 now maps to: 0 die A, 1 die B, 2 none -/
def HPT_STATUS.stage : Fld := ⟨0xC0010004, 4, 2⟩
/-- code of the last failed word -/
def HPT_STATUS.last_code : Fld := ⟨0xC0010004, 0, 4⟩

/-- address of the last failed word -/
def HPT_ERR_ADDR.addr : Fld := ⟨0xC0010008, 0, 32⟩

/-- failed words; saturating -/
def HPT_ERRORS.count : Fld := ⟨0xC001000C, 0, 32⟩

/-- abandoned transactions; saturating -/
def HPT_ABORTS.count : Fld := ⟨0xC0010010, 0, 32⟩

/-- words ended by the cap; saturating -/
def HPT_STALLS.count : Fld := ⟨0xC0010014, 0, 32⟩

/-- longest HREADY low, 10 ns, since the last read -/
def HPT_STALL_MAX.time : Fld := ⟨0xC0010018, 0, 10⟩

/-- request octets, 12-1,152; the write submits -/
def HPT_MSG_DOOR.length : Fld := ⟨0xC0010020, 0, 11⟩

/-- request in progress -/
def HPT_MSG_STAT.busy : Fld := ⟨0xC0010024, 31, 1⟩
/-- response placed -/
def HPT_MSG_STAT.ready : Fld := ⟨0xC0010024, 30, 1⟩
/-- response octets -/
def HPT_MSG_STAT.rsp_len : Fld := ⟨0xC0010024, 0, 11⟩

/-- request octets 4w to 4w + 3 -/
def HPT_MSG_REQ.data (k : Nat) : Fld := ⟨0xC0010400 + 4 * k, 0, 32⟩

/-- response octets 4w to 4w + 3 -/
def HPT_MSG_RSP.data (k : Nat) : Fld := ⟨0xC0010880 + 4 * k, 0, 32⟩

/-- a word failed, or a transaction was abandoned -/
def HPT_INT_STATUS.error : Fld := ⟨0xC0010070, 1, 1⟩
/-- a response was placed -/
def HPT_INT_STATUS.msg_ready : Fld := ⟨0xC0010070, 0, 1⟩

/-- a word failed, or a transaction was abandoned -/
def HPT_INT_ENABLE.error : Fld := ⟨0xC0010074, 1, 1⟩
/-- a response was placed -/
def HPT_INT_ENABLE.msg_ready : Fld := ⟨0xC0010074, 0, 1⟩

/-! ## KEY -/

/-- bit s: slot s valid; loaded at unseal -/
def KEY_STATUS.slot_valid (d : DieId) : Fld := ⟨d.space + 0x50000, 16, 16⟩
/-- current segment key generation -/
def KEY_STATUS.seg_gen (d : DieId) : Fld := ⟨d.space + 0x50000, 8, 8⟩
/-- slot 9 held under the root -/
def KEY_STATUS.held (d : DieId) : Fld := ⟨d.space + 0x50000, 3, 1⟩
/-- slot 4 invalid -/
def KEY_STATUS.commission_only (d : DieId) : Fld := ⟨d.space + 0x50000, 2, 1⟩
/-- any latch bit set -/
def KEY_STATUS.tamper_latched (d : DieId) : Fld := ⟨d.space + 0x50000, 1, 1⟩
/-- a key operation is in progress on this die -/
def KEY_STATUS.busy (d : DieId) : Fld := ⟨d.space + 0x50000, 0, 1⟩

/-- event count; saturating -/
def KEY_TAMPER.events (d : DieId) : Fld := ⟨d.space + 0x50004, 16, 16⟩
/-- inputs now showing tamper: bits 3:0 switches, bit 4 mesh -/
def KEY_TAMPER.present (d : DieId) : Fld := ⟨d.space + 0x50004, 8, 5⟩
/-- bits 3:0 switches, bit 4 mesh, bit 5 lapse -/
def KEY_TAMPER.latched (d : DieId) : Fld := ⟨d.space + 0x50004, 0, 6⟩

/-- first event tick, bits 31:0; the read latches the high word -/
def KEY_TAMPER_TICK_LO.tick_lo (d : DieId) : Fld := ⟨d.space + 0x50008, 0, 32⟩

/-- bits 47:32 -/
def KEY_TAMPER_TICK_HI.tick_hi (d : DieId) : Fld := ⟨d.space + 0x5000C, 0, 16⟩

/-- key operations on this die; wraps -/
def KEY_OPS.count (d : DieId) : Fld := ⟨d.space + 0x50010, 0, 32⟩

/-- operations aborted by tamper; saturating -/
def KEY_ABORTS.count (d : DieId) : Fld := ⟨d.space + 0x50014, 0, 32⟩

/-- ghost-light re-masks seen; wraps -/
def KEY_REMASKS.count (d : DieId) : Fld := ⟨d.space + 0x50018, 0, 32⟩

/-- saturating -/
def KEY_IMPORT_REFUSED.count (d : DieId) : Fld := ⟨d.space + 0x5001C, 0, 32⟩

/-- slot of the last aborted operation -/
def KEY_LAST_ABORT.slot (d : DieId) : Fld := ⟨d.space + 0x50020, 24, 8⟩
/-- 1 unseal, 2 derive, 3 import, 4 generate, 5 sign, 6 tag check, 7 handshake -/
def KEY_LAST_ABORT.op (d : DieId) : Fld := ⟨d.space + 0x50020, 16, 8⟩

/-- WATCH_LAPSED at this start -/
def KEY_INT_STATUS.lapse (d : DieId) : Fld := ⟨d.space + 0x50070, 9, 1⟩
/-- a re-mask was deferred -/
def KEY_INT_STATUS.remask_late (d : DieId) : Fld := ⟨d.space + 0x50070, 8, 1⟩
/-- a segment key came into use -/
def KEY_INT_STATUS.seg_change (d : DieId) : Fld := ⟨d.space + 0x50070, 7, 1⟩
/-- a statement is ready -/
def KEY_INT_STATUS.attest_ready (d : DieId) : Fld := ⟨d.space + 0x50070, 6, 1⟩
/-- an import was refused -/
def KEY_INT_STATUS.import_refused (d : DieId) : Fld := ⟨d.space + 0x50070, 5, 1⟩
/-- a key was imported or generated -/
def KEY_INT_STATUS.import_done (d : DieId) : Fld := ⟨d.space + 0x50070, 4, 1⟩
/-- a slot was invalidated -/
def KEY_INT_STATUS.invalidated (d : DieId) : Fld := ⟨d.space + 0x50070, 3, 1⟩
/-- a key operation was aborted -/
def KEY_INT_STATUS.op_aborted (d : DieId) : Fld := ⟨d.space + 0x50070, 2, 1⟩
/-- the latch was cleared -/
def KEY_INT_STATUS.tamper_clear (d : DieId) : Fld := ⟨d.space + 0x50070, 1, 1⟩
/-- a tamper event was confirmed -/
def KEY_INT_STATUS.tamper (d : DieId) : Fld := ⟨d.space + 0x50070, 0, 1⟩

/-- WATCH_LAPSED at this start -/
def KEY_INT_ENABLE.lapse (d : DieId) : Fld := ⟨d.space + 0x50074, 9, 1⟩
/-- a re-mask was deferred -/
def KEY_INT_ENABLE.remask_late (d : DieId) : Fld := ⟨d.space + 0x50074, 8, 1⟩
/-- a segment key came into use -/
def KEY_INT_ENABLE.seg_change (d : DieId) : Fld := ⟨d.space + 0x50074, 7, 1⟩
/-- a statement is ready -/
def KEY_INT_ENABLE.attest_ready (d : DieId) : Fld := ⟨d.space + 0x50074, 6, 1⟩
/-- an import was refused -/
def KEY_INT_ENABLE.import_refused (d : DieId) : Fld := ⟨d.space + 0x50074, 5, 1⟩
/-- a key was imported or generated -/
def KEY_INT_ENABLE.import_done (d : DieId) : Fld := ⟨d.space + 0x50074, 4, 1⟩
/-- a slot was invalidated -/
def KEY_INT_ENABLE.invalidated (d : DieId) : Fld := ⟨d.space + 0x50074, 3, 1⟩
/-- a key operation was aborted -/
def KEY_INT_ENABLE.op_aborted (d : DieId) : Fld := ⟨d.space + 0x50074, 2, 1⟩
/-- the latch was cleared -/
def KEY_INT_ENABLE.tamper_clear (d : DieId) : Fld := ⟨d.space + 0x50074, 1, 1⟩
/-- a tamper event was confirmed -/
def KEY_INT_ENABLE.tamper (d : DieId) : Fld := ⟨d.space + 0x50074, 0, 1⟩

/-! ## GRN -/

/-- 0 none, 1 accepted, 2 preparing, 3 ready, 4 probation, 5 missed, 6 rejected, 7 accepted at end -/
def GRN_STATUS.act_state (d : DieId) : Fld := ⟨d.space + 0x60000, 16, 3⟩
/-- 0 empty, 1 receiving, 2 valid, 3 invalid -/
def GRN_STATUS.stage_state (d : DieId) : Fld := ⟨d.space + 0x60000, 8, 3⟩
/-- run slot 1 valid -/
def GRN_STATUS.slot1_ok (d : DieId) : Fld := ⟨d.space + 0x60000, 2, 1⟩
/-- run slot 0 valid -/
def GRN_STATUS.slot0_ok (d : DieId) : Fld := ⟨d.space + 0x60000, 1, 1⟩
/-- run slot booted -/
def GRN_STATUS.running (d : DieId) : Fld := ⟨d.space + 0x60000, 0, 1⟩

/-- version in run slot 0 -/
def GRN_RUN_VER0.version (d : DieId) : Fld := ⟨d.space + 0x60004, 0, 32⟩

/-- version in run slot 1 -/
def GRN_RUN_VER1.version (d : DieId) : Fld := ⟨d.space + 0x60008, 0, 32⟩

/-- version in the staging slot -/
def GRN_STAGE_VER.version (d : DieId) : Fld := ⟨d.space + 0x6000C, 0, 32⟩

/-- rejected version; 0 none -/
def GRN_REJECTED.version (d : DieId) : Fld := ⟨d.space + 0x60010, 0, 32⟩

/-- minimum security version -/
def GRN_SECURITY.minimum (d : DieId) : Fld := ⟨d.space + 0x60014, 0, 16⟩

/-- T, bits 31:0; the read latches the high word -/
def GRN_ACT_TAI_LO.tai_lo (d : DieId) : Fld := ⟨d.space + 0x60018, 0, 32⟩

/-- bits 63:32 -/
def GRN_ACT_TAI_HI.tai_hi (d : DieId) : Fld := ⟨d.space + 0x6001C, 0, 32⟩

/-- probation seconds left -/
def GRN_PROB_LEFT.seconds (d : DieId) : Fld := ⟨d.space + 0x60020, 0, 32⟩

/-- a campaign runs -/
def GRN_NODE_SLOTS.campaign (d : DieId) : Fld := ⟨d.space + 0x60024, 8, 1⟩
/-- bit n: node slot n valid -/
def GRN_NODE_SLOTS.valid (d : DieId) : Fld := ⟨d.space + 0x60024, 0, 8⟩

/-- saturating -/
def GRN_BOOT_FALLBACKS.count (d : DieId) : Fld := ⟨d.space + 0x60028, 0, 32⟩

/-- a campaign ended -/
def GRN_INT_STATUS.campaign_done (d : DieId) : Fld := ⟨d.space + 0x60070, 7, 1⟩
/-- R656 -/
def GRN_INT_STATUS.boot_fallback (d : DieId) : Fld := ⟨d.space + 0x60070, 6, 1⟩
/-- probation ended with rejection -/
def GRN_INT_STATUS.rejected (d : DieId) : Fld := ⟨d.space + 0x60070, 5, 1⟩
/-- probation ended with acceptance -/
def GRN_INT_STATUS.probation_end (d : DieId) : Fld := ⟨d.space + 0x60070, 4, 1⟩
/-- R661 -/
def GRN_INT_STATUS.activation_missed (d : DieId) : Fld := ⟨d.space + 0x60070, 3, 1⟩
/-- the new image holds the stage -/
def GRN_INT_STATUS.activated (d : DieId) : Fld := ⟨d.space + 0x60070, 2, 1⟩
/-- preparation began -/
def GRN_INT_STATUS.prep_start (d : DieId) : Fld := ⟨d.space + 0x60070, 1, 1⟩
/-- a Stage end completed, valid or invalid -/
def GRN_INT_STATUS.stage_end (d : DieId) : Fld := ⟨d.space + 0x60070, 0, 1⟩

/-- a campaign ended -/
def GRN_INT_ENABLE.campaign_done (d : DieId) : Fld := ⟨d.space + 0x60074, 7, 1⟩
/-- R656 -/
def GRN_INT_ENABLE.boot_fallback (d : DieId) : Fld := ⟨d.space + 0x60074, 6, 1⟩
/-- probation ended with rejection -/
def GRN_INT_ENABLE.rejected (d : DieId) : Fld := ⟨d.space + 0x60074, 5, 1⟩
/-- probation ended with acceptance -/
def GRN_INT_ENABLE.probation_end (d : DieId) : Fld := ⟨d.space + 0x60074, 4, 1⟩
/-- R661 -/
def GRN_INT_ENABLE.activation_missed (d : DieId) : Fld := ⟨d.space + 0x60074, 3, 1⟩
/-- the new image holds the stage -/
def GRN_INT_ENABLE.activated (d : DieId) : Fld := ⟨d.space + 0x60074, 2, 1⟩
/-- preparation began -/
def GRN_INT_ENABLE.prep_start (d : DieId) : Fld := ⟨d.space + 0x60074, 1, 1⟩
/-- a Stage end completed, valid or invalid -/
def GRN_INT_ENABLE.stage_end (d : DieId) : Fld := ⟨d.space + 0x60074, 0, 1⟩

/-! ## CBD -/

/-- CALLBOARD_FULL stored -/
def CBD_STATUS.full (d : DieId) : Fld := ⟨d.space + 0x70000, 31, 1⟩
/-- records in the main log, 0-262,144 -/
def CBD_STATUS.fill (d : DieId) : Fld := ⟨d.space + 0x70000, 0, 19⟩

/-- sequence of the next record -/
def CBD_NEXT_SEQ.seq (d : DieId) : Fld := ⟨d.space + 0x70004, 0, 32⟩

/-- R682; saturating -/
def CBD_LOST.count (d : DieId) : Fld := ⟨d.space + 0x70008, 0, 32⟩

/-- clears; wraps -/
def CBD_CLEARS.count (d : DieId) : Fld := ⟨d.space + 0x7000C, 0, 32⟩

/-- window position of the newest record -/
def CBD_WIN_HEAD.pos (d : DieId) : Fld := ⟨d.space + 0x70010, 0, 8⟩

/-- code of the last record stored or repeated -/
def CBD_LAST.code (d : DieId) : Fld := ⟨d.space + 0x70014, 16, 16⟩
/-- its source -/
def CBD_LAST.source (d : DieId) : Fld := ⟨d.space + 0x70014, 0, 16⟩

/-- occurrences counted as repeats; wraps -/
def CBD_REPEATS.count (d : DieId) : Fld := ⟨d.space + 0x70018, 0, 32⟩

/-- intake items discarded by R264; saturating -/
def CBD_INTAKE_DROPS.count (d : DieId) : Fld := ⟨d.space + 0x7001C, 0, 32⟩

/-- records forwarded by this die; wraps -/
def CBD_FORWARDED.count (d : DieId) : Fld := ⟨d.space + 0x70020, 0, 32⟩

/-- warning fill; loaded from object 0x7806 -/
def CBD_WARN.fill (d : DieId) : Fld := ⟨d.space + 0x70024, 0, 19⟩

/-- word w of the window record at CBD_WIN_SEL -/
def CBD_WIN.data (d : DieId) (k : Nat) : Fld := ⟨d.space + 0x70100 + 4 * k, 0, 32⟩

/-- 0 newest to 255 oldest -/
def CBD_WIN_SEL.age (d : DieId) : Fld := ⟨d.space + 0x70140, 0, 8⟩

/-- the callboard was cleared -/
def CBD_INT_STATUS.cleared (d : DieId) : Fld := ⟨d.space + 0x70070, 5, 1⟩
/-- an occurrence was lost -/
def CBD_INT_STATUS.lost (d : DieId) : Fld := ⟨d.space + 0x70070, 4, 1⟩
/-- CALLBOARD_FULL stored -/
def CBD_INT_STATUS.full (d : DieId) : Fld := ⟨d.space + 0x70070, 3, 1⟩
/-- fill reached the warning fill -/
def CBD_INT_STATUS.warn (d : DieId) : Fld := ⟨d.space + 0x70070, 2, 1⟩
/-- fill reached 131,072 -/
def CBD_INT_STATUS.half (d : DieId) : Fld := ⟨d.space + 0x70070, 1, 1⟩
/-- a record was stored -/
def CBD_INT_STATUS.stored (d : DieId) : Fld := ⟨d.space + 0x70070, 0, 1⟩

/-- the callboard was cleared -/
def CBD_INT_ENABLE.cleared (d : DieId) : Fld := ⟨d.space + 0x70074, 5, 1⟩
/-- an occurrence was lost -/
def CBD_INT_ENABLE.lost (d : DieId) : Fld := ⟨d.space + 0x70074, 4, 1⟩
/-- CALLBOARD_FULL stored -/
def CBD_INT_ENABLE.full (d : DieId) : Fld := ⟨d.space + 0x70074, 3, 1⟩
/-- fill reached the warning fill -/
def CBD_INT_ENABLE.warn (d : DieId) : Fld := ⟨d.space + 0x70074, 2, 1⟩
/-- fill reached 131,072 -/
def CBD_INT_ENABLE.half (d : DieId) : Fld := ⟨d.space + 0x70074, 1, 1⟩
/-- a record was stored -/
def CBD_INT_ENABLE.stored (d : DieId) : Fld := ⟨d.space + 0x70074, 0, 1⟩

/-! ## TST -/

/-- debug port live -/
def TST_MODE.debug (d : DieId) : Fld := ⟨d.space + 0x80000, 2, 1⟩
/-- TAP out of reset -/
def TST_MODE.tap (d : DieId) : Fld := ⟨d.space + 0x80000, 1, 1⟩
/-- offline mode in force -/
def TST_MODE.offline (d : DieId) : Fld := ⟨d.space + 0x80000, 0, 1⟩

/-- requests waiting, 0-16 -/
def TST_QUEUE.queued (d : DieId) : Fld := ⟨d.space + 0x80004, 8, 8⟩
/-- test code running; 0 none -/
def TST_QUEUE.running (d : DieId) : Fld := ⟨d.space + 0x80004, 0, 8⟩

/-- code of the last test ended -/
def TST_LAST.test (d : DieId) : Fld := ⟨d.space + 0x80008, 24, 8⟩
/-- its instance -/
def TST_LAST.inst (d : DieId) : Fld := ⟨d.space + 0x80008, 16, 8⟩
/-- R687 -/
def TST_LAST.result (d : DieId) : Fld := ⟨d.space + 0x80008, 8, 8⟩

/-- test-specific detail -/
def TST_LAST_DETAIL.detail (d : DieId) : Fld := ⟨d.space + 0x8000C, 0, 32⟩

/-- cycle bits 31:0 of its end -/
def TST_LAST_CYCLE.cycle (d : DieId) : Fld := ⟨d.space + 0x80010, 0, 32⟩

/-- wraps -/
def TST_PASSES.count (d : DieId) : Fld := ⟨d.space + 0x80014, 0, 32⟩

/-- saturating -/
def TST_FAILS.count (d : DieId) : Fld := ⟨d.space + 0x80018, 0, 32⟩

/-- bit c: spare of physical cluster c marked failed -/
def TST_SPARE_FAIL.failed (d : DieId) : Fld := ⟨d.space + 0x8001C, 0, 32⟩

/-- the TAP left reset -/
def TST_INT_STATUS.tap_active (d : DieId) : Fld := ⟨d.space + 0x80070, 5, 1⟩
/-- offline mode entered -/
def TST_INT_STATUS.offline (d : DieId) : Fld := ⟨d.space + 0x80070, 4, 1⟩
/-- a spare failed test 2 -/
def TST_INT_STATUS.spare_fail (d : DieId) : Fld := ⟨d.space + 0x80070, 3, 1⟩
/-- a request was refused -/
def TST_INT_STATUS.test_refused (d : DieId) : Fld := ⟨d.space + 0x80070, 2, 1⟩
/-- a test failed -/
def TST_INT_STATUS.test_fail (d : DieId) : Fld := ⟨d.space + 0x80070, 1, 1⟩
/-- a test ended -/
def TST_INT_STATUS.test_done (d : DieId) : Fld := ⟨d.space + 0x80070, 0, 1⟩

/-- the TAP left reset -/
def TST_INT_ENABLE.tap_active (d : DieId) : Fld := ⟨d.space + 0x80074, 5, 1⟩
/-- offline mode entered -/
def TST_INT_ENABLE.offline (d : DieId) : Fld := ⟨d.space + 0x80074, 4, 1⟩
/-- a spare failed test 2 -/
def TST_INT_ENABLE.spare_fail (d : DieId) : Fld := ⟨d.space + 0x80074, 3, 1⟩
/-- a request was refused -/
def TST_INT_ENABLE.test_refused (d : DieId) : Fld := ⟨d.space + 0x80074, 2, 1⟩
/-- a test failed -/
def TST_INT_ENABLE.test_fail (d : DieId) : Fld := ⟨d.space + 0x80074, 1, 1⟩
/-- a test ended -/
def TST_INT_ENABLE.test_done (d : DieId) : Fld := ⟨d.space + 0x80074, 0, 1⟩

/-! ## MCTL -/

/-- start cause, set in step 2: 1 supply-good, 2 commanded restart -/
def MCTL_STATUS.cause : Fld := ⟨0xC0000000, 12, 4⟩
/-- last start-up step reached, 1-9 -/
def MCTL_STATUS.step : Fld := ⟨0xC0000000, 8, 4⟩
/-- 0 undecided, 1 die A, 2 die B, 3 none -/
def MCTL_STATUS.stage_choice : Fld := ⟨0xC0000000, 6, 2⟩
/-- outputs enabled -/
def MCTL_STATUS.outputs_en : Fld := ⟨0xC0000000, 5, 1⟩
/-- power failure detected -/
def MCTL_STATUS.pfail : Fld := ⟨0xC0000000, 3, 1⟩
/-- input above 36 V -/
def MCTL_STATUS.vin_high : Fld := ⟨0xC0000000, 2, 1⟩
/-- input below 18 V -/
def MCTL_STATUS.vin_low : Fld := ⟨0xC0000000, 1, 1⟩
/-- input at or above 16 V, no failure detected -/
def MCTL_STATUS.supply_good : Fld := ⟨0xC0000000, 0, 1⟩

/-- input voltage, mV, updated every 1 ms -/
def MCTL_VIN.mv : Fld := ⟨0xC0000004, 0, 16⟩

/-- supply-good to step 9; 0 until step 9 -/
def MCTL_START_TIME.ms : Fld := ⟨0xC0000008, 0, 16⟩

/-- the last power failure left a flush unfinished -/
def MCTL_INT_STATUS.flush_short : Fld := ⟨0xC0000070, 6, 1⟩
/-- the last power failure fell below 12 V within 20 ms -/
def MCTL_INT_STATUS.hold_short : Fld := ⟨0xC0000070, 5, 1⟩
/-- no die chosen at step 6 -/
def MCTL_INT_STATUS.no_stage : Fld := ⟨0xC0000070, 4, 1⟩
/-- step 9 reached -/
def MCTL_INT_STATUS.outputs_enabled : Fld := ⟨0xC0000070, 3, 1⟩
/-- input above 36 V -/
def MCTL_INT_STATUS.vin_high : Fld := ⟨0xC0000070, 2, 1⟩
/-- input below 18 V -/
def MCTL_INT_STATUS.vin_low : Fld := ⟨0xC0000070, 1, 1⟩
/-- power failure detected -/
def MCTL_INT_STATUS.pfail : Fld := ⟨0xC0000070, 0, 1⟩

/-- the last power failure left a flush unfinished -/
def MCTL_INT_ENABLE.flush_short : Fld := ⟨0xC0000074, 6, 1⟩
/-- the last power failure fell below 12 V within 20 ms -/
def MCTL_INT_ENABLE.hold_short : Fld := ⟨0xC0000074, 5, 1⟩
/-- no die chosen at step 6 -/
def MCTL_INT_ENABLE.no_stage : Fld := ⟨0xC0000074, 4, 1⟩
/-- step 9 reached -/
def MCTL_INT_ENABLE.outputs_enabled : Fld := ⟨0xC0000074, 3, 1⟩
/-- input above 36 V -/
def MCTL_INT_ENABLE.vin_high : Fld := ⟨0xC0000074, 2, 1⟩
/-- input below 18 V -/
def MCTL_INT_ENABLE.vin_low : Fld := ⟨0xC0000074, 1, 1⟩
/-- power failure detected -/
def MCTL_INT_ENABLE.pfail : Fld := ⟨0xC0000074, 0, 1⟩

/-! ## GHL -/

/-- the ghost light ran on the backup since last cleared -/
def GHL_SUPPLY.ran_backup : Fld := ⟨0xC0030100, 31, 1⟩
/-- VBAT below the threshold -/
def GHL_SUPPLY.backup_low : Fld := ⟨0xC0030100, 30, 1⟩
/-- set at ghost-light reset; R720 -/
def GHL_SUPPLY.lapsed : Fld := ⟨0xC0030100, 29, 1⟩
/-- supercapacitor charging -/
def GHL_SUPPLY.charging : Fld := ⟨0xC0030100, 28, 1⟩
/-- standby rail, mV -/
def GHL_SUPPLY.vstby : Fld := ⟨0xC0030100, 13, 13⟩
/-- VBAT, mV -/
def GHL_SUPPLY.vbat : Fld := ⟨0xC0030100, 0, 13⟩

/-- 0 primary cell, 1 supercapacitor -/
def GHL_BACKUP_CFG.kind : Fld := ⟨0xC0030104, 16, 1⟩
/-- backup_low threshold, mV, 2,000-3,000; outside this range a violation -/
def GHL_BACKUP_CFG.low_mv : Fld := ⟨0xC0030104, 0, 13⟩

/-- a note has been written -/
def GHL_PFAIL_NOTE.valid : Fld := ⟨0xC0030108, 31, 1⟩
/-- die A ended its flush -/
def GHL_PFAIL_NOTE.flush_a : Fld := ⟨0xC0030108, 30, 1⟩
/-- die B ended its flush -/
def GHL_PFAIL_NOTE.flush_b : Fld := ⟨0xC0030108, 29, 1⟩
/-- R706 -/
def GHL_PFAIL_NOTE.hold_short : Fld := ⟨0xC0030108, 28, 1⟩
/-- R712 -/
def GHL_PFAIL_NOTE.early : Fld := ⟨0xC0030108, 27, 1⟩
/-- detection to reset, ms; saturating -/
def GHL_PFAIL_NOTE.ms : Fld := ⟨0xC0030108, 0, 16⟩

/-- ghost-light resets since manufacture; loaded from the root store cells; saturating -/
def GHL_RESETS.count : Fld := ⟨0xC003010C, 0, 32⟩

/-- seconds on the backup since reset; saturating -/
def GHL_BACKUP_SECONDS.seconds : Fld := ⟨0xC0030110, 0, 32⟩

/-- switches to the backup since reset; saturating -/
def GHL_SWITCHES.count : Fld := ⟨0xC0030114, 0, 32⟩

/-- object 0x6060 -/
def GHL_THEFT_CFG.enable : Fld := ⟨0xC0030140, 31, 1⟩
/-- third selected input -/
def GHL_THEFT_CFG.in2 : Fld := ⟨0xC0030140, 10, 5⟩
/-- second selected input -/
def GHL_THEFT_CFG.in1 : Fld := ⟨0xC0030140, 5, 5⟩
/-- first selected input -/
def GHL_THEFT_CFG.in0 : Fld := ⟨0xC0030140, 0, 5⟩

/-- threshold, primary mA -/
def GHL_THEFT_THR.ma : Fld := ⟨0xC0030144, 0, 32⟩

/-- the watch runs -/
def GHL_THEFT_STATUS.running : Fld := ⟨0xC0030148, 31, 1⟩
/-- header bit 1 of R434 -/
def GHL_THEFT_STATUS.lapsed : Fld := ⟨0xC0030148, 30, 1⟩
/-- header bit 2 of R434 -/
def GHL_THEFT_STATUS.wrapped : Fld := ⟨0xC0030148, 29, 1⟩
/-- index of the next record, 0-251 -/
def GHL_THEFT_STATUS.next : Fld := ⟨0xC0030148, 0, 8⟩

/-- minutes with flow since the last clear -/
def GHL_THEFT_MINUTES.minutes : Fld := ⟨0xC003014C, 0, 32⟩

/-- the ghost light ran on the backup -/
def GHL_PWR_INT_STATUS.switched : Fld := ⟨0xC0030170, 3, 1⟩
/-- R717 -/
def GHL_PWR_INT_STATUS.charge_fault : Fld := ⟨0xC0030170, 2, 1⟩
/-- a ghost-light reset occurred -/
def GHL_PWR_INT_STATUS.watch_lapsed : Fld := ⟨0xC0030170, 1, 1⟩
/-- VBAT fell below the threshold -/
def GHL_PWR_INT_STATUS.backup_low : Fld := ⟨0xC0030170, 0, 1⟩

/-- the ghost light ran on the backup -/
def GHL_PWR_INT_ENABLE.switched : Fld := ⟨0xC0030174, 3, 1⟩
/-- R717 -/
def GHL_PWR_INT_ENABLE.charge_fault : Fld := ⟨0xC0030174, 2, 1⟩
/-- a ghost-light reset occurred -/
def GHL_PWR_INT_ENABLE.watch_lapsed : Fld := ⟨0xC0030174, 1, 1⟩
/-- VBAT fell below the threshold -/
def GHL_PWR_INT_ENABLE.backup_low : Fld := ⟨0xC0030174, 0, 1⟩

/-- The violation registers of a window, given the window's base (R599). -/
def VIOL_ADDR.addr (base : Nat) : Fld := ⟨base + 0xFF0, 0, 32⟩
def VIOL_INFO.valid (base : Nat) : Fld := ⟨base + 0xFF4, 31, 1⟩
def VIOL_INFO.requester (base : Nat) : Fld := ⟨base + 0xFF4, 28, 3⟩
def VIOL_INFO.kind (base : Nat) : Fld := ⟨base + 0xFF4, 24, 4⟩
def VIOL_INFO.write (base : Nat) : Fld := ⟨base + 0xFF4, 23, 1⟩
def VIOL_INFO.alias_ (base : Nat) : Fld := ⟨base + 0xFF4, 22, 1⟩
def VIOL_COUNT.count (base : Nat) : Fld := ⟨base + 0xFF8, 0, 32⟩

/-- The violation registers as rows of every window's table (R599). -/
def violRegs : List RegDesc := [
  ⟨0xFF0, 0, 1, [⟨31, 0, .ro⟩]⟩,
  ⟨0xFF4, 0, 1, [⟨31, 31, .w1c⟩, ⟨30, 28, .ro⟩, ⟨27, 24, .ro⟩, ⟨23, 23, .ro⟩, ⟨22, 22, .ro⟩]⟩,
  ⟨0xFF8, 0, 1, [⟨31, 0, .ro⟩]⟩]

/-- Registers of the CYC block, in offset order. -/
def cycRegs : List RegDesc := [
  -- CYC_CTRL
  ⟨0x0, 0, 1, [⟨23, 16, .rw⟩, ⟨15, 8, .rw⟩, ⟨3, 2, .rw⟩, ⟨1, 1, .rw⟩, ⟨0, 0, .rw⟩]⟩,
  -- CYC_STATUS
  ⟨0x4, 0, 1, [⟨15, 12, .ro⟩, ⟨10, 8, .ro⟩, ⟨6, 6, .ro⟩, ⟨5, 5, .ro⟩, ⟨4, 4, .ro⟩, ⟨3, 3, .ro⟩, ⟨2, 0, .ro⟩]⟩,
  -- CYC_STAMP_LO
  ⟨0x8, 0, 1, [⟨31, 10, .ro⟩, ⟨9, 0, .ro⟩]⟩,
  -- CYC_STAMP_HI
  ⟨0xC, 0, 1, [⟨31, 31, .ro⟩, ⟨25, 0, .ro⟩]⟩,
  -- CYC_PERIOD
  ⟨0x10, 0, 1, [⟨31, 0, .ro⟩]⟩,
  -- CYC_PHASE_ERR
  ⟨0x14, 0, 1, [⟨31, 16, .ro⟩, ⟨15, 0, .ro⟩]⟩,
  -- CYC_ZC_OFFSET
  ⟨0x18, 0, 1, [⟨15, 0, .rw⟩]⟩,
  -- CYC_SKEW_V
  ⟨0x1C, 4, 3, [⟨31, 31, .ro⟩, ⟨9, 0, .ro⟩]⟩,
  -- CYC_GHOST_EVENTS
  ⟨0x28, 0, 1, [⟨31, 0, .ro⟩]⟩,
  -- CYC_GHOST_CYCLES
  ⟨0x2C, 0, 1, [⟨31, 0, .ro⟩]⟩,
  -- CYC_GLITCHES
  ⟨0x30, 0, 1, [⟨31, 0, .ro⟩]⟩,
  -- CYC_MAP_PERIOD
  ⟨0x34, 0, 1, [⟨31, 0, .ro⟩]⟩,
  -- CYC_TAI_P0_LO
  ⟨0x38, 0, 1, [⟨31, 0, .ro⟩]⟩,
  -- CYC_TAI_P0_HI
  ⟨0x3C, 0, 1, [⟨31, 0, .ro⟩]⟩,
  -- CYC_MAP_ERR
  ⟨0x40, 0, 1, [⟨31, 0, .ro⟩]⟩,
  -- CYC_MAP_ERR_MAX
  ⟨0x44, 0, 1, [⟨31, 0, .rc⟩]⟩,
  -- CYC_MAP_ERR_LIMIT
  ⟨0x48, 0, 1, [⟨31, 0, .rw⟩]⟩,
  -- CYC_OPTIME
  ⟨0x4C, 0, 1, [⟨31, 0, .ro⟩]⟩,
  -- CYC_PWRCYC
  ⟨0x50, 0, 1, [⟨23, 0, .ro⟩]⟩,
  -- CYC_INT_STATUS
  ⟨0x54, 0, 1, [⟨6, 6, .w1c⟩, ⟨5, 5, .w1c⟩, ⟨4, 4, .w1c⟩, ⟨3, 3, .w1c⟩, ⟨2, 2, .w1c⟩, ⟨1, 1, .w1c⟩, ⟨0, 0, .w1c⟩]⟩,
  -- CYC_INT_ENABLE
  ⟨0x58, 0, 1, [⟨6, 6, .rw⟩, ⟨5, 5, .rw⟩, ⟨4, 4, .rw⟩, ⟨3, 3, .rw⟩, ⟨2, 2, .rw⟩, ⟨1, 1, .rw⟩, ⟨0, 0, .rw⟩]⟩]

/-- Registers of the GHL block, in offset order. -/
def ghlRegs : List RegDesc := [
  -- GHL_RTC_LO
  ⟨0x0, 0, 1, [⟨31, 0, .ro⟩]⟩,
  -- GHL_RTC_HI
  ⟨0x4, 0, 1, [⟨15, 0, .ro⟩]⟩,
  -- GHL_RTC_STATUS
  ⟨0x8, 0, 1, [⟨31, 16, .ro⟩, ⟨15, 8, .ro⟩, ⟨1, 1, .ro⟩, ⟨0, 0, .ro⟩]⟩,
  -- GHL_RTC_SET_LO
  ⟨0xC, 0, 1, [⟨31, 0, .wo⟩]⟩,
  -- GHL_RTC_SET_HI
  ⟨0x10, 0, 1, [⟨0, 0, .wo⟩]⟩,
  -- GHL_RTC_TRIM
  ⟨0x14, 0, 1, [⟨15, 0, .rw⟩]⟩,
  -- GHL_RTC_COMP
  ⟨0x18, 0, 1, [⟨0, 0, .rw⟩]⟩,
  -- GHL_RTC_INT_STATUS
  ⟨0x70, 0, 1, [⟨2, 2, .w1c⟩, ⟨1, 1, .w1c⟩, ⟨0, 0, .w1c⟩]⟩,
  -- GHL_RTC_INT_ENABLE
  ⟨0x74, 0, 1, [⟨2, 2, .rw⟩, ⟨1, 1, .rw⟩, ⟨0, 0, .rw⟩]⟩,
  -- GHL_RTC_CURVE
  ⟨0x78, 4, 33, [⟨15, 0, .ro⟩]⟩,
  -- GHL_SUPPLY
  ⟨0x100, 0, 1, [⟨31, 31, .w1c⟩, ⟨30, 30, .ro⟩, ⟨29, 29, .w1c⟩, ⟨28, 28, .ro⟩, ⟨25, 13, .ro⟩, ⟨12, 0, .ro⟩]⟩,
  -- GHL_BACKUP_CFG
  ⟨0x104, 0, 1, [⟨16, 16, .rw⟩, ⟨12, 0, .rw⟩]⟩,
  -- GHL_PFAIL_NOTE
  ⟨0x108, 0, 1, [⟨31, 31, .ro⟩, ⟨30, 30, .ro⟩, ⟨29, 29, .ro⟩, ⟨28, 28, .ro⟩, ⟨27, 27, .ro⟩, ⟨15, 0, .ro⟩]⟩,
  -- GHL_RESETS
  ⟨0x10C, 0, 1, [⟨31, 0, .ro⟩]⟩,
  -- GHL_BACKUP_SECONDS
  ⟨0x110, 0, 1, [⟨31, 0, .ro⟩]⟩,
  -- GHL_SWITCHES
  ⟨0x114, 0, 1, [⟨31, 0, .ro⟩]⟩,
  -- GHL_THEFT_CFG
  ⟨0x140, 0, 1, [⟨31, 31, .ro⟩, ⟨14, 10, .ro⟩, ⟨9, 5, .ro⟩, ⟨4, 0, .ro⟩]⟩,
  -- GHL_THEFT_THR
  ⟨0x144, 0, 1, [⟨31, 0, .ro⟩]⟩,
  -- GHL_THEFT_STATUS
  ⟨0x148, 0, 1, [⟨31, 31, .ro⟩, ⟨30, 30, .ro⟩, ⟨29, 29, .ro⟩, ⟨7, 0, .ro⟩]⟩,
  -- GHL_THEFT_MINUTES
  ⟨0x14C, 0, 1, [⟨31, 0, .ro⟩]⟩,
  -- GHL_PWR_INT_STATUS
  ⟨0x170, 0, 1, [⟨3, 3, .w1c⟩, ⟨2, 2, .w1c⟩, ⟨1, 1, .w1c⟩, ⟨0, 0, .w1c⟩]⟩,
  -- GHL_PWR_INT_ENABLE
  ⟨0x174, 0, 1, [⟨3, 3, .rw⟩, ⟨2, 2, .rw⟩, ⟨1, 1, .rw⟩, ⟨0, 0, .rw⟩]⟩]

/-- Registers of the EPS block, in offset order. -/
def epsRegs : List RegDesc := [
  -- EPS_CTRL
  ⟨0x0, 0, 1, [⟨15, 8, .rw⟩, ⟨1, 1, .rw⟩, ⟨0, 0, .rw⟩]⟩,
  -- EPS_STATUS
  ⟨0x4, 0, 1, [⟨31, 16, .ro⟩, ⟨1, 1, .ro⟩, ⟨0, 0, .ro⟩]⟩,
  -- EPS_STAGE_REFUSED
  ⟨0x8, 0, 1, [⟨31, 0, .ro⟩]⟩,
  -- EPS_WB_BACKLOG
  ⟨0xC, 0, 1, [⟨31, 0, .ro⟩]⟩,
  -- EPS_WB_AGE_MAX
  ⟨0x10, 0, 1, [⟨31, 0, .rc⟩]⟩,
  -- EPS_ECC_CORR
  ⟨0x14, 0, 1, [⟨31, 0, .ro⟩]⟩,
  -- EPS_ECC_UNCORR
  ⟨0x18, 0, 1, [⟨31, 0, .ro⟩]⟩,
  -- EPS_ECC_REPAIRED
  ⟨0x1C, 0, 1, [⟨31, 0, .ro⟩]⟩,
  -- EPS_ECC_LAST_ADDR
  ⟨0x20, 0, 1, [⟨31, 0, .ro⟩]⟩,
  -- EPS_SPARE_B
  ⟨0x30, 4, 4, [⟨9, 0, .ro⟩]⟩,
  -- EPS_SCRUB_POS
  ⟨0x40, 0, 1, [⟨31, 30, .ro⟩, ⟨15, 0, .ro⟩]⟩,
  -- EPS_REMAP_CMD
  ⟨0x50, 0, 1, [⟨31, 31, .wo⟩, ⟨7, 0, .wo⟩]⟩,
  -- EPS_REMAP_STATUS
  ⟨0x54, 0, 1, [⟨31, 24, .ro⟩, ⟨14, 6, .ro⟩, ⟨1, 0, .ro⟩]⟩,
  -- EPS_INT_STATUS
  ⟨0x60, 0, 1, [⟨5, 5, .w1c⟩, ⟨4, 4, .w1c⟩, ⟨3, 3, .w1c⟩, ⟨2, 2, .w1c⟩, ⟨1, 1, .w1c⟩, ⟨0, 0, .w1c⟩]⟩,
  -- EPS_INT_ENABLE
  ⟨0x64, 0, 1, [⟨5, 5, .rw⟩, ⟨4, 4, .rw⟩, ⟨3, 3, .rw⟩, ⟨2, 2, .rw⟩, ⟨1, 1, .rw⟩, ⟨0, 0, .rw⟩]⟩,
  -- EPS_UNIT_MAP
  ⟨0x400, 4, 256, [⟨31, 31, .ro⟩, ⟨8, 0, .ro⟩]⟩]

/-- Registers of the CUE block, in offset order (part 1). -/
def cueRegs0 : List RegDesc := [
  -- CUE_CTRL
  ⟨0x0, 0, 1, [⟨7, 0, .rw⟩]⟩,
  -- CUE_SWEEP_STATUS
  ⟨0x4, 0, 1, [⟨31, 31, .ro⟩, ⟨24, 16, .ro⟩, ⟨15, 0, .ro⟩]⟩,
  -- CUE_PASS_CYCLE_LO
  ⟨0x8, 0, 1, [⟨31, 0, .ro⟩]⟩,
  -- CUE_PASS_CYCLE_HI
  ⟨0xC, 0, 1, [⟨15, 0, .ro⟩]⟩,
  -- CUE_PASS_TIME
  ⟨0x10, 0, 1, [⟨15, 0, .ro⟩]⟩,
  -- CUE_PASS_TIME_MAX
  ⟨0x14, 0, 1, [⟨15, 0, .rc⟩]⟩,
  -- CUE_PASS_SLOWEST
  ⟨0x18, 0, 1, [⟨8, 0, .ro⟩]⟩,
  -- CUE_OVERRUNS
  ⟨0x1C, 0, 1, [⟨31, 0, .ro⟩]⟩,
  -- CUE_EMITS
  ⟨0x20, 0, 1, [⟨31, 0, .ro⟩]⟩,
  -- CUE_EVENTS
  ⟨0x24, 0, 1, [⟨31, 0, .ro⟩]⟩,
  -- CUE_EVENTS_CARRIED
  ⟨0x28, 0, 1, [⟨31, 0, .ro⟩]⟩,
  -- CUE_FS_SENT
  ⟨0x2C, 0, 1, [⟨31, 0, .ro⟩]⟩,
  -- CUE_FS_DROPPED
  ⟨0x30, 0, 1, [⟨31, 0, .ro⟩]⟩,
  -- CUE_FS_LATE
  ⟨0x34, 0, 1, [⟨31, 0, .ro⟩]⟩,
  -- CUE_AGG_STATUS
  ⟨0x38, 0, 1, [⟨31, 31, .ro⟩, ⟨9, 0, .ro⟩]⟩,
  -- CUE_DL_CFG
  ⟨0x3C, 0, 1, [⟨31, 16, .ro⟩, ⟨15, 8, .ro⟩, ⟨0, 0, .ro⟩]⟩,
  -- CUE_DIGEST_SEL
  ⟨0x40, 0, 1, [⟨7, 0, .rw⟩]⟩,
  -- CUE_DIGEST_LO
  ⟨0x44, 0, 1, [⟨31, 0, .ro⟩]⟩,
  -- CUE_DIGEST_HI
  ⟨0x48, 0, 1, [⟨31, 0, .ro⟩]⟩,
  -- CUE_DIGEST_CYCLE
  ⟨0x4C, 0, 1, [⟨31, 0, .ro⟩]⟩,
  -- CUE_BAL_STATUS
  ⟨0x50, 0, 1, [⟨13, 8, .ro⟩, ⟨5, 0, .ro⟩]⟩,
  -- CUE_BAL_U
  ⟨0x54, 4, 6, [⟨31, 0, .ro⟩]⟩,
  -- CUE_INT_STATUS
  ⟨0x70, 0, 1, [⟨8, 8, .w1c⟩, ⟨7, 7, .w1c⟩, ⟨6, 6, .w1c⟩, ⟨5, 5, .w1c⟩, ⟨4, 4, .w1c⟩, ⟨3, 3, .w1c⟩, ⟨2, 2, .w1c⟩, ⟨1, 1, .w1c⟩, ⟨0, 0, .w1c⟩]⟩,
  -- CUE_INT_ENABLE
  ⟨0x74, 0, 1, [⟨8, 8, .rw⟩, ⟨7, 7, .rw⟩, ⟨6, 6, .rw⟩, ⟨5, 5, .rw⟩, ⟨4, 4, .rw⟩, ⟨3, 3, .rw⟩, ⟨2, 2, .rw⟩, ⟨1, 1, .rw⟩, ⟨0, 0, .rw⟩]⟩]

/-- Registers of the CUE block, in offset order (part 2). -/
def cueRegs1 : List RegDesc := [
  -- CUE_DERATE
  ⟨0x100, 4, 120, [⟨31, 16, .ro⟩, ⟨15, 0, .ro⟩]⟩,
  -- CUE_BANK_STATUS
  ⟨0x800, 0, 1, [⟨2, 2, .ro⟩, ⟨1, 1, .ro⟩, ⟨0, 0, .ro⟩]⟩,
  -- CUE_BANK_SEQ
  ⟨0x804, 0, 1, [⟨31, 0, .ro⟩]⟩,
  -- CUE_ARM_STATUS
  ⟨0x808, 0, 1, [⟨20, 16, .ro⟩, ⟨10, 0, .ro⟩]⟩,
  -- CUE_NEXT_ID
  ⟨0x80C, 0, 1, [⟨31, 0, .ro⟩]⟩,
  -- CUE_GO_SEQ
  ⟨0x810, 0, 1, [⟨31, 0, .ro⟩]⟩,
  -- CUE_LAST_EXEC_LO
  ⟨0x814, 0, 1, [⟨31, 0, .ro⟩]⟩,
  -- CUE_LAST_EXEC_HI
  ⟨0x818, 0, 1, [⟨31, 0, .ro⟩]⟩,
  -- CUE_EXECUTED
  ⟨0x81C, 0, 1, [⟨31, 0, .ro⟩]⟩,
  -- CUE_LATE
  ⟨0x820, 0, 1, [⟨31, 0, .ro⟩]⟩,
  -- CUE_EXPIRED
  ⟨0x824, 0, 1, [⟨31, 0, .ro⟩]⟩,
  -- CUE_DEFERRED
  ⟨0x828, 0, 1, [⟨31, 0, .ro⟩]⟩,
  -- CUE_UNARMED
  ⟨0x82C, 0, 1, [⟨31, 0, .ro⟩]⟩,
  -- CUE_TRACK_DROPS
  ⟨0x830, 0, 1, [⟨31, 0, .ro⟩]⟩,
  -- CUE_OVR_REFUSED
  ⟨0x834, 0, 1, [⟨31, 0, .ro⟩]⟩,
  -- CUE_AUTH_FAIL
  ⟨0x838, 0, 1, [⟨31, 0, .ro⟩]⟩,
  -- CUE_BLACKOUT_EPS
  ⟨0x83C, 0, 1, [⟨20, 0, .ro⟩]⟩,
  -- CUE_TBL_INT_STATUS
  ⟨0x870, 0, 1, [⟨7, 7, .w1c⟩, ⟨6, 6, .w1c⟩, ⟨5, 5, .w1c⟩, ⟨4, 4, .w1c⟩, ⟨3, 3, .w1c⟩, ⟨2, 2, .w1c⟩, ⟨1, 1, .w1c⟩, ⟨0, 0, .w1c⟩]⟩,
  -- CUE_TBL_INT_ENABLE
  ⟨0x874, 0, 1, [⟨7, 7, .rw⟩, ⟨6, 6, .rw⟩, ⟨5, 5, .rw⟩, ⟨4, 4, .rw⟩, ⟨3, 3, .rw⟩, ⟨2, 2, .rw⟩, ⟨1, 1, .rw⟩, ⟨0, 0, .rw⟩]⟩]

def cueRegs : List RegDesc := cueRegs0 ++ cueRegs1

/-- Registers of the QCM block, in offset order (part 1). -/
def qcmRegs0 : List RegDesc := [
  -- QCM_CTRL
  ⟨0x0, 0, 1, [⟨15, 8, .rw⟩]⟩,
  -- QCM_TMO_UNIT
  ⟨0x10, 0, 1, [⟨11, 0, .rw⟩]⟩,
  -- QCM_TMO_CLUSTER
  ⟨0x14, 0, 1, [⟨15, 0, .rw⟩]⟩,
  -- QCM_TMO_REGION
  ⟨0x18, 0, 1, [⟨15, 0, .rw⟩]⟩,
  -- QCM_TMO_DIE
  ⟨0x1C, 0, 1, [⟨16, 0, .rw⟩]⟩,
  -- QCM_TMO_MODULE
  ⟨0x20, 0, 1, [⟨2, 0, .rw⟩]⟩,
  -- QCM_TMO_COMPANY
  ⟨0x24, 0, 1, [⟨10, 0, .rw⟩]⟩,
  -- QCM_TMO_DROPS_L
  ⟨0x30, 4, 6, [⟨31, 0, .ro⟩]⟩,
  -- QCM_DRAIN_DISCARDS
  ⟨0x48, 0, 1, [⟨31, 0, .ro⟩]⟩,
  -- QCM_FLUSH_DISCARDS
  ⟨0x4C, 0, 1, [⟨31, 0, .ro⟩]⟩,
  -- QCM_CREDIT_OVERRUNS
  ⟨0x50, 0, 1, [⟨31, 0, .ro⟩]⟩,
  -- QCM_LAST_DROP
  ⟨0x54, 0, 1, [⟨31, 16, .ro⟩, ⟨15, 8, .ro⟩]⟩,
  -- QCM_WITHDRAWALS
  ⟨0x58, 0, 1, [⟨31, 0, .ro⟩]⟩,
  -- QCM_INT_STATUS
  ⟨0x70, 0, 1, [⟨10, 10, .w1c⟩, ⟨9, 9, .w1c⟩, ⟨8, 8, .w1c⟩, ⟨7, 7, .w1c⟩, ⟨6, 6, .w1c⟩, ⟨5, 5, .w1c⟩, ⟨4, 4, .w1c⟩, ⟨3, 3, .w1c⟩, ⟨2, 2, .w1c⟩, ⟨1, 1, .w1c⟩, ⟨0, 0, .w1c⟩]⟩,
  -- QCM_INT_ENABLE
  ⟨0x74, 0, 1, [⟨10, 10, .rw⟩, ⟨9, 9, .rw⟩, ⟨8, 8, .rw⟩, ⟨7, 7, .rw⟩, ⟨6, 6, .rw⟩, ⟨5, 5, .rw⟩, ⟨4, 4, .rw⟩, ⟨3, 3, .rw⟩, ⟨2, 2, .rw⟩, ⟨1, 1, .rw⟩, ⟨0, 0, .rw⟩]⟩,
  -- QCM_Q_SEL
  ⟨0x100, 0, 1, [⟨17, 16, .rw⟩, ⟨15, 0, .rw⟩]⟩,
  -- QCM_Q_STATUS
  ⟨0x104, 0, 1, [⟨31, 31, .ro⟩, ⟨30, 30, .ro⟩, ⟨29, 29, .ro⟩, ⟨28, 28, .ro⟩, ⟨27, 24, .ro⟩, ⟨12, 0, .ro⟩]⟩,
  -- QCM_Q_FILL
  ⟨0x108, 0, 1, [⟨28, 16, .ro⟩, ⟨12, 0, .ro⟩]⟩,
  -- QCM_Q_PTR
  ⟨0x10C, 0, 1, [⟨28, 16, .ro⟩, ⟨12, 0, .ro⟩]⟩,
  -- QCM_Q_HWM
  ⟨0x110, 0, 1, [⟨12, 0, .rc⟩]⟩,
  -- QCM_Q_FLUSH
  ⟨0x114, 0, 1, [⟨0, 0, .wo⟩]⟩,
  -- QCM_ARB_SEL
  ⟨0x200, 0, 1, [⟨11, 8, .rw⟩, ⟨7, 0, .rw⟩]⟩,
  -- QCM_ARB_CFG
  ⟨0x204, 0, 1, [⟨23, 16, .rw⟩, ⟨12, 0, .rw⟩]⟩,
  -- QCM_ARB_REQ
  ⟨0x208, 0, 1, [⟨31, 16, .rw⟩, ⟨15, 0, .rw⟩]⟩]

/-- Registers of the QCM block, in offset order (part 2). -/
def qcmRegs1 : List RegDesc := [
  -- QCM_ARB_COUNTER
  ⟨0x20C, 0, 1, [⟨23, 0, .ro⟩]⟩,
  -- QCM_ARB_GRANTS
  ⟨0x210, 0, 1, [⟨31, 0, .ro⟩]⟩,
  -- QCM_ARB_CUTOFF
  ⟨0x214, 0, 1, [⟨31, 16, .ro⟩, ⟨15, 0, .w1c⟩]⟩,
  -- QCM_ARB_PREEMPTS
  ⟨0x218, 0, 1, [⟨31, 0, .ro⟩]⟩]

def qcmRegs : List RegDesc := qcmRegs0 ++ qcmRegs1

/-- Registers of the RAD block, in offset order (part 1). -/
def radRegs0 : List RegDesc := [
  -- RAD_CTRL
  ⟨0x0, 0, 1, [⟨7, 6, .rw⟩, ⟨5, 5, .w1s⟩, ⟨4, 4, .ro⟩, ⟨3, 3, .rw⟩, ⟨1, 1, .ro⟩, ⟨0, 0, .rw⟩]⟩,
  -- RAD_PHY
  ⟨0x4, 0, 1, [⟨23, 16, .rw⟩, ⟨12, 8, .rw⟩, ⟨7, 4, .rw⟩, ⟨2, 0, .rw⟩]⟩,
  -- RAD_GUARD
  ⟨0x8, 0, 1, [⟨8, 0, .rw⟩]⟩,
  -- RAD_CHAN
  ⟨0x10, 4, 4, [⟨31, 0, .rw⟩]⟩,
  -- RAD_DUTY
  ⟨0x20, 0, 1, [⟨31, 16, .ro⟩, ⟨15, 0, .rw⟩]⟩,
  -- RAD_CAP
  ⟨0x24, 0, 1, [⟨7, 0, .rw⟩]⟩,
  -- RAD_RETRY
  ⟨0x28, 0, 1, [⟨2, 0, .rw⟩]⟩,
  -- RAD_STATUS
  ⟨0x2C, 0, 1, [⟨31, 24, .ro⟩, ⟨23, 16, .ro⟩, ⟨2, 2, .ro⟩, ⟨1, 1, .ro⟩, ⟨0, 0, .ro⟩]⟩,
  -- RAD_SLOT_ADDR
  ⟨0x30, 0, 1, [⟨16, 16, .rw⟩, ⟨8, 0, .rw⟩]⟩,
  -- RAD_SLOT_DATA
  ⟨0x34, 0, 1, [⟨31, 0, .rw⟩]⟩,
  -- RAD_SWAP
  ⟨0x38, 0, 1, [⟨7, 0, .wo⟩]⟩,
  -- RAD_BCN_PHASE
  ⟨0x3C, 0, 1, [⟨15, 0, .ro⟩]⟩,
  -- RAD_TX_FRAMES
  ⟨0x40, 0, 1, [⟨31, 0, .ro⟩]⟩,
  -- RAD_RX_FRAMES
  ⟨0x44, 0, 1, [⟨31, 0, .ro⟩]⟩,
  -- RAD_RX_BAD
  ⟨0x48, 0, 1, [⟨31, 0, .ro⟩]⟩,
  -- RAD_SEC_FAIL
  ⟨0x4C, 0, 1, [⟨31, 0, .ro⟩]⟩,
  -- RAD_DUPLICATES
  ⟨0x50, 0, 1, [⟨31, 0, .ro⟩]⟩,
  -- RAD_RETRIES
  ⟨0x54, 0, 1, [⟨31, 0, .ro⟩]⟩,
  -- RAD_DROPS
  ⟨0x58, 0, 1, [⟨31, 0, .ro⟩]⟩,
  -- RAD_DEFERS
  ⟨0x5C, 0, 1, [⟨31, 0, .ro⟩]⟩,
  -- RAD_DUTY_BLOCKS
  ⟨0x60, 0, 1, [⟨31, 0, .ro⟩]⟩,
  -- RAD_CCA_BUSY
  ⟨0x64, 0, 1, [⟨31, 0, .ro⟩]⟩,
  -- RAD_RDV_MISSED
  ⟨0x68, 0, 1, [⟨31, 0, .ro⟩]⟩,
  -- RAD_REPAIRS
  ⟨0x6C, 0, 1, [⟨31, 0, .ro⟩]⟩]

/-- Registers of the RAD block, in offset order (part 2). -/
def radRegs1 : List RegDesc := [
  -- RAD_INT_STATUS
  ⟨0x70, 0, 1, [⟨7, 7, .w1c⟩, ⟨6, 6, .w1c⟩, ⟨5, 5, .w1c⟩, ⟨4, 4, .w1c⟩, ⟨3, 3, .w1c⟩, ⟨2, 2, .w1c⟩, ⟨1, 1, .w1c⟩, ⟨0, 0, .w1c⟩]⟩,
  -- RAD_INT_ENABLE
  ⟨0x74, 0, 1, [⟨7, 7, .rw⟩, ⟨6, 6, .rw⟩, ⟨5, 5, .rw⟩, ⟨4, 4, .rw⟩, ⟨3, 3, .rw⟩, ⟨2, 2, .rw⟩, ⟨1, 1, .rw⟩, ⟨0, 0, .rw⟩]⟩]

def radRegs : List RegDesc := radRegs0 ++ radRegs1

/-- Registers of the PLC block, in offset order. -/
def plcRegs : List RegDesc := [
  -- PLC_CTRL
  ⟨0x0, 0, 1, [⟨4, 4, .ro⟩, ⟨3, 3, .w1s⟩, ⟨2, 2, .rw⟩, ⟨1, 1, .ro⟩, ⟨0, 0, .rw⟩]⟩,
  -- PLC_PHY
  ⟨0x4, 0, 1, [⟨13, 8, .rw⟩, ⟨5, 4, .rw⟩, ⟨0, 0, .rw⟩]⟩,
  -- PLC_RETRY
  ⟨0x8, 0, 1, [⟨2, 0, .rw⟩]⟩,
  -- PLC_STATUS
  ⟨0xC, 0, 1, [⟨31, 24, .ro⟩, ⟨2, 2, .ro⟩, ⟨1, 1, .ro⟩, ⟨0, 0, .ro⟩]⟩,
  -- PLC_PLAN_ADDR
  ⟨0x10, 0, 1, [⟨7, 0, .rw⟩]⟩,
  -- PLC_PLAN_DATA
  ⟨0x14, 0, 1, [⟨31, 0, .ro⟩]⟩,
  -- PLC_SNR
  ⟨0x18, 0, 1, [⟨7, 0, .ro⟩]⟩,
  -- PLC_TX_FRAMES
  ⟨0x40, 0, 1, [⟨31, 0, .ro⟩]⟩,
  -- PLC_RX_FRAMES
  ⟨0x44, 0, 1, [⟨31, 0, .ro⟩]⟩,
  -- PLC_RX_BAD
  ⟨0x48, 0, 1, [⟨31, 0, .ro⟩]⟩,
  -- PLC_SEC_FAIL
  ⟨0x4C, 0, 1, [⟨31, 0, .ro⟩]⟩,
  -- PLC_DUPLICATES
  ⟨0x50, 0, 1, [⟨31, 0, .ro⟩]⟩,
  -- PLC_RETRIES
  ⟨0x54, 0, 1, [⟨31, 0, .ro⟩]⟩,
  -- PLC_DROPS
  ⟨0x58, 0, 1, [⟨31, 0, .ro⟩]⟩,
  -- PLC_DEFERS
  ⟨0x5C, 0, 1, [⟨31, 0, .ro⟩]⟩,
  -- PLC_CCA_BUSY
  ⟨0x60, 0, 1, [⟨31, 0, .ro⟩]⟩,
  -- PLC_REPAIRS
  ⟨0x64, 0, 1, [⟨31, 0, .ro⟩]⟩,
  -- PLC_INT_STATUS
  ⟨0x70, 0, 1, [⟨5, 5, .w1c⟩, ⟨4, 4, .w1c⟩, ⟨3, 3, .w1c⟩, ⟨2, 2, .w1c⟩, ⟨1, 1, .w1c⟩, ⟨0, 0, .w1c⟩]⟩,
  -- PLC_INT_ENABLE
  ⟨0x74, 0, 1, [⟨5, 5, .rw⟩, ⟨4, 4, .rw⟩, ⟨3, 3, .rw⟩, ⟨2, 2, .rw⟩, ⟨1, 1, .rw⟩, ⟨0, 0, .rw⟩]⟩]

/-- Registers of the FLC block, in offset order. -/
def flcRegs : List RegDesc := [
  -- FLC_CTRL
  ⟨0x0, 0, 1, [⟨25, 16, .rw⟩, ⟨11, 8, .rw⟩, ⟨4, 4, .w1s⟩, ⟨3, 3, .rw⟩, ⟨2, 2, .rw⟩, ⟨1, 1, .ro⟩, ⟨0, 0, .rw⟩]⟩,
  -- FLC_STATUS
  ⟨0x4, 0, 1, [⟨25, 16, .ro⟩, ⟨4, 4, .ro⟩, ⟨3, 3, .ro⟩, ⟨2, 2, .ro⟩, ⟨1, 1, .ro⟩]⟩,
  -- FLC_COUNT
  ⟨0x8, 0, 1, [⟨31, 31, .ro⟩, ⟨9, 0, .ro⟩]⟩,
  -- FLC_LATCH_AT
  ⟨0xC, 0, 1, [⟨15, 0, .ro⟩]⟩,
  -- FLC_TREF
  ⟨0x10, 0, 1, [⟨15, 0, .rw⟩]⟩,
  -- FLC_SLOPE
  ⟨0x14, 4, 4, [⟨15, 0, .rw⟩]⟩,
  -- FLC_OTEMP
  ⟨0x24, 0, 1, [⟨15, 0, .rw⟩]⟩,
  -- FLC_FRAMES
  ⟨0x28, 0, 1, [⟨31, 0, .ro⟩]⟩,
  -- FLC_CHECK_ERRORS
  ⟨0x2C, 0, 1, [⟨31, 0, .ro⟩]⟩,
  -- FLC_SHARE_ERRORS
  ⟨0x30, 0, 1, [⟨31, 0, .ro⟩]⟩,
  -- FLC_LEN_ERRORS
  ⟨0x34, 0, 1, [⟨31, 0, .ro⟩]⟩,
  -- FLC_LATCH_MISSING
  ⟨0x38, 0, 1, [⟨31, 0, .ro⟩]⟩,
  -- FLC_RESETS
  ⟨0x3C, 0, 1, [⟨31, 0, .ro⟩]⟩,
  -- FLC_CMDS
  ⟨0x40, 0, 1, [⟨31, 0, .ro⟩]⟩,
  -- FLC_DEV_SEL
  ⟨0x50, 0, 1, [⟨8, 0, .rw⟩]⟩,
  -- FLC_DEV_STATUS
  ⟨0x54, 0, 1, [⟨31, 31, .ro⟩, ⟨30, 30, .ro⟩, ⟨23, 0, .ro⟩]⟩,
  -- FLC_DEV_LEVEL01
  ⟨0x58, 0, 1, [⟨31, 16, .ro⟩, ⟨15, 0, .ro⟩]⟩,
  -- FLC_DEV_LEVEL23
  ⟨0x5C, 0, 1, [⟨31, 16, .ro⟩, ⟨15, 0, .ro⟩]⟩,
  -- FLC_INT_STATUS
  ⟨0x70, 0, 1, [⟨6, 6, .w1c⟩, ⟨5, 5, .w1c⟩, ⟨4, 4, .w1c⟩, ⟨3, 3, .w1c⟩, ⟨2, 2, .w1c⟩, ⟨1, 1, .w1c⟩, ⟨0, 0, .w1c⟩]⟩,
  -- FLC_INT_ENABLE
  ⟨0x74, 0, 1, [⟨6, 6, .rw⟩, ⟨5, 5, .rw⟩, ⟨4, 4, .rw⟩, ⟨3, 3, .rw⟩, ⟨2, 2, .rw⟩, ⟨1, 1, .rw⟩, ⟨0, 0, .rw⟩]⟩]

/-- Registers of the MTR block, in offset order (part 1). -/
def mtrRegs0 : List RegDesc := [
  -- MTR_CTRL
  ⟨0x0, 0, 1, [⟨13, 8, .rw⟩, ⟨1, 1, .ro⟩, ⟨0, 0, .rw⟩]⟩,
  -- MTR_STATUS
  ⟨0x4, 0, 1, [⟨11, 11, .ro⟩, ⟨10, 10, .ro⟩, ⟨9, 9, .ro⟩, ⟨8, 8, .ro⟩, ⟨7, 3, .ro⟩, ⟨2, 2, .ro⟩, ⟨1, 1, .ro⟩, ⟨0, 0, .ro⟩]⟩,
  -- MTR_MODE
  ⟨0x8, 0, 1, [⟨17, 0, .rw⟩]⟩,
  -- MTR_ROGO
  ⟨0xC, 0, 1, [⟨17, 0, .rw⟩]⟩,
  -- MTR_RES_SEL
  ⟨0x10, 0, 1, [⟨4, 0, .rw⟩]⟩,
  -- MTR_RES_CYCLE
  ⟨0x14, 0, 1, [⟨31, 0, .ro⟩]⟩,
  -- MTR_RES_V
  ⟨0x18, 0, 1, [⟨31, 0, .ro⟩]⟩,
  -- MTR_RES_I
  ⟨0x1C, 0, 1, [⟨31, 0, .ro⟩]⟩,
  -- MTR_RES_P
  ⟨0x20, 0, 1, [⟨31, 0, .ro⟩]⟩,
  -- MTR_RES_Q
  ⟨0x24, 0, 1, [⟨31, 0, .ro⟩]⟩,
  -- MTR_RES_S
  ⟨0x28, 0, 1, [⟨31, 0, .ro⟩]⟩,
  -- MTR_RES_PF
  ⟨0x2C, 0, 1, [⟨31, 16, .ro⟩, ⟨15, 0, .ro⟩]⟩,
  -- MTR_RES_FLAGS
  ⟨0x30, 0, 1, [⟨7, 0, .ro⟩]⟩,
  -- MTR_TOT_SEL
  ⟨0x40, 0, 1, [⟨10, 8, .rw⟩, ⟨6, 4, .rw⟩, ⟨2, 0, .rw⟩]⟩,
  -- MTR_TOT_LO
  ⟨0x44, 0, 1, [⟨31, 0, .ro⟩]⟩,
  -- MTR_TOT_HI
  ⟨0x48, 0, 1, [⟨31, 0, .ro⟩]⟩,
  -- MTR_TOT_WIN
  ⟨0x4C, 0, 1, [⟨31, 0, .ro⟩]⟩,
  -- MTR_OVERRANGE
  ⟨0x50, 0, 1, [⟨31, 0, .ro⟩]⟩,
  -- MTR_CAL_RUNS
  ⟨0x54, 0, 1, [⟨31, 0, .ro⟩]⟩,
  -- MTR_PULSE_LOST
  ⟨0x58, 0, 1, [⟨31, 0, .ro⟩]⟩,
  -- MTR_HIST_SEQ
  ⟨0x5C, 0, 1, [⟨31, 0, .ro⟩]⟩,
  -- MTR_INT_STATUS
  ⟨0x70, 0, 1, [⟨10, 10, .w1c⟩, ⟨9, 9, .w1c⟩, ⟨8, 8, .w1c⟩, ⟨7, 7, .w1c⟩, ⟨6, 6, .w1c⟩, ⟨5, 5, .w1c⟩, ⟨4, 4, .w1c⟩, ⟨3, 3, .w1c⟩, ⟨2, 2, .w1c⟩, ⟨1, 1, .w1c⟩, ⟨0, 0, .w1c⟩]⟩,
  -- MTR_INT_ENABLE
  ⟨0x74, 0, 1, [⟨10, 10, .rw⟩, ⟨9, 9, .rw⟩, ⟨8, 8, .rw⟩, ⟨7, 7, .rw⟩, ⟨6, 6, .rw⟩, ⟨5, 5, .rw⟩, ⟨4, 4, .rw⟩, ⟨3, 3, .rw⟩, ⟨2, 2, .rw⟩, ⟨1, 1, .rw⟩, ⟨0, 0, .rw⟩]⟩,
  -- MTR_WIN
  ⟨0x100, 4, 120, [⟨31, 0, .ro⟩]⟩]

/-- Registers of the MTR block, in offset order (part 2). -/
def mtrRegs1 : List RegDesc := [
  -- MTR_HALF
  ⟨0x300, 4, 4, [⟨31, 0, .w1c⟩]⟩,
  -- MTR_PULSE_CFG
  ⟨0x400, 8, 8, [⟨31, 31, .rw⟩, ⟨26, 24, .rw⟩, ⟨23, 22, .rw⟩, ⟨21, 19, .rw⟩, ⟨16, 0, .rw⟩]⟩,
  -- MTR_PULSE_TIM
  ⟨0x404, 8, 8, [⟨31, 16, .ro⟩, ⟨6, 0, .rw⟩]⟩,
  -- MTR_HARM_REQ
  ⟨0x500, 0, 1, [⟨31, 31, .wo⟩, ⟨4, 0, .wo⟩]⟩,
  -- MTR_HARM_STATUS
  ⟨0x504, 0, 1, [⟨31, 31, .ro⟩, ⟨30, 30, .ro⟩, ⟨4, 0, .ro⟩]⟩,
  -- MTR_HARM_FUND
  ⟨0x508, 0, 1, [⟨31, 0, .ro⟩]⟩,
  -- MTR_HARM_THD
  ⟨0x50C, 0, 1, [⟨15, 0, .ro⟩]⟩,
  -- MTR_HARM
  ⟨0x510, 4, 30, [⟨15, 0, .ro⟩]⟩,
  -- MTR_CAL_REQ
  ⟨0x600, 0, 1, [⟨31, 31, .wo⟩, ⟨4, 0, .wo⟩]⟩,
  -- MTR_CAL_AUTO
  ⟨0x604, 0, 1, [⟨15, 0, .rw⟩]⟩,
  -- MTR_GAIN
  ⟨0x800, 4, 22, [⟨31, 0, .ro⟩]⟩,
  -- MTR_PHASE
  ⟨0x880, 4, 18, [⟨15, 0, .ro⟩]⟩,
  -- MTR_OFFSET
  ⟨0x900, 4, 22, [⟨31, 0, .ro⟩]⟩]

def mtrRegs : List RegDesc := mtrRegs0 ++ mtrRegs1

/-- Registers of the TWN block, in offset order. -/
def twnRegs : List RegDesc := [
  -- TWN_CTRL
  ⟨0x0, 0, 1, [⟨16, 16, .ro⟩, ⟨15, 0, .ro⟩]⟩,
  -- TWN_STATUS
  ⟨0x4, 0, 1, [⟨31, 31, .ro⟩, ⟨30, 30, .ro⟩, ⟨29, 29, .ro⟩, ⟨28, 26, .ro⟩, ⟨25, 23, .ro⟩, ⟨22, 22, .ro⟩, ⟨21, 21, .ro⟩, ⟨20, 20, .ro⟩, ⟨19, 19, .ro⟩, ⟨18, 17, .ro⟩, ⟨16, 16, .ro⟩]⟩,
  -- TWN_CMD
  ⟨0x8, 0, 1, [⟨7, 0, .wo⟩]⟩,
  -- TWN_CMD_REFUSED
  ⟨0xC, 0, 1, [⟨31, 0, .ro⟩]⟩,
  -- TWN_MATCH_RUN
  ⟨0x10, 0, 1, [⟨31, 0, .ro⟩]⟩,
  -- TWN_COMMIT_LO
  ⟨0x14, 0, 1, [⟨31, 0, .ro⟩]⟩,
  -- TWN_COMMIT_HI
  ⟨0x18, 0, 1, [⟨15, 0, .ro⟩]⟩,
  -- TWN_JOURNAL_BYTES
  ⟨0x1C, 0, 1, [⟨31, 0, .ro⟩]⟩,
  -- TWN_JOURNAL_MAX
  ⟨0x20, 0, 1, [⟨31, 0, .rc⟩]⟩,
  -- TWN_MISMATCHES
  ⟨0x24, 0, 1, [⟨31, 0, .ro⟩]⟩,
  -- TWN_DISPUTES
  ⟨0x28, 0, 1, [⟨31, 0, .ro⟩]⟩,
  -- TWN_ARB_LAST
  ⟨0x2C, 0, 1, [⟨31, 24, .ro⟩, ⟨2, 0, .ro⟩]⟩,
  -- TWN_HANDOVERS
  ⟨0x30, 0, 1, [⟨31, 0, .ro⟩]⟩,
  -- TWN_HO_CYCLE
  ⟨0x34, 0, 1, [⟨31, 0, .ro⟩]⟩,
  -- TWN_HO_CAUSE
  ⟨0x38, 0, 1, [⟨8, 8, .ro⟩, ⟨7, 0, .ro⟩]⟩,
  -- TWN_PROVISIONAL
  ⟨0x3C, 0, 1, [⟨31, 0, .ro⟩]⟩,
  -- TWN_REPLAYED
  ⟨0x40, 0, 1, [⟨31, 0, .ro⟩]⟩,
  -- TWN_REPLAY_LOST
  ⟨0x44, 0, 1, [⟨31, 0, .ro⟩]⟩,
  -- TWN_RESYNC
  ⟨0x48, 0, 1, [⟨31, 28, .ro⟩, ⟨15, 0, .ro⟩]⟩,
  -- TWN_LINK_RETRIES
  ⟨0x4C, 0, 1, [⟨31, 0, .ro⟩]⟩,
  -- TWN_LINK_DOWNS
  ⟨0x50, 0, 1, [⟨31, 0, .ro⟩]⟩,
  -- TWN_INT_STATUS
  ⟨0x70, 0, 1, [⟨14, 14, .w1c⟩, ⟨13, 13, .w1c⟩, ⟨12, 12, .w1c⟩, ⟨11, 11, .w1c⟩, ⟨10, 10, .w1c⟩, ⟨9, 9, .w1c⟩, ⟨8, 8, .w1c⟩, ⟨7, 7, .w1c⟩, ⟨6, 6, .w1c⟩, ⟨5, 5, .w1c⟩, ⟨4, 4, .w1c⟩, ⟨3, 3, .w1c⟩, ⟨2, 2, .w1c⟩, ⟨1, 1, .w1c⟩, ⟨0, 0, .w1c⟩]⟩,
  -- TWN_INT_ENABLE
  ⟨0x74, 0, 1, [⟨14, 14, .rw⟩, ⟨13, 13, .rw⟩, ⟨12, 12, .rw⟩, ⟨11, 11, .rw⟩, ⟨10, 10, .rw⟩, ⟨9, 9, .rw⟩, ⟨8, 8, .rw⟩, ⟨7, 7, .rw⟩, ⟨6, 6, .rw⟩, ⟨5, 5, .rw⟩, ⟨4, 4, .rw⟩, ⟨3, 3, .rw⟩, ⟨2, 2, .rw⟩, ⟨1, 1, .rw⟩, ⟨0, 0, .rw⟩]⟩,
  -- TWN_EXCLUDED
  ⟨0x80, 4, 8, [⟨31, 0, .ro⟩]⟩]

/-- Registers of the ETH block, in offset order (part 1). -/
def ethRegs0 : List RegDesc := [
  -- ETH_CTRL
  ⟨0x0, 0, 1, [⟨7, 7, .rw⟩, ⟨6, 6, .rw⟩, ⟨5, 5, .rw⟩, ⟨4, 4, .rw⟩, ⟨1, 1, .ro⟩, ⟨0, 0, .rw⟩]⟩,
  -- ETH_STATUS
  ⟨0x4, 0, 1, [⟨7, 7, .ro⟩, ⟨6, 6, .ro⟩, ⟨5, 5, .ro⟩, ⟨4, 4, .ro⟩, ⟨3, 2, .ro⟩, ⟨0, 0, .ro⟩]⟩,
  -- ETH_MAC_LO
  ⟨0x8, 0, 1, [⟨31, 0, .ro⟩]⟩,
  -- ETH_MAC_HI
  ⟨0xC, 0, 1, [⟨15, 0, .ro⟩]⟩,
  -- ETH_VLAN
  ⟨0x10, 0, 1, [⟨11, 0, .rw⟩]⟩,
  -- ETH_PCP_MAP
  ⟨0x14, 0, 1, [⟨23, 0, .rw⟩]⟩,
  -- ETH_RX_WM
  ⟨0x18, 0, 1, [⟨25, 16, .rw⟩, ⟨9, 0, .rw⟩]⟩,
  -- ETH_PAUSE
  ⟨0x1C, 0, 1, [⟨15, 0, .rw⟩]⟩,
  -- ETH_RX_RING
  ⟨0x20, 0, 1, [⟨25, 16, .rc⟩, ⟨9, 0, .ro⟩]⟩,
  -- ETH_MC_HASH_LO
  ⟨0x24, 0, 1, [⟨31, 0, .rw⟩]⟩,
  -- ETH_MC_HASH_HI
  ⟨0x28, 0, 1, [⟨31, 0, .rw⟩]⟩,
  -- ETH_TS_LAT
  ⟨0x2C, 0, 1, [⟨31, 16, .rw⟩, ⟨15, 0, .rw⟩]⟩,
  -- ETH_BKP
  ⟨0x30, 0, 1, [⟨4, 4, .w1s⟩, ⟨3, 3, .rw⟩, ⟨1, 1, .rw⟩, ⟨0, 0, .ro⟩]⟩,
  -- ETH_FAILOVERS
  ⟨0x34, 0, 1, [⟨31, 0, .ro⟩]⟩,
  -- ETH_MDIO_CMD
  ⟨0x40, 0, 1, [⟨31, 31, .ro⟩, ⟨26, 26, .rw⟩, ⟨25, 25, .w1s⟩, ⟨20, 16, .rw⟩, ⟨15, 0, .rw⟩]⟩,
  -- ETH_MDIO_DATA
  ⟨0x44, 0, 1, [⟨15, 0, .ro⟩]⟩,
  -- ETH_INT_STATUS
  ⟨0x70, 0, 1, [⟨7, 7, .w1c⟩, ⟨6, 6, .w1c⟩, ⟨5, 5, .w1c⟩, ⟨4, 4, .w1c⟩, ⟨3, 3, .w1c⟩, ⟨2, 2, .w1c⟩, ⟨1, 1, .w1c⟩, ⟨0, 0, .w1c⟩]⟩,
  -- ETH_INT_ENABLE
  ⟨0x74, 0, 1, [⟨7, 7, .rw⟩, ⟨6, 6, .rw⟩, ⟨5, 5, .rw⟩, ⟨4, 4, .rw⟩, ⟨3, 3, .rw⟩, ⟨2, 2, .rw⟩, ⟨1, 1, .rw⟩, ⟨0, 0, .rw⟩]⟩,
  -- ETH_GCL_CTRL
  ⟨0x100, 0, 1, [⟨2, 2, .ro⟩, ⟨1, 1, .w1s⟩, ⟨0, 0, .rw⟩]⟩,
  -- ETH_GCL_STATUS
  ⟨0x104, 0, 1, [⟨23, 16, .ro⟩, ⟨15, 8, .ro⟩, ⟨0, 0, .ro⟩]⟩,
  -- ETH_GCL_CYCLE
  ⟨0x108, 0, 1, [⟨31, 0, .rw⟩]⟩,
  -- ETH_GCL_BASE_LO
  ⟨0x10C, 0, 1, [⟨31, 0, .rw⟩]⟩,
  -- ETH_GCL_BASE_HI
  ⟨0x110, 0, 1, [⟨31, 0, .rw⟩]⟩,
  -- ETH_GCL_LEN
  ⟨0x114, 0, 1, [⟨6, 0, .rw⟩]⟩]

/-- Registers of the ETH block, in offset order (part 2). -/
def ethRegs1 : List RegDesc := [
  -- ETH_GCL_OPER_CYCLE
  ⟨0x118, 0, 1, [⟨31, 0, .ro⟩]⟩,
  -- ETH_GCL_OPER_BASE_LO
  ⟨0x11C, 0, 1, [⟨31, 0, .ro⟩]⟩,
  -- ETH_GCL_OPER_BASE_HI
  ⟨0x120, 0, 1, [⟨31, 0, .ro⟩]⟩,
  -- ETH_CNT
  ⟨0x200, 4, 26, [⟨31, 0, .ro⟩]⟩,
  -- ETH_CNT_HALF
  ⟨0x280, 0, 1, [⟨25, 0, .w1c⟩]⟩,
  -- ETH_GCL_ADMIN
  ⟨0x400, 4, 64, [⟨31, 24, .rw⟩, ⟨23, 0, .rw⟩]⟩,
  -- ETH_GCL_OPER
  ⟨0x600, 4, 64, [⟨31, 0, .ro⟩]⟩,
  -- ETH_TXTS_STATUS
  ⟨0x800, 0, 1, [⟨31, 16, .ro⟩, ⟨3, 0, .ro⟩]⟩,
  -- ETH_TXTS_ID
  ⟨0x804, 0, 1, [⟨31, 31, .ro⟩, ⟨15, 0, .ro⟩]⟩,
  -- ETH_TXTS_LO
  ⟨0x808, 0, 1, [⟨31, 0, .ro⟩]⟩,
  -- ETH_TXTS_HI
  ⟨0x80C, 0, 1, [⟨31, 0, .ro⟩]⟩,
  -- ETH_WAKE_CTRL
  ⟨0x900, 0, 1, [⟨7, 0, .rw⟩]⟩,
  -- ETH_WAKE_LAST
  ⟨0x904, 0, 1, [⟨2, 0, .ro⟩]⟩,
  -- ETH_WAKE_SEL
  ⟨0x908, 0, 1, [⟨2, 0, .rw⟩]⟩,
  -- ETH_WAKE_MASK
  ⟨0x910, 4, 4, [⟨31, 0, .rw⟩]⟩,
  -- ETH_WAKE_CRC
  ⟨0x920, 0, 1, [⟨15, 0, .rw⟩]⟩]

def ethRegs : List RegDesc := ethRegs0 ++ ethRegs1

/-- Registers of the PTP block, in offset order. -/
def ptpRegs : List RegDesc := [
  -- PTP_CTRL
  ⟨0x0, 0, 1, [⟨4, 4, .rw⟩, ⟨3, 3, .rw⟩, ⟨2, 2, .rw⟩, ⟨0, 0, .rw⟩]⟩,
  -- PTP_STATUS
  ⟨0x4, 0, 1, [⟨27, 23, .ro⟩, ⟨18, 16, .ro⟩, ⟨5, 5, .ro⟩, ⟨4, 4, .ro⟩, ⟨3, 3, .ro⟩, ⟨2, 2, .ro⟩, ⟨1, 1, .ro⟩, ⟨0, 0, .ro⟩]⟩,
  -- PTP_TIME_LO
  ⟨0x8, 0, 1, [⟨31, 0, .ro⟩]⟩,
  -- PTP_TIME_HI
  ⟨0xC, 0, 1, [⟨31, 0, .ro⟩]⟩,
  -- PTP_OFFSET_LO
  ⟨0x10, 0, 1, [⟨31, 0, .wo⟩]⟩,
  -- PTP_OFFSET_HI
  ⟨0x14, 0, 1, [⟨31, 0, .wo⟩]⟩,
  -- PTP_LAST_LO
  ⟨0x18, 0, 1, [⟨31, 0, .ro⟩]⟩,
  -- PTP_LAST_HI
  ⟨0x1C, 0, 1, [⟨31, 0, .ro⟩]⟩,
  -- PTP_FREQ
  ⟨0x20, 0, 1, [⟨31, 0, .ro⟩]⟩,
  -- PTP_GAIN
  ⟨0x24, 0, 1, [⟨31, 16, .rw⟩, ⟨15, 0, .rw⟩]⟩,
  -- PTP_JUMP
  ⟨0x28, 0, 1, [⟨31, 0, .rw⟩]⟩,
  -- PTP_LOCK
  ⟨0x2C, 0, 1, [⟨31, 16, .rw⟩, ⟨15, 0, .rw⟩]⟩,
  -- PTP_REFUSED
  ⟨0x30, 0, 1, [⟨31, 0, .ro⟩]⟩,
  -- PTP_STEPS
  ⟨0x34, 0, 1, [⟨31, 0, .ro⟩]⟩,
  -- PTP_STEP_LO
  ⟨0x38, 0, 1, [⟨31, 0, .ro⟩]⟩,
  -- PTP_STEP_HI
  ⟨0x3C, 0, 1, [⟨31, 0, .ro⟩]⟩,
  -- PTP_PEND_LO
  ⟨0x40, 0, 1, [⟨31, 0, .ro⟩]⟩,
  -- PTP_PEND_HI
  ⟨0x44, 0, 1, [⟨31, 0, .ro⟩]⟩,
  -- PTP_INT_STATUS
  ⟨0x70, 0, 1, [⟨6, 6, .w1c⟩, ⟨5, 5, .w1c⟩, ⟨4, 4, .w1c⟩, ⟨3, 3, .w1c⟩, ⟨2, 2, .w1c⟩, ⟨1, 1, .w1c⟩, ⟨0, 0, .w1c⟩]⟩,
  -- PTP_INT_ENABLE
  ⟨0x74, 0, 1, [⟨6, 6, .rw⟩, ⟨5, 5, .rw⟩, ⟨4, 4, .rw⟩, ⟨3, 3, .rw⟩, ⟨2, 2, .rw⟩, ⟨1, 1, .rw⟩, ⟨0, 0, .rw⟩]⟩]

/-- Registers of the ICU block, in offset order. -/
def icuRegs : List RegDesc := [
  -- ICU_CTRL
  ⟨0x0, 0, 1, [⟨5, 0, .rw⟩]⟩,
  -- ICU_STRAY
  ⟨0x4, 0, 1, [⟨31, 0, .ro⟩]⟩,
  -- ICU_EMPTY_CLAIMS
  ⟨0x8, 0, 1, [⟨31, 0, .ro⟩]⟩,
  -- ICU_PEND
  ⟨0x40, 4, 8, [⟨31, 0, .ro⟩]⟩,
  -- ICU_EN
  ⟨0x60, 4, 8, [⟨31, 0, .ro⟩]⟩,
  -- ICU_PEND_SET
  ⟨0x80, 4, 8, [⟨31, 0, .wo⟩]⟩,
  -- ICU_PEND_CLR
  ⟨0xA0, 4, 8, [⟨31, 0, .wo⟩]⟩,
  -- ICU_EN_SET
  ⟨0xC0, 4, 8, [⟨31, 0, .wo⟩]⟩,
  -- ICU_EN_CLR
  ⟨0xE0, 4, 8, [⟨31, 0, .wo⟩]⟩,
  -- ICU_ACTIVE
  ⟨0x100, 4, 8, [⟨31, 0, .ro⟩]⟩,
  -- ICU_LINE
  ⟨0x120, 4, 8, [⟨31, 0, .ro⟩]⟩,
  -- ICU_ROUTE
  ⟨0x400, 4, 256, [⟨5, 4, .rw⟩, ⟨3, 0, .ro⟩]⟩,
  -- ICU_CLAIM
  ⟨0x800, 16, 6, [⟨31, 31, .ro⟩, ⟨8, 0, .ro⟩]⟩,
  -- ICU_COMPLETE
  ⟨0x804, 16, 6, [⟨8, 0, .wo⟩]⟩,
  -- ICU_TSTATUS
  ⟨0x808, 16, 6, [⟨31, 31, .ro⟩, ⟨8, 0, .ro⟩]⟩]

/-- Registers of the HPT block, in offset order. -/
def hptRegs : List RegDesc := [
  -- HPT_CTRL
  ⟨0x0, 0, 1, [⟨0, 0, .rw⟩]⟩,
  -- HPT_STATUS
  ⟨0x4, 0, 1, [⟨5, 4, .ro⟩, ⟨3, 0, .ro⟩]⟩,
  -- HPT_ERR_ADDR
  ⟨0x8, 0, 1, [⟨31, 0, .ro⟩]⟩,
  -- HPT_ERRORS
  ⟨0xC, 0, 1, [⟨31, 0, .ro⟩]⟩,
  -- HPT_ABORTS
  ⟨0x10, 0, 1, [⟨31, 0, .ro⟩]⟩,
  -- HPT_STALLS
  ⟨0x14, 0, 1, [⟨31, 0, .ro⟩]⟩,
  -- HPT_STALL_MAX
  ⟨0x18, 0, 1, [⟨9, 0, .rc⟩]⟩,
  -- HPT_MSG_DOOR
  ⟨0x20, 0, 1, [⟨10, 0, .wo⟩]⟩,
  -- HPT_MSG_STAT
  ⟨0x24, 0, 1, [⟨31, 31, .ro⟩, ⟨30, 30, .ro⟩, ⟨10, 0, .ro⟩]⟩,
  -- HPT_INT_STATUS
  ⟨0x70, 0, 1, [⟨1, 1, .w1c⟩, ⟨0, 0, .w1c⟩]⟩,
  -- HPT_INT_ENABLE
  ⟨0x74, 0, 1, [⟨1, 1, .rw⟩, ⟨0, 0, .rw⟩]⟩,
  -- HPT_MSG_REQ
  ⟨0x400, 4, 288, [⟨31, 0, .rw⟩]⟩,
  -- HPT_MSG_RSP
  ⟨0x880, 4, 288, [⟨31, 0, .ro⟩]⟩]

/-- Registers of the KEY block, in offset order. -/
def keyRegs : List RegDesc := [
  -- KEY_STATUS
  ⟨0x0, 0, 1, [⟨31, 16, .ro⟩, ⟨15, 8, .ro⟩, ⟨3, 3, .ro⟩, ⟨2, 2, .ro⟩, ⟨1, 1, .ro⟩, ⟨0, 0, .ro⟩]⟩,
  -- KEY_TAMPER
  ⟨0x4, 0, 1, [⟨31, 16, .ro⟩, ⟨12, 8, .ro⟩, ⟨5, 0, .ro⟩]⟩,
  -- KEY_TAMPER_TICK_LO
  ⟨0x8, 0, 1, [⟨31, 0, .ro⟩]⟩,
  -- KEY_TAMPER_TICK_HI
  ⟨0xC, 0, 1, [⟨15, 0, .ro⟩]⟩,
  -- KEY_OPS
  ⟨0x10, 0, 1, [⟨31, 0, .ro⟩]⟩,
  -- KEY_ABORTS
  ⟨0x14, 0, 1, [⟨31, 0, .ro⟩]⟩,
  -- KEY_REMASKS
  ⟨0x18, 0, 1, [⟨31, 0, .ro⟩]⟩,
  -- KEY_IMPORT_REFUSED
  ⟨0x1C, 0, 1, [⟨31, 0, .ro⟩]⟩,
  -- KEY_LAST_ABORT
  ⟨0x20, 0, 1, [⟨31, 24, .ro⟩, ⟨23, 16, .ro⟩]⟩,
  -- KEY_INT_STATUS
  ⟨0x70, 0, 1, [⟨9, 9, .w1c⟩, ⟨8, 8, .w1c⟩, ⟨7, 7, .w1c⟩, ⟨6, 6, .w1c⟩, ⟨5, 5, .w1c⟩, ⟨4, 4, .w1c⟩, ⟨3, 3, .w1c⟩, ⟨2, 2, .w1c⟩, ⟨1, 1, .w1c⟩, ⟨0, 0, .w1c⟩]⟩,
  -- KEY_INT_ENABLE
  ⟨0x74, 0, 1, [⟨9, 9, .rw⟩, ⟨8, 8, .rw⟩, ⟨7, 7, .rw⟩, ⟨6, 6, .rw⟩, ⟨5, 5, .rw⟩, ⟨4, 4, .rw⟩, ⟨3, 3, .rw⟩, ⟨2, 2, .rw⟩, ⟨1, 1, .rw⟩, ⟨0, 0, .rw⟩]⟩]

/-- Registers of the GRN block, in offset order. -/
def grnRegs : List RegDesc := [
  -- GRN_STATUS
  ⟨0x0, 0, 1, [⟨18, 16, .ro⟩, ⟨10, 8, .ro⟩, ⟨2, 2, .ro⟩, ⟨1, 1, .ro⟩, ⟨0, 0, .ro⟩]⟩,
  -- GRN_RUN_VER0
  ⟨0x4, 0, 1, [⟨31, 0, .ro⟩]⟩,
  -- GRN_RUN_VER1
  ⟨0x8, 0, 1, [⟨31, 0, .ro⟩]⟩,
  -- GRN_STAGE_VER
  ⟨0xC, 0, 1, [⟨31, 0, .ro⟩]⟩,
  -- GRN_REJECTED
  ⟨0x10, 0, 1, [⟨31, 0, .ro⟩]⟩,
  -- GRN_SECURITY
  ⟨0x14, 0, 1, [⟨15, 0, .ro⟩]⟩,
  -- GRN_ACT_TAI_LO
  ⟨0x18, 0, 1, [⟨31, 0, .ro⟩]⟩,
  -- GRN_ACT_TAI_HI
  ⟨0x1C, 0, 1, [⟨31, 0, .ro⟩]⟩,
  -- GRN_PROB_LEFT
  ⟨0x20, 0, 1, [⟨31, 0, .ro⟩]⟩,
  -- GRN_NODE_SLOTS
  ⟨0x24, 0, 1, [⟨8, 8, .ro⟩, ⟨7, 0, .ro⟩]⟩,
  -- GRN_BOOT_FALLBACKS
  ⟨0x28, 0, 1, [⟨31, 0, .ro⟩]⟩,
  -- GRN_INT_STATUS
  ⟨0x70, 0, 1, [⟨7, 7, .w1c⟩, ⟨6, 6, .w1c⟩, ⟨5, 5, .w1c⟩, ⟨4, 4, .w1c⟩, ⟨3, 3, .w1c⟩, ⟨2, 2, .w1c⟩, ⟨1, 1, .w1c⟩, ⟨0, 0, .w1c⟩]⟩,
  -- GRN_INT_ENABLE
  ⟨0x74, 0, 1, [⟨7, 7, .rw⟩, ⟨6, 6, .rw⟩, ⟨5, 5, .rw⟩, ⟨4, 4, .rw⟩, ⟨3, 3, .rw⟩, ⟨2, 2, .rw⟩, ⟨1, 1, .rw⟩, ⟨0, 0, .rw⟩]⟩]

/-- Registers of the CBD block, in offset order. -/
def cbdRegs : List RegDesc := [
  -- CBD_STATUS
  ⟨0x0, 0, 1, [⟨31, 31, .ro⟩, ⟨18, 0, .ro⟩]⟩,
  -- CBD_NEXT_SEQ
  ⟨0x4, 0, 1, [⟨31, 0, .ro⟩]⟩,
  -- CBD_LOST
  ⟨0x8, 0, 1, [⟨31, 0, .ro⟩]⟩,
  -- CBD_CLEARS
  ⟨0xC, 0, 1, [⟨31, 0, .ro⟩]⟩,
  -- CBD_WIN_HEAD
  ⟨0x10, 0, 1, [⟨7, 0, .ro⟩]⟩,
  -- CBD_LAST
  ⟨0x14, 0, 1, [⟨31, 16, .ro⟩, ⟨15, 0, .ro⟩]⟩,
  -- CBD_REPEATS
  ⟨0x18, 0, 1, [⟨31, 0, .ro⟩]⟩,
  -- CBD_INTAKE_DROPS
  ⟨0x1C, 0, 1, [⟨31, 0, .ro⟩]⟩,
  -- CBD_FORWARDED
  ⟨0x20, 0, 1, [⟨31, 0, .ro⟩]⟩,
  -- CBD_WARN
  ⟨0x24, 0, 1, [⟨18, 0, .ro⟩]⟩,
  -- CBD_INT_STATUS
  ⟨0x70, 0, 1, [⟨5, 5, .w1c⟩, ⟨4, 4, .w1c⟩, ⟨3, 3, .w1c⟩, ⟨2, 2, .w1c⟩, ⟨1, 1, .w1c⟩, ⟨0, 0, .w1c⟩]⟩,
  -- CBD_INT_ENABLE
  ⟨0x74, 0, 1, [⟨5, 5, .rw⟩, ⟨4, 4, .rw⟩, ⟨3, 3, .rw⟩, ⟨2, 2, .rw⟩, ⟨1, 1, .rw⟩, ⟨0, 0, .rw⟩]⟩,
  -- CBD_WIN
  ⟨0x100, 4, 16, [⟨31, 0, .ro⟩]⟩,
  -- CBD_WIN_SEL
  ⟨0x140, 0, 1, [⟨7, 0, .rw⟩]⟩]

/-- Registers of the TST block, in offset order. -/
def tstRegs : List RegDesc := [
  -- TST_MODE
  ⟨0x0, 0, 1, [⟨2, 2, .ro⟩, ⟨1, 1, .ro⟩, ⟨0, 0, .ro⟩]⟩,
  -- TST_QUEUE
  ⟨0x4, 0, 1, [⟨15, 8, .ro⟩, ⟨7, 0, .ro⟩]⟩,
  -- TST_LAST
  ⟨0x8, 0, 1, [⟨31, 24, .ro⟩, ⟨23, 16, .ro⟩, ⟨15, 8, .ro⟩]⟩,
  -- TST_LAST_DETAIL
  ⟨0xC, 0, 1, [⟨31, 0, .ro⟩]⟩,
  -- TST_LAST_CYCLE
  ⟨0x10, 0, 1, [⟨31, 0, .ro⟩]⟩,
  -- TST_PASSES
  ⟨0x14, 0, 1, [⟨31, 0, .ro⟩]⟩,
  -- TST_FAILS
  ⟨0x18, 0, 1, [⟨31, 0, .ro⟩]⟩,
  -- TST_SPARE_FAIL
  ⟨0x1C, 0, 1, [⟨31, 0, .ro⟩]⟩,
  -- TST_INT_STATUS
  ⟨0x70, 0, 1, [⟨5, 5, .w1c⟩, ⟨4, 4, .w1c⟩, ⟨3, 3, .w1c⟩, ⟨2, 2, .w1c⟩, ⟨1, 1, .w1c⟩, ⟨0, 0, .w1c⟩]⟩,
  -- TST_INT_ENABLE
  ⟨0x74, 0, 1, [⟨5, 5, .rw⟩, ⟨4, 4, .rw⟩, ⟨3, 3, .rw⟩, ⟨2, 2, .rw⟩, ⟨1, 1, .rw⟩, ⟨0, 0, .rw⟩]⟩]

/-- Registers of the MCTL block, in offset order. -/
def mctlRegs : List RegDesc := [
  -- MCTL_STATUS
  ⟨0x0, 0, 1, [⟨15, 12, .ro⟩, ⟨11, 8, .ro⟩, ⟨7, 6, .ro⟩, ⟨5, 5, .ro⟩, ⟨3, 3, .ro⟩, ⟨2, 2, .ro⟩, ⟨1, 1, .ro⟩, ⟨0, 0, .ro⟩]⟩,
  -- MCTL_VIN
  ⟨0x4, 0, 1, [⟨15, 0, .ro⟩]⟩,
  -- MCTL_START_TIME
  ⟨0x8, 0, 1, [⟨15, 0, .ro⟩]⟩,
  -- MCTL_INT_STATUS
  ⟨0x70, 0, 1, [⟨6, 6, .w1c⟩, ⟨5, 5, .w1c⟩, ⟨4, 4, .w1c⟩, ⟨3, 3, .w1c⟩, ⟨2, 2, .w1c⟩, ⟨1, 1, .w1c⟩, ⟨0, 0, .w1c⟩]⟩,
  -- MCTL_INT_ENABLE
  ⟨0x74, 0, 1, [⟨6, 6, .rw⟩, ⟨5, 5, .rw⟩, ⟨4, 4, .rw⟩, ⟨3, 3, .rw⟩, ⟨2, 2, .rw⟩, ⟨1, 1, .rw⟩, ⟨0, 0, .rw⟩]⟩]

/-- The block's base address in the host map. -/
def Block.base : Block → Nat
  | .icu d => d.space
  | .cue d => d.space + 0x10000
  | .eps d => d.space + 0x20000
  | .qcm d => d.space + 0x30000
  | .twn d => d.space + 0x40000
  | .key d => d.space + 0x50000
  | .grn d => d.space + 0x60000
  | .cbd d => d.space + 0x70000
  | .tst d => d.space + 0x80000
  | .mctl => 0xC0000000
  | .hpt => 0xC0010000
  | .cyc => 0xC0020000
  | .ghl => 0xC0030000
  | .rad r => radBase r
  | .plc p => plcBase p
  | .flc n => flcBase n
  | .mtr => 0xC0070000
  | .eth e => ethBase e
  | .ptp => 0xC0090000

/-- The registers of a block. -/
def Block.regs : Block → List RegDesc
  | .icu _ => icuRegs
  | .cue _ => cueRegs
  | .eps _ => epsRegs
  | .qcm _ => qcmRegs
  | .twn _ => twnRegs
  | .key _ => keyRegs
  | .grn _ => grnRegs
  | .cbd _ => cbdRegs
  | .tst _ => tstRegs
  | .mctl => mctlRegs
  | .hpt => hptRegs
  | .cyc => cycRegs
  | .ghl => ghlRegs
  | .rad _ => radRegs
  | .plc _ => plcRegs
  | .flc _ => flcRegs
  | .mtr => mtrRegs
  | .eth _ => ethRegs
  | .ptp => ptpRegs

end Sys2Proof.Machine
end

