-- ==== Sys2Proof/Machine/Tbl.lean ====
section
/-! DEFINITION. The sparse table every memory, register file and store of the model is kept in:
(key, value) pairs in one canonical form, keys strictly rising and no entry equal to what an
unlisted key reads as.  Equal contents are therefore equal data. -/

namespace Sys2Proof.Machine

/-- A sparse table of values by key. -/
abbrev Tbl (α : Type) := List (Nat × α)

/-- The value at a key; a key that is not listed reads `d`. -/
def Tbl.get {α : Type} (d : α) : Tbl α → Nat → α
  | [], _ => d
  | (k, v) :: t, key => if key = k then v else Tbl.get d t key

/-- The table with every entry of a key taken out. -/
def Tbl.erase {α : Type} : Tbl α → Nat → Tbl α
  | [], _ => []
  | (k, v) :: t, key => if key = k then Tbl.erase t key else (k, v) :: Tbl.erase t key

/-- The table with a value placed at its key, in order. -/
def Tbl.insert {α : Type} : Tbl α → Nat → α → Tbl α
  | [], key, v => [(key, v)]
  | (k, w) :: t, key, v =>
    if key < k then (key, v) :: (k, w) :: t
    else if key = k then (key, v) :: t
    else (k, w) :: Tbl.insert t key v

/-- The table after a value is written at a key.  Writing the value an unlisted key reads as
takes the entry out. -/
def Tbl.put {α : Type} [DecidableEq α] (d : α) (t : Tbl α) (key : Nat) (v : α) : Tbl α :=
  if v = d then Tbl.erase t key else Tbl.insert t key v

/-- Every key of the table lies above `b`, in rising order. -/
def Tbl.above {α : Type} : Nat → Tbl α → Bool
  | _, [] => true
  | b, (k, _) :: t => decide (b < k) && Tbl.above k t

/-- The keys rise strictly. -/
def Tbl.sorted {α : Type} : Tbl α → Bool
  | [] => true
  | (k, _) :: t => Tbl.above k t

/-- The canonical form. -/
def Tbl.wf {α : Type} [DecidableEq α] (d : α) (t : Tbl α) : Bool :=
  Tbl.sorted t && t.all (fun e => decide (e.2 ≠ d))

/-- The table without the keys that lie in `lo ≤ key < hi`. -/
def Tbl.dropRange {α : Type} (t : Tbl α) (lo hi : Nat) : Tbl α :=
  t.filter fun e => !(decide (lo ≤ e.1) && decide (e.1 < hi))

/-- The part of the table with keys in `lo ≤ key < hi`. -/
def Tbl.range {α : Type} (t : Tbl α) (lo hi : Nat) : Tbl α :=
  t.filter fun e => decide (lo ≤ e.1) && decide (e.1 < hi)

/-- Every value passed through a function; values that become what an unlisted key reads as are
taken out. -/
def Tbl.mapVal {α : Type} [DecidableEq α] (d : α) (f : Nat → α → α) (t : Tbl α) : Tbl α :=
  (t.map fun e => (e.1, f e.1 e.2)).filter fun e => decide (e.2 ≠ d)

/-- The table with the entries of another written into it in turn. -/
def Tbl.putAll {α : Type} [DecidableEq α] (d : α) (t : Tbl α) : List (Nat × α) → Tbl α
  | [] => t
  | (k, v) :: es => Tbl.putAll d (Tbl.put d t k v) es

end Sys2Proof.Machine
end

