-- ==== Sys2Proof/Machine/Resets.lean ====
section
/-! DEFINITION. What the registers and the objects hold after a reset: the reset values of the register
tables, and for a field with reset "load" and for an object the default of the factory book (R331, R562);
what is not listed is 0 or empty. -/

namespace Sys2Proof.Machine

def resetRegs0 : Tbl Nat := [
  (0x200000000, 0x3f), (0x200004040, 0x100), (0x2000040c0, 0x100), (0x200004140, 0x100),
  (0x2000041c0, 0x100), (0x200004240, 0x100), (0x2000042c0, 0x100), (0x200080000, 0xc8),
  (0x200100000, 1), (0x200100001, 1), (0x200100008, 0x10), (0x200100180, 0x200),
  (0x2001001a0, 0x200), (0x2001001c0, 0x200), (0x2001001e0, 0x200), (0x200180008, 0x10),
  (0x200180080, 0x3e8), (0x2001800a0, 0xfa0), (0x2001800c0, 0x3e80), (0x2001800e0, 0xfa00),
  (0x200180100, 1), (0x200180120, 0x40), (0x200181020, 0x100), (0x200200000, 0xbb8),
  (0x200200010, 1), (0x400000000, 0x3f), (0x400004040, 0x100), (0x4000040c0, 0x100),
  (0x400004140, 0x100), (0x4000041c0, 0x100), (0x400004240, 0x100), (0x4000042c0, 0x100),
  (0x400080000, 0xc8), (0x400100000, 1), (0x400100001, 1), (0x400100008, 0x10),
  (0x400100180, 0x200), (0x4001001a0, 0x200), (0x4001001c0, 0x200), (0x4001001e0, 0x200)]

def resetRegs1 : Tbl Nat := [
  (0x400180008, 0x10), (0x400180080, 0x3e8), (0x4001800a0, 0xfa0), (0x4001800c0, 0x3e80),
  (0x4001800e0, 0xfa00), (0x400180100, 1), (0x400180120, 0x40), (0x400181020, 0x100),
  (0x400200000, 0xbb8), (0x400200010, 1), (0x40020003d, 1), (0x600000000, 1),
  (0x600080000, 1), (0x600100008, 0x10), (0x600100010, 0x18), (0x600100023, 1),
  (0x600100080, 0x7a12000), (0x6001001a0, 0x1312d000), (0x600100240, 0x186a0), (0x600180040, 1),
  (0x6001800c0, 1), (0x60018081d, 1), (0x600180820, 0x9c4),   (0x600200001, 1), (0x600200020, 2), (0x600200028, 0xe),
  (0x600200030, 4), (0x600200040, 0x100), (0x600200080, 2), (0x600200100, 0x64),
  (0x600200120, 0x14), (0x600200140, 3), (0x600220001, 1),   (0x600220020, 2), (0x600220028, 0xe), (0x600220030, 4), (0x600220040, 0x100)]

def resetRegs2 : Tbl Nat := [
  (0x600220080, 0xa), (0x600220100, 0x64), (0x600220120, 0x14), (0x600220140, 3),
  (0x600240001, 1), (0x600240020, 2), (0x600240028, 0xe),
  (0x600240030, 4), (0x600240040, 0x100), (0x600240080, 0x12), (0x600240100, 0x64),
  (0x600240120, 0x14), (0x600240140, 3), (0x600260001, 1), (0x600260020, 2),
  (0x600260028, 0xe), (0x600260030, 4), (0x600260040, 0x100), (0x600260080, 0x1a),
  (0x600260100, 0x64), (0x600260120, 0x14), (0x600260140, 3), (0x600280001, 1),
  (0x600280040, 3), (0x6002a0001, 1), (0x6002a0040, 3), (0x600300001, 1),
  (0x600300002, 1), (0x600300003, 1), (0x600300008, 8), (0x600300080, 0x190),
  (0x600300120, 0x550), (0x600302001, 1), (0x600302002, 1), (0x600302003, 1),
  (0x600302008, 8), (0x600302080, 0x190), (0x600302120, 0x550), (0x600304001, 1)]

def resetRegs3 : Tbl Nat := [
  (0x600304002, 1), (0x600304003, 1), (0x600304008, 8), (0x600304080, 0x190),
  (0x600304120, 0x550), (0x600306001, 1), (0x600306002, 1), (0x600306003, 1),
  (0x600306008, 8), (0x600306080, 0x190), (0x600306120, 0x550), (0x600320001, 1),
  (0x600320002, 1), (0x600320003, 1), (0x600320008, 8), (0x600320080, 0x190),
  (0x600320120, 0x550), (0x600322001, 1), (0x600322002, 1), (0x600322003, 1),
  (0x600322008, 8), (0x600322080, 0x190), (0x600322120, 0x550), (0x600324001, 1),
  (0x600324002, 1), (0x600324003, 1), (0x600324008, 8), (0x600324080, 0x190),
  (0x600324120, 0x550), (0x600326001, 1), (0x600326002, 1), (0x600326003, 1),
  (0x600326008, 8), (0x600326080, 0x190), (0x600326120, 0x550), (0x600340001, 1),
  (0x600340002, 1), (0x600340003, 1), (0x600340008, 8), (0x600340080, 0x190)]

def resetRegs4 : Tbl Nat := [
  (0x600340120, 0x550), (0x600342001, 1), (0x600342002, 1), (0x600342003, 1),
  (0x600342008, 8), (0x600342080, 0x190), (0x600342120, 0x550), (0x600344001, 1),
  (0x600344002, 1), (0x600344003, 1), (0x600344008, 8), (0x600344080, 0x190),
  (0x600344120, 0x550), (0x600346001, 1), (0x600346002, 1), (0x600346003, 1),
  (0x600346008, 8), (0x600346080, 0x190), (0x600346120, 0x550), (0x600360001, 1),
  (0x600360002, 1), (0x600360003, 1), (0x600360008, 8), (0x600360080, 0x190),
  (0x600360120, 0x550), (0x600362001, 1), (0x600362002, 1), (0x600362003, 1),
  (0x600362008, 8), (0x600362080, 0x190), (0x600362120, 0x550), (0x600364001, 1),
  (0x600364002, 1), (0x600364003, 1), (0x600364008, 8), (0x600364080, 0x190),
  (0x600364120, 0x550), (0x600366001, 1), (0x600366002, 1), (0x600366003, 1)]

def resetRegs5 : Tbl Nat := [
  (0x600366008, 8), (0x600366080, 0x190), (0x600366120, 0x550), (0x600380001, 1),
  (0x600382000, 0x2710), (0x600382016, 3), (0x600382020, 5), (0x600382040, 0x2710),
  (0x600382056, 3), (0x600382058, 1), (0x600382060, 5), (0x600382080, 0x2710),
  (0x600382096, 3), (0x600382098, 2), (0x6003820a0, 5), (0x6003820c0, 0x2710),
  (0x6003820d6, 3), (0x6003820d8, 3), (0x6003820e0, 5), (0x600382100, 0x2710),
  (0x600382116, 3), (0x600382118, 4), (0x600382120, 5), (0x600382140, 0x2710),
  (0x600382156, 3), (0x600382158, 5), (0x600382160, 5), (0x600382180, 0x2710),
  (0x600382193, 1), (0x600382196, 3), (0x6003821a0, 5), (0x6003821c0, 0x2710),
  (0x6003821d3, 1), (0x6003821d6, 3), (0x6003821d8, 1), (0x6003821e0, 5),
  (0x600383020, 0x18), (0x600400001, 1), (0x600400004, 1), (0x600400005, 1)]

def resetRegs6 : Tbl Nat := [
  (0x6004000a0, 0xfac688), (0x6004000c0, 0x100), (0x6004000d0, 0x1c0), (0x6004000e0, 0xffff),
  (0x600400840, 0xf4240), (0x6004008a0, 1), (0x600402000, 0xf4240), (0x600402018, 0xff),
  (0x600420001, 1), (0x600420004, 1), (0x600420005, 1), (0x6004200a0, 0xfac688),
  (0x6004200c0, 0x100), (0x6004200d0, 0x1c0), (0x6004200e0, 0xffff), (0x600420840, 0xf4240),
  (0x6004208a0, 1), (0x600422000, 0xf4240), (0x600422018, 0xff), (0x600440001, 1),
  (0x600440004, 1), (0x600440005, 1), (0x6004400a0, 0xfac688), (0x6004400c0, 0x100),
  (0x6004400d0, 0x1c0), (0x6004400e0, 0xffff), (0x600480000, 1), (0x600480120, 0xb3),
  (0x600480130, 0x4d), (0x600480140, 0xf4240), (0x600480160, 0x3e8), (0x600480170, 0x3c)]

/-- Register fields by `Fld.key`. -/
def resetRegs : Tbl Nat :=
  resetRegs0 ++ resetRegs1 ++ resetRegs2 ++ resetRegs3 ++ resetRegs4 ++ resetRegs5 ++ resetRegs6

def resetObjs0 : Tbl Nat := [
  (0x110300, 0xbacc), (0x110400, 0x12c), (0x110800, 1), (0x120000, 0xffff),
  (0x204600, 0x3e8), (0x20c500, 0xff), (0x20c600, 0xff), (0x400100, 1),
  (0x400200, 0x10), (0x400300, 0x40), (0x401000, 0x3c), (0x401100, 0x7d0),
  (0x401101, 0x7d0), (0x401102, 0x7d0), (0x401103, 0x7d0), (0x401104, 0x7d0),
  (0x401105, 0x7d0), (0x401300, 3), (0x443200, 0x25), (0x500b00, 7),
  (0x600200, 0x447a0000), (0x600201, 0x447a0000), (0x600202, 0x447a0000), (0x600203, 0x447a0000),
  (0x600204, 0x447a0000), (0x600205, 0x447a0000), (0x600206, 0x447a0000), (0x600207, 0x447a0000),
  (0x600208, 0x447a0000), (0x600209, 0x447a0000), (0x60020a, 0x447a0000), (0x60020b, 0x447a0000),
  (0x60020c, 0x447a0000), (0x60020d, 0x447a0000), (0x60020e, 0x447a0000), (0x60020f, 0x447a0000),
  (0x600210, 0x447a0000), (0x600211, 0x447a0000), (0x600212, 0x447a0000), (0x600213, 0x447a0000)]

def resetObjs1 : Tbl Nat := [
  (0x600214, 0x447a0000), (0x600215, 0x447a0000), (0x600600, 0x1000000), (0x600601, 0x1000000),
  (0x600602, 0x1000000), (0x600603, 0x1000000), (0x600604, 0x1000000), (0x600605, 0x1000000),
  (0x600606, 0x1000000), (0x600607, 0x1000000), (0x600608, 0x1000000), (0x600609, 0x1000000),
  (0x60060a, 0x1000000), (0x60060b, 0x1000000), (0x60060c, 0x1000000), (0x60060d, 0x1000000),
  (0x60060e, 0x1000000), (0x60060f, 0x1000000), (0x600610, 0x1000000), (0x600611, 0x1000000),
  (0x600612, 0x1000000), (0x600613, 0x1000000), (0x600614, 0x1000000), (0x600615, 0x1000000),
  (0x600a00, 0x32), (0x605000, 0x384), (0x606200, 0x3e8), (0x701900, 0xe10),
  (0x741200, 0x18), (0x741300, 0x12c), (0x780600, 0x3f000), (0x781400, 0x18),
  (0x781500, 0x1000)]

/-- Object values by index × 256 + sub. -/
def resetObjs : Tbl Nat :=
  resetObjs0 ++ resetObjs1

def resetOcts0 : Tbl (List (BitVec 8)) := [
  (0x110100, List.replicate 17 0), (0x110200, List.replicate 16 0), (0x110e00, List.replicate 16 0), (0x20c700, [0x00, 0x01, 0x03, 0x00]),
  (0x443400, List.replicate 256 0)]

/-- Octet-string object values by index × 256 + sub. -/
def resetOcts : Tbl (List (BitVec 8)) :=
  resetOcts0

end Sys2Proof.Machine
end

