-- ==== Sys2Proof/Machine/State.lean ====
section
/-! DEFINITION. The state of the module: everything the manual gives it to hold, as plain data. -/

namespace Sys2Proof.Machine

/-- A fault stops the machine.  No rule of the manual stops the module, so a fault names only an
access the manual gives no meaning.  Safe: the model stops where the hardware may go on. -/
inductive Fault where
  /-- Raised by no command; kept so that the type is closed and inhabited.  Safe. -/
  | none
  deriving DecidableEq, Repr

/-- A refusal: the model has no meaning for the command. -/
inductive Refusal where
  /-- Raised by an arm of `exec` whose command has no meaning yet.  Safe: nothing is claimed. -/
  | notModelled (mnemonic : String)
  deriving DecidableEq, Repr

/-- A record on its way to the callboard writer (R674-R680): its source and code, its data octets,
the plane that posts it and the tick at which it was posted. -/
structure Post where
  source : Nat
  code : Nat
  data : List Byte
  plane : Plane
  tick : Nat
  deriving DecidableEq, Repr

/-! ## Cycle clock -/

/-- The cycle clock beyond its registers (R60-R94). -/
structure ClockState where
  /-- The 48-bit cycle counter (R65). -/
  cycle : Nat
  /-- Phase 0 of the running cycle: its 25 MHz tick, and 1/256 ticks past it. -/
  cycleStart : Nat
  cycleFrac : Nat
  /-- The length of the running cycle in 1/256 tick (R74). -/
  cycleLen : Nat
  /-- Since when, in 1/256 tick, the oscillator has run at its present rate, and its phase then in 1/65,536
  step (R65, R71, R72). -/
  rateAt : Nat
  ratePhase : Nat
  /-- The reference input in force and the held skew subtracted from its crossings (R84). -/
  refInput : Nat
  refSkew : Nat
  /-- The last detected crossings, newest first, at most four (R64, R77). -/
  detected : List Nat
  /-- The last accepted crossing (R73, R75). -/
  accepted : Option Nat
  /-- The period history: intervals in ticks, newest first, at most eight (R72). -/
  history : List Nat
  /-- The run under qualification, newest first, at most three before the fourth (R76). -/
  run : List Nat
  /-- The slew still to be made, and the slew that the running cycle carries, in 1/256 tick (R74; log
  entry 111). -/
  slewLeft : Int
  slewRun : Int
  /-- A RELOCK crossing within one step of phase 0 waits for its boundary (R79). -/
  lockPending : Bool
  /-- A stamp of the running cycle carried the ghost flag (CYC_GHOST_CYCLES). -/
  ghostSeen : Bool
  /-- The clock was in OUT_OF_RANGE at a moment of the running cycle (R409). -/
  oorSeen : Bool
  /-- TAI predicted at the last 64 boundaries for the boundary 64 cycles on, newest first (R92). -/
  predictions : List (Option Nat)
  /-- The largest absolute mapping error since start (object 0x2012). -/
  mapErrMax : Nat
  /-- TAI events discarded as expired (object 0x2013). -/
  expired : Nat
  deriving DecidableEq, Repr

/-! ## Ghost-light real-time clock -/

/-- A port's frozen copies of the RTC words (R99). -/
structure RtcShadow where
  count : Nat
  status : Nat
  deriving DecidableEq, Repr

/-- The real-time clock of the ghost light (R97-R106). -/
structure RtcState where
  /-- The 48-bit count of 32.768 kHz ticks (R97). -/
  count : Nat
  /-- The Apron's mirror of it (R98). -/
  mirror : Nat
  shadowHost : Option RtcShadow
  shadowA : Option RtcShadow
  shadowB : Option RtcShadow
  /-- The committed set not yet applied, in seconds (R101, R102). -/
  setPending : Option Nat
  /-- The compensation accumulator, 1/256 tick (R106). -/
  compAcc : Int
  /-- Whole ticks of the last compensation still to be applied (R106). -/
  compLeft : Int
  deriving DecidableEq, Repr

/-! ## PTP clock -/

/-- The PTP engine beyond its registers (R514-R523). -/
structure PtpState where
  /-- The PTP clock in units of 2^-32 ns of TAI. -/
  time : Nat
  /-- The servo's integral in ppb. -/
  integral : Int
  /-- Accepted offsets within the lock threshold in a row, at most 8, and the tick of the last offset
  that restarted the holdover count. -/
  agree : Nat
  accepted : Nat
  /-- The run of refused offsets: its least and greatest. -/
  lo : Int
  hi : Int
  deriving DecidableEq, Repr

/-- A received frame in a ring: the buffers it occupies, its octets without tag, its class, and its
timestamp in ns. -/
structure RxEntry where
  buffers : Nat
  octets : List Byte
  cls : Nat
  stamp : Nat
  deriving DecidableEq, Repr

/-- An Ethernet port beyond its registers (R497-R519). -/
structure EthState where
  /-- Frames that wait for transmission, in order of arrival. -/
  queue : List EthFrame
  ring : List RxEntry
  /-- Counters 0 to 25 of R513, as object 0x6420 holds them. -/
  counts : Tbl Nat
  /-- The tick at which a received pause ends, and that of the last PAUSE frame sent. -/
  heldUntil : Nat
  pausedAt : Nat
  /-- The change time of a pending gate list, in PTP ns. -/
  changeAt : Option Nat
  /-- Timestamp entries: identifier and time in ns. -/
  stamps : List (Nat × Nat)
  /-- The tick from which the link has been up. -/
  upSince : Nat
  /-- Wake filters: mask and check value. -/
  wake : Tbl (Nat × Nat)
  deriving DecidableEq, Repr

def EthState.empty : EthState :=
  { queue := [], ring := [], counts := [], heldUntil := 0, pausedAt := 0, changeAt := none, stamps := [],
    upSince := 0, wake := [] }

/-! ## Endpoint store and sweep -/

/-- A hot record (R118).  Every field is the unsigned value of its bits. -/
structure Hot where
  current : Nat
  target : Nat
  lastTx : Nat
  fadeLeft : Nat
  holdLeft : Nat
  fsLevel : Nat
  ovrLevel : Nat
  sense : Nat
  fault : Nat
  profile : Nat
  group : Nat
  fadeCtrl : Nat
  ovrCtrl : Nat
  lastChange : Nat
  binding : Nat
  deriving DecidableEq, Repr

/-- R762: a hot record as delivered. -/
def Hot.delivered : Hot :=
  { current := 0, target := 0, lastTx := 0, fadeLeft := 0, holdLeft := 0, fsLevel := 0,
    ovrLevel := 0, sense := 0, fault := 0, profile := 0, group := 0xFF, fadeCtrl := 0,
    ovrCtrl := 0, lastChange := 0, binding := 0 }

/-- The configuration part of a cold record (R124, offsets 0x00-0x3F). -/
structure Cold where
  kind : Nat
  linkCount : Nat
  fallback : Nat
  nameHash : Nat
  link0 : Nat
  link1 : Nat
  link2 : Nat
  link3 : Nat
  daylightRef : Nat
  derate : Nat
  daylightEp : Nat
  calGain : Nat
  calOffset : Nat
  minPhys : Nat
  maxPhys : Nat
  nominal : Nat
  feeder : Nat
  phase : Nat
  reportPeriod : Nat
  meterQty : Nat
  deriving DecidableEq, Repr

/-- R762: a cold record as delivered. -/
def Cold.delivered : Cold :=
  { kind := 0, linkCount := 0, fallback := 0xFFFF, nameHash := 0, link0 := 0, link1 := 0,
    link2 := 0, link3 := 0, daylightRef := 0, derate := 0xFF, daylightEp := 0x80000000,
    calGain := 0x8000, calOffset := 0, minPhys := 0, maxPhys := 0xFFFF, nominal := 0,
    feeder := 0xFF, phase := 0, reportPeriod := 0, meterQty := 0 }

/-- The statistics of a cold record (R124, offsets 0x40-0x5F). -/
structure Stats where
  onCycles : Nat
  switches : Nat
  energy : Nat
  reports : Nat
  lastReport : Nat
  faults : Nat
  missed : Nat
  cycle : Nat
  level : Nat
  residue : Nat
  deriving DecidableEq, Repr

def Stats.zero : Stats :=
  { onCycles := 0, switches := 0, energy := 0, reports := 0, lastReport := 0, faults := 0,
    missed := 0, cycle := 0, level := 0, residue := 0 }

/-- The counts the store keeps as events occur and writes out at a statistics visit (R126). -/
structure Counts where
  reports : Nat
  lastReport : Nat
  faults : Nat
  missed : Nat
  deriving DecidableEq, Repr

def Counts.zero : Counts := { reports := 0, lastReport := 0, faults := 0, missed := 0 }

/-- A rule profile (R160); its derived steps are computed where they are used (R161). -/
structure Profile where
  minLevel : Nat
  maxLevel : Nat
  presenceLevel : Nat
  holdTime : Nat
  riseTime : Nat
  fallTime : Nat
  deadband : Nat
  fsOutLevel : Nat
  fsDecayTime : Nat
  dlMin : Nat
  refreshPeriod : Nat
  flags : Nat
  nameHash : Nat
  deriving DecidableEq, Repr

/-- R198: the factory-book profile. -/
def Profile.factory : Profile :=
  { minLevel := 0, maxLevel := 65535, presenceLevel := 65535, holdTime := 3000, riseTime := 25,
    fallTime := 250, deadband := 256, fsOutLevel := 32768, fsDecayTime := 250, dlMin := 4096,
    refreshPeriod := 0, flags := 0x1F, nameHash := 0 }

/-- What a die's units evaluate by: their copies of the rule profiles (R160), the derating curves (R171: eight
points of temperature and factor), the aggregate definitions (R185: four pairs of words), the gain and step of
the daylight loop, and the follow-spot enable (R196: CUE_DL_CFG). -/
structure SweepRules where
  profiles : Tbl Profile
  curves : Tbl (List (Nat × Nat))
  aggDefs : Tbl (List (Nat × Nat))
  gain : Nat
  step : Nat
  fsOn : Bool
  deriving DecidableEq, Repr

/-- R198: the defaults. -/
def SweepRules.default : SweepRules :=
  { profiles := [], curves := [], aggDefs := [], gain := 16, step := 64, fsOn := true }

/-- A sensor group (R164). -/
structure Group where
  count : Nat
  members : List Nat
  latch : Bool
  mask : Nat
  lastRise : Nat
  rises : Nat
  deriving DecidableEq, Repr

def Group.empty : Group :=
  { count := 0, members := [0, 0, 0, 0, 0, 0, 0, 0, 0, 0, 0, 0], latch := false, mask := 0,
    lastRise := 0, rises := 0 }

/-- A daylight table entry (R168); it is valid while it has users (R169). -/
structure Daylight where
  sensor : Nat
  ref : Nat
  lux : Nat
  factor : Nat
  users : Nat
  deriving DecidableEq, Repr

def Daylight.free : Daylight := { sensor := 0, ref := 0, lux := 0, factor := 0, users := 0 }

/-- A pre-light (R173, R175): the endpoint, the level and the target cycle. -/
structure PreLight where
  ep : Nat
  level : Nat
  cycle : Nat
  deriving DecidableEq, Repr

/-- A queued event evaluation (R182). -/
inductive UnitEvent where
  | groupRise (unit group : Nat)
  | sensorRise (ep : Nat)
  /-- A cue at a named phase: the slots of the unit that it names (log entry 17). -/
  | cue (unit : Nat) (eps : List Nat)
  deriving DecidableEq, Repr

/-- A result of an aggregate group (R186). -/
structure Agg where
  active : Nat
  lit : Nat
  faulted : Nat
  presence : Nat
  levels : Nat
  power : Nat
  deriving DecidableEq, Repr

def Agg.zero : Agg := { active := 0, lit := 0, faulted := 0, presence := 0, levels := 0, power := 0 }

/-- A data-plane input as the Apron forms it (R53, R309). -/
inductive DataIn where
  | sense (e v : Nat)
  /-- The fault bits of a mask take the values given. -/
  | fault (e mask v : Nat)
  /-- A report of these endpoints (R120). -/
  | report (es : List Nat)
  deriving DecidableEq, Repr

/-- A management-plane write (R450): its target (0 an endpoint field, 1 an object, 2 a die
register), its field code, index or offset, its endpoint or sub-index, the pointer in force for an
object reached through one, the value, and the request item it answers: session, request and
place. -/
structure Mgmt where
  target : Nat
  code : Nat
  sub : Nat
  ptr : Nat
  value : List Byte
  who : Option (Nat × Nat × Nat)
  deriving DecidableEq, Repr

/-- The parts of a logical unit's working store that are sent for it (R144, R193, R467); the emission
bits only when the whole store is sent. -/
structure UnitPart where
  hot : Tbl Hot
  scene : Tbl Nat
  exact : Tbl Bool
  daylight : Tbl Daylight
  groups : Tbl Group
  preLights : List PreLight
  emission : Tbl Bool
  exactEmission : Tbl Bool
  events : List UnitEvent
  deriving DecidableEq, Repr

/-- A logical unit whose working store is being replaced: a move to the spare position `phys` (R143,
R145), or a unit resync in place (R467).  `wait` counts the boundaries still to pass before the
spare is loaded, `owed` the event evaluations marked for it meanwhile; the hot records and other
parts that the failed unit could not give (R145). -/
structure Moving where
  unit : Nat
  phys : Nat
  remap : Bool
  wait : Nat
  skipped : Nat
  owed : Nat
  /-- Its endpoints whose kind or binding a staged write changed at the last boundary (R179). -/
  changed : List Nat
  part : Option UnitPart
  lost : UnitLoss
  deriving DecidableEq, Repr

/-- Counts of the running cycle not yet shown in the registers. -/
structure Tally where
  emits : Nat
  events : Nat
  sent : Nat
  dropped : Nat
  late : Nat
  /-- The units whose full store discarded a message since, once for each; those that posted a record in this
  cycle (R175). -/
  full : List Nat
  posted : List Nat
  deriving DecidableEq, Repr

def Tally.zero : Tally :=
  { emits := 0, events := 0, sent := 0, dropped := 0, late := 0, full := [], posted := [] }

/-! ## Cue area (R201-R209, R218) -/

/-- A scene header (R204). -/
structure SceneHdr where
  first : Nat
  count : Nat
  curtain : Nat
  flags : Nat
  deriving DecidableEq, Repr

def SceneHdr.zero : SceneHdr := { first := 0, count := 0, curtain := 0, flags := 0 }

/-- A scene entry (R205). -/
structure SceneEntry where
  target : Nat
  last : Nat
  level : Nat
  flags : Nat
  deriving DecidableEq, Repr

def SceneEntry.zero : SceneEntry := { target := 0, last := 0, level := 0, flags := 0 }

/-- A schedule entry (R208). -/
structure Sched where
  kind : Nat
  flags : Nat
  scene : Nat
  curtain : Nat
  phase : Nat
  when_ : Nat
  days : Nat
  offset : Nat
  nameHash : Nat
  deriving DecidableEq, Repr

def Sched.zero : Sched :=
  { kind := 0, flags := 0, scene := 0, curtain := 0, phase := 0, when_ := 0, days := 0,
    offset := 0, nameHash := 0 }

/-- A go entry (R218). -/
structure GoEntry where
  seq : Nat
  op : Nat
  flags : Nat
  curtain : Nat
  when_ : Nat
  target : Nat
  last : Nat
  level : Nat
  phase : Nat
  deriving DecidableEq, Repr

/-- A cue bank (R202). -/
structure CueBank where
  seq : Nat
  headers : Tbl SceneHdr
  entries : Tbl SceneEntry
  sched : Tbl Sched
  deriving DecidableEq, Repr

/-- A resolved range of a cue: endpoints, level and exact flag (R207, R221). -/
structure CueRange where
  first : Nat
  last : Nat
  level : Nat
  exact : Bool
  deriving DecidableEq, Repr

/-- Where a cue comes from: a schedule entry or a go entry (R221). -/
inductive CueSrc where
  | sched (j : Nat)
  | go (seq : Nat)
  deriving DecidableEq, Repr

/-- A cue that the engine has taken up: its op and content, its stamp once fixed (R220), its ranges
once prepared or armed (R221, R226), and its marks. -/
structure Cue where
  src : CueSrc
  op : Nat
  stamp : Option Nat
  /-- TAI of a cue given in TAI. -/
  tai : Option Nat
  phase : Option Nat
  arm : Bool
  exact : Bool
  perceptual : Bool
  curtain : Option Nat
  override_ : Nat
  level : Nat
  target : Nat
  last : Nat
  ranges : Option (List CueRange)
  /-- The curtain and the curve as R222 decides them, once resolved. -/
  fade : Nat
  curve : Bool
  armed : Option Nat
  counted : Bool
  deferred : Bool
  late : Bool
  deriving DecidableEq, Repr

/-- A record of the arming store (R225, R226): the cue, its identifier, whether it has executed and
when its curtain ends, and the endpoints that follow it with their predictions (R229). -/
structure ArmRec where
  id : Nat
  cue : Cue
  executed : Bool
  endCycle : Nat
  /-- Transports that declined the cue (R320): radio 0-3, or 4 + port. -/
  declined : List Nat
  following : List (Nat × Nat × Nat)
  deriving DecidableEq, Repr

/-- The occurrence of a schedule entry: the TAI pending and its local day (R212), the day of the last one fixed,
and the `when` of a one-shot entry that has been fixed. -/
structure Occ where
  tai : Option Nat
  day : Nat
  lastDay : Option Nat
  done : Option Nat
  deriving DecidableEq, Repr

def Occ.none_ : Occ := { tai := none, day := 0, lastDay := none, done := none }

/-- The cue table area of a die's stack and the cue engine (R201). -/
structure CueArea where
  active : Nat
  bank0 : CueBank
  bank1 : CueBank
  standing : Tbl Nat
  arming : Tbl (Option ArmRec)
  /-- The inactive go bank, filled by go writes, and the active one (R217). -/
  goInactive : List GoEntry
  goActive : List GoEntry
  /-- The number of the active go bank, and the entries moved to the pending go list as they stand in MRAM (R201). -/
  goBank : Nat
  goListed : List GoEntry
  /-- The pending go list, in sequence order (R217). -/
  pendingGo : List Cue
  /-- Schedule entries taken up as cues: fixed, prepared or armed (R216). -/
  queue : List Cue
  occ : Tbl Occ
  lastExec : Tbl Nat
  nextId : Nat
  /-- The last go sequence given, and the last one executed (R201, R239). -/
  goSeq : Nat
  goExec : Nat
  savedTai : Nat
  swapPending : Bool
  syncBusy : Bool
  /-- The last accepted blackout counter (R235). -/
  blackCounter : Nat
  /-- Blackout confirmations by endpoint: 1 hold confirmed or chain-bound, 2 confirmed (R236). -/
  blackConf : Tbl Nat
  /-- TAI and local-time kinds still to be caught up, from this TAI (R237). -/
  catchUp : Option Nat
  /-- Cancellations of executed or unknown cues, which R231 has counted (log entry 28). -/
  cancelsIgnored : Nat
  deriving DecidableEq, Repr

/-- R763: the cue area as delivered. -/
def CueArea.delivered : CueArea :=
  { active := 0, bank0 := { seq := 0, headers := [], entries := [], sched := [] },
    bank1 := { seq := 1, headers := [], entries := [], sched := [] }, standing := [], arming := [],
    goInactive := [], goActive := [], goBank := 0, goListed := [], pendingGo := [], queue := [], occ := [], lastExec := [],
    nextId := 0, goSeq := 0, goExec := 0, savedTai := 0, swapPending := false, syncBusy := false,
    blackCounter := 0, blackConf := [], catchUp := none, cancelsIgnored := 0 }

/-- What the cue engine hands the node transports (R226, R228, R231). -/
inductive NodeOp where
  | hold (e : Nat)
  | release (e : Nat)
  | arm (id stamp fade : Nat) (curve : Bool) (ranges : List CueRange)
  | cancel (id : Nat) (late : Bool)
  deriving DecidableEq, Repr

/-! ## Nodes, radio and powerline (R285-R365) -/

/-- A node of the segment (R121, R309, R318, R333). -/
structure Node where
  eui : Nat
  /-- Radio 0-3, or 4 + port for a powerline node (R358). -/
  transport : Nat
  depth : Nat
  /-- The parent's address; 0 the module. -/
  parent : Nat
  joined : Bool
  sleepy : Bool
  mains : Bool
  longPre : Bool
  repeated : Bool
  drift : Nat
  modes : Nat
  endpoints : Nat
  offset : Int
  lastHeard : Nat
  version : Nat
  grants : List NodeGrant
  sleep : List Byte
  /-- Last node status word, and last image progress record (R309, R667). -/
  status : Nat
  progress : Nat
  retries : Nat
  drops : Nat
  duplicates : Nat
  missedRdv : Nat
  missEntries : Nat
  beaconLoss : Nat
  repairs : Nat
  /-- Last accepted up sequence, next down sequence, last down group sequence on the powerline. -/
  rxSeq : Option Nat
  txSeq : Nat
  /-- Last accepted frame counters under the node, segment and join keys, and under the previous segment key
  (R307, R631). -/
  counters : List (Option Nat)
  /-- Consecutive rendezvous without acknowledgement (R325). -/
  missRun : Nat
  /-- Report records discarded: an index that no endpoint binds or that has no content (R309). -/
  discards : Nat
  deriving DecidableEq, Repr

def Node.unknown : Node :=
  { eui := 0, transport := 0, depth := 0, parent := 0, joined := false, sleepy := false,
    mains := false, longPre := false, repeated := false, drift := 0, modes := 0, endpoints := 0,
    offset := 0, lastHeard := 0, version := 0, grants := [], sleep := [], status := 0, progress := 0, retries := 0,
    drops := 0, duplicates := 0, missedRdv := 0, missEntries := 0, beaconLoss := 0, repairs := 0,
    rxSeq := none, txSeq := 0, counters := [none, none, none, none], missRun := 0, discards := 0 }

/-- A frame content that waits for its transport: the node (none for a broadcast), the frame type
(R304), the priority (R310), the payload, the endpoint index of an update record, the key code, the
EUI-64 of a join response, how often a broadcast is still to be sent (of a frame to a sleepy node, one more than
its repeats still to come, R325), and its retries and sequence. -/
structure TxItem where
  dest : Option Nat
  kind : Nat
  prio : Nat
  body : List Byte
  tag : Nat
  key : Nat
  eui : Nat
  copies : Nat
  retries : Nat
  seq : Option Nat
  deriving DecidableEq, Repr

/-- A frame that awaits its acknowledgement. -/
structure Flight where
  node : Nat
  hop : Nat
  seq : Nat
  rendezvous : Bool
  items : List TxItem
  deriving DecidableEq, Repr

/-- A cue generation of a transport (R320): the cue, the cycle of its stamp, whether it cancels, and the one node
that its cancel goes to with a hold (R228). -/
structure Generation where
  id : Nat
  stamp : Nat
  cancel : Bool
  node : Option Nat
  deriving DecidableEq, Repr

/-- A radio beyond its registers. -/
structure RadioState where
  active : Tbl Nat
  inactive : Tbl Nat
  queue : List TxItem
  flight : Option Flight
  /-- The latest cue generation, and what each generation was. -/
  gen : Nat
  gens : Tbl (Option Generation)
  bcastSeq : Nat
  /-- Transmissions of the last hour: tick and µs (R290). -/
  air : List (Nat × Nat)
  /-- The superframe by which an accepted swap is made (R300), and by which a leave ends (R327). -/
  swapBy : Option Nat
  leaveBy : Option Nat
  /-- Swap requests refused (R300). -/
  swapRefused : Nat
  /-- The transmit power of the running slot (R331). -/
  power : Nat
  /-- The ticks at which the latest transmission begins and ends. -/
  tx : Nat × Nat
  /-- Last accepted sequence of a join request by EUI-64: 1 + the sequence (R314). -/
  joinSeq : Tbl Nat
  /-- The radio's nodes move at the next superframe boundary: to a transport, or spread over those that remain
  (R327, R328). -/
  moveTo : Option (Option Nat)
  deriving DecidableEq, Repr

def RadioState.empty : RadioState :=
  { active := [], inactive := [], queue := [], flight := none, gen := 0, gens := [], bcastSeq := 0,
    air := [], swapBy := none, leaveBy := none, swapRefused := 0, power := 0, tx := (0, 0), joinSeq := [],
    moveTo := none }

/-- A group of an update bundle that awaits its confirmation (R351, R353). -/
structure PlcGroup where
  node : Nat
  seq : Nat
  records : List (List Byte)
  repeats : Nat
  deriving DecidableEq, Repr

/-- A powerline port beyond its registers. -/
structure PlcState where
  plan : Tbl Nat
  queue : List TxItem
  groups : List PlcGroup
  /-- Accepted reports to acknowledge: node, sequence and offset word, in order of report end. -/
  acks : List (Nat × Nat × Nat)
  /-- The tick until which the line is held (R342). -/
  heldUntil : Nat
  gen : Nat
  gens : Tbl (Option Generation)
  bcastSeq : Nat
  leaveBy : Option Nat
  /-- The ticks at which the latest transmission begins and ends. -/
  tx : Nat × Nat
  /-- Last accepted sequence of a join request by EUI-64: 1 + the sequence (R314). -/
  joinSeq : Tbl Nat
  /-- The port's nodes move to the other port at the next superframe boundary (R360). -/
  moveTo : Option (Option Nat)
  deriving DecidableEq, Repr

def PlcState.empty : PlcState :=
  { plan := [], queue := [], groups := [], acks := [], heldUntil := 0, gen := 0, gens := [],
    bcastSeq := 0, leaveBy := none, tx := (0, 0), joinSeq := [], moveTo := none }

/-- The link-security table of the Apron (R621). -/
structure LinkKeys where
  current : List Byte
  currentGen : Nat
  previous : List Byte
  previousGen : Nat
  nodes : Tbl (List Byte)
  deriving DecidableEq, Repr

def LinkKeys.empty : LinkKeys :=
  { current := [], currentGen := 0, previous := [], previousGen := 0, nodes := [] }

/-! ## Footlight chains (R366-R400) -/

/-- What a chain knows of a device: the last valid status word, whether the last word failed its
check, frames without a valid word, the last temperature (R390), the cycle of the last valid word,
and the levels last sent. -/
structure ChainDev where
  valid : Bool
  checkError : Bool
  word : Nat
  silent : Nat
  temp : Option Int
  cycle : Nat
  sent : List Nat
  deriving DecidableEq, Repr

def ChainDev.none_ : ChainDev :=
  { valid := false, checkError := false, word := 0, silent := 0, temp := none, cycle := 0,
    sent := [0, 0, 0, 0] }

/-- A frame in progress: count frame or not, its devices, the snapshot of the level table, and the
positions that carried a command: 2 fallback, 3 configure. -/
structure ChainFrame where
  count : Bool
  devices : Nat
  snapshot : Tbl Nat
  commands : Tbl Nat
  deriving DecidableEq, Repr

/-- A chain beyond its registers (R383, R386, R387). -/
structure ChainState where
  /-- Device values by position × 4 + channel. -/
  levels : Tbl Nat
  configure : List Nat
  fallback : List Nat
  frame : Option ChainFrame
  devs : Tbl ChainDev
  deriving DecidableEq, Repr

def ChainState.empty : ChainState :=
  { levels := [], configure := [], fallback := [], frame := none, devs := [] }

/-! ## Keys and tamper (R614-R642) -/

/-- A key slot of the root store (R614), the record of its key (R616) and its seal (the salt of the
wrapping key), the unsealed key with the random share that masks it (R620). -/
structure KeySlot where
  state : Nat
  gen : Nat
  salt : List Byte
  record : Option (List Byte)
  value : List Byte
  mask : List Byte
  deriving DecidableEq, Repr

def KeySlot.empty : KeySlot :=
  { state := 0, gen := 0, salt := [], record := none, value := [], mask := [] }

/-- A tamper input (R634): consecutive samples that show tamper, consecutive ones that do not, and
whether its event is confirmed and not yet cleared by two quiet samples. -/
structure TamperInput where
  on : Nat
  off : Nat
  confirmed : Bool
  deriving DecidableEq, Repr

def TamperInput.quiet : TamperInput := { on := 0, off := 0, confirmed := false }

/-- A key operation in progress (R622): its slot, its code of KEY_LAST_ABORT, its data, and the request
item it answers. -/
structure KeyOp where
  slot : Nat
  op : Nat
  data : List Byte
  who : Option (Nat × Nat × Nat)
  deriving DecidableEq, Repr

/-- The ghost light's keys and tamper watch. -/
structure KeyStore where
  slots : Tbl KeySlot
  /-- Slot 9 is held under the root (R632). -/
  held : Bool
  latched : Nat
  events : Nat
  total : Nat
  firstTick : Nat
  inputs : Tbl TamperInput
  present : Nat
  mesh : Nat
  ops : List KeyOp
  /-- A re-mask waits for a key operation to end (R620). -/
  remaskWaits : Bool
  /-- The TAI second from which the period of object 0x701A runs (R631; log entry 66). -/
  segStart : Option Nat
  /-- The settings of objects 0x7032 to 0x7034 as the ghost light keeps them (R647). -/
  enabled : Nat
  polarity : Nat
  lapseCounts : Bool
  deriving DecidableEq, Repr

def KeyStore.delivered : KeyStore :=
  { slots := [], held := false, latched := 0, events := 0, total := 0, firstTick := 0, inputs := [],
    present := 0, mesh := 0, ops := [], remaskWaits := false, segStart := none, enabled := 0x1F,
    polarity := 0, lapseCounts := false }

/-! ## Metering (R401-R442) -/

/-- The results of one input over a window (R407, R409): the registers' values, and the powers P, Q
and S in 2^-32 W from which the energies are accumulated. -/
structure MeterResult where
  cycle : Nat
  v : Nat
  i : Nat
  p : Int
  q : Int
  s : Nat
  pf : Int
  freq : Nat
  flags : Nat
  pRaw : Int
  qRaw : Int
  sRaw : Nat
  deriving DecidableEq, Repr

def MeterResult.zero : MeterResult :=
  { cycle := 0, v := 0, i := 0, p := 0, q := 0, s := 0, pf := 0, freq := 0, flags := 0, pRaw := 0,
    qRaw := 0, sRaw := 0 }

/-- A commit record (R418): its stamp and flags, the saved counters, and the totals, residues and
pulse accumulators by position, with the backlogs that R428 commits with them. -/
structure Commit where
  stamp : Nat
  final : Bool
  gap : Bool
  optime : Nat
  pwrcyc : Nat
  totals : Tbl Nat
  residues : Tbl Nat
  pulses : Tbl Nat
  backlogs : Tbl Nat
  deriving DecidableEq, Repr

/-- R422: the record of a module as delivered. -/
def Commit.delivered : Commit :=
  { stamp := 0, final := true, gap := false, optime := 0, pwrcyc := 0, totals := [], residues := [],
    pulses := [], backlogs := [] }

/-- What a feeder's running history interval has seen (R424). -/
structure HistAcc where
  pMax : Option Int
  vMin : List (Option Nat)
  vMax : List (Option Nat)
  flagged : Bool
  disabled : Bool
  deriving DecidableEq, Repr

def HistAcc.empty : HistAcc :=
  { pMax := none, vMin := [none, none, none], vMax := [none, none, none], flagged := false,
    disabled := false }

/-- The metering engine beyond its registers. -/
structure MeterState where
  /-- Results published at phase 32, and those of the last window, by input. -/
  results : Tbl MeterResult
  last : Tbl MeterResult
  ready : Bool
  /-- Totals in mWh and residues in 2^-32 mWh, by input × 5 + quantity (R412). -/
  totals : Tbl Nat
  residues : Tbl Nat
  /-- Pulse accumulators in 2^-32 mWh, pulses lost, and the tick at which an output is free. -/
  pulses : Tbl Nat
  lost : Tbl Nat
  free : Tbl Nat
  /-- The window in progress is measured, and for which feeders (R437). -/
  running : Bool
  feeders : Nat
  /-- Inputs whose settings changed at the last boundary, and at the one before (R405). -/
  changing : List Nat
  changed : List Nat
  /-- The settings that govern the window in progress (R405): the absolute-mode bits, the ratios as F32
  words, and the gains, by input. -/
  govMode : Nat
  govRatio : Tbl Nat
  govGain : Tbl Nat
  /-- Meter-endpoint sums of v, i, p, q, s, pf and frequency, and their counts (R426). -/
  sums : Tbl (List Int)
  counts : Tbl Nat
  /-- The history interval: by feeder, its windows at the start, its first tick, and its marks. -/
  hist : Tbl HistAcc
  histWin : Tbl Nat
  histFrom : Nat
  histCut : Bool
  histGap : Bool
  /-- A harmonic request: its input, the cycle it was made in, and windows acquired (R429). -/
  harm : Option (Nat × Nat × Nat)
  /-- Offset calibration: requests waiting, the run with its cycles, the next automatic input and
  the tick of the last automatic request (R430). -/
  calQueue : List Nat
  cal : Option (Nat × Nat)
  calNext : Nat
  calFrom : Nat
  /-- Commit records carry the energy-gap flag (R422). -/
  gap : Bool
  deriving DecidableEq, Repr

/-- The default ratio 1000.0 as an F32 word, and the default gain 1.0: what the settings that govern hold
where they list nothing. -/
def ratioDefault : Nat := 0x447A0000
def gainDefault : Nat := 0x01000000

def MeterState.reset : MeterState :=
  { results := [], last := [], ready := false, totals := [], residues := [], pulses := [],
    lost := [], free := [], running := false, feeders := 0, changing := [], changed := [],
    govMode := 0, govRatio := [], govGain := [],
    sums := [], counts := [], hist := [], histWin := [], histFrom := 0, histCut := true,
    histGap := false, harm := none, calQueue := [], cal := none, calNext := 0, calFrom := 0,
    gap := false }

/-- A die's metering result table for the balance check (R191): by feeder the sum of P in 0.1 W, the
results it holds, and whether one was flagged. -/
structure MeterSum where
  sum : Int
  count : Nat
  flagged : Bool
  deriving DecidableEq, Repr

def MeterSum.zero : MeterSum := { sum := 0, count := 0, flagged := false }

/-- The theft watch: its block in backup MRAM (R434) and the minute in progress in SRAM. -/
structure Theft where
  running : Bool
  lapsed : Bool
  wrapped : Bool
  inputs : List Nat
  next : Nat
  firstFlow : Nat
  lastSave : Nat
  minutes : Nat
  charge : List Nat
  threshold : Nat
  records : Tbl (List Byte)
  seq : Nat
  /-- Sums of the 1-s rms values, seconds counted, seconds above, inputs above. -/
  sums : List Nat
  seconds : Nat
  secAbove : Nat
  above : Nat
  /-- Records added since the watch started. -/
  added : Nat
  /-- Ratio times gain of the three inputs in force at the supply failure, times 2^173 (R432). -/
  scale : List Nat
  deriving DecidableEq, Repr

def Theft.empty : Theft :=
  { running := false, lapsed := false, wrapped := false, inputs := [0, 0, 0], next := 0,
    firstFlow := 0, lastSave := 0, minutes := 0, charge := [0, 0, 0], threshold := 0, records := [],
    seq := 0, sums := [0, 0, 0], seconds := 0, secAbove := 0, above := 0, added := 0,
    scale := [0, 0, 0] }

/-! ## The journal (R448-R458) -/

/-- What a journal packet carries (R450). -/
inductive Rec where
  | dataWrite (input : Nat) (ins : List DataIn)
  | manage (w : Mgmt)
  | cueFix (src : CueSrc) (stamp id : Nat) (late : Bool)
  | occurrence (j tai : Nat)
  | meterResults (rs : List (Nat × MeterResult))
  | meterCommit (c : Commit)
  | epochMark (phase : Nat) (counts : List (Nat × Nat))
  | commitTotals (half : Nat) (totals : List (Nat × Nat))
  | commitClose (ghost : Bool) (cycle packets crc input : Nat) (gaveUp : Bool) (format carried : Nat)
  | fragment
  | reserved (type : Nat)
  deriving DecidableEq, Repr

/-- A packet of the journal: the die it goes to, its sequence, its words and what they carry. -/
structure Packet where
  toDie : DieId
  seq : Nat
  words : List (BitVec 64)
  content : Rec
  deriving DecidableEq, Repr

/-! ## Callboard (R674-R685) -/

/-- A stored record (R674): its words but the CRC, which is formed where it is read. -/
structure CbRec where
  optime : Nat
  pwrcyc : Nat
  stamp : Nat
  source : Nat
  code : Nat
  count : Nat
  last : Nat
  seq : Nat
  data : List Byte
  deriving DecidableEq, Repr

def CbRec.empty : CbRec :=
  { optime := 0, pwrcyc := 0, stamp := 0, source := 0, code := 0, count := 0, last := 0, seq := 0,
    data := [] }

/-- The callboard of a die's stack (R678): the main log by index, its header, the rolling window with
its head, and whether the record last stored may take repeats. -/
structure Board where
  log : Tbl CbRec
  fill : Nat
  next : Nat
  lost : Nat
  clears : Nat
  window : Tbl CbRec
  head : Nat
  entered : Bool
  stored : Bool
  deriving DecidableEq, Repr

/-- A callboard as delivered (log entry 77). -/
def Board.empty : Board :=
  { log := [], fill := 0, next := 0, lost := 0, clears := 0, window := [], head := 0, entered := false,
    stored := false }

/-- A book (R558): its sequence and its entries: index, sub-index, pointer and value. -/
structure Book where
  seq : Nat
  entries : List (Nat × Nat × Nat × List Byte)
  deriving DecidableEq, Repr

/-! ## Greenroom (R648-R673) -/

/-- A slot of the greenroom: its state (0 empty, 1 receiving, 2 valid, 3 invalid), the header, and the
body octets received, 1 + the octet by offset.  A valid slot without a header holds the image the die
was delivered with, whose header is Config.factoryImage (log entry 71). -/
structure ImageSlot where
  state : Nat
  header : List Byte
  body : Tbl Nat
  deriving DecidableEq, Repr

def ImageSlot.empty : ImageSlot := { state := 0, header := [], body := [] }

/-- The greenroom of a die: the two run slots, the staging slot, the node image slots, the boot
pointer, the slot that runs and the one it returns to, the minimum security version, the rejected
version, the boot fallbacks, the failed check of the last Stage end with its target, and the
endorsement. -/
structure Green where
  run0 : ImageSlot
  run1 : ImageSlot
  stage : ImageSlot
  nodes : Tbl ImageSlot
  boot : Nat
  running : Nat
  former : Nat
  minimum : Nat
  rejected : Nat
  fallbacks : Nat
  target : Nat
  failed : Nat
  endorsement : List Byte
  deriving DecidableEq, Repr

def Green.delivered : Green :=
  { run0 := { ImageSlot.empty with state := 2 }, run1 := ImageSlot.empty, stage := ImageSlot.empty,
    nodes := [], boot := 0, running := 0, former := 0, minimum := 0, rejected := 0, fallbacks := 0,
    target := 0, failed := 0, endorsement := [] }

/-- The activation record (R659-R665): its state (GRN_STATUS.act_state), the version, T, the boundary of
the activation, the die that is to run the new image, the 25 MHz tick at which probation ends, and the
TAI of the boundary before. -/
structure Activation where
  state : Nat
  version : Nat
  tai : Nat
  stamp : Nat
  die : Option DieId
  until_ : Nat
  rejecting : Bool
  /-- In probation the old-image die has been the understudy (R665). -/
  seated : Bool
  deriving DecidableEq, Repr

def Activation.none_ : Activation :=
  { state := 0, version := 0, tai := 0, stamp := 0, die := none, until_ := 0,
    rejecting := false, seated := false }

/-- A node image campaign (R666): its slot, rounds and share, blocks handed to each transport, and the
broadcast opportunities each has had. -/
structure Campaign where
  on : Bool
  slot : Nat
  rounds : Nat
  share : Nat
  done : Tbl Nat
  chances : Tbl Nat
  sent : Nat
  deriving DecidableEq, Repr

def Campaign.none_ : Campaign :=
  { on := false, slot := 0, rounds := 0, share := 0, done := [], chances := [], sent := 0 }

/-! ## Sessions and requests (R534-R552) -/

/-- A DTLS session: on the service port or the backbone, its credentials, and the tick of its last
record (R535, R538, R623). -/
structure Session where
  service : Bool
  commissioning : Bool
  last : Nat
  deriving DecidableEq, Repr

/-- A request a session remembers (R551): its cycle and, once sent, its response. -/
structure Remembered where
  session : Nat
  request : Nat
  cycle : Nat
  response : Option (List Byte)
  deriving DecidableEq, Repr

/-- A request in progress: its type, and of each item the octets its response repeats and its status
once it is known (R546). -/
structure Progress where
  session : Nat
  request : Nat
  type : Nat
  items : List (List Byte × Option Nat)
  deriving DecidableEq, Repr

/-- A company command (R569) as held or carried out. -/
structure Command where
  sender : Nat
  counter : Nat
  at_ : Nat
  action : Nat
  data : List Byte
  deriving DecidableEq, Repr

/-- A company send in progress (R574): its counter, the targets whose answers are awaited, the counts
of object 0x1211, and the cycle it began. -/
structure CompanySend where
  counter : Nat
  waits : List Nat
  sent : Nat
  ok : Nat
  refused : Nat
  lapsed : Nat
  cycle : Nat
  deriving DecidableEq, Repr

/-- The company side of the module: last accepted counters by sender (1 + the counter), commands held
for their TAI, the module's own counter, the last send, and the last command received (object
0x1212). -/
structure Company where
  senders : Tbl Nat
  held : List Command
  counter : Nat
  send : Option CompanySend
  received : List Byte
  /-- Commands carried out with the late mark of R93 (R572). -/
  late : Nat
  deriving DecidableEq, Repr

def Company.start : Company :=
  { senders := [], held := [], counter := 0, send := none, received := [], late := 0 }

/-- A mirror write: what the stage holder writes to the MRAM areas that the journal does not carry
(R452): a metering history record, the callboard, the remembered requests, or the prompt books. -/
inductive Mirror where
  | history (seq : Nat) (b : List Byte)
  | board (b : Board)
  | requests (l : List Remembered)
  | books (l : List (Option Book)) (ever : Nat)
  deriving DecidableEq, Repr

/-- A continuity message on Falsia requester 3 (R538, R649, R679): a greenroom slot (0 the staging slot,
1 + n node slot n), the sessions, or forwarded records. -/
inductive Continuity where
  | slot (target : Nat) (x : ImageSlot)
  | sessions (l : Tbl Session)
  | records (l : List CbRec)
  deriving DecidableEq, Repr

/-! ## Tests, power and the test access port -/

/-- The test queue (R687): waiting requests, the test that runs with the cycle of its start, the steps
it has had and its result once known, the cycle of the last periodic spare test and the tick of the last
periodic calibration of each radio; offline mode asked for, and the die that serves requests in it. -/
structure Tests where
  queue : List (Nat × Nat)
  running : Option (Nat × Nat)
  began : Nat
  steps : Nat
  verdict : Option Nat
  spareFrom : Nat
  radioFrom : Tbl Nat
  offlineAsked : Bool
  server : Option DieId
  deriving DecidableEq, Repr

def Tests.start : Tests :=
  { queue := [], running := none, began := 0, steps := 0, verdict := none, spareFrom := 0,
    radioFrom := [], offlineAsked := false, server := none }

/-- The supply and the start-up of the module (R700-R715). -/
structure Power where
  /-- The module is out of reset. -/
  on : Bool
  /-- A power failure was detected at this tick; a commanded restart runs the same sequence. -/
  failedAt : Option Nat
  restart : Bool
  /-- A restart is to be made at the next boundary (R713). -/
  restartAsked : Bool
  /-- The tick of supply-good or of the restart. -/
  startedAt : Nat
  /-- Step 3 passed, by die; the first health words of step 5: passed, failed or none. -/
  booted : List Bool
  words : List (Option Bool)
  /-- The counters are loaded (step 4). -/
  loaded : Bool
  /-- The cycle saved before the stop (R85). -/
  savedCycle : Nat
  /-- The test-enable land was high at supply-good. -/
  testEn : Bool
  /-- The ghost light is out of reset; it runs on the backup. -/
  ghost : Bool
  backup : Bool
  /-- 32.768 kHz ticks on the backup since the ghost light's reset. -/
  backupTicks : Nat
  /-- GHL power events to be raised at the next start (R725). -/
  events : Nat
  /-- The tick since which a supercapacitor charges. -/
  chargeFrom : Nat
  /-- The die chosen for the stage that the gate is not yet open to, and whether it has restored its state
  (steps 6 and 8). -/
  chosen : Option DieId
  restored : Bool
  /-- Records of the ghost light to be posted at the next start (R680): code and data. -/
  posts : List (Nat × List Byte)
  deriving DecidableEq, Repr

def Power.off : Power :=
  { on := false, failedAt := none, restart := false, restartAsked := false, startedAt := 0,
    booted := [false, false], words := [none, none], loaded := false, savedCycle := 0, testEn := false,
    ghost := false,
    backup := false, backupTicks := 0, events := 0, chargeFrom := 0, chosen := none, restored := false, posts := [] }

/-- The IEEE 1149.1 test access port (R691): out of reset, the state of its controller, the instruction
shift stage and the instruction in force, the data shift stage, and the boundary register's update
stage. -/
structure Tap where
  out : Bool
  state : Nat
  irShift : List Bool
  ir : Nat
  drShift : List Bool
  boundary : List Bool
  tck : Bool
  tdo : Bool
  deriving DecidableEq, Repr

def Tap.reset : Tap :=
  { out := false, state := 0, irShift := [], ir := 0, drShift := [], boundary := [], tck := false,
    tdo := false }

/-- The stage holder's side of the journal: the sequence of the next packet, packets the understudy
has not yet taken, those not yet acknowledged, and the packets, CRC register and bytes of the
running cycle. -/
structure Journal where
  seq : Nat
  link : List Packet
  unacked : List Nat
  packets : Nat
  crc : Nat
  bytes : Nat
  /-- The stage holder has stopped journaling: a release (R470) or a full staging (R484). -/
  stopped : Bool
  deriving DecidableEq, Repr

/-- A die's side of continuity (R443-R485), beyond its registers. -/
structure Side where
  /-- The journal format version of the image it runs (R445). -/
  format : Nat
  /-- Receiving: the sequence expected next, the packets and CRC register of the cycle in progress,
  the highest input sequence held in data writes, the last epoch mark of the cycle, and the totals
  of the marker. -/
  expect : Nat
  packets : Nat
  crc : Nat
  input : Nat
  mark : Option Nat
  totals : Tbl Nat
  /-- Evaluations started by unit since the last mark (R454). -/
  started : Tbl Nat
  /-- The wait for the closing packet runs: the new cycle's pass has not begun (R459). -/
  waiting : Bool
  /-- Cycles closed provisionally and not yet confirmed, with their completions by unit, and how
  many cycles in a row ran provisionally (R460, R461). -/
  lapses : List (Nat × Tbl Nat)
  run : Nat
  /-- The last cycle counted as provisional. -/
  counted : Option Nat
  /-- The die has passed full self-test since it last held the stage (R480). -/
  tested : Bool
  /-- It is to leave for full self-test at the next boundary (R481, R483). -/
  toTest : Bool
  /-- Resynchronisations completed (object 0x210F) and restarted (R479). -/
  resyncs : Nat
  restarts : Nat
  deriving DecidableEq, Repr

def Side.start : Side :=
  { format := 0, expect := 0, packets := 0, crc := 0xFFFFFFFF, input := 0, mark := none, totals := [],
    started := [], waiting := false, lapses := [], run := 0, counted := none, tested := false,
    toTest := false, resyncs := 0, restarts := 0 }

/-- A dispute (R464): its unit and the cycle whose digests differed first, whether the next cycle's
differed too, whether clones were tried and where they are on die A and die B, and whether it is
settled and closes at the next boundary. -/
structure Dispute where
  unit : Nat
  cycle : Nat
  again : Bool
  tried : Bool
  clones : Option (Nat × Nat)
  settled : Bool
  deriving DecidableEq, Repr

/-- Continuity as the Apron and both dies see it. -/
structure Twin where
  disputes : List Dispute
  /-- Clones still to be released: their physical units on die A and die B. -/
  clones : List (Nat × Nat)
  /-- 1 + the cycle of the last unit resync of a unit (R466). -/
  resynced : Tbl Nat
  /-- The cycle of the last settled dispute (object 0x210C). -/
  arbCycle : Nat
  /-- An accepted planned handover and its cause; the stage holder is blamed (R465, R466); it will
  be once this unit's spare is installed. -/
  planned : Option Nat
  blamed : Bool
  blameAfter : Option Nat
  /-- The die that released the stage and the cause, until the next boundary (R470). -/
  release : Option (DieId × Nat)
  /-- Consecutive cycles without the stage holder's health word (R471). -/
  silent : Nat
  /-- The Apron's next input sequence less 1, and the inputs handed over in the last 4 cycles: cycle,
  sequence and input (R451, R476). -/
  input : Nat
  replay : List (Nat × Nat × List DataIn)
  /-- Operations for the node transports that wait for the acknowledgement of a packet (R458). -/
  held : List (Nat × NodeOp)
  /-- Falsia link: resends of the packet in hand, lanes that have failed, the cycle it went down. -/
  resends : Nat
  badLanes : Nat
  downAt : Nat
  /-- Object 0x2109: boundary stamp, cause, from, to and inputs replayed. -/
  last : Nat × Nat × Nat × Nat × Nat
  deriving DecidableEq, Repr

def Twin.start : Twin :=
  { disputes := [], clones := [], resynced := [], arbCycle := 0, planned := none, blamed := false,
    blameAfter := none, release := none, silent := 0, input := 0, replay := [], held := [],
    resends := 0, badLanes := 0, downAt := 0, last := (0, 0, 0, 0, 0) }

/-- A response of the object protocol that is ready (R546, R552): its session and request, the last
journal packet and mirror write it waits for, whether its session remembers it (R551), and its octets. -/
structure Reply where
  session : Nat
  request : Nat
  kept : Bool
  after : Nat
  mirrors : Nat
  body : List Byte
  deriving DecidableEq, Repr

/-! ## Queues and arbiters (R244-R254, R270-R276) -/

/-- One ring of a queue: its pointers, the whole packets waiting, the words already read of the
first, the words of a transfer that has not ended, whether a flush discards that one at its end mark (R248),
and the credits its producer has spent. -/
structure Ring where
  wr : Nat
  rd : Nat
  packets : List (List (BitVec 64) × ItemKind)
  taken : Nat
  writing : List (BitVec 64)
  drop : Bool
  debited : Nat
  deriving DecidableEq, Repr

def Ring.empty : Ring := { wr := 0, rd := 0, packets := [], taken := 0, writing := [], drop := false, debited := 0 }

/-- A queue: its rings, the ring whose packet is being read, the most words seen waiting, the words
reserved for responses, and a flush that waits for the end of the packet being read (R248). -/
structure Queue where
  rings : Tbl Ring
  reading : Option Nat
  hwm : Nat
  reserved : Nat
  flushing : Bool
  deriving DecidableEq, Repr

def Queue.empty : Queue :=
  { rings := [], reading := none, hwm := 0, reserved := 0, flushing := false }

/-- A waiter (R255): the die it belongs to, its packet, when it began to wait, and whether it holds the
reservation of its response (R253). -/
structure Waiter where
  die : DieId
  item : Send
  tick : Nat
  cycle : Nat
  reserved : Bool
  deriving DecidableEq, Repr

/-- A transfer in progress: the queue and ring it is written to, its packet, and the response queue in which
a word is reserved for it (R253). -/
structure Xfer where
  key : Nat
  ring : Nat
  words : List (BitVec 64)
  kind : ItemKind
  resv : Option Nat
  deriving DecidableEq, Repr

/-- A grant in force: the requester (none the emergency requester), the clocks held, and its transfer. -/
structure Grant where
  req : Option Nat
  held : Nat
  xfer : Option Xfer
  deriving DecidableEq, Repr

/-- An arbiter (R270-R276); the requesters that it has passed over, with the tick and cycle since which each
waits for its grant, the longest first (R255, R261). -/
structure Arb where
  window : Nat
  margin : Nat
  weights : List Nat
  limits : List Nat
  counters : List Int
  grants : List Nat
  masked : Nat
  flags : Nat
  cutoffs : Nat
  preempts : Nat
  holder : Option Grant
  waits : List (Nat × Nat × Nat)
  deriving DecidableEq, Repr

/-- How a frame leaves a radio: its channel and power in dBm (R289, R290), and its preamble: where it begins, in
µs from the start of the slot or, of an acknowledgement, from the end of the frame it acknowledges (R293, R324),
and how long it lasts. -/
structure OnAir where
  channel : Nat
  power : Nat
  begins : Int
  preamble : Nat
  deriving DecidableEq, Repr

/-- What the module sends outward, in order: the model's own log of outputs (log entry 4). -/
inductive Out where
  /-- The value a register read returns to a port. -/
  | regRead (p : Port) (addr : Nat) (v : Word)
  /-- The end of a host-port transaction: the words read, the status code, the index of the failed word,
  and the die that served space 0b00 (R581). -/
  | host (words : List Word) (code index : Nat) (die : Option DieId)
  /-- An access of a port that failed, with its code of R583. -/
  | refused (p : Port) (addr code : Nat)
  /-- A frame on the air of a radio, or on the line of a powerline port; there with its level in 0.5 dB below the
  full output level (R339). -/
  | radio (r : Nat) (how : OnAir) (psdu : List Byte)
  | powerline (p : Nat) (below : Nat) (psdu : List Byte)
  /-- The shares of a chain frame, each 80 bits, and the latch pulse (R369, R380). -/
  | chainFrame (n : Nat) (shares : List (BitVec 80))
  | chainLatch (n : Nat)
  /-- A frame on the line of an Ethernet port, from the destination address to the FCS. -/
  | eth (e : Nat) (octets : List Byte)
  /-- A PHY register access of an Ethernet port: write or read, the register, and the data. -/
  | mdio (e : Nat) (write : Bool) (reg data : Nat)
  /-- A message of the object protocol to a session: 0 the host port (R541). -/
  | message (session : Nat) (body : List Byte)
  /-- A company command of this module with its tag, to a module, or none to the multicast group (R574). -/
  | company (target : Option Nat) (body : List Byte)
  /-- A pulse of a metering output: its land active for a width in ms (R428). -/
  | pulse (n width : Nat)
  deriving DecidableEq, Repr

/-- A Gletis die with the MRAM stack attached to it (R26, R35-R37): its cue units' working store,
its records, its maps. -/
structure Die where
  /-- Hot records in the cue units' SRAM, by endpoint (R118). -/
  hot : Tbl Hot
  /-- Hot images in MRAM (R134). -/
  image : Tbl Hot
  /-- Cold records in MRAM (R124). -/
  cold : Tbl Cold
  stats : Tbl Stats
  counts : Tbl Counts
  /-- Cycle from which an endpoint's report period runs (R120). -/
  period : Tbl Nat
  /-- Cold records marked damaged (R138). -/
  damaged : Tbl Bool
  /-- Dirty hot records: 1 + the cycle of the first change (R140). -/
  dirty : Tbl Nat
  /-- Logical units off their reset position: 1 + the physical unit (R41, R143). -/
  moved : Tbl Nat
  /-- The other die's unit map as last received (R174). -/
  otherMoved : Tbl Nat
  /-- Physical units that failed. -/
  failed : Tbl Bool
  /-- The remap in progress (R144) and unit resyncs (R467). -/
  moves : List Moving
  /-- Failed logical units whose remap has not begun (R48, R49), with what they lost and the cycles they
  have been skipped in. -/
  waiting : List (Nat × UnitLoss × Nat)
  /-- Rows retired to spares, by bank × 65,536 + row: 1 + the spare row (R136). -/
  retired : Tbl Nat
  /-- Code words that showed a 1-bit correction: 1 + the scrub pass (R136). -/
  corrected : Tbl Nat
  /-- Scrub passes begun, by bank; 1 + the tick at which the running one began, and the code words that it
  has checked; banks with a row retirement that waits for the bank port (R136, R273). -/
  scrubPass : Tbl Nat
  scrubFrom : Tbl Nat
  scrubDone : Tbl Nat
  retireWaits : Tbl Bool
  /-- Sensor groups, by logical unit × 256 + group (R164). -/
  groups : Tbl Group
  /-- Daylight entries, by logical unit × 64 + entry (R168). -/
  daylight : Tbl Daylight
  /-- Scene levels, by endpoint (R163). -/
  scene : Tbl Nat
  /-- Exact-delivery, emission and exact-emission bits, by endpoint (R159). -/
  exact : Tbl Bool
  emission : Tbl Bool
  exactEmission : Tbl Bool
  /-- Follow-spot messages in flight, the units' pending stores, and messages held for a moving
  unit (R175, R176). -/
  flight : List PreLight
  preLights : List PreLight
  heldLights : List PreLight
  /-- Event queues of the units, in queue order (R182). -/
  events : List UnitEvent
  /-- Event evaluations completed in the running cycle, by unit (R184). -/
  done : Tbl Nat
  /-- No further event evaluation starts in this cycle (R184). -/
  cutoff : Bool
  /-- Running digests, by unit: 1 + the CRC register, 0 without items (R189, R190). -/
  digest : Tbl Nat
  /-- Digests of the last closed cycle, by unit, and that cycle. -/
  closed : Tbl Nat
  closedCycle : Nat
  rules : SweepRules
  /-- The largest pass time since the start, in ns (object 0x4008). -/
  passMax : Nat
  /-- The units' contributions of the last pass, by unit × 1,024 + group; the aggregate results, and those of
  the last pass until they are ready (R186). -/
  contrib : Tbl Agg
  agg : Tbl Agg
  aggNext : Option (Tbl Agg)
  tally : Tally
  cues : CueArea
  /-- The object store area of the stack: 1 + the saved value of a register whose reset is "load", by
  `Fld.key` without the die's base. -/
  saves : Tbl Nat
  /-- Operations for the node transports not yet handed to the Apron. -/
  nodeOps : List NodeOp
  /-- The two commit slots of the stack; none where no record is valid (R418). -/
  commits : Tbl (Option Commit)
  /-- The metering history ring, by sequence (R423). -/
  history : Tbl (List Byte)
  meterSums : Tbl MeterSum
  /-- Data-plane writes placed and not yet applied: those before the last epoch mark, which only the
  understudy keeps, and those after it (R453, R455). -/
  ready : List DataIn
  placed : List DataIn
  /-- The staging buffer: management-plane writes for the next boundary, in journal order (R128). -/
  staged : List Mgmt
  /-- The callboard of the stack, and the records stored while no die held the stage (R679). -/
  board : Board
  alone : List CbRec
  green : Green
  /-- Prompt books A and B; none where the copy is not valid (R557-R560). -/
  books : List (Option Book)
  /-- The sequence of the last commit that ended; 0 when none ever did. -/
  everSeq : Nat
  /-- The working copies of the key engine, by key slot (R28, R621). -/
  workKeys : Tbl (List Byte)
  /-- The copies of the sessions and of the remembered requests that the stage holder has sent. -/
  sessionCopy : Tbl Session
  requestCopy : List Remembered
  deriving DecidableEq, Repr

/-- A die with delivered stores (R762). -/
def Die.delivered : Die :=
  { hot := [], image := [], cold := [], stats := [], counts := [], period := [], damaged := [],
    dirty := [], moved := [], otherMoved := [], failed := [], moves := [], waiting := [],
    retired := [], corrected := [], scrubPass := [], scrubFrom := [], scrubDone := [],
    retireWaits := [], groups := [], daylight := [], scene := [],
    exact := [], emission := [], exactEmission := [], flight := [], preLights := [],
    heldLights := [], events := [], done := [], cutoff := false, digest := [], closed := [],
    closedCycle := 0, rules := SweepRules.default, passMax := 0, contrib := [], agg := [], aggNext := none, tally := Tally.zero,
    cues := CueArea.delivered, saves := [], nodeOps := [], commits := [], history := [],
    meterSums := [], ready := [], placed := [], staged := [], board := Board.empty, alone := [],
    green := Green.delivered, books := [none, none], everSeq := 0, workKeys := [], sessionCopy := [], requestCopy := [] }

/-- The state of the module. -/
structure State where
  /-- The commands that are waiting, first in, first out. -/
  pending : List Instr
  /-- 25 MHz ticks since the start of the run: the model's own time. -/
  now : Nat
  /-- The part the module is (R2). -/
  part : Part
  /-- The register file: the value of every register field, by `Fld.key`; unlisted fields hold 0. -/
  regs : Tbl Nat
  /-- Held high words of 64-bit writes, by port and address (R594); unlisted holds 0. -/
  holds : Tbl Nat
  /-- Shadows of 64-bit reads: 1 + the high word, by port and the address of the low word (R593). -/
  portShadows : Tbl Nat
  /-- Object values that no register holds, by index × 256 + sub; unlisted values are 0. -/
  objs : Tbl Nat
  /-- Octet-string object values, by index × 256 + sub; unlisted values are empty. -/
  octs : Tbl (List Byte)
  /-- The callboard intake, in arrival order (R680). -/
  posts : List Post
  /-- Everything the module has sent outward. -/
  out : List Out
  /-- How many free values the run has drawn (the model's own counter). -/
  free : Nat
  clk : ClockState
  rtc : RtcState
  ptp : PtpState
  dieA : Die
  dieB : Die
  /-- The die that holds the stage (R29), which is the side of the output gate (R31). -/
  holder : Option DieId
  /-- Rule profiles (R160) and derating curves (R171) as the objects hold them; each die's units evaluate by
  their own copies. -/
  profiles : Tbl Profile
  curves : Tbl (List (Nat × Nat))
  /-- Aggregate definitions: four pairs of words each (R185). -/
  aggDefs : Tbl (List (Nat × Nat))
  /-- Queues by die (2 the module) × 65,536 + identifier (R281), and the waiters, oldest first. -/
  queues : Tbl Queue
  waiters : List Waiter
  /-- Level timeouts that expire at this clock edge: die, level and instance (R45, R262). -/
  expiring : List (DieId × Nat × Nat)
  /-- Output traffic of the understudy that the gate has discarded (R31). -/
  gateDrops : Nat
  /-- 1 + the cycle in which a block's enable was cleared, while it drains (R267), by `blockKey`. -/
  drainFrom : Tbl Nat
  /-- Arbiters by die (2 the Apron) × 256 + index; one at its defaults is not listed (R276). -/
  arbs : Tbl (Option Arb)
  /-- Cycles of the timeouts and cut-offs of a physical unit, by die × 512 + unit (R265). -/
  unitTmo : Tbl (List Nat)
  /-- Timeout writes accepted in the running cycle: level and value (R260). -/
  tmoPending : List (Nat × Nat)
  /-- Nodes by address (R121); the two kinds of node transport; the module's frame counter, and the
  value it was last saved at (R307). -/
  nodes : Tbl Node
  radios : Tbl RadioState
  plcs : Tbl PlcState
  chains : Tbl ChainState
  /-- Ethernet ports: 0 ETH0, 1 ETH1, 2 SVC. -/
  eths : Tbl EthState
  frameCounter : Nat
  counterSaved : Nat
  link : LinkKeys
  keys : KeyStore
  /-- Segment keys: TAI seconds from which the new key is used (R631), and whether that has come. -/
  segUse : Option Nat
  segNew : Bool
  /-- Data-plane inputs the Apron holds for the stage holder, in order (R53). -/
  inputs : List (List DataIn)
  meter : MeterState
  theft : Theft
  /-- Tick of the last balance check, and its consecutive counts by feeder: complete checks over
  the threshold, and within it (R191, R192). -/
  balanceFrom : Nat
  balanceOver : Tbl Nat
  balanceWithin : Tbl Nat
  journal : Journal
  /-- Mirror writes on their way to the other die, in issue order (R452). -/
  mirrors : List (DieId × Mirror)
  /-- Mirror writes issued since the start (R552). -/
  mirrorCount : Nat
  sideA : Side
  sideB : Side
  twin : Twin
  /-- Responses that wait for acknowledgements (R458, R552), oldest first. -/
  replies : List Reply
  /-- DTLS sessions by number 1 to 32; requests remembered, and those in progress. -/
  sessions : Tbl Session
  remembered : List Remembered
  progress : List Progress
  /-- Pointer objects, by session × 2^16 + index. -/
  pointers : Tbl Nat
  /-- The company number, commands and senders; and the directory of company modules (R566-R579). -/
  company : Company
  directory : Tbl (List Byte)
  /-- A prompt-book commit that runs: the book being written, and the request item it answers. -/
  committing : Option (Book × Option (Nat × Nat × Nat))
  activation : Activation
  campaign : Campaign
  /-- Continuity messages on their way to the other die (R649). -/
  continuity : List (DieId × Continuity)
  tests : Tests
  power : Power
  tap : Tap
  deriving DecidableEq, Repr

/-! ## Reset -/

/-- The cycle clock after a reset of the Apron (R86): ACQUIRE, at the nominal period. -/
def ClockState.reset : ClockState :=
  { cycle := 0, cycleStart := 0, cycleFrac := 0, cycleLen := 500000 * 256, rateAt := 0, ratePhase := 0, refInput := 0, refSkew := 0, detected := [],
    accepted := none, history := [], run := [], slewLeft := 0, slewRun := 0, lockPending := false, ghostSeen := true, oorSeen := false,
    predictions := [], mapErrMax := 0, expired := 0 }

/-- The real-time clock after a ghost-light reset (R103). -/
def RtcState.reset : RtcState :=
  { count := 0, mirror := 0, shadowHost := none, shadowA := none, shadowB := none, setPending := none,
    compAcc := 0, compLeft := 0 }

def PtpState.reset : PtpState :=
  { time := 0, integral := 0, agree := 0, accepted := 0, lo := 0, hi := 0 }

def Journal.start : Journal :=
  { seq := 0, link := [], unacked := [], packets := 0, crc := 0xFFFFFFFF, bytes := 0, stopped := false }

/-- The module right after reset: as delivered (R762, R763), before its first supply-good; the part is an
E8 (log entry 86). -/
def State.reset : State :=
  { pending := [], now := 0, part := .e8, regs := resetRegs, holds := [], portShadows := [], objs := resetObjs,
    octs := resetOcts, posts := [], out := [], free := 0, clk := ClockState.reset, rtc := RtcState.reset,
    ptp := PtpState.reset, dieA := Die.delivered, dieB := Die.delivered, holder := none, profiles := [],
    curves := [], aggDefs := [], queues := [], waiters := [], expiring := [], gateDrops := 0, drainFrom := [], arbs := [], unitTmo := [],
    tmoPending := [], nodes := [], radios := [], plcs := [], chains := [], eths := [], frameCounter := 0,
    counterSaved := 0, link := LinkKeys.empty, keys := KeyStore.delivered, segUse := none, segNew := false,
    inputs := [], meter := MeterState.reset, theft := Theft.empty, balanceFrom := 0, balanceOver := [],
    balanceWithin := [], journal := Journal.start, mirrors := [], mirrorCount := 0, sideA := Side.start,
    sideB := Side.start, twin := Twin.start, replies := [], sessions := [], remembered := [],
    progress := [], pointers := [], company := Company.start, directory := [], committing := none,
    activation := Activation.none_, campaign := Campaign.none_, continuity := [], tests := Tests.start,
    power := Power.off, tap := Tap.reset }

end Sys2Proof.Machine
end

