-- ==== Sys2Proof/Machine/Ops.lean ====
section
/-! DEFINITION. The named operations the meanings share: reading and writing register fields,
counters, object values, posting to the callboard, raising interrupt status, free values and
unstated roundings. -/

namespace Sys2Proof.Machine

/-! ## Numbers -/

/-- The signed value of an n-bit pattern. -/
def signed (n w : Nat) : Int := if 2 ^ n ≤ 2 * w then (w : Int) - (2 ^ n : Nat) else (w : Int)

/-- The n-bit pattern of a signed value, wrapping. -/
def pattern (n : Nat) (v : Int) : Nat := (v % ((2 ^ n : Nat) : Int)).toNat

/-- A value held between two bounds. -/
def clampI (lo hi v : Int) : Int := if v < lo then lo else if hi < v then hi else v

/-- A quotient whose rounding the manual leaves open (log entry 3). -/
def openQuot (site : Nat) (num : Int) (den : Nat) : Int :=
  num / (den : Int) + (if num % (den : Int) ≠ 0 ∧ Config.roundsUp site num den = true then 1 else 0)

/-- The same for counts. -/
def openQuotN (site num den : Nat) : Nat :=
  num / den + (if num % den ≠ 0 ∧ Config.roundsUp site num den = true then 1 else 0)

/-- Smallest whole number not below a fraction. -/
def ceilDiv (num : Int) (den : Nat) : Int := -((-num) / (den : Int))

/-- Bit k of a bitmap. -/
def bitOf (w k : Nat) : Nat := w / 2 ^ k % 2

/-- A bitmap with bit k set or cleared. -/
def setBit (w k : Nat) : Nat := if bitOf w k = 1 then w else w + 2 ^ k
def clrBit (w k : Nat) : Nat := if bitOf w k = 1 then w - 2 ^ k else w
def putBit (w k : Nat) (b : Bool) : Nat := if b then setBit w k else clrBit w k

def b2n (b : Bool) : Nat := if b then 1 else 0

/-- Little-endian octets of a number (R11) and back. -/
def leBytes : Nat → Nat → List Byte
  | 0, _ => []
  | n + 1, v => BitVec.ofNat 8 v :: leBytes n (v / 256)

def leNat : List Byte → Nat
  | [] => 0
  | b :: t => b.toNat + 256 * leNat t

/-! ## Register fields -/

/-- The value a register field holds. -/
def State.get (s : State) (f : Fld) : Nat := Tbl.get 0 s.regs f.key

/-- The state with a value placed in a register field, cut to the field's width. -/
def State.set (s : State) (f : Fld) (v : Nat) : State :=
  { s with regs := Tbl.put 0 s.regs f.key (v % f.size) }

/-- A field read as a signed number. -/
def State.getS (s : State) (f : Fld) : Int := signed f.width (s.get f)

/-- A field written with a signed number, cut to its width. -/
def State.setS (s : State) (f : Fld) (v : Int) : State := s.set f (pattern f.width v)

/-- A flag field. -/
def State.flag (s : State) (f : Fld) : Bool := s.get f = 1

/-- A counter that saturates at the field's maximum. -/
def State.addSat (s : State) (f : Fld) (n : Nat) : State :=
  s.set f (min (s.get f + n) (f.size - 1))

/-- A counter that wraps. -/
def State.addWrap (s : State) (f : Fld) (n : Nat) : State := s.set f (s.get f + n)

/-- Raise an interrupt status bit: it stays set until software writes 1 to it (R602). -/
def State.raise (s : State) (f : Fld) : State := s.set f 1

/-- Raise it when a condition holds. -/
def State.raiseIf (s : State) (c : Bool) (f : Fld) : State := if c then s.raise f else s

/-! ## Outward effects and free values -/

def State.emit (s : State) (o : Out) : State := { s with out := s.out ++ [o] }

/-- Send several things outward. -/
def State.emits (s : State) (os : List Out) : State := { s with out := s.out ++ os }

/-- The next free value (log entry 2). -/
def State.freeVal (s : State) : Nat := Config.freeValue s.free

/-- The state after a free value has been drawn. -/
def State.draw (s : State) : State := { s with free := s.free + 1 }

/-- R703: a power failure or a restart has begun: no frame leaves a radio, a powerline or an Ethernet port
until the module is reset. -/
def State.shed (s : State) : Bool := s.power.failedAt.isSome

/-! ## Callboard posts (R674-R677) -/

/-- The origins of R675. -/
def originDie (d : DieId) : Nat := d.num
def originApron : Nat := 2
def originGhost : Nat := 3

/-- The source field of a record: origin, block and instance (R675). -/
def cbSource (origin block inst : Nat) : Nat := origin * 2 ^ 14 + block * 2 ^ 8 + inst % 256

/-- The blocks of R675 that post. -/
def cbMCTL : Nat := 1
def cbHPT : Nat := 2
def cbICU : Nat := 3
def cbCYC : Nat := 4
def cbGHL : Nat := 5
def cbCUE : Nat := 6
def cbEPS : Nat := 7
def cbQCM : Nat := 8
def cbTWN : Nat := 9
def cbRAD : Nat := 10
def cbPLC : Nat := 11
def cbFLC : Nat := 12
def cbMTR : Nat := 13
def cbETH : Nat := 14
def cbPTP : Nat := 15
def cbKEY : Nat := 16
def cbGRN : Nat := 17
def cbCBD : Nat := 18
def cbTST : Nat := 19
def cbOBJ : Nat := 20

/-- The code of a record its chapter requires without a name: 0x8000 plus the interrupt source
that the same event raises (R677). -/
def unnamed (irq : Nat) : Nat := 0x8000 + irq

/-- A record joins the intake. -/
def State.post (s : State) (plane : Plane) (source code : Nat) (data : List Byte) : State :=
  { s with posts := s.posts ++ [⟨source, code, data, plane, s.now⟩] }

def State.postIf (s : State) (c : Bool) (plane : Plane) (source code : Nat) (data : List Byte) :
    State := if c then s.post plane source code data else s

/-! ## Violations (R597, R599) -/

/-- An access as a violation records it: the port, the host-map address as the requester gave it,
the address it resolved to, and whether it was a write and at an alias offset. -/
structure Access where
  port : Port
  addr : Nat
  target : Nat
  write : Bool
  alias_ : Bool
  deriving DecidableEq, Repr

/-- A write access to an Apron register. -/
def apronWrite (p : Port) (addr : Nat) : Access :=
  { port := p, addr := addr, target := addr, write := true, alias_ := false }

/-- The kinds of VIOL_INFO (R599). -/
def vkUnoccupied : Nat := 1
def vkReadOnly : Nat := 2
def vkOnce : Nat := 3
def vkLocked : Nat := 4
def vkRange : Nat := 5
def vkAliasRead : Nat := 6
def vkAliasWrite : Nat := 7
def vkSpace : Nat := 8
def vkRule : Nat := 9
def vkWindow : Nat := 10
def vkHostLock : Nat := 11

/-- R588, R589: the block code (R675) and origin of the window at a base address; none where no
window with violation registers lies there. -/
def windowBlock (base : Nat) : Option (Nat × Nat × Nat) :=
  let space := base / 2 ^ 30
  let off := base % 2 ^ 30
  if space = 1 ∨ space = 2 then
    match off / 0x10000, off % 0x10000 with
    | 0, 0 => some (space - 1, cbICU, 0)
    | 1, 0 => some (space - 1, cbCUE, 0)
    | 2, 0 => some (space - 1, cbEPS, 0)
    | 3, 0 => some (space - 1, cbQCM, 0)
    | 4, 0 => some (space - 1, cbTWN, 0)
    | 5, 0 => some (space - 1, cbKEY, 0)
    | 6, 0 => some (space - 1, cbGRN, 0)
    | 7, 0 => some (space - 1, cbCBD, 0)
    | 8, 0 => some (space - 1, cbTST, 0)
    | _, _ => none
  else if space = 3 then
    match off / 0x10000, off % 0x10000 / 0x4000 with
    | 0, 0 => some (originApron, cbMCTL, 0)
    | 1, 0 => some (originApron, cbHPT, 0)
    | 2, 0 => some (originApron, cbCYC, 0)
    | 3, 0 => some (originApron, cbGHL, 0)
    | 4, i => some (originApron, cbRAD, i)
    | 5, 0 => some (originApron, cbPLC, 0)
    | 5, 1 => some (originApron, cbPLC, 1)
    | 6, i => some (originApron, cbFLC, 4 * i)
    | 7, 0 => some (originApron, cbMTR, 0)
    | 8, 0 => some (originApron, cbETH, 0)
    | 8, 1 => some (originApron, cbETH, 1)
    | 8, 2 => some (originApron, cbETH, 2)
    | 9, 0 => some (originApron, cbPTP, 0)
    | _, _ => none
  else none

/-- The window whose violation registers record an access: its own, or that of HPT or MCTL where it
falls in none (R597). -/
def violWindow (a : Access) : Nat :=
  let base := a.target / 0x4000 * 0x4000
  match windowBlock base with
  | some _ => base
  | none => if a.port = .host then 0xC0010000 else 0xC0000000

/-- R584: a host-port word has failed: its address and code are kept, and it is counted and signalled. -/
def State.hostFailed (s : State) (addr code : Nat) : State :=
  (((s.set HPT_ERR_ADDR.addr addr).set HPT_STATUS.last_code code).addSat HPT_ERRORS.count 1).raise
    HPT_INT_STATUS.error

/-- R597: a violation is recorded in its window's registers, counted, and posted; from the host port it
is a failed word (R584). -/
def State.violate (s : State) (a : Access) (kind : Nat) : State :=
  let w := violWindow a
  let s := if a.port = .host then s.hostFailed a.addr 1 else s
  let s := ((s.set (VIOL_ADDR.addr w) a.addr).set (VIOL_INFO.valid w) 1).set
    (VIOL_INFO.requester w) a.port.num
  let s := ((s.set (VIOL_INFO.kind w) kind).set (VIOL_INFO.write w) (b2n a.write)).set
    (VIOL_INFO.alias_ w) (b2n a.alias_)
  let s := s.addSat (VIOL_COUNT.count w) 1
  match windowBlock w with
  | some (o, b, i) => s.post .management (cbSource o b i) 0x0061
      (leBytes 4 a.addr ++ leBytes 1 kind ++ leBytes 1 a.port.num ++ leBytes 1 (b2n a.write) ++
        leBytes 1 0)
  | none => s

/-! ## Objects -/

/-- The key of an object's value. -/
def objKey (idx sub : Nat) : Nat := idx * 256 + sub

/-- A numeric object value held by no register. -/
def State.obj (s : State) (idx sub : Nat) : Nat := Tbl.get 0 s.objs (objKey idx sub)

def State.setObj (s : State) (idx sub v : Nat) : State :=
  { s with objs := Tbl.put 0 s.objs (objKey idx sub) v }

/-- R598: host-port writes are locked while object 0x1108 is FALSE. -/
def State.hostLocked (s : State) (a : Access) : Bool :=
  a.write && decide (a.port = .host) && decide (s.obj 0x1108 0 = 0)

/-- A register access that has a command of its own: a write that R598 locks is a violation, and nothing
happens while the module is held in reset. -/
def State.access (s : State) (a : Access) (act : State → State) : State :=
  if s.power.on = false then s else if s.hostLocked a then s.violate a vkHostLock else act s

/-- A read access to an Apron register. -/
def apronRead (p : Port) (addr : Nat) : Access :=
  { port := p, addr := addr, target := addr, write := false, alias_ := false }

/-- An octet-string object value. -/
def State.oct (s : State) (idx sub : Nat) : List Byte := Tbl.get [] s.octs (objKey idx sub)

def State.setOct (s : State) (idx sub : Nat) (v : List Byte) : State :=
  { s with octs := Tbl.put [] s.octs (objKey idx sub) v }

end Sys2Proof.Machine
end

