-- ==== Sys2Proof/Machine/Flags.lean ====
section
/-! DEFINITION. The status flags that follow from other state: the clock-state flags, the mapping
flags, and what leaving LOCKED does to them (R69, R71, R77, R89); the roles of the dies (R443). -/

namespace Sys2Proof.Machine

/-- Something done for both dies. -/
def both (f : DieId → State → State) (s : State) : State := f .b (f .a s)

/-! ## Roles (R443) -/

def roBOOT : Nat := 0
def roTEST : Nat := 1
def roRESYNC : Nat := 2
def roUNDERSTUDY : Nat := 3
def roSTAGE : Nat := 4
def roUNFIT : Nat := 5

def State.roleOf (s : State) (d : DieId) : Nat := s.get (TWN_STATUS.role d)

/-! ## The clock -/

/-- The states of the cycle clock (R71). -/
def stACQUIRE : Nat := 0
def stLOCKED : Nat := 1
def stGHOST : Nat := 2
def stRELOCK : Nat := 3
def stOUT_OF_RANGE : Nat := 4

/-- The clock enters a state; the ghost flag is set in every state but LOCKED (R69, R71), and a
ghost-flagged moment marks the running cycle (CYC_GHOST_CYCLES). -/
def State.toClockState (s : State) (st : Nat) : State :=
  let s := (s.set CYC_STATUS.state st).set CYC_STATUS.ghost (b2n (st ≠ stLOCKED))
  { s with clk := { s.clk with
      ghostSeen := s.clk.ghostSeen || decide (st ≠ stLOCKED),
      oorSeen := s.clk.oorSeen || decide (st = stOUT_OF_RANGE) } }

/-- Stamps now carry the ghost flag. -/
def State.ghost (s : State) : Bool := s.flag CYC_STATUS.ghost

/-- The TAI mapping is valid (R89). -/
def State.mapValid (s : State) : Bool := s.flag CYC_STATUS.map_valid

/-- The PTP engine's report of valid time drives tai_valid and map_valid; losing it raises
map_invalid (R89). -/
def State.setTaiValid (s : State) (v : Bool) : State :=
  ((s.raiseIf (s.mapValid && !v) CYC_INT_STATUS.map_invalid).set CYC_STATUS.tai_valid (b2n v)).set
    CYC_STATUS.map_valid (b2n v)

end Sys2Proof.Machine
end

