-- ==== Sys2Proof/Machine/Clock.lean ====
section
/-! DEFINITION. The cycle clock: crossings, qualification, ghost cycles, re-lock, the cycle boundary
of the clock and the TAI mapping (R60-R96). -/

namespace Sys2Proof.Machine

/-- The bounds of an accepted interval in 25 MHz ticks, 66 Hz and 45 Hz (R73, R76, R77). -/
def intervalMin : Nat := 378788
def intervalMax : Nat := 555556
def intervalOk (d : Int) : Bool := decide ((intervalMin : Int) ≤ d ∧ d ≤ (intervalMax : Int))

/-- The measured period in 1/256 tick (R72). -/
def State.period (s : State) : Nat := s.get CYC_PERIOD.period

/-- The nominal period of ACQUIRE in 1/256 tick (R86). -/
def State.nominalPeriod (s : State) : Nat :=
  if s.flag CYC_CTRL.nominal_60 then openQuotN 86 (25000000 * 256) 60 else 500000 * 256

/-- The mean of a list of intervals in 1/256 tick (R72). -/
def meanInterval (l : List Nat) : Nat := openQuotN 72 (l.foldr (· + ·) 0 * 256) l.length

/-- The intervals between crossing times listed newest first. -/
def intervals : List Int → List Int
  | t :: u :: rest => (t - u) :: intervals (u :: rest)
  | _ => []

/-- Phase 0 of the running cycle, and the phase 0 that ends it, in 1/256 tick. -/
def State.startAt (s : State) : Nat := s.clk.cycleStart * 256 + s.clk.cycleFrac
def State.endAt (s : State) : Nat := s.startAt + s.clk.cycleLen

/-- R66, R74: the running cycle has had its length. -/
def State.cycleDone (s : State) : Bool := decide (s.endAt ≤ s.now * 256)

/-- The oscillator at a moment of 1/256 tick: the phase since phase 0 of the running cycle, in 1/65,536
step (R65).  It runs at one rate since `rateAt`, and before that from phase 0 at another. -/
def State.positionAt (s : State) (t : Int) : Int :=
  let c := s.clk
  if (c.rateAt : Int) ≤ t then
    c.ratePhase + (t - c.rateAt) * ((2 ^ 26 : Nat) - (c.ratePhase : Int)) / ((s.endAt : Int) - c.rateAt)
  else if (s.startAt : Int) ≤ t then c.ratePhase * (t - s.startAt) / ((c.rateAt : Int) - s.startAt)
  else (t - s.startAt) * (2 ^ 26 : Nat) / c.cycleLen

/-- The phase of a moment, in 1/16 step from phase 0 of the running cycle. -/
def State.sixteenths (s : State) (t : Int) : Int := openQuot 73 (s.positionAt (t * 256)) 4096

/-- The phase of a moment in 1/16 step, written in the range -8192 to +8191 (R78). -/
def State.phaseErr (s : State) (t : Int) : Int :=
  let e := s.sixteenths t % 16384
  if 8192 ≤ e then e - 16384 else e

/-- The phase 0 nearest to a moment is the one that ends the running cycle, not the one that began it. -/
def State.nearEnd (s : State) (t : Int) : Bool := decide (0 < s.sixteenths t - s.phaseErr t)

/-- The phase step of the running cycle at the present tick (R65). -/
def State.phase (s : State) : Nat := min 1023 ((s.positionAt (s.now * 256)).toNat / 65536)

/-- The oscillator changes its rate at the present tick: its phase goes on from where it is, and the running
cycle ends at a moment of 1/256 tick, so that no phase value is lost or repeated (R66, R74).  A cycle that has
had its length stays as it is. -/
def State.runTo (s : State) (e : Nat) : State :=
  if s.cycleDone then s
  else { s with clk := { s.clk with
    rateAt := s.now * 256, ratePhase := (s.positionAt (s.now * 256)).toNat,
    cycleLen := max e (s.now * 256) - s.startAt } }

/-- What is left of the running cycle runs at a rate of one cycle in `len` 1/256 ticks. -/
def State.retune (s : State) (len : Nat) : State :=
  s.runTo (s.now * 256 + openQuotN 72 ((2 ^ 26 - (s.positionAt (s.now * 256)).toNat) * len) (2 ^ 26))

/-- The stamp container of R68 for the present moment, without the ghost flag. -/
def stampOf (cycle phase : Nat) : Nat := cycle % 2 ^ 48 * 1024 + phase % 1024
def State.stampNow (s : State) : Nat := stampOf s.clk.cycle s.phase

/-- The ghost flag of the moment, and the container with it (R68, R69). -/
def State.ghostBit (s : State) : Nat := if s.ghost then 2 ^ 63 else 0
def State.containerNow (s : State) : Nat := s.stampNow + s.ghostBit

/-- R74: 8 phase steps of the measured period, in 1/256 tick. -/
def State.slewLimit (s : State) : Int := (s.period / 128 : Nat)

/-- The slew still to be made, shown in whole steps (R109). -/
def State.setSlew (s : State) (left : Int) : State :=
  { s with clk := { s.clk with slewLeft := left } }.setS CYC_PHASE_ERR.slew_left
    (openQuot 74 (left * 1024) s.period)

/-- R74: the running cycle carries a slew of its own from here. -/
def State.carry (s : State) (slew : Int) : State :=
  let s := s.runTo (s.startAt + ((s.period : Int) + slew).toNat)
  { s with clk := { s.clk with slewRun := slew } }

/-- R78, R79: the slew that a crossing at `t` leaves to be made from the next cycle on: what the end of the
running cycle lacks to the phase 0 that the crossing asks for, one measured period after the crossing or at
it, whichever of the two ends is nearer (log entry 111). -/
def State.slewAfter (s : State) (t : Int) (atEnd : Bool) : State :=
  let s := s.retune ((s.period : Int) + s.clk.slewRun).toNat
  s.setSlew (t * 256 + (if atEnd then 0 else (s.period : Int)) - s.endAt)

/-- R70, R73: in LOCKED a crossing near the phase 0 that began the running cycle is corrected by that cycle
itself, within the slew limit; one before the phase 0 to come is corrected from there. -/
def State.slewNow (s : State) (t : Int) (atEnd : Bool) : State :=
  if atEnd then s.slewAfter t true
  else
    let e := t * 256 - s.startAt
    let step := clampI (-s.slewLimit) s.slewLimit e
    (s.carry step).setSlew (e - step)

/-- A harmonic request is aborted when the clock leaves LOCKED before its windows are acquired
(R429). -/
def State.harmonicAbort (s : State) : State :=
  if s.flag MTR_STATUS.harm_busy then
    let s := { s with meter := { s.meter with harm := none } }
    let s := ((s.set MTR_STATUS.harm_busy 0).set MTR_HARM_STATUS.valid 0).set
      MTR_HARM_STATUS.aborted 1
    s.raise MTR_INT_STATUS.harm_done
  else s

/-- The clock enters GHOST: the event is counted, the interrupt raised and a record posted
(R75, R108); the measured period is held and the slew ends (R71, R72).  The run under qualification goes on
from ACQUIRE (R76). -/
def State.enterGhost (s : State) : State :=
  let fresh := decide (s.get CYC_STATUS.state ≠ stACQUIRE)
  let s := (s.harmonicAbort.toClockState stGHOST).addSat CYC_GHOST_EVENTS.count 1
  let s := (s.retune s.period).setSlew 0
  let s := if fresh then { s.set CYC_STATUS.qual_count 0 with clk := { s.clk with run := [] } } else s
  let s := { s with clk := { s.clk with slewRun := 0, lockPending := false } }
  (s.raise CYC_INT_STATUS.ghost_enter).post .control (cbSource originApron cbCYC 0) (unnamed 16) []

/-- The clock enters LOCKED (R79, R86). -/
def State.enterLocked (s : State) : State :=
  let s := s.toClockState stLOCKED
  { s with clk := { s.clk with lockPending := false } }.raise CYC_INT_STATUS.locked

/-- The clock leaves OUT_OF_RANGE by qualification (R77). -/
def State.leaveOor (s : State) : State :=
  if s.flag CYC_STATUS.oor then (s.set CYC_STATUS.oor 0).raise CYC_INT_STATUS.oor_exit else s

/-- The clock enters OUT_OF_RANGE, with its record (R77). -/
def State.enterOor (s : State) : State :=
  let s := ((s.toClockState stOUT_OF_RANGE).set CYC_STATUS.oor 1).raise CYC_INT_STATUS.oor_enter
  s.post .control (cbSource originApron cbCYC 0) 0x0011 (leBytes 4 s.period ++ leBytes 4 0)

/-- TAI as the PTP clock gives it now, in ns, and at phase 0 of the running cycle (log entry 112). -/
def State.tai (s : State) : Nat := s.ptp.time / 2 ^ 32
def State.taiStart (s : State) : Nat := s.tai - openQuotN 88 ((s.now * 256 - s.startAt) * 40) 256

/-- The captured TAI of the last phase 0 (R88). -/
def State.taiP0 (s : State) : Nat :=
  s.get CYC_TAI_P0_HI.tai_hi * 2 ^ 32 + s.get CYC_TAI_P0_LO.tai_lo

/-- The boundary's TAI is captured, the predicted cycle length updated, and the capture compared
with the prediction made 64 cycles earlier (R88, R92).  An error outside the signed 32 bits of CYC_MAP_ERR
is shown by its low bits (log entry 112). -/
def State.captureTai (s : State) : State :=
  let t := s.taiStart
  let s := (s.set CYC_TAI_P0_LO.tai_lo t).set CYC_TAI_P0_HI.tai_hi (t / 2 ^ 32)
  let per := openQuotN 88 (s.clk.cycleLen * 5) 2
  let s := s.set CYC_MAP_PERIOD.period per
  let old : Option Nat := (s.clk.predictions[63]?).join
  let new : Option Nat := if s.mapValid then some (t + 4 * s.get CYC_MAP_PERIOD.period) else none
  let s := { s with clk := { s.clk with predictions := (new :: s.clk.predictions).take 64 } }
  match old with
  | none => s
  | some p =>
    if s.mapValid then
      let err : Int := (t : Int) - (p : Int)
      let big := decide (s.get CYC_MAP_ERR_LIMIT.limit < err.natAbs)
      let s := (s.setS CYC_MAP_ERR.err err).set CYC_MAP_ERR_MAX.max
        (max (s.get CYC_MAP_ERR_MAX.max) err.natAbs)
      let s := { s with clk := { s.clk with mapErrMax := max s.clk.mapErrMax err.natAbs } }
      (s.raiseIf big CYC_INT_STATUS.map_err).postIf big .control (cbSource originApron cbCYC 0)
        (unnamed 21) (leBytes 8 (pattern 64 err))
    else s

/-- The slew of the coming cycle, within the limit of R74, and the length it gives the cycle. -/
def State.slewCycle (s : State) : State :=
  let step := clampI (-s.slewLimit) s.slewLimit s.clk.slewLeft
  let s := s.setSlew (s.clk.slewLeft - step)
  { s with clk := { s.clk with
      slewRun := step, cycleLen := ((s.period : Int) + step).toNat, rateAt := s.startAt, ratePhase := 0 } }

/-- R83: in LOCKED the crossing phase of each present voltage input is held as its skew. -/
def State.measureSkew (s : State) (k : Nat) (p : Option Nat) : State :=
  match p with
  | some v =>
    if s.get CYC_STATUS.state = stLOCKED ∧ bitOf (s.get CYC_STATUS.v_present) k = 1 then
      (s.set (CYC_SKEW_V.skew k) v).set (CYC_SKEW_V.valid k) 1
    else s
  | none => s

def State.measureSkews (s : State) (ps : List (Option Nat)) : State :=
  ((s.measureSkew 0 (ps[0]?).join).measureSkew 1 (ps[1]?).join).measureSkew 2 (ps[2]?).join

/-- R84: a changed reference input takes effect with its held skew, or sends the clock to GHOST. -/
def State.referenceChange (s : State) : State :=
  let sel := s.get CYC_CTRL.ref_sel
  if sel = s.clk.refInput then s
  else
    let valid := s.flag (CYC_SKEW_V.valid sel)
    let skew := if valid then s.get (CYC_SKEW_V.skew sel) else 0
    let s := { s with clk := { s.clk with refInput := sel, refSkew := skew } }
    let st := s.get CYC_STATUS.state
    if valid ∨ st = stGHOST ∨ st = stOUT_OF_RANGE then s else s.enterGhost

/-- The cycle counter passes to the next cycle at the end of the running one (R65). -/
def State.nextCycle (s : State) : State :=
  let s := if s.clk.ghostSeen then s.addSat CYC_GHOST_CYCLES.count 1 else s
  { s with clk := { s.clk with
      cycle := s.clk.cycle + 1, cycleStart := s.endAt / 256, cycleFrac := s.endAt % 256, ghostSeen := s.ghost,
      oorSeen := decide (s.get CYC_STATUS.state = stOUT_OF_RANGE) } }

/-- What the clock itself does at a phase-0 boundary (R65, R74, R79, R83, R84, R88, R92). -/
def State.clockBoundary (s : State) (skews : List (Option Nat)) : State :=
  let s := (s.measureSkews skews).nextCycle
  let s := if s.clk.lockPending then s.enterLocked else s
  (s.referenceChange.slewCycle).captureTai

/-! ## Crossings -/

/-- R61, R62: the compensated time of a crossing between a sample below zero, taken `tickHalf`
half ticks into the run, and the next sample 3,125 half ticks later. -/
def State.crossingTime (s : State) (tickHalf : Nat) (before after : Int) : Int :=
  let span := after - before
  let t := openQuot 61 ((tickHalf : Int) * span + 3125 * (-before)) (2 * span.toNat)
  let skew := signed 10 s.clk.refSkew
  let skewTicks := openQuot 84 (skew * (s.clk.cycleLen : Int)) (1024 * 256)
  t - (Config.filterDelay : Int) + s.getS CYC_ZC_OFFSET.offset - skewTicks

/-- R61: the samples make a rising zero crossing: at or above zero after below zero, with a sample
below -h since the last crossing, h being hyst/256 of the running peak at that sample. -/
def State.isCrossing (s : State) (before after low : Int) (peak : Nat) : Bool :=
  decide (before < 0 ∧ 0 ≤ after ∧ 256 * low < -((s.get CYC_CTRL.hyst : Int) * (peak : Int)))

/-- R63, R81: an absent reference input and force_ghost produce no crossings. -/
def State.detectorOn (s : State) : Bool :=
  decide (bitOf (s.get CYC_STATUS.v_present) s.clk.refInput = 1) && !s.flag CYC_CTRL.force_ghost

/-- R64: the crossing follows the previous detected one by less than half the measured period. -/
def State.isGlitch (s : State) (t : Int) : Bool :=
  match s.clk.detected with
  | [] => false
  | u :: _ => decide (2 * 256 * (t - (u : Int)) < (s.period : Int))

/-- R72: an interval joins the history, at most eight, and the measured period follows. -/
def State.addInterval (s : State) (d : Nat) : State :=
  let h := (d :: s.clk.history).take 8
  { s with clk := { s.clk with history := h } }.set CYC_PERIOD.period (meanInterval h)

/-- R73, R79: a crossing is accepted: it restarts the timeout, joins the history and shows its phase
error. -/
def State.acceptCrossing (s : State) (t : Nat) (d : Nat) (e : Int) : State :=
  let s := s.addInterval d
  { s with clk := { s.clk with accepted := some t } }.setS CYC_PHASE_ERR.error e

/-- The interval from the last accepted crossing, when there is one. -/
def State.sinceAccepted (s : State) (t : Int) : Option Int :=
  s.clk.accepted.map fun u => t - (u : Int)

/-- R73, R80: a crossing in LOCKED. -/
def State.crossLocked (s : State) (t : Nat) : State :=
  let e := s.phaseErr t
  match s.sinceAccepted t with
  | some d =>
    if intervalOk d ∧ e.natAbs ≤ 1024 then (s.acceptCrossing t d.toNat e).slewNow t (s.nearEnd t) else s
  | none => s

/-- R79: a crossing in RELOCK, accepted by interval alone. -/
def State.crossRelock (s : State) (t : Nat) : State :=
  let e := s.phaseErr t
  match s.sinceAccepted t with
  | some d =>
    if intervalOk d then
      let atEnd := s.nearEnd t
      let s := (s.acceptCrossing t d.toNat e).slewAfter t atEnd
      if e.natAbs ≤ 16 then
        if atEnd then { s with clk := { s.clk with lockPending := true } } else s.enterLocked
      else { s with clk := { s.clk with lockPending := false } }
    else s
  | none => s

/-- R76: the three intervals of a run of four, each within 2 % of their mean. -/
def qualifies (i j k : Int) : Bool :=
  let sum := i + j + k
  let ok := fun (x : Int) => decide ((100 * (3 * x - sum)).natAbs ≤ (2 * sum).natAbs)
  ok i && ok j && ok k

/-- The run of R76 after a new crossing: the run, newest first, and whether four qualify. -/
def runStep (run : List Nat) (t : Nat) : List Nat × Bool :=
  match run with
  | [] => ([t], false)
  | u :: rest =>
    if intervalOk ((t : Int) - u) then
      match rest with
      | v :: w :: _ =>
        if qualifies ((t : Int) - u) ((u : Int) - v) ((v : Int) - w) then (t :: run, true)
        else ([t], false)
      | _ => (t :: run, false)
    else ([t], false)

/-- R72: in ACQUIRE the measured period is the mean of the run's intervals, or the nominal
period while the run holds fewer than two crossings; the oscillator runs at it (R71, R86). -/
def State.acquirePeriod (s : State) : State :=
  if s.get CYC_STATUS.state = stACQUIRE then
    let ds := intervals (s.clk.run.map Int.ofNat)
    let p := if ds = [] then s.nominalPeriod else meanInterval (ds.map Int.toNat)
    if s.period = p then s else (s.set CYC_PERIOD.period p).retune p
  else s

/-- R72, R76: four crossings qualify: the history becomes their three intervals.  The fourth counts as the
last accepted crossing: the timeout of RELOCK and the next interval run from it (log entry 112). -/
def State.takeRun (s : State) (run : List Nat) : State :=
  let ds := (intervals (run.map Int.ofNat)).map Int.toNat
  { s with clk := { s.clk with
      history := ds, run := run, accepted := run.head? } }.set CYC_PERIOD.period (meanInterval ds)

/-- R78: RELOCK is entered at the fourth crossing: its phase is the error, and the oscillator runs at the new
measured period from here. -/
def State.enterRelock (s : State) (t : Nat) : State :=
  let e := s.phaseErr t
  let atEnd := s.nearEnd t
  ((s.leaveOor.toClockState stRELOCK).setS CYC_PHASE_ERR.error e).slewAfter t atEnd

/-- R86: in ACQUIRE the current cycle ends at the fourth crossing, and the next begins there.  Where a
boundary has come between the crossing and its detection, the cycle it began is the one that the crossing
begins (log entry 105). -/
def State.acquisitionEnd (s : State) (t : Nat) : State :=
  let s := if s.startAt < t * 256 then s.nextCycle else s
  let s := { s with clk := { s.clk with
      cycleStart := t, cycleFrac := 0, cycleLen := s.period, rateAt := t * 256, ratePhase := 0, slewRun := 0 } }
  (((s.setS CYC_PHASE_ERR.error 0).setSlew 0).enterLocked).referenceChange.captureTai

/-- The last four detected crossings give three intervals out of range (R77). -/
def State.allOut (s : State) : Bool :=
  match intervals (s.clk.detected.map Int.ofNat) with
  | [i, j, k] => !intervalOk i && !intervalOk j && !intervalOk k
  | _ => false

/-- R76-R78, R86: a crossing in GHOST, OUT_OF_RANGE or ACQUIRE. -/
def State.crossQualify (s : State) (t : Nat) : State :=
  let st := s.get CYC_STATUS.state
  let (run, four) := runStep s.clk.run t
  let s := { s with clk := { s.clk with run := run } }.set CYC_STATUS.qual_count run.length
  if four then
    let s := s.takeRun run
    if st = stACQUIRE ∧ ¬ s.flag MCTL_STATUS.outputs_en then s.acquisitionEnd t
    else s.enterRelock t
  else
    let s := s.acquirePeriod
    if s.allOut ∧ (st = stGHOST ∨ st = stACQUIRE) then s.enterOor else s

/-- A detected crossing, judged by the state of the clock. -/
def State.crossing (s : State) (t : Nat) : State :=
  let s := { s with clk := { s.clk with detected := (t :: s.clk.detected).take 4 } }
  let st := s.get CYC_STATUS.state
  if st = stLOCKED then s.crossLocked t
  else if st = stRELOCK then s.crossRelock t
  else s.crossQualify t

/-- CROSSING_DETECTED (R61): the crossing between two samples, when the detector makes one. -/
def execCrossingDetected (tickHalf : Nat) (before after low : Int) (peak : Nat) (s : State) :
    Host.Outcome State Fault Refusal :=
  if s.power.on && s.detectorOn && s.isCrossing before after low peak then
    let t := s.crossingTime tickHalf before after
    if s.isGlitch t then .next (s.addSat CYC_GLITCHES.count 1)
    else .next (s.crossing t.toNat)
  else .next s

/-- R75: the crossing timeout has run out at the present tick. -/
def State.timeoutDue (s : State) : Bool :=
  match s.clk.accepted with
  | none => true
  | some t => decide (s.get CYC_CTRL.zc_timeout * s.period ≤ 16 * 256 * (s.now - t))

/-- CROSSING_TIMEOUT (R75, R79): the clock enters GHOST from LOCKED, or returns to it from RELOCK.
An accepted crossing on the same tick has restarted the timeout and wins. -/
def execCrossingTimeout (s : State) : Host.Outcome State Fault Refusal :=
  let st := s.get CYC_STATUS.state
  if s.power.on ∧ s.timeoutDue ∧ (st = stLOCKED ∨ st = stRELOCK) then .next s.enterGhost else .next s

/-- OPTIME_TICK (R95, R96): the operating time advances by 1/4,096 h and saturates. -/
def execOptimeTick (s : State) : Host.Outcome State Fault Refusal :=
  .next (if s.power.on then s.addSat CYC_OPTIME.optime 1 else s)

/-- The full scale of a voltage input, in microvolts at the lands. -/
def voltageFullScale : Nat := 500000

/-- VOLTAGE_INPUT_PRESENCE (R63): an input whose running peak lies below 1/8 of full scale is
absent. -/
def execVoltageInputPresence (input : Fin 3) (peak : Nat) (s : State) :
    Host.Outcome State Fault Refusal :=
  if s.power.on = false then .next s else
  .next (s.set CYC_STATUS.v_present
    (putBit (s.get CYC_STATUS.v_present) input (decide (voltageFullScale ≤ 8 * peak))))

/-! ## TAI events -/

/-- Where a TAI event falls: at a stamp, or already late (R90, R91). -/
inductive Fixed where
  | at_ (stamp : Nat)
  | late
  deriving DecidableEq, Repr

/-- R90, R91: the stamp of an event of TAI `tt` ns with named phase `p`, against the last captured
boundary and the predicted cycle length (in 1/16 ns). -/
def State.fix (s : State) (tt : Nat) (p : Option Nat) : Fixed :=
  let per := s.get CYC_MAP_PERIOD.period
  let ph := p.getD 0
  let k := ceilDiv (((tt : Int) - (s.taiP0 : Int)) * 16 * 1024 - (ph * per : Nat)) (per * 1024)
  if k < 0 then .late else .at_ (stampOf (s.clk.cycle + k.toNat) ph)

end Sys2Proof.Machine
end

