-- ==== Sys2Proof/Machine/Journal.lean ====
section
/-! DEFINITION. The journal packets of the stage holder and the checks they are protected by
(R448-R450). -/

namespace Sys2Proof.Machine

/-! ## CRC-32 -/

/-- One bit of the reflected CRC-32 of IEEE 802.3. -/
def crc32Bits : Nat → Nat → Nat
  | 0, c => c
  | n + 1, c => crc32Bits n (if c % 2 = 1 then Nat.xor (c / 2) 0xEDB88320 else c / 2)

/-- Octets through the CRC-32 register. -/
def crc32Run (c : Nat) (bs : List Byte) : Nat :=
  bs.foldl (fun c b => crc32Bits 8 (Nat.xor c b.toNat)) c

def crc32Ones : Nat := 0xFFFFFFFF

/-- The CRC-32 of IEEE 802.3 over octets. -/
def crc32 (bs : List Byte) : Nat := Nat.xor (crc32Run crc32Ones bs) crc32Ones

/-! ## Packets -/

/-- Octets as 64-bit words, least significant octet first, the last one padded with 0. -/
def toWords : Nat → List Byte → List (BitVec 64)
  | 0, _ => []
  | n + 1, bs => if bs = [] then [] else
      BitVec.ofNat 64 (leNat (bs.take 8)) :: toWords n (bs.drop 8)

def wordsOf (bs : List Byte) : List (BitVec 64) := toWords (bs.length / 8 + 1) bs

def word (v : Nat) : BitVec 64 := BitVec.ofNat 64 v

/-- R449: the header of a packet. -/
def packetHead (type words phase seq : Nat) : BitVec 64 :=
  word (type * 2 ^ 56 + (words - 1) % 64 * 2 ^ 50 + phase % 1024 * 2 ^ 40 + seq % 2 ^ 32)

/-- R448, R478: the die takes the journal: it is the understudy, or a joining die that buffers it. -/
def State.shadows (s : State) (d : DieId) : Bool :=
  decide (s.holder ≠ some d) &&
    decide (s.get (TWN_STATUS.role d) = 3 ∨
      (s.get (TWN_STATUS.role d) = 2 ∧ s.get (TWN_RESYNC.stage d) = 3))

/-- The die the gate is open to journals; a packet takes the next sequence, and waits for the
understudy while the Falsia link is up. -/
def State.journalPacket (s : State) (type : Nat) (body : List (BitVec 64)) (content : Rec) : State :=
  match s.holder with
  | none => s
  | some d =>
    if s.journal.stopped then s
    else
      let n := body.length + 1
      let ws := packetHead type n s.phase s.journal.seq :: body
      let up := s.flag (TWN_STATUS.link_up d) && s.shadows d.other
      let p : Packet := { toDie := d.other, seq := s.journal.seq, words := ws, content := content }
      { s with journal := { s.journal with
          seq := s.journal.seq + 1,
          link := if up then s.journal.link ++ [p] else s.journal.link,
          unacked := if up then s.journal.unacked ++ [s.journal.seq] else s.journal.unacked,
          packets := s.journal.packets + 1,
          crc := crc32Run s.journal.crc (ws.flatMap fun w => leBytes 8 w.toNat),
          bytes := s.journal.bytes + 8 * n } }

/-- One write of a type 0x01 packet: fault writes carry the whole word, and a report without a
change of sense or fault is marked in bit 20 (log entry 40). -/
def dataWord : DataIn → BitVec 64
  | .sense e v => word (v % 2 ^ 16 * 2 ^ 48 + 0x08 * 2 ^ 40 + e)
  | .fault e _ v => word (v % 2 ^ 16 * 2 ^ 48 + 0x09 * 2 ^ 40 + e)
  | .report es => word (0x09 * 2 ^ 40 + 2 ^ 20 + es.headD 0)

/-- Reports of several endpoints as one for each. -/
def oneEach (ins : List DataIn) : List DataIn :=
  ins.flatMap fun
    | .report es => es.map fun e => .report [e]
    | i => [i]

/-- Type 0x01 packets of at most 62 writes, all with the input's sequence (R451). -/
def State.journalData : Nat → State → Nat → List DataIn → State
  | 0, s, _, _ => s
  | fuel + 1, s, input, ins =>
    if ins = [] then s
    else
      let k := ins.take 62
      let s := s.journalPacket 0x01 (word (input % 2 ^ 32) :: k.map dataWord) (.dataWrite input k)
      s.journalData fuel input (ins.drop 62)

/-- The target word of a type 0x02 packet. -/
def Mgmt.word1 (w : Mgmt) : BitVec 64 :=
  word (w.target * 2 ^ 62 + w.value.length % 2 ^ 16 * 2 ^ 32 +
    (if w.target = 0 then w.code % 256 * 2 ^ 24 + w.sub % 2 ^ 20
     else if w.target = 1 then w.code % 2 ^ 16 * 2 ^ 16 + w.sub % 256 * 256
     else w.code % 2 ^ 32))

def State.journalMgmt (s : State) (w : Mgmt) : State :=
  s.journalPacket 0x02 (w.word1 :: wordsOf w.value) (.manage w)

/-- A type 0x04 packet. -/
def State.journalFix (s : State) (src : CueSrc) (stamp id : Nat) (late : Bool) : State :=
  let w := match src with
    | .sched j => (j, 0)
    | .go q => (q, 1)
  s.journalPacket 0x04 [word stamp, word (id % 2 ^ 32 * 2 ^ 32 + w.1 % 2 ^ 32),
    word (w.2 + 2 * b2n late)] (.cueFix src stamp id late)

/-- A type 0x05 packet. -/
def State.journalOccurrence (s : State) (j tai : Nat) : State :=
  s.journalPacket 0x05 [word tai, word (j % 2 ^ 14)] (.occurrence j tai)

/-- Type 0x06 packets of at most 62 content words each; the last carries the content. -/
def State.journalMeter : Nat → State → Nat → Nat → Nat → List (BitVec 64) → Rec → State
  | 0, s, _, _, _, _, _ => s
  | fuel + 1, s, kind, k, last, ws, content =>
    let s := s.journalPacket 0x06 (word (kind + k % 256 * 256 + last % 256 * 2 ^ 16) :: ws.take 62)
      (if k = last then content else .fragment)
    if k = last then s else s.journalMeter fuel kind (k + 1) last (ws.drop 62) content

def State.journalMetering (s : State) (kind : Nat) (bs : List Byte) (content : Rec) : State :=
  let ws := wordsOf bs
  let last := (max 1 ws.length - 1) / 62
  s.journalMeter (last + 1) kind 0 last ws content

/-- R452: a mirror write leaves while the Falsia link is up. -/
def State.mirror (s : State) (m : Mirror) : State :=
  match s.holder with
  | none => s
  | some d =>
    if s.flag (TWN_STATUS.link_up d) && decide (s.get (TWN_RESYNC.stage d.other) ≠ 0) then
      { s with mirrors := s.mirrors ++ [(d.other, m)], mirrorCount := s.mirrorCount + 1 }
    else s

/-! ## Responses of the object protocol -/

/-- A counter object that saturates, and one that wraps. -/
def State.objSat (s : State) (idx : Nat) : State := s.setObj idx 0 (min (s.obj idx 0 + 1) (2 ^ 32 - 1))
def State.objWrap (s : State) (idx : Nat) : State := s.setObj idx 0 ((s.obj idx 0 + 1) % 2 ^ 32)

/-- A response leaves: its session remembers it (R551). -/
def State.replySent (s : State) (r : Reply) : State :=
  let one := fun (m : Remembered) =>
    if r.kept ∧ m.session = r.session ∧ m.request = r.request then
      { m with response := some (m.response.getD r.body) } else m
  ({ s with remembered := s.remembered.map one }.objWrap 0x1106).emit (.message r.session r.body)

end Sys2Proof.Machine
end

