-- ==== Sys2Proof/Machine/Store.lean ====
section
/-! DEFINITION. The endpoint store: endpoint numbers, kinds, bindings, records, faults and reports,
statistics, write-behind, MRAM protection and the unit map (R116-R154, R762). -/

namespace Sys2Proof.Machine

/-! ## The dies -/

def State.die (s : State) : DieId → Die
  | .a => s.dieA
  | .b => s.dieB

def State.setDie (s : State) (d : DieId) (v : Die) : State :=
  match d with
  | .a => { s with dieA := v }
  | .b => { s with dieB := v }

/-! ## Endpoint numbers (R116, R38) -/

def slotOf (e : Nat) : Nat := e % 4096
def unitOf (e : Nat) : Nat := e / 4096
def regionOfUnit (u : Nat) : Nat := u / 64
def clusterOfUnit (u : Nat) : Nat := u / 8

/-- R41: the physical unit a logical unit occupies at reset. -/
def resetPhys (u : Nat) : Nat := 72 * (u / 64) + 9 * (u / 8 % 8) + u % 8

/-- The physical unit of a logical unit under a map of moved units. -/
def physIn (moved : Tbl Nat) (u : Nat) : Nat :=
  let m := Tbl.get 0 moved u
  if m = 0 then resetPhys u else m - 1

def Die.phys (d : Die) (u : Nat) : Nat := physIn d.moved u

/-! ## Kinds and bindings -/

/-- R117: the kind codes. -/
def kindOutput (k : Nat) : Bool := decide (k = 1 ∨ k = 2)
def kindInput (k : Nat) : Bool := decide (3 ≤ k ∧ k ≤ 8)
def kindGroup (k : Nat) : Bool := decide (k = 9)
def kindValid (k : Nat) : Bool := decide (k ≤ 9)

/-- R121: the fields of a binding. -/
def bindTransport (b : Nat) : Nat := b / 2 ^ 29
def bindNode (b : Nat) : Nat := b % 2 ^ 16
def bindIndex (b : Nat) : Nat := b / 2 ^ 16 % 16
def bindChain (b : Nat) : Nat := b / 2 ^ 11 % 16
def bindPos (b : Nat) : Nat := b / 4 % 512
def bindChan (b : Nat) : Nat := b % 4
def bindInput (b : Nat) : Nat := b % 32
def bindAgg (b : Nat) : Nat := b % 2 ^ 16

/-- R117, R123: the transports a kind permits; none is permitted for every kind. -/
def bindPermitted (kind t : Nat) : Bool :=
  if t = 0 then true
  else if kind = 1 ∨ kind = 2 ∨ kind = 5 then decide (t = 1 ∨ t = 2)
  else if kind = 3 ∨ kind = 4 ∨ kind = 6 ∨ kind = 7 then decide (t = 1)
  else if kind = 8 then decide (t = 3)
  else if kind = 9 then decide (t = 4)
  else false

/-- R122: what an output endpoint's binding occupies: a node and index, or a chain, position and
channel. -/
def bindPlace (b : Nat) : Option (Nat × Nat) :=
  if bindTransport b = 1 then some (1, b % 2 ^ 20)
  else if bindTransport b = 2 then some (2, b % 2 ^ 15)
  else none

/-- Two bindings name the same device (R172). -/
def sameDevice (b c : Nat) : Bool :=
  if bindTransport b = 1 then decide (bindTransport c = 1 ∧ bindNode b = bindNode c)
  else if bindTransport b = 2 then
    decide (bindTransport c = 2 ∧ bindChain b = bindChain c ∧ bindPos b = bindPos c)
  else false

/-! ## Records -/

def Die.hotOf (d : Die) (e : Nat) : Hot := Tbl.get Hot.delivered d.hot e
def Die.imageOf (d : Die) (e : Nat) : Hot := Tbl.get Hot.delivered d.image e
def Die.coldOf (d : Die) (e : Nat) : Cold := Tbl.get Cold.delivered d.cold e
def Die.statsOf (d : Die) (e : Nat) : Stats := Tbl.get Stats.zero d.stats e
def Die.countsOf (d : Die) (e : Nat) : Counts := Tbl.get Counts.zero d.counts e
def Die.kindOf (d : Die) (e : Nat) : Nat := (d.coldOf e).kind

/-- R116: an endpoint is active when its kind is not 0x00. -/
def Die.active (d : Die) (e : Nat) : Bool := decide (d.kindOf e ≠ 0)

/-- The endpoints of a die's store that are not as delivered, in rising order. -/
def Die.listed (d : Die) : List Nat := d.cold.map Prod.fst

/-- The active endpoints in rising order, which is unit order and then slot order. -/
def Die.actives (d : Die) : List Nat := d.listed.filter d.active

/-- R140: a hot record is written; a change marks it dirty from cycle `n`. -/
def Die.setHot (d : Die) (e : Nat) (h : Hot) (n : Nat) : Die :=
  if h = d.hotOf e then d
  else
    { d with
      hot := Tbl.put Hot.delivered d.hot e h
      dirty := if Tbl.get 0 d.dirty e = 0 then Tbl.put 0 d.dirty e (n + 1) else d.dirty }

def Die.setCold (d : Die) (e : Nat) (c : Cold) : Die :=
  { d with cold := Tbl.put Cold.delivered d.cold e c }

def Die.setStats (d : Die) (e : Nat) (v : Stats) : Die :=
  { d with stats := Tbl.put Stats.zero d.stats e v }

def Die.setCounts (d : Die) (e : Nat) (v : Counts) : Die :=
  { d with counts := Tbl.put Counts.zero d.counts e v }

/-- R122: another output endpoint holds the same node or chain binding. -/
def Die.bindTaken (d : Die) (e b : Nat) : Bool :=
  match bindPlace b with
  | none => false
  | some p => d.actives.any fun f =>
      decide (f ≠ e) && kindOutput (d.kindOf f) && decide (bindPlace (d.hotOf f).binding = some p)

/-! ## Octets of the records (R118, R124, R148) -/

def Hot.bytes (h : Hot) : List Byte :=
  leBytes 2 h.current ++ leBytes 2 h.target ++ leBytes 2 h.lastTx ++ leBytes 2 h.fadeLeft ++
  leBytes 2 h.holdLeft ++ leBytes 2 h.fsLevel ++ leBytes 2 h.ovrLevel ++ leBytes 2 h.sense ++
  leBytes 2 h.fault ++ leBytes 1 h.profile ++ leBytes 1 h.group ++ leBytes 1 h.fadeCtrl ++
  leBytes 1 h.ovrCtrl ++ leBytes 2 0 ++ leBytes 4 h.lastChange ++ leBytes 4 h.binding

/-- Cold 0x20-0x2F. -/
def Cold.calBytes (c : Cold) : List Byte :=
  leBytes 2 c.calGain ++ leBytes 2 c.calOffset ++ leBytes 2 c.minPhys ++ leBytes 2 c.maxPhys ++
  leBytes 2 c.nominal ++ leBytes 6 0

/-- Cold 0x30-0x3F. -/
def Cold.bindBytes (c : Cold) : List Byte :=
  leBytes 1 c.feeder ++ leBytes 1 c.phase ++ leBytes 2 c.reportPeriod ++ leBytes 1 c.meterQty ++
  leBytes 11 0

/-- Cold 0x00-0x3F. -/
def Cold.bytes (c : Cold) : List Byte :=
  leBytes 1 c.kind ++ leBytes 1 c.linkCount ++ leBytes 2 c.fallback ++ leBytes 4 c.nameHash ++
  leBytes 4 c.link0 ++ leBytes 4 c.link1 ++ leBytes 4 c.link2 ++ leBytes 4 c.link3 ++
  leBytes 2 c.daylightRef ++ leBytes 1 c.derate ++ leBytes 1 0 ++ leBytes 4 c.daylightEp ++
  c.calBytes ++ c.bindBytes

def Stats.bytes (v : Stats) : List Byte :=
  leBytes 4 v.onCycles ++ leBytes 4 v.switches ++ leBytes 4 v.energy ++ leBytes 4 v.reports ++
  leBytes 4 v.lastReport ++ leBytes 2 v.faults ++ leBytes 2 v.missed ++ leBytes 4 v.cycle ++
  leBytes 2 v.level ++ leBytes 2 v.residue

/-- n octets of a list from an offset, as a number. -/
def leAt (b : List Byte) (off n : Nat) : Nat := leNat ((b.drop off).take n)

/-- The calibration fields from 16 octets. -/
def Cold.withCal (c : Cold) (b : List Byte) : Cold :=
  { c with calGain := leAt b 0 2, calOffset := leAt b 2 2, minPhys := leAt b 4 2,
           maxPhys := leAt b 6 2, nominal := leAt b 8 2 }

/-- The binding details from 16 octets. -/
def Cold.withBind (c : Cold) (b : List Byte) : Cold :=
  { c with feeder := leAt b 0 1, phase := leAt b 1 1, reportPeriod := leAt b 2 2,
           meterQty := leAt b 4 1 }

/-- The cold configuration from its first 64 octets. -/
def Cold.ofBytes (b : List Byte) : Cold :=
  let c : Cold :=
    { Cold.delivered with
      kind := leAt b 0 1, linkCount := leAt b 1 1, fallback := leAt b 2 2, nameHash := leAt b 4 4,
      link0 := leAt b 8 4, link1 := leAt b 12 4, link2 := leAt b 16 4, link3 := leAt b 20 4,
      daylightRef := leAt b 24 2, derate := leAt b 26 1, daylightEp := leAt b 28 4 }
  (c.withCal (b.drop 32)).withBind (b.drop 48)

/-- The links in order. -/
def Cold.links (c : Cold) : List Nat := [c.link0, c.link1, c.link2, c.link3]

/-- R125: the checks of a cold record as it will stand. -/
def Cold.ok (c : Cold) (e : Nat) : Bool :=
  decide (c.linkCount ≤ 4) &&
  (c.links.take c.linkCount).all (fun l => decide (l % 2 ^ 20 ≠ e)) &&
  decide (c.derate ≤ 14 ∨ c.derate = 0xFF) && decide (c.feeder ≤ 5 ∨ c.feeder = 0xFF) &&
  decide (c.phase ≤ 3)

/-- The daylight pair an endpoint uses, when its daylight_on is set (R132, R168). -/
def Cold.daylightPair (c : Cold) : Option (Nat × Nat) :=
  if c.daylightEp / 2 ^ 31 = 1 then none else some (c.daylightEp % 2 ^ 20, c.daylightRef)

/-! ## Reports and faults (R120) -/

/-- The fault flags. -/
def faultNoReport : Nat := 0
def faultLamp : Nat := 1
def faultDriver : Nat := 2
def faultOverTemp : Nat := 3
def faultCheck : Nat := 4
def faultTamper : Nat := 5
def faultBattery : Nat := 6
def faultUnbound : Nat := 7
def faultFallback : Nat := 8

/-- A fault word is written: a word that sets a new bit counts (R124 fault_count). -/
def Die.writeFault (d : Die) (e w n : Nat) : Die :=
  let h := d.hotOf e
  let d' := d.setHot e { h with fault := w } n
  if (List.range 9).any (fun k => bitOf w k = 1 && bitOf h.fault k = 0) then
    let c := d.countsOf e
    d'.setCounts e { c with faults := min (c.faults + 1) 0xFFFF }
  else d'

/-- R120: a report of an endpoint: it is counted, no_report clears and the period restarts. -/
def Die.report (d : Die) (e n : Nat) : Die :=
  let h := d.hotOf e
  let c := d.countsOf e
  let d := d.setHot e { h with fault := clrBit h.fault faultNoReport } n
  let d := d.setCounts e
    { c with reports := (c.reports + 1) % 2 ^ 32, lastReport := n % 2 ^ 32 }
  { d with period := Tbl.put 0 d.period e n }

/-- R120: an endpoint is supervised: a report period, a binding and no virtual group. -/
def Die.supervised (d : Die) (e : Nat) : Bool :=
  d.active e && !kindGroup (d.kindOf e) && decide (bindTransport (d.hotOf e).binding ≠ 0) &&
    decide ((d.coldOf e).reportPeriod ≠ 0)

/-- The report period of an endpoint has passed. -/
def Die.expiryDue (d : Die) (e n : Nat) : Bool :=
  d.supervised e && decide ((d.coldOf e).reportPeriod ≤ n - Tbl.get 0 d.period e)

/-- R120: an expiry: no_report is set, missed increments and a new period starts. -/
def Die.expire (d : Die) (e n : Nat) : Die :=
  let c := d.countsOf e
  let d := d.writeFault e (setBit (d.hotOf e).fault faultNoReport) n
  let d := d.setCounts e { (d.countsOf e) with missed := min (c.missed + 1) 0xFFFF }
  { d with period := Tbl.put 0 d.period e n }

/-! ## Statistics (R126) -/

/-- A statistics visit in cycle `n` from hot image `h`: the pseudocode of R126. -/
def visitStats (v : Stats) (h : Hot) (c : Counts) (nominal period n : Nat) : Stats :=
  let n32 := n % 2 ^ 32
  let span := (n32 + 2 ^ 32 - v.cycle) % 2 ^ 32
  let since := (h.lastChange + 2 ^ 32 - v.cycle) % 2 ^ 32
  let changed := decide (1 ≤ since ∧ since ≤ span)
  let d0 := if changed then since else 0
  let d1 := if changed then span - since else span
  let x := v.residue +
    65536 * nominal * (v.level * d0 + h.current * d1) * period / (65535 * 10 * 3600 * 6400000000)
  { onCycles := min (v.onCycles + (if v.level > 0 then d0 else 0) + (if h.current > 0 then d1 else 0))
      (2 ^ 32 - 1)
    switches := if d0 > 0 ∧ (decide (v.level > 0) ≠ decide (h.current > 0)) then
      min (v.switches + 1) (2 ^ 32 - 1) else v.switches
    energy := (v.energy + x / 65536) % 2 ^ 32
    residue := x % 65536
    reports := c.reports
    lastReport := c.lastReport
    faults := c.faults
    missed := c.missed
    cycle := n32
    level := h.current }

def Die.visit (d : Die) (e n period : Nat) : Die :=
  d.setStats e (visitStats (d.statsOf e) (d.imageOf e) (d.countsOf e) (d.coldOf e).nominal period n)

/-- R126: statistics cleared at cycle `n`. -/
def Die.clearStats (d : Die) (e n : Nat) : Die :=
  (d.setStats e { Stats.zero with cycle := n % 2 ^ 32, level := (d.hotOf e).current }).setCounts e
    Counts.zero

/-- R140: a dirty hot record is written to its image, and the statistics are visited. -/
def Die.writeBehind (d : Die) (e n period : Nat) : Die :=
  if Tbl.get 0 d.dirty e = 0 then d
  else
    ({ d with image := Tbl.put Hot.delivered d.image e (d.hotOf e),
              dirty := Tbl.put 0 d.dirty e 0 }).visit e n period

/-- The age of the oldest dirty record at cycle `n`. -/
def Die.dirtyAge (d : Die) (n : Nat) : Nat :=
  d.dirty.foldl (fun a x => max a (n + 1 - x.2)) 0

/-- R126: the background pass visits every active endpoint. -/
def Die.visitAll (d : Die) (n period : Nat) : Die :=
  d.actives.foldl (fun d e => d.visit e n period) d

/-! ## Commands -/

/-- REPORT_PERIOD_EXPIRY (R120): on both dies' stores, as the journal has it on both. -/
def execReportPeriodExpiry (e : Endpoint) (s : State) : Host.Outcome State Fault Refusal :=
  let n := s.clk.cycle
  let one := fun (d : Die) => if d.expiryDue e.toNat n then d.expire e.toNat n else d
  .next { s with dieA := one s.dieA, dieB := one s.dieB }

/-- R151: the age of a die's oldest dirty record is looked at: wb_overdue, and the oldest age seen. -/
def State.wbCheck (d : DieId) (s : State) : State :=
  let age := (s.die d).dirtyAge s.clk.cycle
  let s := s.raiseIf (decide (s.get (EPS_CTRL.wb_max_age d) < age)) (EPS_INT_STATUS.wb_overdue d)
  s.set (EPS_WB_AGE_MAX.age d) (max (s.get (EPS_WB_AGE_MAX.age d)) age)

/-- WRITE_BEHIND (R140): the oldest dirty age seen is kept, and the record is written out. -/
def execWriteBehind (d : DieId) (e : Endpoint) (s : State) : Host.Outcome State Fault Refusal :=
  let s := s.wbCheck d
  if s.flag (EPS_CTRL.wb_enable d) then
    .next (s.setDie d ((s.die d).writeBehind e.toNat s.clk.cycle s.period))
  else .next s

/-- BACKGROUND_STATISTICS_PASS (R126). -/
def execBackgroundStatisticsPass (d : DieId) (s : State) : Host.Outcome State Fault Refusal :=
  .next (s.setDie d ((s.die d).visitAll s.clk.cycle s.period))

/-! ## MRAM protection (R135-R139) -/

/-- A row is retired to the next spare row of its bank; `none` when no spare row is left (R139). -/
def State.retireRow (s : State) (d : DieId) (bank row : Nat) : Option State :=
  let free := s.get (EPS_SPARE_B.free d bank)
  if free = 0 then none
  else
    let die := s.die d
    let s := s.setDie d { die with
      retired := Tbl.put 0 die.retired (bank * 65536 + row) (512 - free + 1)
      retireWaits := Tbl.put false die.retireWaits bank true }
    let s := (s.set (EPS_SPARE_B.free d bank) (free - 1)).raise (EPS_INT_STATUS.row_retired d)
    some (s.raiseIf (decide (free - 1 < 32)) (EPS_INT_STATUS.spare_low d))

/-- The MRAM window address of a code word (R133). -/
def mramAddr (bank row word : Nat) : Nat := 0x10000000 + bank * 0x04000000 + row * 1024 + word * 32

end Sys2Proof.Machine
end

