-- ==== Sys2Proof/Machine/Icu.lean ====
section
/-! DEFINITION. The interrupt controllers of the dies (R601-R608, R760). -/

namespace Sys2Proof.Machine

/-! ## Source lines (R601, R602, R608) -/

/-- An interrupt status register of a block: its first source, its number of bits, its address and that of
its enables. -/
structure IrqBlock where
  first : Nat
  bits : Nat
  status : Nat
  enable : Nat
  deriving DecidableEq, Repr

/-- R608: the status registers whose bits each drive one source of a die's controller. -/
def irqBlocks (d : DieId) : List IrqBlock :=
  let own := fun (f n off : Nat) => (⟨f, n, d.space + off, d.space + off + 4⟩ : IrqBlock)
  let apron := fun (f n a : Nat) => (⟨f, n, a, a + 4⟩ : IrqBlock)
  [own 1 15 0x40070, apron 16 7 0xC0020054, apron 24 3 0xC0030070, own 32 9 0x10070, own 48 8 0x10870,
   own 56 6 0x20060] ++
  ((List.range 4).map fun r => apron (64 + 8 * r) 8 (radBase r + 0x70)) ++
  ((List.range 2).map fun p => apron (96 + 8 * p) 6 (plcBase p + 0x70)) ++
  [apron 128 11 0xC0070070, apron 144 8 (ethBase 0 + 0x70), apron 152 8 (ethBase 1 + 0x70),
   apron 160 4 (ethBase 2 + 0x70), apron 164 7 0xC0090070, own 176 10 0x50070, own 192 8 0x60070,
   own 208 6 0x70070, own 214 6 0x80070, apron 222 2 0xC0010070, apron 224 7 0xC0000070,
   apron 232 4 0xC0030170, own 240 11 0x30070]

/-- A bit that drives a source: its status and its enable. -/
def State.lineBit (s : State) (status enable k : Nat) : Bool :=
  decide (s.get ⟨status, k, 1⟩ = 1 ∧ s.get ⟨enable, k, 1⟩ = 1)

/-- R602: the line of source `n` of a die is high.  Every bit of a chain drives its one source (R398). -/
def State.line (s : State) (d : DieId) (n : Nat) : Bool :=
  if 112 ≤ n ∧ n ≤ 127 then
    let b := flcBase (n - 112)
    (List.range 7).any fun k => s.lineBit (b + 0x70) (b + 0x74) k
  else match (irqBlocks d).find? fun x => decide (x.first ≤ n ∧ n < x.first + x.bits) with
    | some x => s.lineBit x.status x.enable (n - x.first)
    | none => false

/-- R608: a source that the table assigns. -/
def assigned (n : Nat) : Bool :=
  decide (112 ≤ n ∧ n ≤ 127) || (irqBlocks .a).any fun x => decide (x.first ≤ n ∧ n < x.first + x.bits)

/-- Sources 32i to 32i + 31 as a bitmap. -/
def bitmap (i : Nat) (p : Nat → Bool) : Nat :=
  (List.range 32).foldl (fun w j => if p (32 * i + j) then w + 2 ^ j else w) 0

/-- A bit of a bitmap register of the controller. -/
def State.icuBit (s : State) (f : Nat → Fld) (n : Nat) : Bool := decide (bitOf (s.get (f (n / 32))) (n % 32) = 1)

def State.setIcuBit (s : State) (f : Nat → Fld) (n : Nat) (b : Bool) : State :=
  s.set (f (n / 32)) (putBit (s.get (f (n / 32))) (n % 32) b)

/-- R602: a source is pending: its latch is set, or its line is high, which sets the latch at the next
clock. -/
def State.irqPending (s : State) (d : DieId) (n : Nat) : Bool :=
  s.icuBit (ICU_PEND.pend d) n || s.line d n

/-- R602: every source of a die whose line is high sets its latch. -/
def State.latchLines (d : DieId) (s : State) : State :=
  (List.range 8).foldl (fun s i =>
    s.set (ICU_PEND.pend d i) (s.get (ICU_PEND.pend d i) ||| bitmap i (s.line d))) s

/-- INTERRUPT_PENDING (R602). -/
def execInterruptPending (d : DieId) (s : State) : Host.Outcome State Fault Refusal := .next (s.latchLines d)

/-- A write to this address may end a line: it is a status or an enable register. -/
def endsLine (addr : Nat) : Bool :=
  ((irqBlocks .a ++ irqBlocks .b).any fun x => decide (addr = x.status ∨ addr = x.enable)) ||
    (List.range 16).any fun n => decide (addr = flcBase n + 0x70 ∨ addr = flcBase n + 0x74)

/-! ## Offers and claims (R603-R606) -/

/-- The empty claim value. -/
def noSource : Nat := 0x100

/-- R603: a source is routed to a target: cores 0 to 3, host lands 4 and 5. -/
def State.routed (s : State) (d : DieId) (n t : Nat) : Bool :=
  decide (bitOf (s.get (ICU_ROUTE.host d n) * 16 + s.get (ICU_ROUTE.cores d n)) t = 1)

/-- R603: a source is offered to a target. -/
def State.irqOffered (s : State) (d : DieId) (t n : Nat) : Bool :=
  s.irqPending d n && s.icuBit (ICU_EN.en d) n && !s.icuBit (ICU_ACTIVE.act d) n && s.routed d n t

/-- The sources offered to a target, in rising order. -/
def State.offers (s : State) (d : DieId) (t : Nat) : List Nat :=
  ((List.range 256).drop 1).filter (s.irqOffered d t)

/-- R603: a target's output is asserted. -/
def State.asserted (s : State) (d : DieId) (t : Nat) : Bool :=
  decide (bitOf (s.get (ICU_CTRL.target_en d)) t = 1) && decide (s.get (ICU_TSTATUS.active d t) = noSource) &&
    decide (s.offers d t ≠ [])

/-- R604: a read of the claim register of a target: the state after it and the claim word. -/
def State.icuClaim (s : State) (d : DieId) (t : Nat) : State × Nat :=
  match s.offers d t with
  | n :: rest =>
    if s.get (ICU_TSTATUS.active d t) = noSource then
      let s := (s.setIcuBit (ICU_PEND.pend d) n false).setIcuBit (ICU_ACTIVE.act d) n true
      (s.set (ICU_TSTATUS.active d t) n, (if rest = [] then 0 else 2 ^ 31) + n)
    else (s.addSat (ICU_EMPTY_CLAIMS.count d) 1, noSource)
  | [] => (s.addSat (ICU_EMPTY_CLAIMS.count d) 1, noSource)

/-- R605: a write of a source number to the completion register of a target. -/
def State.icuComplete (s : State) (d : DieId) (t n : Nat) : State :=
  if s.get (ICU_TSTATUS.active d t) = n ∧ n ≠ noSource then
    (s.setIcuBit (ICU_ACTIVE.act d) n false).set (ICU_TSTATUS.active d t) noSource
  else s.addSat (ICU_STRAY.count d) 1

/-- R606: the host targets of a die hold no active source. -/
def State.icuRelease (s : State) (d : DieId) : State :=
  ([4, 5] : List Nat).foldl (fun s t =>
    let n := s.get (ICU_TSTATUS.active d t)
    if n = noSource then s
    else (s.setIcuBit (ICU_ACTIVE.act d) n false).set (ICU_TSTATUS.active d t) noSource) s

/-- R603: the host interrupt lands HIRQ0 and HIRQ1. -/
def State.hirq (s : State) (k : Nat) : Bool :=
  match s.holder with
  | some d => s.asserted d (4 + k)
  | none => false

/-- R760: the firmware of a die writes the core routes: free non-zero values for the assigned sources, 0
for the others. -/
def State.writeRoutes (s : State) (d : DieId) : State :=
  (List.range 256).foldl (fun s n =>
    if assigned n then s.draw.set (ICU_ROUTE.cores d n) (1 + s.freeVal % 15)
    else s.set (ICU_ROUTE.cores d n) 0) s

/-- ICU: what the bitmap and target registers show beside the register file (R610). -/
def State.icuView (s : State) (d : DieId) (off : Nat) : Nat :=
  if 0x40 ≤ off ∧ off < 0x60 then
    let i := (off - 0x40) / 4
    bitmap i (s.irqPending d) - s.get (ICU_PEND.pend d i)
  else if 0x120 ≤ off ∧ off < 0x140 then bitmap ((off - 0x120) / 4) (s.line d)
  else if 0x800 ≤ off ∧ off < 0x860 ∧ (off - 0x800) % 16 = 8 then
    b2n (s.asserted d ((off - 0x800) / 16)) * 2 ^ 31
  else 0

end Sys2Proof.Machine
end

