-- ==== Sys2Proof/Machine/Crypto.lean ====
section
/-! DEFINITION. The cryptographic functions that the manual names by standard (R613): AES, AES-CCM* (R305),
AES-256 key wrap with padding (R616, R625), SHA-384, HMAC-SHA-384 and HKDF-SHA-384 (R569, R618), ECDSA and ECDH
on P-384 (R625, R630, R654), and the public key of a DER certificate (R628).  The manual names the standards and
gives no formula: what is computed here is PRESUMED from them (log entry 107). -/

namespace Sys2Proof.Machine

/-- A list cut into pieces of `n`; the second argument bounds the pieces. -/
def pieces {α : Type} (n : Nat) : Nat → List α → List (List α)
  | 0, _ => []
  | fuel + 1, l => if l.isEmpty then [] else l.take n :: pieces n fuel (l.drop n)

/-- A function of a number that is computed first. -/
def computed {α : Type} (n : Nat) (f : Nat → α) : α :=
  match n with
  | 0 => f 0
  | k + 1 => f (k + 1)

/-- Octets as numbers and back. -/
def octNats (b : List Byte) : List Nat := b.map BitVec.toNat
def natOcts (l : List Nat) : List Byte := l.map (BitVec.ofNat 8)

/-- A number in n octets, most significant first, and back. -/
def bigEnd : Nat → Nat → List Nat
  | 0, _ => []
  | n + 1, v => bigEnd n (v / 256) ++ [v % 256]
def bigVal (l : List Nat) : Nat := l.foldl (fun a x => a * 256 + x) 0

def xorList (a b : List Nat) : List Nat := List.zipWith (· ^^^ ·) a b

/-! ## AES (FIPS 197) -/

/-- The substitution box and its inverse, one octet per entry, entry 0 most significant. -/
def aesBox : Nat :=
  0x637c777bf26b6fc53001672bfed7ab76ca82c97dfa5947f0add4a2af9ca472c0b7fd9326363ff7cc34a5e5f171d8311504c723c31896059a071280e2eb27b27509832c1a1b6e5aa0523bd6b329e32f8453d100ed20fcb15b6acbbe394a4c58cfd0efaafb434d338545f9027f503c9fa851a3408f929d38f5bcb6da2110fff3d2cd0c13ec5f974417c4a77e3d645d197360814fdc222a908846eeb814de5e0bdbe0323a0a4906245cc2d3ac629195e479e7c8376d8dd54ea96c56f4ea657aae08ba78252e1ca6b4c6e8dd741f4bbd8b8a703eb5664803f60e613557b986c11d9ee1f8981169d98e949b1e87e9ce5528df8ca1890dbfe6426841992d0fb054bb16
def aesInvBox : Nat :=
  0x52096ad53036a538bf40a39e81f3d7fb7ce339829b2fff87348e4344c4dee9cb547b9432a6c2233dee4c950b42fac34e082ea16628d924b2765ba2496d8bd12572f8f66486689816d4a45ccc5d65b6926c704850fdedb9da5e154657a78d9d8490d8ab008cbcd30af7e45805b8b34506d02c1e8fca3f0f02c1afbd0301138a6b3a9111414f67dcea97f2cfcef0b4e67396ac7422e7ad3585e2f937e81c75df6e47f11a711d29c5896fb7620eaa18be1bfc563e4bc6d279209adbc0fe78cd5af41fdda8338807c731b11210592780ec5f60517fa919b54a0d2de57a9f93c99cefa0e03b4dae2af5b0c8ebbb3c83539961172b047eba77d626e169146355210c7d

def boxed (box i : Nat) : Nat := (box >>> (8 * (255 - i))) % 256

/-- The four octets of a word through the box. -/
def boxWord (w : Nat) : Nat :=
  ((boxed aesBox (w / 2 ^ 24) * 256 + boxed aesBox (w / 2 ^ 16 % 256)) * 256 +
    boxed aesBox (w / 2 ^ 8 % 256)) * 256 + boxed aesBox (w % 256)

/-- The words of the key schedule, newest first: how many remain, the number of the next, and its round constant. -/
def aesWords (nk : Nat) : Nat → Nat → Nat → List Nat → List Nat
  | 0, _, _, w => w
  | fuel + 1, i, rc, w =>
    let t := w.headD 0
    let r := if i % nk = 0 then boxWord (t % 2 ^ 24 * 256 + t / 2 ^ 24) ^^^ (rc * 2 ^ 24)
      else if 6 < nk ∧ i % nk = 4 then boxWord t
      else t
    let rc := if i % nk = 0 then (if rc < 128 then 2 * rc else (2 * rc) ^^^ 0x11B) else rc
    computed (w.getD (nk - 1) 0 ^^^ r) fun v => computed rc fun rc => aesWords nk fuel (i + 1) rc (v :: w)

/-- The round keys of a key of 16 or 32 octets, as numbers of 128 bits. -/
def aesKeys (key : List Nat) : List Nat :=
  let nk := key.length / 4
  let w := (aesWords nk (3 * nk + 28) nk 1 ((pieces 4 nk key).map bigVal).reverse).reverse
  (pieces 4 (nk + 7) w).map fun x => x.foldl (fun a v => a * 2 ^ 32 + v) 0

/-- A block as a number, the first octet most significant: its octets through a box and moved by rows; the list
gives the place each comes from. -/
def aesSub (box : Nat) (from_ : List Nat) (s : Nat) : Nat :=
  from_.foldl (fun a k => a * 256 + boxed box ((s >>> k) % 256)) 0

/-- Where an octet comes from when the rows move, and when they move back. -/
def aesRows : List Nat := [120, 80, 40, 0, 88, 48, 8, 96, 56, 16, 104, 64, 24, 112, 72, 32]
def aesInvRows : List Nat := [120, 16, 40, 64, 88, 112, 8, 32, 56, 80, 104, 0, 24, 48, 72, 96]

/-- Every octet multiplied by x, and every column turned by one or two octets. -/
def aesTwice (s : Nat) : Nat :=
  ((s &&& 0x7F7F7F7F7F7F7F7F7F7F7F7F7F7F7F7F) * 2) ^^^ (((s >>> 7) &&& 0x01010101010101010101010101010101) * 0x1B)
def aesTurn (s : Nat) : Nat :=
  ((s &&& 0x00FFFFFF00FFFFFF00FFFFFF00FFFFFF) * 256) ||| ((s >>> 24) &&& 0x000000FF000000FF000000FF000000FF)
def aesTurn2 (s : Nat) : Nat :=
  ((s &&& 0x0000FFFF0000FFFF0000FFFF0000FFFF) * 65536) ||| ((s >>> 16) &&& 0x0000FFFF0000FFFF0000FFFF0000FFFF)

/-- The columns mixed, and mixed back. -/
def aesMix {α : Type} (s : Nat) (f : Nat → α) : α :=
  computed s fun s => computed (aesTwice s) fun d =>
    computed (d ^^^ aesTurn (d ^^^ s) ^^^ aesTurn2 (s ^^^ aesTurn s)) f
def aesMixBack {α : Type} (s : Nat) (f : Nat → α) : α :=
  computed s fun s => computed (aesTwice (s ^^^ aesTurn2 s)) fun d => aesMix (s ^^^ aesTwice d) f

def aesRounds : List Nat → Nat → Nat
  | [], s => s
  | [k], s => aesSub aesBox aesRows s ^^^ k
  | k :: ks, s => aesMix (aesSub aesBox aesRows s) fun v => computed (v ^^^ k) (aesRounds ks)

/-- The cipher on a block. -/
def aesBlock (keys : List Nat) (b : List Nat) : List Nat :=
  computed (bigVal b ^^^ keys.headD 0) fun v => computed (aesRounds (keys.drop 1) v) (bigEnd 16)

/-- The inverse cipher takes the round keys last first. -/
def aesBackRounds : List Nat → Nat → Nat
  | [], s => s
  | [k], s => aesSub aesInvBox aesInvRows s ^^^ k
  | k :: ks, s => aesMixBack (aesSub aesInvBox aesInvRows s ^^^ k) fun v => computed v (aesBackRounds ks)

def aesBack (keys : List Nat) (b : List Nat) : List Nat :=
  let ks := keys.reverse
  computed (bigVal b ^^^ ks.headD 0) fun v => computed (aesBackRounds (ks.drop 1) v) (bigEnd 16)

/-! ## AES-CCM* of IEEE 802.15.4 at security level 5 (R305) -/

/-- Zeros up to a whole number of blocks of 16. -/
def pad16 (l : List Nat) : List Nat := l ++ List.replicate ((16 - l.length % 16) % 16) 0

/-- The CBC-MAC of the nonce, the authenticated data and the plaintext, its first 4 octets. -/
def ccmMac (keys : List Nat) (nonce auth plain : List Nat) : List Nat :=
  let head := (if auth.isEmpty then 0x09 else 0x49) :: nonce ++ bigEnd 2 plain.length
  let a := if auth.isEmpty then [] else pad16 (bigEnd 2 auth.length ++ auth)
  let all := head ++ a ++ pad16 plain
  ((pieces 16 (all.length / 16) all).foldl (fun x b => aesBlock keys (xorList x b)) (List.replicate 16 0)).take 4

/-- Key-stream block i. -/
def ccmStream (keys : List Nat) (nonce : List Nat) (i : Nat) : List Nat :=
  aesBlock keys (1 :: nonce ++ bigEnd 2 i)

/-- The text passed through the key stream from block 1. -/
def ccmText (keys : List Nat) (nonce text : List Nat) : List Nat :=
  let bs := pieces 16 (text.length / 16 + 1) text
  (bs.zip (List.range bs.length)).flatMap fun x => xorList x.1 (ccmStream keys nonce (x.2 + 1))

/-- R305: the encrypted payload with its 4-octet MIC. -/
def ccmSeal (key nonce auth plain : List Byte) : List Byte :=
  let ks := aesKeys (octNats key)
  let n := octNats nonce
  natOcts (ccmText ks n (octNats plain) ++
    xorList (ccmMac ks n (octNats auth) (octNats plain)) (ccmStream ks n 0))

/-- R305: the payload; none when the MIC fails, or where there is no key of 128 bits. -/
def ccmOpen (key nonce auth sealed : List Byte) : Option (List Byte) :=
  if key.length ≠ 16 ∨ sealed.length < 4 then none
  else
    let ks := aesKeys (octNats key)
    let n := octNats nonce
    let c := octNats sealed
    let plain := ccmText ks n (c.take (c.length - 4))
    if xorList (ccmMac ks n (octNats auth) plain) (ccmStream ks n 0) = c.drop (c.length - 4) then
      some (natOcts plain)
    else none

/-! ## AES-256 key wrap with padding (RFC 5649) -/

/-- One pass over the blocks, from step t. -/
def wrapPass (keys : List Nat) : Nat → List Nat → List (List Nat) → List Nat × List (List Nat)
  | _, a, [] => (a, [])
  | t, a, r :: rs =>
    let b := aesBlock keys (a ++ r)
    let x := wrapPass keys (t + 1) (bigEnd 8 (bigVal (b.take 8) ^^^ t)) rs
    (x.1, b.drop 8 :: x.2)

/-- One pass back; the blocks last first, from step t. -/
def unwrapPass (keys : List Nat) : Nat → List Nat → List (List Nat) → List Nat × List (List Nat)
  | _, a, [] => (a, [])
  | t, a, r :: rs =>
    let b := aesBack keys (bigEnd 8 (bigVal a ^^^ t) ++ r)
    let x := unwrapPass keys (t - 1) (b.take 8) rs
    (x.1, b.drop 8 :: x.2)

/-- A key of 1 octet or more wrapped under a key-encryption key. -/
def aesWrap (kek key : List Byte) : List Byte :=
  let ks := aesKeys (octNats kek)
  let p := octNats key
  let n := (p.length + 7) / 8
  let iv := [0xA6, 0x59, 0x59, 0xA6] ++ bigEnd 4 p.length
  let p := p ++ List.replicate (8 * n - p.length) 0
  natOcts (if n ≤ 1 then aesBlock ks (iv ++ p)
    else
      let x := (List.range 6).foldl (fun x j => wrapPass ks (n * j + 1) x.1 x.2) (iv, pieces 8 n p)
      x.1 ++ x.2.flatten)

/-- The key wrapped; none when the form or the integrity check fails. -/
def aesUnwrap (kek wrapped : List Byte) : Option (List Byte) :=
  let w := octNats wrapped
  let n := w.length / 8 - 1
  if w.length % 8 ≠ 0 ∨ n = 0 then none
  else
    let ks := aesKeys (octNats kek)
    let x := if n = 1 then
        let b := aesBack ks w
        (b.take 8, [b.drop 8])
      else (List.range 6).foldl (fun x j =>
        let y := unwrapPass ks (n * (6 - j)) x.1 x.2.reverse
        (y.1, y.2.reverse)) (w.take 8, pieces 8 n (w.drop 8))
    let len := bigVal (x.1.drop 4)
    let p := x.2.flatten
    if x.1.take 4 = [0xA6, 0x59, 0x59, 0xA6] ∧ 8 * (n - 1) < len ∧ len ≤ 8 * n ∧
        (p.drop len).all (fun v => decide (v = 0)) then
      some (natOcts (p.take len))
    else none

/-! ## SHA-384, HMAC and HKDF (FIPS 180-4, RFC 2104, RFC 5869) -/

def shaK : List Nat :=
    [0x428a2f98d728ae22, 0x7137449123ef65cd, 0xb5c0fbcfec4d3b2f, 0xe9b5dba58189dbbc] ++
    [0x3956c25bf348b538, 0x59f111f1b605d019, 0x923f82a4af194f9b, 0xab1c5ed5da6d8118] ++
    [0xd807aa98a3030242, 0x12835b0145706fbe, 0x243185be4ee4b28c, 0x550c7dc3d5ffb4e2] ++
    [0x72be5d74f27b896f, 0x80deb1fe3b1696b1, 0x9bdc06a725c71235, 0xc19bf174cf692694] ++
    [0xe49b69c19ef14ad2, 0xefbe4786384f25e3, 0x0fc19dc68b8cd5b5, 0x240ca1cc77ac9c65] ++
    [0x2de92c6f592b0275, 0x4a7484aa6ea6e483, 0x5cb0a9dcbd41fbd4, 0x76f988da831153b5] ++
    [0x983e5152ee66dfab, 0xa831c66d2db43210, 0xb00327c898fb213f, 0xbf597fc7beef0ee4] ++
    [0xc6e00bf33da88fc2, 0xd5a79147930aa725, 0x06ca6351e003826f, 0x142929670a0e6e70] ++
    [0x27b70a8546d22ffc, 0x2e1b21385c26c926, 0x4d2c6dfc5ac42aed, 0x53380d139d95b3df] ++
    [0x650a73548baf63de, 0x766a0abb3c77b2a8, 0x81c2c92e47edaee6, 0x92722c851482353b] ++
    [0xa2bfe8a14cf10364, 0xa81a664bbc423001, 0xc24b8b70d0f89791, 0xc76c51a30654be30] ++
    [0xd192e819d6ef5218, 0xd69906245565a910, 0xf40e35855771202a, 0x106aa07032bbd1b8] ++
    [0x19a4c116b8d2d0c8, 0x1e376c085141ab53, 0x2748774cdf8eeb99, 0x34b0bcb5e19b48a8] ++
    [0x391c0cb3c5c95a63, 0x4ed8aa4ae3418acb, 0x5b9cca4f7763e373, 0x682e6ff3d6b2b8a3] ++
    [0x748f82ee5defb2fc, 0x78a5636f43172f60, 0x84c87814a1f0ab72, 0x8cc702081a6439ec] ++
    [0x90befffa23631e28, 0xa4506cebde82bde9, 0xbef9a3f7b2c67915, 0xc67178f2e372532b] ++
    [0xca273eceea26619c, 0xd186b8c721c0c207, 0xeada7dd6cde0eb1e, 0xf57d4f7fee6ed178] ++
    [0x06f067aa72176fba, 0x0a637dc5a2c898a6, 0x113f9804bef90dae, 0x1b710b35131c471b] ++
    [0x28db77f523047d84, 0x32caab7b40c72493, 0x3c9ebe0a15c9bebc, 0x431d67c49c100d4c] ++
    [0x4cc5d4becb3e42b6, 0x597f299cfc657e2a, 0x5fcb6fab3ad6faec, 0x6c44198c4a475817]

def shaH0 : List Nat :=
  [0xcbbb9d5dc1059ed8, 0x629a292a367cd507, 0x9159015a3070dd17, 0x152fecd8f70e5939, 0x67332667ffc00b31, 0x8eb44a8768581511, 0xdb0c2e0d64f98fa7, 0x47b5481dbefa4fa4]

def rotR (n w : Nat) : Nat := (w >>> n) ||| (w <<< (64 - n)) % 2 ^ 64

/-- The rounds of one block: the round constants to come, the next 16 words of the schedule, and the eight
working words. -/
def shaRounds : List Nat → List Nat → (a b c d e f g h : Nat) → List Nat
  | [], _, a, b, c, d, e, f, g, h => [a, b, c, d, e, f, g, h]
  | k :: ks, w, a, b, c, d, e, f, g, h =>
    let w14 := w.getD 14 0
    let w1 := w.getD 1 0
    computed (h + (rotR 14 e ^^^ rotR 18 e ^^^ rotR 41 e) + ((e &&& f) ^^^ ((2 ^ 64 - 1 - e) &&& g)) + k +
        w.headD 0) fun t1 =>
      computed ((t1 + (rotR 28 a ^^^ rotR 34 a ^^^ rotR 39 a) + ((a &&& b) ^^^ (a &&& c) ^^^ (b &&& c))) % 2 ^ 64)
        fun a' => computed ((d + t1) % 2 ^ 64) fun e' =>
          computed (((rotR 19 w14 ^^^ rotR 61 w14 ^^^ (w14 >>> 6)) + w.getD 9 0 +
              (rotR 1 w1 ^^^ rotR 8 w1 ^^^ (w1 >>> 7)) + w.headD 0) % 2 ^ 64) fun next =>
            shaRounds ks (w.drop 1 ++ [next]) a' a b c e' e f g

/-- One block into the running digest. -/
def shaBlock (h block : List Nat) : List Nat :=
  List.zipWith (fun x y => (x + y) % 2 ^ 64) h
    (shaRounds shaK ((pieces 8 16 block).map bigVal) (h.getD 0 0) (h.getD 1 0) (h.getD 2 0) (h.getD 3 0)
      (h.getD 4 0) (h.getD 5 0) (h.getD 6 0) (h.getD 7 0))

/-- SHA-384 of a message. -/
def sha384 (m : List Byte) : List Byte :=
  let b := octNats m
  let b := b ++ [0x80] ++ List.replicate ((239 - b.length % 128) % 128) 0 ++ bigEnd 16 (8 * b.length)
  let h := (pieces 128 (b.length / 128) b).foldl shaBlock shaH0
  natOcts ((h.take 6).flatMap (bigEnd 8))

/-- HMAC-SHA-384 of a message under a key. -/
def hmac384 (key m : List Byte) : List Byte :=
  let k := if 128 < key.length then sha384 key else key
  let k := k ++ List.replicate (128 - k.length) 0
  sha384 (k.map (· ^^^ 0x5C) ++ sha384 (k.map (· ^^^ 0x36) ++ m))

/-- The blocks of HKDF-Expand from number i. -/
def hkdfBlocks (prk info : List Byte) : Nat → Nat → List Byte → List Byte
  | 0, _, _ => []
  | fuel + 1, i, t =>
    let t := hmac384 prk (t ++ info ++ [BitVec.ofNat 8 i])
    t ++ hkdfBlocks prk info fuel (i + 1) t

/-- HKDF-SHA-384: input key material, salt, info, and the octets wanted. -/
def hkdf384 (ikm salt info : List Byte) (octets : Nat) : List Byte :=
  (hkdfBlocks (hmac384 salt ikm) info ((octets + 47) / 48) 1 []).take octets

/-! ## P-384 (FIPS 186-5, SP 800-56A) -/

def p384P : Nat := 2 ^ 384 - 2 ^ 128 - 2 ^ 96 + 2 ^ 32 - 1
def p384N : Nat :=
  0xffffffffffffffffffffffffffffffffffffffffffffffffc7634d81f4372ddf581a0db248b0a77aecec196accc52973
def p384B : Nat :=
  0xb3312fa7e23ee7e4988e056be3f82d19181d9c6efe8141120314088f5013875ac656398d8a2ed19d2a85c8edd3ec2aef
def p384Gx : Nat :=
  0xaa87ca22be8b05378eb1c71ef320ad746e1d3b628ba79b9859f741e082542a385502f25dbf55296c3a545e3872760ab7
def p384Gy : Nat :=
  0x3617de4a96262c6f5d9e98bf9292dc29f8f41dbd289a147ce9da3113b5f0b8c00a60b1ce1d7e819d7a431d7c90ea0e5f

/-- A power by a modulus; the second argument bounds the bits of the exponent. -/
def powMod (m : Nat) : Nat → Nat → Nat → Nat
  | 0, _, _ => 1 % m
  | fuel + 1, a, e =>
    computed (a * a % m) fun q => computed (powMod m fuel q (e / 2)) fun r => if e % 2 = 1 then a * r % m else r

/-- The inverse modulo a prime. -/
def invMod (m a : Nat) : Nat := powMod m 384 (a % m) (m - 2)

/-- A point of the curve in Jacobian coordinates; z = 0 is the point at infinity. -/
structure ECPoint where
  x : Nat
  y : Nat
  z : Nat
  deriving DecidableEq, Repr

def subP (a b : Nat) : Nat := (a + (p384P - b)) % p384P

/-- A point of three numbers that are computed first. -/
def ECPoint.of (x y z : Nat) : ECPoint :=
  computed x fun x => computed y fun y => computed z fun z => { x, y, z }

def ECPoint.double (p : ECPoint) : ECPoint :=
  computed (p.z * p.z % p384P) fun delta => computed (p.y * p.y % p384P) fun gamma =>
    computed (p.x * gamma % p384P) fun beta =>
      computed (3 * (subP p.x delta * ((p.x + delta) % p384P) % p384P) % p384P) fun alpha =>
        computed (subP (alpha * alpha % p384P) (8 * beta % p384P)) fun x =>
          ECPoint.of x (subP (alpha * subP (4 * beta % p384P) x % p384P) (8 * (gamma * gamma % p384P) % p384P))
            (2 * (p.y * p.z % p384P) % p384P)

def ECPoint.add (p q : ECPoint) : ECPoint :=
  if p.z = 0 then q
  else if q.z = 0 then p
  else
    computed (p.z * p.z % p384P) fun z1 => computed (q.z * q.z % p384P) fun z2 =>
      computed (p.x * z2 % p384P) fun u1 => computed (q.x * z1 % p384P) fun u2 =>
        computed (p.y * (q.z * z2 % p384P) % p384P) fun s1 => computed (q.y * (p.z * z1 % p384P) % p384P) fun s2 =>
          if u1 = u2 then (if s1 = s2 then p.double else { x := 1, y := 1, z := 0 })
          else
            computed (subP u2 u1) fun h => computed (subP s2 s1) fun r => computed (h * h % p384P) fun h2 =>
              computed (h * h2 % p384P) fun h3 => computed (u1 * h2 % p384P) fun v =>
                computed (subP (subP (r * r % p384P) h3) (2 * v % p384P)) fun x =>
                  ECPoint.of x (subP (r * subP v x % p384P) (s1 * h3 % p384P)) (h * (p.z * q.z % p384P) % p384P)

/-- A multiple of a point; the first argument bounds the bits of the factor. -/
def ECPoint.times : Nat → Nat → ECPoint → ECPoint
  | 0, _, _ => { x := 1, y := 1, z := 0 }
  | fuel + 1, k, p =>
    let h := (ECPoint.times fuel (k / 2) p).double
    if k % 2 = 1 then h.add p else h

/-- The affine coordinates. -/
def ECPoint.affine (p : ECPoint) : Nat × Nat :=
  let i := invMod p384P p.z
  let i2 := i * i % p384P
  (p.x * i2 % p384P, p.y * (i * i2 % p384P) % p384P)

def p384G : ECPoint := { x := p384Gx, y := p384Gy, z := 1 }

/-- The point of 97 octets, uncompressed; none where they are none of the curve. -/
def ecPoint (b : List Byte) : Option ECPoint :=
  let l := octNats b
  let x := bigVal ((l.drop 1).take 48)
  let y := bigVal (l.drop 49)
  if l.length = 97 ∧ l.headD 0 = 4 ∧ x < p384P ∧ y < p384P ∧
      y * y % p384P = (x * (x * x % p384P) + (p384P - 3) * x + p384B) % p384P then
    some { x, y, z := 1 }
  else none

/-- The private key of 48 octets. -/
def ecSecret (priv : List Byte) : Nat := bigVal (octNats priv) % p384N

/-- The public key of a private key: the point uncompressed. -/
def ecPublic (priv : List Byte) : List Byte :=
  let q := (ECPoint.times 384 (ecSecret priv) p384G).affine
  natOcts (4 :: bigEnd 48 q.1 ++ bigEnd 48 q.2)

/-- The x-coordinate of the ECDH product of a public key and a private key; none for a key that is no point. -/
def ecdh (pub priv : List Byte) : Option (List Byte) :=
  match ecPoint pub with
  | none => none
  | some q =>
    let r := ECPoint.times 384 (ecSecret priv) q
    if r.z = 0 then none else some (natOcts (bigEnd 48 r.affine.1))

/-- ECDSA with SHA-384: r then s, each 48 octets, most significant first. -/
def ecdsaVerify (pub msg sig : List Byte) : Bool :=
  match ecPoint pub with
  | none => false
  | some q =>
    let l := octNats sig
    let r := bigVal (l.take 48)
    let s := bigVal (l.drop 48)
    if l.length ≠ 96 ∨ r = 0 ∨ s = 0 ∨ p384N ≤ r ∨ p384N ≤ s then false
    else
      let w := invMod p384N s
      let u1 := bigVal (octNats (sha384 msg)) * w % p384N
      let u2 := r * w % p384N
      let p := (ECPoint.times 384 u1 p384G).add (ECPoint.times 384 u2 q)
      decide (p.z ≠ 0 ∧ p.affine.1 % p384N = r)

/-- A signature; the per-message number is the module's own. -/
def ecdsaSign (priv msg : List Byte) : List Byte :=
  let k := 1 + Config.ecdsaNumber priv msg % (p384N - 1)
  let r := (ECPoint.times 384 k p384G).affine.1 % p384N
  let s := invMod p384N k * (bigVal (octNats (sha384 msg)) + r * ecSecret priv) % p384N
  natOcts (bigEnd 48 r ++ bigEnd 48 s)

/-! ## The public key of a certificate (X.509, DER) -/

/-- The tag and the content of the first element, and what follows it. -/
def derNext (l : List Nat) : Option (Nat × List Nat × List Nat) :=
  match l with
  | t :: n :: rest =>
    let k := if n < 128 then 0 else n - 128
    let len := if n < 128 then n else bigVal (rest.take k)
    let body := rest.drop k
    if n = 128 ∨ 4 < k ∨ body.length < len then none else some (t, body.take len, body.drop len)
  | _ => none

/-- The content of the first element, which is a sequence. -/
def derSeq (l : List Nat) : Option (List Nat) :=
  (derNext l).bind fun x => if x.1 = 0x30 then some x.2.1 else none

/-- What follows the first n elements. -/
def derSkip : Nat → List Nat → Option (List Nat)
  | 0, l => some l
  | n + 1, l => (derNext l).bind fun x => derSkip n x.2.2

/-- The public key a DER certificate holds; none where it is no certificate. -/
def certKey (der : List Byte) : Option (List Byte) := do
  let tbs ← (derSeq (octNats der)).bind derSeq
  let first ← derNext tbs
  let l ← derSkip (if first.1 = 0xA0 then 6 else 5) tbs
  let info ← derSeq l
  let key ← derSkip 1 info
  let x ← derNext key
  if x.1 = 0x03 ∧ x.2.1.headD 1 = 0 then some (natOcts (x.2.1.drop 1)) else none

end Sys2Proof.Machine
end

