-- ==== Sys2Proof/Machine/Sun.lean ====
section
/-! DEFINITION. The instants of sunrise and sunset (R211): the solar declination and the equation of time by the
low-precision solar formulas (log entry 21), in fixed point with 12 decimal places; angles in radians. -/

namespace Sys2Proof.Machine

/-- 1.0, pi and a degree. -/
def fixOne : Int := 1000000000000
def fixPi : Int := 3141592653590
def fixDeg : Int := 17453292520

def fixMul (a b : Int) : Int := a * b / fixOne

/-- The terms of the sine's series from x^(2k-1) on, `t` the last term. -/
def sineTerms (sq : Int) : Nat → Int → Int → Int
  | 0, _, t => t
  | fuel + 1, k, t => t + sineTerms sq fuel (k + 1) (-(fixMul t sq) / (2 * k * (2 * k + 1)))

def fixSin (x : Int) : Int :=
  let y := (x + fixPi) % (2 * fixPi) - fixPi
  sineTerms (fixMul y y) 14 1 y

def fixCos (x : Int) : Int := fixSin (x + fixPi / 2)

/-- The angle in 0 to pi with a cosine, by bisection. -/
def arcFrom (c : Int) : Nat → Int → Int → Int
  | 0, lo, _ => lo
  | fuel + 1, lo, hi =>
    let m := (lo + hi) / 2
    if c < fixCos m then arcFrom c fuel m hi else arcFrom c fuel lo m

def fixArc (c : Int) : Int := arcFrom c 44 0 fixPi

/-- A linear term in the days since noon of 1 January 2000, TT, from a TAI second. -/
def solarAngle (at0 perDay tai : Int) : Int :=
  (at0 + perDay * (tai * 1000 - 946727967816) / 86400000) * fixDeg / 1000000000

/-- R211: the declination, and the equation of time in seconds, at a TAI second. -/
def solarPlace (tai : Int) : Int × Int :=
  let g := solarAngle 357529000000 985600280 tai
  let q := solarAngle 280459000000 985647360 tai
  let tilt := solarAngle 23439000000 (-360) tai
  let lon := q + fixMul (1915 * fixDeg / 1000) (fixSin g) + fixMul (20 * fixDeg / 1000) (fixSin (2 * g))
  let decl := fixPi / 2 - fixArc (fixMul (fixSin tilt) (fixSin lon))
  let half := fixSin (tilt / 2) * fixOne / fixCos (tilt / 2)
  let y := fixMul half half
  let e : Int := 16709 * (fixOne / 1000000)
  let eot := fixMul y (fixSin (2 * q)) - 2 * fixMul e (fixSin g) +
    4 * fixMul (fixMul e y) (fixMul (fixSin g) (fixCos (2 * q))) - fixMul (fixMul y y) (fixSin (4 * q)) / 2 -
    5 * fixMul (fixMul e e) (fixSin (2 * g)) / 4
  (decl, eot * 43200 / fixPi)

/-- R211: the TAI second at which the sun's centre is 0.833 degrees below the horizon, before the transit
nearest to local noon (`rise`) or after it; none when it is not.  Coordinates in 10^-6 degree; `utcNoon` is
the mean noon of longitude 0. -/
def sunAt (rise : Bool) (lat lon noon utcNoon : Int) : Option Int :=
  let (decl, eot) := solarPlace noon
  let mean := utcNoon - lon * 240 / 1000000 - eot
  let transit := mean - (mean - noon + 43200) / 86400 * 86400
  let phi := lat * fixDeg / 1000000
  let den := fixMul (fixCos phi) (fixCos decl)
  let num := fixSin (-(833 * fixDeg / 1000)) - fixMul (fixSin phi) (fixSin decl)
  if den ≤ num ∨ num ≤ -den then none
  else
    let h := fixArc (num * fixOne / den) * 43200 / fixPi
    some (if rise then transit - h else transit + h)

end Sys2Proof.Machine
end

