-- ==== Sys2Proof/Machine/Sweep.lean ====
section
/-! DEFINITION. The sweep: sensor groups, the daylight loop, derating, follow-spot, the evaluation of
an endpoint, emission, event evaluations, aggregates and digests (R155-R195). -/

namespace Sys2Proof.Machine

/-! ## Numbers of the sweep -/

/-- The integer square root, bit by bit. -/
def isqrtFrom : Nat → Nat → Nat → Nat
  | 0, r, _ => r
  | k + 1, r, n => isqrtFrom k (if (r + 2 ^ k) * (r + 2 ^ k) ≤ n then r + 2 ^ k else r) n

/-- The largest whole number whose square does not exceed `n`, for `n` below 2^34. -/
def isqrt (n : Nat) : Nat := isqrtFrom 17 0 n

/-- One bit of the reflected CRC-64 of ECMA-182 (R190). -/
def crc64Bits : Nat → Nat → Nat
  | 0, c => c
  | k + 1, c => crc64Bits k (if c % 2 = 1 then (c / 2) ^^^ 0xC96C5795D7870F42 else c / 2)

/-- One octet through the CRC-64 register. -/
def crc64Byte (c : Nat) (b : Byte) : Nat := crc64Bits 8 (c ^^^ b.toNat)

/-- The register before the first octet, and the final exclusive-or (R190). -/
def crc64Ones : Nat := 0xFFFFFFFFFFFFFFFF

/-- Octets through the register. -/
def crc64Run (c : Nat) (bs : List Byte) : Nat := bs.foldl crc64Byte c

/-! ## Profiles and curves -/

/-- A profile as its object holds it, and as the units of a die hold it. -/
def State.profile (s : State) (p : Nat) : Profile := Tbl.get Profile.factory s.profiles p
def Die.profile (d : Die) (p : Nat) : Profile := Tbl.get Profile.factory d.rules.profiles p

/-- R161: the step of a time: 0 gives 0xFFFF, t gives ceiling(65,535 / t). -/
def stepOf (t : Nat) : Nat := if t = 0 then 0xFFFF else (65535 + t - 1) / t

def Profile.riseStep (p : Profile) : Nat := stepOf p.riseTime
def Profile.fallStep (p : Profile) : Nat := stepOf p.fallTime
def Profile.fsStep (p : Profile) : Nat := stepOf p.fsDecayTime
def Profile.presenceOn (p : Profile) : Bool := bitOf p.flags 0 = 1
def Profile.daylightOn (p : Profile) : Bool := bitOf p.flags 1 = 1
def Profile.fsSend (p : Profile) : Bool := bitOf p.flags 2 = 1
def Profile.fsAccept (p : Profile) : Bool := bitOf p.flags 3 = 1
def Profile.derateOn (p : Profile) : Bool := bitOf p.flags 4 = 1

/-- R162: the checks of a profile write. -/
def Profile.ok (p : Profile) : Bool :=
  decide (p.minLevel ≤ p.maxLevel ∧ p.holdTime ≠ 0xFFFF ∧ p.dlMin ≤ 0x8000 ∧ p.flags < 32)

/-- R198: the factory-book curve: -40 + 20 × i °C in 1/16 °C, factor 0x8000. -/
def curveFactory : List (Nat × Nat) :=
  (List.range 8).map fun (i : Nat) => (pattern 16 ((-40 + 20 * (i : Int)) * 16), 0x8000)

def State.curve (s : State) (c : Nat) : List (Nat × Nat) := Tbl.get curveFactory s.curves c
def Die.curve (d : Die) (c : Nat) : List (Nat × Nat) := Tbl.get curveFactory d.rules.curves c

/-- R155 step 2, R160: at its boundary a die's units take the rules as the staged writes have left them. -/
def State.takeRules (s : State) (d : DieId) : State :=
  let die := s.die d
  s.setDie d { die with rules :=
    { profiles := s.profiles, curves := s.curves, aggDefs := s.aggDefs, gain := s.obj 0x4002 0,
      step := s.obj 0x4003 0, fsOn := decide (s.obj 0x4001 0 = 1) } }

/-- R171: the temperatures of a curve increase strictly. -/
def curveRises : List (Nat × Nat) → Bool
  | p :: q :: t => decide (signed 16 p.1 < signed 16 q.1) && curveRises (q :: t)
  | _ => true

/-- R171: the factor of a curve at a temperature, interpolated linearly and truncated. -/
def curveFactor : List (Nat × Nat) → Int → Nat
  | [], _ => 0x8000
  | [p], _ => p.2
  | p :: q :: t, x =>
    let tp := signed 16 p.1
    let tq := signed 16 q.1
    if x ≤ tp then p.2
    else if x < tq then
      (((p.2 : Int) * (tq - tp) + ((q.2 : Int) - (p.2 : Int)) * (x - tp)) / (tq - tp)).toNat
    else curveFactor (q :: t) x

/-! ## Sensor groups (R164-R167) -/

def groupKey (u g : Nat) : Nat := u * 256 + g

def Die.groupOf (d : Die) (u g : Nat) : Group := Tbl.get Group.empty d.groups (groupKey u g)

/-- R167: a group is present when its mask is non-zero or its latch is set; 0xFF never is. -/
def Die.present (d : Die) (u g : Nat) : Bool :=
  if g = 0xFF then false
  else decide ((d.groupOf u g).mask ≠ 0) || (d.groupOf u g).latch

/-- R166 steps 1 to 3 for one group: the group after a member's sense, and whether it rises. -/
def Group.sense (g : Group) (e v n : Nat) : Group × Bool :=
  let idx := (List.range g.count).filter fun i => decide (g.members.getD i 0 = e)
  if idx = [] then (g, false)
  else
    let on := decide (v % 2 = 1)
    let mask := idx.foldl (fun m i => putBit m i on) g.mask
    let up := on && idx.any (fun i => bitOf g.mask i = 0)
    let rise := decide (g.mask = 0 ∧ mask ≠ 0)
    ({ g with mask := mask, latch := g.latch || up,
              lastRise := if rise then n % 2 ^ 32 else g.lastRise,
              rises := if rise then (g.rises + 1) % 2 ^ 32 else g.rises }, rise)

/-- R166: the broadcast of an applied sense to every unit of the die; the groups that rise queue their events
in the order of their numbers (log entry 117). -/
def Die.broadcast (d : Die) (e v n : Nat) : Die :=
  { d with
    groups := Tbl.mapVal Group.empty (fun _ g => (g.sense e v n).1) d.groups
    events := d.events ++ (d.groups.filter fun x => (x.2.sense e v n).2).map fun x =>
      UnitEvent.groupRise (x.1 / 256) (x.1 % 256)
    daylight := Tbl.mapVal Daylight.free
      (fun _ x => if x.users ≠ 0 ∧ x.sensor = e then { x with lux := v } else x) d.daylight }

/-- A data-plane write of sense (R127, R166): the record, the broadcast, and the sensor's own rise
(R182). -/
def Die.writeSense (d : Die) (e v n : Nat) : Die :=
  let h := d.hotOf e
  let k := d.kindOf e
  let rise := decide (k = 3 ∧ h.sense % 2 = 0 ∧ v % 2 = 1)
  let d := d.setHot e { h with sense := v } n
  let d := if k = 3 ∨ k = 7 ∨ k = 4 then d.broadcast e v n else d
  if rise then { d with events := d.events ++ [UnitEvent.sensorRise e] } else d

/-- R155 step 6: every sensor-group latch of the units that `live` admits is cleared. -/
def Die.clearLatches (d : Die) (live : Nat → Bool) : Die :=
  let clear := fun k (g : Group) => if live (k / 256) then { g with latch := false } else g
  { d with groups := Tbl.mapVal Group.empty clear d.groups }

/-! ## Digests (R189, R190) -/

/-- Item octets join a unit's digest. -/
def Die.digestItem (d : Die) (u : Nat) (bs : List Byte) : Die :=
  let c := Tbl.get 0 d.digest u
  { d with digest := Tbl.put 0 d.digest u (crc64Run (if c = 0 then crc64Ones else c - 1) bs + 1) }

/-- R189: at a boundary every unit closes its digest; a cycle with no items has the digest 0. -/
def Die.closeDigests (d : Die) (cycle : Nat) : Die :=
  { d with
    closed := (d.digest.map fun x => (x.1, (x.2 - 1) ^^^ crc64Ones)).filter fun x => x.2 != 0
    digest := []
    closedCycle := cycle }

/-! ## Daylight loop (R168-R170) -/

def dayKey (u i : Nat) : Nat := u * 64 + i

/-- R170 for one entry, by truncating integer arithmetic. -/
def daylightStep (x : Daylight) (gain step : Nat) : Nat :=
  let err := (((x.ref : Int) - (x.lux : Int)) * 32768).tdiv x.ref
  let delta := clampI (-(step : Int)) step ((err * gain).tdiv 256)
  (clampI 0 32768 ((x.factor : Int) + delta)).toNat

/-- One entry of the loop: unchanged when its reference is 0 or its sensor is silent; a changed
factor is a digest item (R189). -/
def Die.daylightEntry (gain step : Nat) (d : Die) (key : Nat) : Die :=
  let x := Tbl.get Daylight.free d.daylight key
  if x.users = 0 ∨ x.ref = 0 ∨ bitOf (d.hotOf x.sensor).fault faultNoReport = 1 then d
  else
    let f := daylightStep x gain step
    if f = x.factor then d
    else
      ({ d with daylight := Tbl.put Daylight.free d.daylight key { x with factor := f } }).digestItem
        (key / 64) (leBytes 1 3 ++ leBytes 1 (key % 64) ++ leBytes 2 f)

def Die.daylightLoop (d : Die) (live : Nat → Bool) (gain step : Nat) : Die :=
  ((d.daylight.map Prod.fst).filter fun k => live (k / 64)).foldl (Die.daylightEntry gain step) d

/-- The entry of a pair in a unit's table (R168). -/
def Die.daylightFind (d : Die) (u : Nat) (pair : Nat × Nat) : Option Nat :=
  ((List.range 64).find? fun i =>
    let x := Tbl.get Daylight.free d.daylight (dayKey u i)
    decide (x.users ≠ 0 ∧ x.sensor = pair.1 ∧ x.ref = pair.2))

/-- R169: an endpoint of unit `u` begins to use a pair: the entry gains a user, or a free entry is
taken with factor 0x8000 and the sensor's current sense. -/
def Die.daylightUse (d : Die) (u : Nat) (pair : Nat × Nat) : Die :=
  match d.daylightFind u pair with
  | some i =>
    let x := Tbl.get Daylight.free d.daylight (dayKey u i)
    { d with daylight :=
        Tbl.put Daylight.free d.daylight (dayKey u i) { x with users := x.users + 1 } }
  | none =>
    match (List.range 64).find? fun i =>
        decide ((Tbl.get Daylight.free d.daylight (dayKey u i)).users = 0) with
    | some i =>
      let x : Daylight := { sensor := pair.1, ref := pair.2, lux := (d.hotOf pair.1).sense,
                            factor := 0x8000, users := 1 }
      { d with daylight := Tbl.put Daylight.free d.daylight (dayKey u i) x }
    | none => d

/-- R169: a user leaves its entry; the last one frees it. -/
def Die.daylightLeave (d : Die) (u : Nat) (pair : Nat × Nat) : Die :=
  match d.daylightFind u pair with
  | some i =>
    let x := Tbl.get Daylight.free d.daylight (dayKey u i)
    let y := if x.users ≤ 1 then Daylight.free else { x with users := x.users - 1 }
    { d with daylight := Tbl.put Daylight.free d.daylight (dayKey u i) y }
  | none => d

/-! ## Follow-spot (R173-R176) -/

/-- R174: the levels between two physical units. -/
def levelCount (p q : Nat) : Nat :=
  if p / 9 = q / 9 then 1 else if p / 72 = q / 72 then 2 else 3

/-- R174: the level count between two logical units: the largest over both dies' maps. -/
def Die.levels (d : Die) (u v : Nat) : Nat :=
  if u = v then 0
  else max (levelCount (physIn d.moved u) (physIn d.moved v))
    (levelCount (physIn d.otherMoved u) (physIn d.otherMoved v))

/-- R175: the size of a unit's pending store. -/
def pendingSize : Nat := 1024

/-- R175: a message reaches its unit: it raises a waiting entry, is stored, or finds the store full
and is dropped. -/
def Die.fsReceive (d : Die) (m : PreLight) : Die :=
  if d.preLights.any fun x => decide (x.ep = m.ep ∧ x.cycle = m.cycle) then
    { d with preLights := d.preLights.map fun x =>
        if x.ep = m.ep ∧ x.cycle = m.cycle then { x with level := max x.level m.level } else x }
  else if pendingSize ≤ (d.preLights.filter fun x => decide (unitOf x.ep = unitOf m.ep)).length then
    { d with tally := { d.tally with
        dropped := d.tally.dropped + 1, full := d.tally.full ++ [unitOf m.ep] } }
  else { d with preLights := d.preLights ++ [m] }

/-- A logical unit is being moved. -/
def Die.isMoving (d : Die) (u : Nat) : Bool := d.moves.any fun m => m.remap && decide (m.unit = u)

/-- A logical unit is not evaluated: it is being moved, or its physical unit has failed. -/
def Die.resting (d : Die) (u : Nat) : Bool :=
  d.isMoving u || Tbl.get false d.failed (d.phys u)

/-- A message is delivered: held at the region for a moving unit (R176), else received. -/
def Die.fsDeliver (d : Die) (m : PreLight) : Die :=
  if d.isMoving (unitOf m.ep) then { d with heldLights := d.heldLights ++ [m] } else d.fsReceive m

/-- R173: one message: straight into the pending store within the unit, else into flight; a digest
item of the sending unit (R189). -/
def Die.fsMessage (d : Die) (src : Nat) (link lvl n : Nat) : Die :=
  let e := link % 2 ^ 20
  let l := d.levels (unitOf src) (unitOf e)
  let c := (n + 1 + max (link / 2 ^ 20) l) % 2 ^ 32
  let m : PreLight := { ep := e, level := lvl, cycle := c }
  let d := { d with tally := { d.tally with sent := d.tally.sent + 1 } }
  let d := if l = 0 then d.fsDeliver m else { d with flight := d.flight ++ [m] }
  d.digestItem (unitOf src) (leBytes 1 2 ++ leBytes 3 e ++ leBytes 2 lvl ++ leBytes 4 c)

/-- R173: presence rose at endpoint `e` in cycle `n`. -/
def Die.fsSend (d : Die) (e n : Nat) : Die :=
  let p := d.profile (d.hotOf e).profile
  let c := d.coldOf e
  if d.rules.fsOn ∧ p.fsSend then
    (c.links.take c.linkCount).foldl (fun d l => d.fsMessage e l p.fsOutLevel n) d
  else d

/-- R176: target cycle at or before cycle `n`, modulo 2^32. -/
def cycleDue (c n : Nat) : Bool := decide ((n + 2 ^ 32 - c % 2 ^ 32) % 2 ^ 32 < 2 ^ 31)

/-- R176: one entry is folded: it lights an output slot whose profile accepts it. -/
def Die.foldOne (n : Nat) (x : Die × List Nat) (m : PreLight) : Die × List Nat :=
  let (d, fresh) := x
  let d := if m.cycle = n % 2 ^ 32 then d
    else { d with tally := { d.tally with late := d.tally.late + 1 } }
  let h := d.hotOf m.ep
  if kindOutput (d.kindOf m.ep) ∧ (d.profile h.profile).fsAccept then
    (d.setHot m.ep { h with fsLevel := max h.fsLevel m.level } n, m.ep :: fresh)
  else (d, fresh)

/-- R155 step 4, R176: the pre-lights due in cycle `n` are folded and removed; the slots lit take
no decay in this pass.  Messages sent for this cycle have all been delivered (R174). -/
def Die.fold (d : Die) (live : Nat → Bool) (n : Nat) : Die × List Nat :=
  let due := d.flight.filter fun m => cycleDue m.cycle n
  let d := due.foldl Die.fsDeliver
    { d with flight := d.flight.filter fun m => !cycleDue m.cycle n }
  let now := fun (m : PreLight) => cycleDue m.cycle n && live (unitOf m.ep)
  let ready := d.preLights.filter now
  let d := { d with preLights := d.preLights.filter fun m => !now m }
  ready.foldl (Die.foldOne n) (d, [])

/-! ## Evaluating one endpoint (R177-R179) -/

/-- R172: the temperature of an output endpoint: the sense of the first lamp-board temperature
endpoint in the next four slots that is bound to the same device. -/
def Die.temperature (d : Die) (e : Nat) : Option Int :=
  let b := (d.hotOf e).binding
  match [e + 1, e + 2, e + 3, e + 4].find? fun f =>
      decide (unitOf f = unitOf e) && decide (d.kindOf f = 5) && sameDevice b (d.hotOf f).binding with
  | some f => some (signed 16 (d.hotOf f).sense)
  | none => none

/-- A result too large for a level, which an emergency with a derating factor above 1.0 can give:
the manual states none (log entry 15). -/
def levelWord (t : Nat) : Nat := if t < 65536 then t else Config.levelOverflow t % 65536

/-- R178: the fade step. -/
def fadeStep (h : Hot) (p : Profile) (pass : Bool) (n : Nat) : Hot :=
  if h.fadeLeft > 0 ∧ pass = false then h
  else
    let c : Nat :=
      if h.fadeLeft > 0 then
        if h.fadeLeft = 1 then h.target
        else if bitOf h.fadeCtrl 1 = 1 then
          let pc := isqrt (h.current * 65535)
          let pt := isqrt (h.target * 65535)
          let pc := ((pc : Int) + ((pt : Int) - (pc : Int)).tdiv h.fadeLeft).toNat
          pc * pc / 65535
        else ((h.current : Int) + ((h.target : Int) - (h.current : Int)).tdiv h.fadeLeft).toNat
      else if h.current < h.target then min h.target (h.current + p.riseStep)
      else if h.target < h.current then max h.target (h.current - p.fallStep)
      else h.current
    { h with
      current := c
      lastChange := if c = h.current then h.lastChange else n % 2 ^ 32
      fadeCtrl := if h.fadeLeft = 1 then clrBit h.fadeCtrl 0 else h.fadeCtrl
      fadeLeft := h.fadeLeft - 1 }

/-- The level sought for an output endpoint and its curtain (R177, the target). -/
def targetStep (h : Hot) (p : Profile) (scene pres fs dl dr : Nat) : Hot :=
  let ovr := h.ovrCtrl % 4
  let floor := if ovr = 1 ∨ ovr = 2 then h.ovrLevel else 0
  if bitOf h.ovrCtrl 2 = 1 then { h with target := 0 }
  else if ovr = 3 then { h with target := levelWord (h.ovrLevel * dr / 32768) }
  else
    let h := if h.fadeLeft > 0 ∧ max scene floor < max pres fs then
      { h with fadeLeft := 0, fadeCtrl := clrBit h.fadeCtrl 0 } else h
    let t := max (max scene pres) (max fs floor) * dl / 32768 * dr / 32768
    let t := if p.maxLevel < t then p.maxLevel else t
    { h with target := if 0 < t ∧ t < p.minLevel then p.minLevel else t }

/-- R179: the conditions of emission, for a record after its fade step. -/
def emitCond (h : Hot) (p : Profile) (exact changed pass : Bool) (n : Nat) : Bool :=
  decide (p.deadband < (if h.lastTx ≤ h.current then h.current - h.lastTx else h.lastTx - h.current)) ||
  decide (h.current = h.target ∧ h.current ≠ h.lastTx) || exact || decide (bitOf h.fadeCtrl 7 = 1) ||
  changed ||
  (pass && decide (0 < p.refreshPeriod ∧
    (n + 2 ^ 32 - h.lastChange) % 2 ^ 32 ≠ 0 ∧
    (n + 2 ^ 32 - h.lastChange) % 2 ^ 32 % p.refreshPeriod = 0))

/-- R177: one output slot is evaluated.  `fresh` says that a pre-light was folded into it at this
boundary, `changed` that a staged write of its kind or binding took effect at it. -/
def Die.evaluate (d : Die) (e : Nat) (pass fresh changed : Bool) (n : Nat) : Die :=
  let h0 := d.hotOf e
  let c := d.coldOf e
  let u := unitOf e
  let p := d.profile h0.profile
  let here := p.presenceOn && d.present u h0.group
  let rise := here && decide (h0.holdLeft = 0)
  let hold := if here then p.holdTime + 1
    else if pass then h0.holdLeft - 1 else h0.holdLeft
  let pres := if p.presenceOn ∧ 0 < hold then p.presenceLevel else 0
  let fsl := if pass ∧ ¬ fresh then h0.fsLevel - p.fsStep else h0.fsLevel
  let fs := if p.fsAccept then fsl else 0
  let dl := match c.daylightPair with
    | some pair =>
      if p.daylightOn then
        match d.daylightFind u pair with
        | some i => max (Tbl.get Daylight.free d.daylight (dayKey u i)).factor p.dlMin
        | none => 32768
      else 32768
    | none => 32768
  let dr := if p.derateOn ∧ c.derate ≠ 0xFF then
      match d.temperature e with
      | some t => curveFactor (d.curve c.derate) t
      | none => 32768
    else 32768
  let h := targetStep { h0 with holdLeft := hold, fsLevel := fsl } p (Tbl.get 0 d.scene e) pres fs
    dl dr
  let h := fadeStep h p pass n
  let exact := Tbl.get false d.exact e
  let emit := emitCond h p exact changed pass n
  let h := if emit then { h with lastTx := h.current, fadeCtrl := clrBit h.fadeCtrl 7 } else h
  let d1 := d.setHot e h n
  let d1 := if emit then
      { d1 with
        emission := Tbl.put false d1.emission e true
        exactEmission := if exact then Tbl.put false d1.exactEmission e true else d1.exactEmission
        exact := Tbl.put false d1.exact e false
        tally := { d1.tally with emits := d1.tally.emits + 1 } }
    else d1
  let d1 := if emit ∨ h ≠ h0 then
      d1.digestItem u (leBytes 2 (slotOf e) ++ leBytes 1 (b2n (!pass)) ++
        leBytes 1 (b2n emit + 2 * b2n (emit && exact)) ++ h.bytes)
    else d1
  if rise ∧ 0 < c.linkCount then d1.fsSend e n else d1

/-- R187: a virtual group slot takes the mean level of its aggregate group. -/
def Agg.mean (a : Agg) : Nat := if a.active = 0 then 0 else a.levels / a.active

def Die.evalGroup (d : Die) (e n : Nat) : Die :=
  let h := d.hotOf e
  let v := if bindTransport h.binding = 4 then (Tbl.get Agg.zero d.agg (bindAgg h.binding)).mean else 0
  let h' := { h with current := v, target := v,
                     lastChange := if v = h.current then h.lastChange else n % 2 ^ 32 }
  if h' = h then d
  else (d.setHot e h' n).digestItem (unitOf e)
    (leBytes 2 (slotOf e) ++ leBytes 1 0 ++ leBytes 1 0 ++ h'.bytes)

/-- R177: one slot of the pass. -/
def Die.passSlot (fresh changed : List Nat) (n : Nat) (d : Die) (e : Nat) : Die :=
  if kindOutput (d.kindOf e) then d.evaluate e true (fresh.contains e) (changed.contains e) n
  else if kindGroup (d.kindOf e) then d.evalGroup e n
  else d

/-! ## Aggregates (R185, R186) -/

/-- R186: what a slot adds to the groups that cover it. -/
def Die.aggAdd (d : Die) (e : Nat) (a : Agg) : Agg :=
  let h := d.hotOf e
  let k := d.kindOf e
  if kindOutput k then
    { a with
      active := a.active + 1
      lit := a.lit + b2n (decide (0 < h.current))
      faulted := a.faulted + b2n (decide (h.fault ≠ 0))
      presence := a.presence + b2n (decide (0 < h.holdLeft))
      levels := a.levels + h.current }
  else if k = 6 then { a with power := a.power + h.sense }
  else a

/-- R185: a range of a definition covers an endpoint. -/
def rangeCovers (r : Nat × Nat) (e : Nat) : Bool :=
  decide (r.1 / 2 ^ 31 = 1 ∧ r.1 % 2 ^ 20 ≤ e ∧ e ≤ r.2 % 2 ^ 20)

/-- R186: the contribution of a unit to a group, over the slots that its ranges cover. -/
def Die.contribution (d : Die) (u : Nat) (ranges : List (Nat × Nat)) : Agg :=
  (d.actives.filter fun e => decide (unitOf e = u) && ranges.any (rangeCovers · e)).foldl
    (fun a e => d.aggAdd e a) Agg.zero

/-- R155 step 6: the contributions of the units that `live` admits, which have ended their passes; `keep` says
that the others' stay. -/
def Die.contribute (d : Die) (live : Nat → Bool) (keep : Bool) : Die :=
  let units := (List.range 256).filter live
  let mine := units.flatMap fun u => d.rules.aggDefs.map fun x => (u * 1024 + x.1, d.contribution u x.2)
  let old := d.contrib.filter fun x => keep && !live (x.1 / 1024)
  { d with contrib := Tbl.putAll Agg.zero old mine }

/-- Contributions are added. -/
def Agg.add (a b : Agg) : Agg :=
  { active := a.active + b.active, lit := a.lit + b.lit, faulted := a.faulted + b.faulted,
    presence := a.presence + b.presence, levels := a.levels + b.levels, power := a.power + b.power }

/-- R186: the results of a die, for every defined group: the sums of its units' contributions. -/
def Die.aggregate (d : Die) : Tbl Agg :=
  (d.rules.aggDefs.map fun x => (x.1,
    (d.contrib.filter fun c => decide (c.1 % 1024 = x.1)).foldl (fun a c => a.add c.2) Agg.zero)).filter
      fun x => decide (x.2 ≠ Agg.zero)

/-! ## The pass and the event evaluations -/

/-- R155 steps 3 to 6 in cycle `n`, in the logical units that `live` admits; `changed` lists the
endpoints whose kind or binding a staged write changed at this boundary; `late` marks the pass of one moved
unit beside the others' (R144). -/
def Die.passOf (d : Die) (live : Nat → Bool) (changed : List Nat) (n : Nat) (late : Bool) : Die :=
  let d := d.daylightLoop live d.rules.gain d.rules.step
  let (d, fresh) := d.fold live n
  let d := (d.actives.filter fun e => live (unitOf e)).foldl (Die.passSlot fresh changed n) d
  let d := (d.clearLatches live).contribute live late
  { d with aggNext := some d.aggregate }

/-- The pass of a die: every unit but those that are moving or have failed. -/
def Die.sweepPass (d : Die) (changed : List Nat) (n : Nat) : Die :=
  { d.passOf (fun u => !d.resting u) changed n false with cutoff := false, done := [] }

/-- The first queued event of a unit, and the queue without it. -/
def takeUnitEvent (u : Nat) : List UnitEvent → Option (UnitEvent × List UnitEvent)
  | [] => none
  | x :: t =>
    let v := match x with
      | .groupRise v _ => v
      | .sensorRise e => unitOf e
      | .cue v _ => v
    if v = u then some (x, t)
    else match takeUnitEvent u t with
      | some (y, t') => some (y, x :: t')
      | none => none

/-- R182, R183: one queued event is evaluated. -/
def Die.runEvent (d : Die) (x : UnitEvent) (n : Nat) : Die :=
  match x with
  | .groupRise u g =>
    (d.actives.filter fun e => decide (unitOf e = u) && kindOutput (d.kindOf e) &&
      decide ((d.hotOf e).group = g)).foldl (fun d e => d.evaluate e false false false n) d
  | .sensorRise e => if 0 < (d.coldOf e).linkCount then d.fsSend e n else d
  | .cue _ es => (es.filter fun e => kindOutput (d.kindOf e)).foldl
      (fun d e => d.evaluate e false false false n) d

/-- R182, R183: a unit's next event evaluation, when it has one; a unit that is moving runs none. -/
def Die.eventRun (d : Die) (u n : Nat) : Die :=
  if d.resting u then d
  else match takeUnitEvent u d.events with
    | none => d
    | some (x, rest) =>
      let d := { d with events := rest }.runEvent x n
      { d with
        done := Tbl.put 0 d.done u (Tbl.get 0 d.done u + 1)
        tally := { d.tally with events := d.tally.events + 1 } }

/-- The counts a die has kept since the last flush appear in its registers; a unit whose store was full posts
at most one record a cycle (R175). -/
def State.flushTally (s : State) (d : DieId) : State :=
  let die := s.die d
  let t := die.tally
  let s := s.setDie d { die with tally :=
    { t with sent := 0, dropped := 0, late := 0, full := [],
             posted := t.posted ++ (t.full.eraseDups.filter fun u => !t.posted.contains u) } }
  let s := s.addWrap (CUE_FS_SENT.count d) t.sent
  let s := (s.addSat (CUE_FS_DROPPED.count d) t.dropped).raiseIf (decide (0 < t.dropped))
    (CUE_INT_STATUS.fs_dropped d)
  let s := (s.addSat (CUE_FS_LATE.count d) t.late).raiseIf (decide (0 < t.late))
    (CUE_INT_STATUS.fs_late d)
  (t.full.eraseDups.filter fun u => !t.posted.contains u).foldl (fun s u =>
    s.post .control (cbSource (originDie d) cbCUE u) (unnamed 34) []) s

/-- FOLLOW_SPOT_RECEIVE (R175): the oldest message in flight reaches its unit. -/
def execFollowSpotReceive (d : DieId) (s : State) : Host.Outcome State Fault Refusal :=
  match (s.die d).flight with
  | [] => .next s
  | m :: rest => .next ((s.setDie d ({ s.die d with flight := rest }.fsDeliver m)).flushTally d)

def State.side (s : State) : DieId → Side
  | .a => s.sideA
  | .b => s.sideB

def State.setSide (s : State) (d : DieId) (x : Side) : State :=
  match d with
  | .a => { s with sideA := x }
  | .b => { s with sideB := x }

/-- EVENT_EVALUATION (R183, R184, R454): on the stage holder, or on a die that runs provisionally, the
unit's next queued event is evaluated between the first epoch mark of the cycle and the cut-off; the
next mark will count it. -/
def execEventEvaluation (d : DieId) (u : Fin 256) (s : State) : Host.Outcome State Fault Refusal :=
  let die := s.die d
  if die.cutoff ∨ (s.side d).waiting ∨ (s.side d).mark = none ∨
      (s.holder ≠ some d ∧ s.flag (TWN_STATUS.provisional d) = false) then .next s
  else
    let t := die.eventRun u s.clk.cycle
    let k := s.side d
    let more := Tbl.get 0 t.done u - Tbl.get 0 die.done u
    .next (((s.setDie d t).setSide d
      { k with started := Tbl.put 0 k.started u (Tbl.get 0 k.started u + more) }).flushTally d)

/-- EVENT_CUTOFF (R184): after phase 1,016 no further event evaluation starts in the cycle. -/
def execEventCutoff (s : State) : Host.Outcome State Fault Refusal :=
  .next { s with dieA := { s.dieA with cutoff := true }, dieB := { s.dieB with cutoff := true } }

/-- AGGREGATE_DEADLINE (R186): at phase 64 a result that is ready, at the given phase, becomes
readable; one that is not (`none`) sets late, and the previous result stays readable until the new one is
ready, which a later phase says. -/
def execAggregateDeadline (d : DieId) (ready : Option (Fin 1024)) (s : State) :
    Host.Outcome State Fault Refusal :=
  match ready, (s.die d).aggNext with
  | some ph, some r =>
    let s := s.setDie d { s.die d with agg := r, aggNext := none }
    .next ((s.set (CUE_AGG_STATUS.late d) (b2n (decide (64 < ph.val)))).set (CUE_AGG_STATUS.ready_phase d) ph)
  | none, some _ => .next ((s.set (CUE_AGG_STATUS.late d) 1).raise (CUE_INT_STATUS.agg_late d))
  | _, none => .next s

end Sys2Proof.Machine
end

