-- ==== Sys2Proof/Machine/Cues.lean ====
section
/-! DEFINITION. Scenes, cues and curtains: the checks of the cue tables, local time, fixing, arming,
preparing, executing and tracking of cues, overrides and blackout (R201-R243). -/

namespace Sys2Proof.Machine

/-! ## Octets of the cue tables -/

def SceneHdr.bytes (h : SceneHdr) : List Byte :=
  leBytes 2 h.first ++ leBytes 2 h.count ++ leBytes 2 h.curtain ++ leBytes 1 h.flags ++ leBytes 1 0

def SceneHdr.ofBytes (b : List Byte) : SceneHdr :=
  { first := leAt b 0 2, count := leAt b 2 2, curtain := leAt b 4 2, flags := leAt b 6 1 }

def SceneEntry.bytes (x : SceneEntry) : List Byte :=
  leBytes 4 x.target ++ leBytes 4 x.last ++ leBytes 2 x.level ++ leBytes 1 x.flags ++ leBytes 5 0

def SceneEntry.ofBytes (b : List Byte) : SceneEntry :=
  { target := leAt b 0 4, last := leAt b 4 4, level := leAt b 8 2, flags := leAt b 10 1 }

def Sched.bytes (x : Sched) : List Byte :=
  leBytes 1 x.kind ++ leBytes 1 x.flags ++ leBytes 2 x.scene ++ leBytes 2 x.curtain ++
  leBytes 2 x.phase ++ leBytes 8 x.when_ ++ leBytes 1 x.days ++ leBytes 3 0 ++
  leBytes 4 x.offset ++ leBytes 4 x.nameHash ++ leBytes 4 0

def Sched.ofBytes (b : List Byte) : Sched :=
  { kind := leAt b 0 1, flags := leAt b 1 1, scene := leAt b 2 2, curtain := leAt b 4 2,
    phase := leAt b 6 2, when_ := leAt b 8 8, days := leAt b 16 1, offset := leAt b 20 4,
    nameHash := leAt b 24 4 }

def GoEntry.bytes (x : GoEntry) : List Byte :=
  leBytes 4 x.seq ++ leBytes 1 x.op ++ leBytes 1 x.flags ++ leBytes 2 x.curtain ++
  leBytes 8 x.when_ ++ leBytes 4 x.target ++ leBytes 4 x.last ++ leBytes 2 x.level ++
  leBytes 2 x.phase ++ leBytes 4 0

def GoEntry.ofBytes (b : List Byte) : GoEntry :=
  { seq := leAt b 0 4, op := leAt b 4 1, flags := leAt b 5 1, curtain := leAt b 6 2,
    when_ := leAt b 8 8, target := leAt b 16 4, last := leAt b 20 4, level := leAt b 24 2,
    phase := leAt b 26 2 }

/-! ## Checks (R206, R209, R219) -/

/-- R206: a target and last word: a range in order, or a group below 1,024, no reserved bit. -/
def targetOk (target last : Nat) : Bool :=
  if target / 2 ^ 30 = 0 then
    decide (target < 2 ^ 20 ∧ last < 2 ^ 20 ∧ target ≤ last)
  else if target / 2 ^ 30 = 1 then decide (target % 2 ^ 30 < 1024 ∧ last = 0)
  else false

def SceneHdr.ok (h : SceneHdr) (reserved : Nat) : Bool :=
  decide (h.first + h.count ≤ 65536 ∧ h.flags < 4 ∧ reserved = 0)

def SceneEntry.ok (x : SceneEntry) (reserved : Nat) : Bool :=
  targetOk x.target x.last && decide (x.flags < 2 ∧ reserved = 0)

/-- R68: a stamp value: bits 62:58 zero; the ghost flag is no part of the value. -/
def stampOk (w : Nat) : Bool := decide (w % 2 ^ 63 < 2 ^ 58)

/-- R209. -/
def Sched.ok (x : Sched) (reserved : Nat) : Bool :=
  let off := signed 32 x.offset
  decide (x.kind ≤ 5 ∧ x.flags < 32 ∧ x.scene ≤ 4095 ∧ x.phase ≤ 1023 ∧ x.days < 128 ∧
    reserved = 0) &&
  decide (x.kind = 3 → x.when_ < 86400) && decide (3 ≤ x.kind → x.days ≠ 0) &&
  decide (-43200 ≤ off ∧ off ≤ 43200) && decide (bitOf x.flags 4 = 1 → x.kind ≠ 1) &&
  decide (x.kind = 1 → stampOk x.when_ = true) &&
  decide (4 ≤ x.kind → x.when_ = 0) && decide (x.kind = 1 ∨ x.kind = 2 → x.days = 0) &&
  decide (x.kind ≤ 3 → x.offset = 0) && decide (bitOf x.flags 4 = 0 → x.phase = 0) &&
  decide (bitOf x.flags 3 = 0 → x.curtain = 0) &&
  decide (x.kind = 0 → x.flags = 0 ∧ x.scene = 0 ∧ x.curtain = 0 ∧ x.phase = 0 ∧ x.when_ = 0 ∧
    x.days = 0 ∧ x.offset = 0)

/-- R219, for an entry of any op (log entry 110). -/
def GoEntry.ok (x : GoEntry) (reserved : Nat) : Bool :=
  let when_ := x.flags / 16 % 4
  let ov := x.flags / 64
  decide (1 ≤ x.op ∧ x.op ≤ 6 ∧ x.seq = 0 ∧ reserved = 0 ∧ when_ ≤ 2) &&
  decide ((x.op = 2 ∨ x.op = 3) ↔ ov ≠ 0) &&
  decide (when_ = 0 → x.when_ = 0) && decide (when_ = 1 → stampOk x.when_ = true) &&
  decide (when_ = 1 → x.phase / 2 ^ 15 = 0) &&
  decide (bitOf x.flags 2 = 0 → x.curtain = 0) &&
  decide (x.phase / 2 ^ 10 % 32 = 0) && decide (x.phase / 2 ^ 15 = 0 → x.phase = 0) &&
  (if x.op = 1 then decide (x.target ≤ 4095) else decide (x.op = 6) || targetOk x.target x.last)

/-! ## The area -/

def CueArea.bank (c : CueArea) (k : Nat) : CueBank := if k = 0 then c.bank0 else c.bank1
def CueArea.activeBank (c : CueArea) : CueBank := c.bank c.active
def CueArea.inactiveBank (c : CueArea) : CueBank := c.bank (1 - c.active)
def CueArea.setBank (c : CueArea) (k : Nat) (b : CueBank) : CueArea :=
  if k = 0 then { c with bank0 := b } else { c with bank1 := b }
def CueBank.header (b : CueBank) (i : Nat) : SceneHdr := Tbl.get SceneHdr.zero b.headers i
def CueBank.entry (b : CueBank) (i : Nat) : SceneEntry := Tbl.get SceneEntry.zero b.entries i
def CueBank.schedAt (b : CueBank) (j : Nat) : Sched := Tbl.get Sched.zero b.sched j
def CueArea.occAt (c : CueArea) (j : Nat) : Occ := Tbl.get Occ.none_ c.occ j
def CueArea.setOcc (c : CueArea) (j : Nat) (o : Occ) : CueArea :=
  { c with occ := Tbl.put Occ.none_ c.occ j o }
def CueArea.armAt (c : CueArea) (k : Nat) : Option ArmRec := Tbl.get none c.arming k
def CueArea.setArm (c : CueArea) (k : Nat) (r : Option ArmRec) : CueArea :=
  { c with arming := Tbl.put none c.arming k r }
def CueArea.freeArm (c : CueArea) : Option Nat :=
  (List.range 16).find? fun k => decide (c.armAt k = none)

def State.cues (s : State) (d : DieId) : CueArea := (s.die d).cues
def State.setCues (s : State) (d : DieId) (c : CueArea) : State :=
  s.setDie d { s.die d with cues := c }
def State.nodeOp (s : State) (d : DieId) (o : NodeOp) : State :=
  s.setDie d { s.die d with nodeOps := (s.die d).nodeOps ++ [o] }

def stampCycle (w : Nat) : Nat := w % 2 ^ 58 / 1024
def stampPhase (w : Nat) : Nat := w % 1024

/-! ## Local time (R210-R212) -/

/-- R210: the offset of local day D, in seconds. -/
def State.localOffset (s : State) (day : Nat) : Int :=
  let midnight : Int := (day : Int) * 86400 + signed 16 (s.obj 0x4432 0)
  let tbl := s.oct 0x4434 0
  let used := (List.range 16).filter fun i =>
    let t := leAt tbl (16 * i) 8
    decide (t ≠ 0 ∧ ((t / 1000000000 : Nat) : Int) ≤ midnight)
  match used.getLast? with
  | some i => signed 32 (leAt tbl (16 * i + 8) 4)
  | none => signed 32 (s.obj 0x4433 0)

/-- R210: the beginning of local day D, in TAI seconds. -/
def State.dayStart (s : State) (day : Nat) : Int :=
  (day : Int) * 86400 + signed 16 (s.obj 0x4432 0) - s.localOffset day

/-- R210: the present local day: the greatest day that has begun. -/
def State.presentDay (s : State) (taiSec : Nat) : Nat :=
  let guess := taiSec / 86400
  ((List.range 4).map (fun i => guess + 2 - i)).find?
    (fun d => decide (s.dayStart d ≤ (taiSec : Int))) |>.getD 0

/-- R210: the weekday of a day, 0 Monday. -/
def weekday (day : Nat) : Nat := (day + 3) % 7

/-- R211: the instant of sunrise or sunset of a day at the site, in TAI seconds: the computed one, within 60 s up
to 60 degrees of latitude (log entry 21). -/
def State.sun (s : State) (rise : Bool) (day : Nat) : Option Int :=
  let lat := signed 32 (s.obj 0x4430 0)
  let lon := signed 32 (s.obj 0x4431 0)
  let error := Config.sunError rise lat lon day
  let error := if lat.natAbs ≤ 60000000 then error % 121 - 60 else error
  (sunAt rise lat lon (s.dayStart day + 43200) ((day : Int) * 86400 + signed 16 (s.obj 0x4432 0) + 43200)).map
    fun t => t + error

/-- R210, R211: the occurrence of a schedule entry on a day, in TAI seconds. -/
def State.occursOn (s : State) (x : Sched) (day : Nat) : Option Int :=
  if bitOf x.days (weekday day) = 0 then none
  else if x.kind = 3 then some (s.dayStart day + x.when_)
  else
    (s.sun (decide (x.kind = 4)) day).map fun t => t + signed 32 x.offset

/-- R210, R212: the first day, from `day` on, with an occurrence after the present instant. -/
def State.nextOccurrence (s : State) (x : Sched) (taiNs : Nat) : Nat → Nat → Option (Nat × Nat)
  | 0, _ => none
  | fuel + 1, day =>
    match s.occursOn x day with
    | some t =>
      if (taiNs : Int) < t * 1000000000 then some (day, (t * 1000000000).toNat)
      else s.nextOccurrence x taiNs fuel (day + 1)
    | none => s.nextOccurrence x taiNs fuel (day + 1)

/-- The days that the search for an occurrence covers: 28 years, in which every weekday meets every day of the
year; a day with an occurrence beyond them shows when it comes nearer (log entry 21). -/
def occurrenceDays : Nat := 10400

/-- The local day of an occurrence of a schedule entry at a TAI second. -/
def State.dayOf (s : State) (x : Sched) (tai : Nat) : Nat :=
  let day := s.presentDay (tai / 1000000000)
  (((List.range 6).map fun i => day + 2 - i).find? fun k =>
    decide (s.occursOn x k = some ((tai / 1000000000 : Nat) : Int))).getD day

/-- R212: the stage holder computes and journals the next occurrence of each local-time entry of
the active bank that has none pending, while the mapping gives the present instant.  Days that no occurrence
after the present instant can have are passed over. -/
def State.schedOccurrence (d : DieId) (s : State) (j : Nat) : State :=
  let c := s.cues d
  let x := c.activeBank.schedAt j
  let o := c.occAt j
  if 3 ≤ x.kind ∧ o.tai = none ∧ s.mapValid then
    let present := s.presentDay (s.taiP0 / 1000000000)
    let from_ := match o.lastDay with
      | some l => max (l + 1) (present - 4)
      | none => present
    match s.nextOccurrence x s.taiP0 occurrenceDays from_ with
    | some (day, t) =>
      let s := s.setCues d (c.setOcc j { o with tai := some t, day := day })
      if s.holder = some d then s.journalOccurrence j t else s
    | none => s
  else s

/-! ## Cues -/

/-- A cue of a schedule entry, not yet fixed. -/
def Sched.cue (x : Sched) (j : Nat) (tai : Option Nat) : Cue :=
  { src := .sched j, op := 1,
    stamp := if x.kind = 1 then some (x.when_ % 2 ^ 58) else none
    tai := tai
    phase := if bitOf x.flags 4 = 1 then some x.phase else none
    arm := bitOf x.flags 0 = 1, exact := bitOf x.flags 1 = 1, perceptual := bitOf x.flags 2 = 1
    curtain := if bitOf x.flags 3 = 1 then some x.curtain else none
    override_ := 0, level := 0, target := x.scene, last := 0, ranges := none, fade := 0,
    curve := false, armed := none, counted := false, deferred := false, late := false }

/-- R217: the cue of a go entry listed at boundary `n`: an immediate one is fixed to the next
cycle. -/
def GoEntry.cue (x : GoEntry) (n : Nat) : Cue :=
  let when_ := x.flags / 16 % 4
  let ph := if x.phase / 2 ^ 15 = 1 then some (x.phase % 1024) else none
  { src := .go x.seq, op := x.op,
    stamp := if when_ = 0 then some (stampOf (n + 1) (ph.getD 0))
      else if when_ = 1 then some (x.when_ % 2 ^ 58) else none
    tai := if when_ = 2 then some x.when_ else none
    phase := ph
    arm := bitOf x.flags 3 = 1, exact := bitOf x.flags 0 = 1, perceptual := bitOf x.flags 1 = 1
    curtain := if bitOf x.flags 2 = 1 then some x.curtain else none
    override_ := x.flags / 64, level := x.level, target := x.target, last := x.last, ranges := none,
    fade := 0, curve := false, armed := none, counted := false, deferred := false, late := false }

/-- The ranges of one target: a range, or the ranges of an aggregate group in force (R207). -/
def State.targetRanges (s : State) (target last level : Nat) (exact : Bool) : List CueRange :=
  if target / 2 ^ 30 = 0 then [{ first := target % 2 ^ 20, last := last % 2 ^ 20, level, exact }]
  else ((Tbl.get [] s.aggDefs (target % 1024)).filter fun r => decide (r.1 / 2 ^ 31 = 1)).map
    fun r => { first := r.1 % 2 ^ 20, last := r.2 % 2 ^ 20, level, exact }

/-- R221, R222: a cue is resolved into ranges, and its curtain and curve are decided. -/
def State.resolve (s : State) (d : DieId) (q : Cue) : Cue :=
  match q.ranges with
  | some _ => q
  | none =>
    if q.op = 1 then
      let b := (s.cues d).activeBank
      let h := b.header q.target
      let ex := q.exact || decide (bitOf h.flags 1 = 1)
      { q with
        ranges := some ((List.range h.count).flatMap fun i =>
          let x := b.entry (h.first + i)
          s.targetRanges x.target x.last x.level (ex || decide (bitOf x.flags 0 = 1)))
        fade := q.curtain.getD h.curtain
        curve := q.perceptual || decide (bitOf h.flags 0 = 1) }
    else
      { q with ranges := some (if q.op = 6 then [] else s.targetRanges q.target q.last q.level q.exact)
               fade := q.curtain.getD 0, curve := q.perceptual }

/-- R207: the last range of a cue that covers an endpoint. -/
def rangeFor (rs : List CueRange) (e : Nat) : Option CueRange :=
  (rs.filter fun r => decide (r.first ≤ e ∧ e ≤ r.last)).getLast?

/-- R207: the output endpoints a cue names, in rising order, each with its range. -/
def Die.named (d : Die) (rs : List CueRange) : List (Nat × CueRange) :=
  d.actives.filterMap fun e =>
    if kindOutput (d.kindOf e) then (rangeFor rs e).map fun r => (e, r) else none

/-! ## Following (R229, R230) -/

/-- R230: an endpoint that a later cue names stops following; unless the later cue is armed, its
exact-delivery bit is set and the drop is counted. -/
def State.unfollow (d : DieId) (armed : Bool) (s : State) (e : Nat) : State :=
  let c := s.cues d
  let hit := c.arming.any fun x => match x.2 with
    | some r => r.following.any fun f => decide (f.1 = e)
    | none => false
  if hit then
    let s := s.setCues d { c with arming := c.arming.map fun x => (x.1, x.2.map fun r =>
      { r with following := r.following.filter fun f => decide (f.1 ≠ e) }) }
    if armed then s
    else
      let die := s.die d
      (s.setDie d { die with exact := Tbl.put false die.exact e true }).addSat
        (CUE_TRACK_DROPS.count d) 1
  else s

/-- One curtain step of R178 from level `p` toward `t`. -/
def curtainStep (p t left : Nat) (perceptual : Bool) (n : Nat) : Nat :=
  (fadeStep { Hot.delivered with current := p, target := t, fadeLeft := left,
                                 fadeCtrl := if perceptual then 2 else 0 }
    Profile.factory true n).current

/-- R229: the procedure track for one endpoint that follows with prediction `p` to `level`. -/
def State.trackOne (d : DieId) (k : Nat) (s : State) (f : Nat × Nat × Nat) : State :=
  let (e, p, level) := f
  let n := s.clk.cycle
  let die := s.die d
  let h := die.hotOf e
  let c := s.cues d
  match c.armAt k with
  | none => s
  | some r =>
    let stop := { r with following := r.following.filter fun g => decide (g.1 ≠ e) }
    if h.fadeLeft = 0 ∧ h.current = p ∧ p = level then s.setCues d (c.setArm k (some stop))
    else if h.current ≠ p ∨ h.fadeLeft = 0 ∨ h.ovrCtrl ≠ 0 then
      let s := s.setCues d (c.setArm k (some stop))
      let die := s.die d
      (s.setDie d { die with exact := Tbl.put false die.exact e true }).addSat
        (CUE_TRACK_DROPS.count d) 1
    else
      let p' := curtainStep p level h.fadeLeft r.cue.curve n
      let r' := { r with following := r.following.map fun g => if g.1 = e then (e, p', level) else g }
      let s := s.setCues d (c.setArm k (some r'))
      s.setDie d ((s.die d).setHot e { h with lastTx := p' } n)

/-- CUE_TRACK (R229): every following endpoint is checked before a pass, and a record whose longest
curtain has ended is freed (R225). -/
def State.trackRec (d : DieId) (s : State) (k : Nat) : State :=
  match (s.cues d).armAt k with
  | none => s
  | some r =>
    if r.executed then
      let s := r.following.foldl (State.trackOne d k) s
      if r.endCycle ≤ s.clk.cycle then s.setCues d ((s.cues d).setArm k none) else s
    else s

def State.trackAll (s : State) (d : DieId) : State := (List.range 16).foldl (State.trackRec d) s

/-! ## Execution (R222-R224, R231-R234) -/

/-- R222: the curtain of a cue starts on an endpoint. -/
def Hot.curtain (h : Hot) (fade : Nat) (perceptual : Bool) : Hot :=
  { h with fadeLeft := fade, fadeCtrl := putBit (if fade = 0 then clrBit h.fadeCtrl 0 else
    setBit h.fadeCtrl 0) 1 perceptual }

def State.setExact (s : State) (d : DieId) (e : Nat) (b : Bool) : State :=
  if b then
    let die := s.die d
    s.setDie d { die with exact := Tbl.put false die.exact e true }
  else s

/-- R229: the endpoint follows an armed cue that names it. -/
def State.follows (s : State) (d : DieId) (q : Cue) (e : Nat) : Bool :=
  let h := (s.die d).hotOf e
  match q.armed.bind (s.cues d).armAt with
  | none => false
  | some r => decide (bindTransport h.binding = 1 ∧ h.ovrCtrl = 0) &&
      !r.declined.contains (Tbl.get Node.unknown s.nodes (bindNode h.binding)).transport

/-- R229: an endpoint begins to follow at the execution of the cue of record `k`. -/
def State.follow (d : DieId) (k : Nat) (s : State) (e level : Nat) : State :=
  let h := (s.die d).hotOf e
  let c := s.cues d
  match c.armAt k with
  | none => s
  | some r =>
    let s := s.setCues d (c.setArm k (some { r with following := r.following ++ [(e, h.lastTx, level)] }))
    let s := s.setDie d ((s.die d).setHot e { h with current := h.lastTx } s.clk.cycle)
    State.trackOne d k s (e, h.lastTx, level)

/-- R222, R229: a scene cue on one endpoint. -/
def State.sceneOne (d : DieId) (q : Cue) (fade : Nat) (s : State) (x : Nat × CueRange) : State :=
  let (e, r) := x
  let s := s.unfollow d q.armed.isSome e
  let die := s.die d
  let h := (die.hotOf e).curtain fade q.curve
  let die := { die with
    scene := Tbl.put 0 die.scene e r.level
    cues := { die.cues with standing := Tbl.put 0 die.cues.standing e r.level } }
  let s := s.setDie d (die.setHot e h s.clk.cycle)
  if s.follows d q e then State.follow d (q.armed.getD 0) s e r.level else s.setExact d e r.exact

/-- R228: a set of an override or blackout (`sets`) hands a node-bound endpoint's transport a hold,
and the end of both a release; a hold goes with a cancellation of every armed cue that names the
endpoint, which the transport makes at that node. -/
def State.ovrChanged (s : State) (d : DieId) (e : Nat) (sets : Bool) (old new binding : Nat) :
    State :=
  if bindTransport binding ≠ 1 then s
  else if sets then s.nodeOp d (.hold e)
  else if old ≠ 0 ∧ new = 0 then s.nodeOp d (.release e)
  else s

/-- The number of a blackout confirmation to start from: a chain-bound endpoint needs no hold. -/
def State.blackStart (s : State) (d : DieId) (e : Nat) (on : Bool) (binding : Nat) : State :=
  let c := s.cues d
  let v := if on ∧ bindTransport binding = 2 then 1 else 0
  s.setCues d { c with blackConf := Tbl.put 0 c.blackConf e v }

/-- R233, R234: ops 2 to 5 on one endpoint.  The exact flag of such a cue has no effect, because
R222 gives it to scene cues (log entry 108). -/
def State.overrideOne (d : DieId) (q : Cue) (fade : Nat) (s : State) (x : Nat × CueRange) : State :=
  let (e, _) := x
  let n := s.clk.cycle
  let h := (s.die d).hotOf e
  let ovr := h.ovrCtrl % 4
  let black := bitOf h.ovrCtrl 2
  let s := s.unfollow d q.armed.isSome e
  let apply := fun (s : State) (sets : Bool) (ctrl lvl : Nat) =>
    let h' := { ((s.die d).hotOf e).curtain fade q.curve with ovrCtrl := ctrl, ovrLevel := lvl }
    (s.setDie d ((s.die d).setHot e h' n)).ovrChanged d e sets h.ovrCtrl ctrl h.binding
  if q.op = 2 then
    if q.override_ < ovr then s.addSat (CUE_OVR_REFUSED.count d) 1
    else if q.override_ = 3 ∧ black = 1 then
      let s := (apply s true 3 q.level).raise (CUE_TBL_INT_STATUS.blackout_change d)
      (s.blackStart d e false h.binding).post .control (cbSource (originDie d) cbCUE 0) 0x0022
        (leBytes 4 e ++ leBytes 4 0)
    else apply s true (h.ovrCtrl - ovr + q.override_) q.level
  else if q.op = 3 then
    if ovr = q.override_ then apply s false (h.ovrCtrl - ovr) h.ovrLevel else s
  else if q.op = 4 then
    if ovr = 3 then s.addSat (CUE_OVR_REFUSED.count d) 1
    else
      let s' := apply s true (setBit h.ovrCtrl 2) h.ovrLevel
      (if black = 1 then s' else s'.blackStart d e true h.binding).raise
        (CUE_TBL_INT_STATUS.blackout_change d)
  else
    let s' := (apply s false (clrBit h.ovrCtrl 2) h.ovrLevel).blackStart d e false h.binding
    s'.raiseIf (decide (black = 1)) (CUE_TBL_INT_STATUS.blackout_change d)

/-- An override or blackout cue on one endpoint, which follows it where R229 says so. -/
def State.operateOne (d : DieId) (q : Cue) (fade : Nat) (s : State) (x : Nat × CueRange) : State :=
  let s := State.overrideOne d q fade s x
  if s.follows d q x.1 then State.follow d (q.armed.getD 0) s x.1 x.2.level else s

/-- R231: the armed cue with an identifier is cancelled, if it has not executed; a cancellation of
an executed or unknown cue is ignored and counted (no register shows the count: log entry 28). -/
def State.cancelCue (s : State) (d : DieId) (id : Nat) : State :=
  let c := s.cues d
  match (List.range 16).find? fun k => match c.armAt k with
      | some r => decide (r.id = id) && !r.executed
      | none => false with
  | none => s.setCues d { c with cancelsIgnored := c.cancelsIgnored + 1 }
  | some k =>
    let keep := fun (q : Cue) => decide (q.armed ≠ some k)
    (s.setCues d { c.setArm k none with
      queue := c.queue.filter keep, pendingGo := c.pendingGo.filter keep }).nodeOp d
      (.cancel id false)

/-- A cue is taken out of the engine's lists; a schedule entry keeps its last execution. -/
def CueArea.dropCue (c : CueArea) (q : Cue) : CueArea :=
  { c with queue := c.queue.filter fun x => decide (x.src ≠ q.src ∨ x.stamp ≠ q.stamp)
           pendingGo := c.pendingGo.filter fun x => decide (x.src ≠ q.src) }

/-- The counts and marks of an execution (R239); the stamp shown carries the ghost flag of the moment (R69,
R108). -/
def State.executedMarks (s : State) (d : DieId) (q : Cue) (late : Bool) : State :=
  let st := q.stamp.getD 0 % 2 ^ 58 + s.ghostBit
  let s := (s.set (CUE_LAST_EXEC_LO.stamp_lo d) st).set (CUE_LAST_EXEC_HI.stamp_hi d) (st / 2 ^ 32)
  let s := s.addWrap (CUE_EXECUTED.count d) 1
  let s := if late then (s.addSat (CUE_LATE.count d) 1).raise (CUE_TBL_INT_STATUS.late d) else s
  let c := s.cues d
  match q.src with
  | .sched j => s.setCues d { c with lastExec := Tbl.put 0 c.lastExec j st }
  | .go seq => s.setCues d { c with goExec := seq }

/-- R225: a cue with its arm flag set that is not armed by its stamp is counted. -/
def State.countUnarmed (s : State) (d : DieId) (q : Cue) : State :=
  if q.arm && q.armed.isNone && !q.counted then
    (s.addSat (CUE_UNARMED.count d) 1).raise (CUE_TBL_INT_STATUS.unarmed d)
  else s

/-- CUE_EXECUTE (R222): a cue executes with a curtain of `fade` cycles.  A boundary execution has a
curtain of at least one cycle. -/
def State.executeCue (s : State) (d : DieId) (q : Cue) (fade : Nat) (late : Bool) : State :=
  let q := s.resolve d q
  let s := s.countUnarmed d q
  let rs := q.ranges.getD []
  let s := match q.armed with
    | some k =>
      let c := s.cues d
      match c.armAt k with
      | some r => s.setCues d (c.setArm k (some { r with executed := true,
                                                         endCycle := s.clk.cycle + fade }))
      | none => s
    | none => s
  let s := if q.op = 1 then ((s.die d).named rs).foldl (State.sceneOne d q fade) s
    else if q.op = 6 then s.cancelCue d q.target
    else ((s.die d).named rs).foldl (State.operateOne d q fade) s
  let s := s.setCues d ((s.cues d).dropCue q)
  s.executedMarks d q late

/-- R224: a cue late by more than 64 cycles is discarded, counted and recorded. -/
def State.expireCue (s : State) (d : DieId) (q : Cue) : State :=
  let c := (s.cues d).dropCue q
  let c := match q.armed with
    | some k => c.setArm k none
    | none => c
  let s := (s.setCues d c).addSat (CUE_EXPIRED.count d) 1
  let num := match q.src with
    | .sched j => j
    | .go seq => seq
  let key := match q.stamp, q.tai with
    | some w, _ => w
    | none, some t => t
    | none, none => 0
  let s := { s with clk := { s.clk with expired := s.clk.expired + b2n q.tai.isSome } }
  (s.raise (CUE_TBL_INT_STATUS.expired d)).post .control (cbSource (originDie d) cbCUE 0) 0x0012
    (leBytes 8 key ++ leBytes 4 num)

/-! ## Fixing (R90-R93, R216, R220) -/

/-- R91, R93: a TAI cue is fixed at the boundary: ahead by up to 64 cycles when it may be armed (its
arm flag is set and it has no named phase), at its own boundary otherwise; a cue found in the past runs late at this boundary or at its named
phase, or expires.  `none` says that it expires. -/
def State.fixCue (s : State) (q : Cue) : Option Cue :=
  match q.stamp, q.tai with
  | none, some t =>
    if s.mapValid then
      match s.fix t q.phase with
      | .at_ w =>
        if stampCycle w ≤ s.clk.cycle + (if q.arm && q.phase.isNone then 64 else 0) then some { q with stamp := some w }
        else some q
      | .late =>
        let per := s.get CYC_MAP_PERIOD.period
        if ((s.taiP0 : Int) - (t : Int)) * 16 ≤ 64 * (per : Int) then
          some { q with stamp := some (stampOf s.clk.cycle (q.phase.getD 0)), late := true }
        else none
    else some q
  | _, _ => some q

/-- TAI_EVENT_FIX (R91) over a list of cues: those kept, and those that expire. -/
def State.fixList (s : State) (l : List Cue) : List Cue × List Cue :=
  (l.filterMap s.fixCue, l.filter fun q => (s.fixCue q).isNone)

/-! ## Arming (R225, R226) -/

/-- R225: the boundaries at which a cue may be armed. -/
def Cue.armable (q : Cue) (n : Nat) : Bool :=
  match q.stamp with
  | some w => q.arm && decide (stampPhase w = 0 ∧ n < stampCycle w ∧
      stampCycle w ≤ n + 64) && q.armed.isNone && q.phase.isNone
  | none => false

/-- CUE_ARM (R225, R226) for one cue: it takes a record and the next identifier, and the node
transports take its arm record; without a free record at the boundary before its stamp it is
counted as not armed. -/
def State.armOne (d : DieId) (x : State × List Cue) (q : Cue) : State × List Cue :=
  let (s, done) := x
  let n := s.clk.cycle
  if q.armable n then
    let c := s.cues d
    match c.freeArm with
    | some k =>
      let q := { s.resolve d q with armed := some k }
      let st := q.stamp.getD 0
      let r : ArmRec :=
        { id := c.nextId, cue := q, executed := false, endCycle := 0, declined := [], following := [] }
      let s := s.setCues d { c.setArm k (some r) with nextId := (c.nextId + 1) % 2 ^ 32 }
      (s.nodeOp d (.arm c.nextId st (max 1 q.fade) q.curve (q.ranges.getD [])), done ++ [q])
    | none =>
      if (q.stamp.map stampCycle) = some (n + 1) then
        (s.countUnarmed d q, done ++ [{ q with counted := true }])
      else (s, done ++ [q])
  else (s, done ++ [q])

/-- R225: the schedule entries that are fixed take records, in their order. -/
def State.armQueue (s : State) (d : DieId) : State :=
  let (s, l) := (s.cues d).queue.foldl (State.armOne d) (s, [])
  s.setCues d { s.cues d with queue := l }

def State.armAll (s : State) (d : DieId) : State :=
  let s := s.armQueue d
  let (s, l) := (s.cues d).pendingGo.foldl (State.armOne d) (s, [])
  s.setCues d { s.cues d with pendingGo := l }

/-! ## Taking up the schedule -/

/-- R216, R220: schedule entry `j` of the active bank becomes a cue at this boundary: a cycle stamp when it is
prepared or armed; a TAI or local-time occurrence when R91 fixes it.  What an entry of the former bank has fixed
at the same time stands for it (log entry 119). -/
def State.takeUp (d : DieId) (s : State) (j : Nat) : State :=
  let c := s.cues d
  let x := c.activeBank.schedAt j
  let n := s.clk.cycle
  let o := c.occAt j
  if x.kind = 1 then
    let w := x.when_ % 2 ^ 58
    let q := x.cue j none
    let o' : Occ := { o with done := some w }
    if o.done = some w then s
    else if c.queue.any fun y => decide (y.src = .sched j ∧ y.stamp = some w) then s.setCues d (c.setOcc j o')
    else if stampCycle w ≤ n + 2 then s.setCues d ({ c with queue := c.queue ++ [q] }.setOcc j o')
    else if q.armable n && c.freeArm.isSome then
      let (t, l) := State.armOne d (s, []) q
      t.setCues d ({ t.cues d with queue := (t.cues d).queue ++ l }.setOcc j o')
    else s
  else
    let tai := if x.kind = 2 then (if o.done = some x.when_ then none else some x.when_)
      else if 3 ≤ x.kind then o.tai else none
    match tai with
    | none => s
    | some t =>
      let o' : Occ := if x.kind = 2 then { o with done := some x.when_ }
        else { o with tai := none, lastDay := some o.day }
      if c.queue.any fun y => decide (y.src = .sched j ∧ y.tai = some t) then s.setCues d (c.setOcc j o')
      else match s.fixCue (x.cue j (some t)) with
      | none => (s.setCues d (c.setOcc j o')).expireCue d (x.cue j (some t))
      | some q =>
        if q.stamp.isSome then
          s.setCues d ({ c with queue := c.queue ++ [q] }.setOcc j o')
        else s

/-- CUE_PREPARE (R221): cues whose stamp is at most 2 cycles ahead are resolved into ranges. -/
def State.prepareList (s : State) (d : DieId) (l : List Cue) : List Cue :=
  l.map fun q => match q.stamp with
    | some w => if stampCycle w ≤ s.clk.cycle + 2 then s.resolve d q else q
    | none => q

def State.prepareAll (s : State) (d : DieId) : State :=
  let c := s.cues d
  s.setCues d { c with queue := s.prepareList d c.queue, pendingGo := s.prepareList d c.pendingGo }

/-! ## The boundary of the cue engine -/

/-- The boundary at which a stamp takes effect by R222: its own cycle at phase 0, the next cycle
for phases 1,017 to 1,023 (R223), and none of its own for the phases between. -/
def stampDue (w : Nat) : Nat :=
  if stampPhase w = 0 then stampCycle w else stampCycle w + 1

/-- The cycle from which a cue's lateness counts (R224): that of its stamp, and the next for phases
1,017 to 1,023, which R223 has execute as a cue of that stamp. -/
def stampMeant (w : Nat) : Nat := if 1016 < stampPhase w then stampCycle w + 1 else stampCycle w

/-- A cue is due at boundary `n`.  A named-phase cue of phases 1 to 1,016 runs at its epoch mark in
its cycle and comes here only when it was missed (R224). -/
def Cue.dueAt (q : Cue) (n : Nat) : Bool :=
  match q.stamp with
  | some w => decide (stampDue w ≤ n)
  | none => false

/-- Late at boundary `n`: the boundary of its stamp has passed. -/
def Cue.lateAt (q : Cue) (n : Nat) : Bool :=
  match q.stamp with
  | some w => q.late || q.deferred || decide (stampDue w < n ∨
      (1 ≤ stampPhase w ∧ stampPhase w ≤ 1016 ∧ stampCycle w < n))
  | none => false

/-- R221: deferred cues first, then scheduled cues in index order, then go entries in sequence
order. -/
def dueOrder (l : List Cue) : List Cue :=
  let key := fun (q : Cue) => match q.src with
    | .sched j => (0, j)
    | .go seq => (1, seq)
  let le := fun (a b : Cue) =>
    if a.deferred ≠ b.deferred then a.deferred
    else decide ((key a).1 < (key b).1 ∨ ((key a).1 = (key b).1 ∧ (key a).2 ≤ (key b).2))
  l.mergeSort le

/-- R224: late by more than 64 cycles at boundary `n`; a cue that R221 has deferred still executes. -/
def Cue.tooLate (q : Cue) (n : Nat) : Bool :=
  match q.stamp with
  | some w => !q.deferred && decide (64 < n - stampMeant w)
  | none => false

/-- The engine still holds a cue. -/
def CueArea.holds (c : CueArea) (q : Cue) : Bool :=
  (c.queue ++ c.pendingGo).any fun x => decide (x.src = q.src ∧ x.stamp = q.stamp)

/-- R222, R231: a cue executes at a boundary, with a curtain of at least one cycle, unless a cancellation before
it has taken it out. -/
def State.boundaryCue (d : DieId) (s : State) (q : Cue) : State :=
  let q := s.resolve d q
  if (s.cues d).holds q then s.executeCue d q (max 1 q.fade) (q.lateAt s.clk.cycle) else s

/-- R221: cues beyond 64 at one boundary are deferred, marked late and counted. -/
def State.deferCues (s : State) (d : DieId) (rest : List Cue) : State :=
  let new := (rest.filter fun q => !q.deferred).length
  let mark := fun (q : Cue) => if rest.any fun x => decide (x.src = q.src ∧ x.stamp = q.stamp) then
    { q with deferred := true } else q
  let c := s.cues d
  let s := s.setCues d { c with queue := c.queue.map mark, pendingGo := c.pendingGo.map mark }
  (s.addSat (CUE_DEFERRED.count d) new).raiseIf (decide (0 < new)) (CUE_TBL_INT_STATUS.deferred d)

/-- CUE_EXECUTE at a boundary (R221-R224). -/
def State.executeDue (s : State) (d : DieId) : State :=
  let n := s.clk.cycle
  let c := s.cues d
  let due := dueOrder ((c.queue ++ c.pendingGo).filter fun q => q.dueAt n)
  let s := (due.filter fun q => q.tooLate n).foldl (fun s q => s.expireCue d q) s
  let run := due.filter fun q => !q.tooLate n
  let s := (run.take 64).foldl (State.boundaryCue d) s
  s.deferCues d (run.drop 64)

/-- BANK_SWAP (R214): the inactive bank becomes active; occurrences not yet fixed are dropped. -/
def State.bankSwap (s : State) (d : DieId) : State :=
  let c := s.cues d
  if c.swapPending then
    let occ := c.occ.map fun x => (x.1, { x.2 with tai := none, day := 0, lastDay := none })
    (s.setCues d { c with active := 1 - c.active, swapPending := false, syncBusy := true,
                          occ := occ.filter fun x => decide (x.2 ≠ Occ.none_) }).raise
      (CUE_TBL_INT_STATUS.swap_done d)
  else s

/-- GO_BANK_SWAP (R217): at a boundary at which go writes were applied the go banks swap, and the
entries move to the pending go list in sequence order. -/
def State.goSwap (s : State) (d : DieId) : State :=
  let c := s.cues d
  if c.goInactive = [] then s
  else
    let waits := fun (x : GoEntry) => c.pendingGo.any fun q => decide (q.src = .go x.seq)
    s.setCues d { c with
      goActive := c.goInactive, goInactive := [], goBank := 1 - c.goBank
      goListed := c.goListed.filter waits ++ c.goInactive
      pendingGo := c.pendingGo ++ c.goInactive.map (GoEntry.cue · s.clk.cycle) }

/-- The schedule indices in use. -/
def CueArea.schedIndices (c : CueArea) : List Nat := c.activeBank.sched.map Prod.fst

/-- R220, R450: the stage holder journals the stamps fixed since the cues `old` had theirs. -/
def State.journalFixes (s : State) (d : DieId) (old : List Cue) : State :=
  if s.holder = some d then
    let c := s.cues d
    let had := (old.filter fun q => q.stamp.isSome).map fun q => (q.src, q.stamp)
    (c.queue ++ c.pendingGo).foldl (fun s q => match q.stamp with
      | some w => if had.contains (q.src, some w) then s else s.journalFix q.src w
          (((q.armed.bind c.armAt).map fun r => r.id).getD 0) q.late
      | none => s) s
  else s

/-! ## Catch-up (R237) -/

/-- R237: the latest occurrence of a local-time entry before the instant `upto`, when it lies after `from_` and
after the day of the last one fixed. -/
def State.lastOccurrence (s : State) (x : Sched) (o : Occ) (from_ upto : Nat) : Option Nat :=
  let first := s.presentDay (from_ / 1000000000) - 3
  let days := (List.range (s.presentDay (upto / 1000000000) + 3 - first)).map fun i => first + i
  let fresh := days.filter fun k => match o.lastDay with
    | some l => decide (l < k)
    | none => true
  let ts := fresh.filterMap fun k => (s.occursOn x k).map fun t => (t * 1000000000).toNat
  (ts.filter fun t => decide (from_ < t ∧ t < upto)).max?

/-- R237: the stamp by which a cue given in TAI takes its place in the order (log entry 99). -/
def State.stampBefore (s : State) (t : Nat) : Nat :=
  let behind := (s.taiP0 - t) * 16 / s.get CYC_MAP_PERIOD.period
  stampOf (max (s.power.savedCycle + 1) (s.clk.cycle - behind)) 0

/-- R237, step 2: what a schedule entry owes: kind 1 at the first boundary, the TAI and local-time kinds
once the mapping is valid. -/
def State.owed (s : State) (d : DieId) (first : Bool) (since : Option Nat) (j : Nat) : Option Cue :=
  let x := (s.cues d).activeBank.schedAt j
  let o := (s.cues d).occAt j
  let w := x.when_ % 2 ^ 58
  if x.kind = 1 then
    if first ∧ s.power.savedCycle < stampCycle w ∧ stampCycle w < s.clk.cycle then some (x.cue j none)
    else none
  else
    let t := match since with
      | none => none
      | some a =>
        if x.kind = 2 then
          (if a < x.when_ ∧ x.when_ < s.taiP0 ∧ o.done ≠ some x.when_ then some x.when_ else none)
        else if 3 ≤ x.kind then s.lastOccurrence x o a s.taiP0 else none
    t.map fun t => { x.cue j (some t) with stamp := some (s.stampBefore t) }

/-- A cue that has been caught up is not taken up again. -/
def State.caughtUp (s : State) (d : DieId) (q : Cue) : State :=
  let c := s.cues d
  match q.src with
  | .go _ => s
  | .sched j =>
    let x := c.activeBank.schedAt j
    let o := c.occAt j
    s.setCues d (c.setOcc j (if x.kind = 1 then { o with done := q.stamp }
      else if x.kind = 2 then { o with done := q.tai }
      else { o with tai := none, lastDay := q.tai.map (s.dayOf x) }))

/-- R237, step 1: the cues of the arming store; the transports take a cancellation of each, and its record
is free. -/
def State.freeArmed (s : State) (d : DieId) : State × List Cue :=
  (List.range 16).foldl (fun x k => match (x.1.cues d).armAt k with
    | none => x
    | some r =>
      let keep := fun (q : Cue) => decide (q.armed ≠ some k)
      let c := (x.1.cues d).setArm k none
      let c := { c with queue := c.queue.filter keep, pendingGo := c.pendingGo.filter keep }
      ((x.1.setCues d c).nodeOp d (.cancel r.id false), x.2 ++ [{ r.cue with armed := none, counted := true }])) (s, [])

/-- CATCH_UP (R237): at the first boundary after hot state is restored, `first`, and for the TAI and
local-time kinds at the first boundary at which the mapping is valid, the cues missed during the stop
execute in the order of their stamps, late and with a curtain of one cycle. -/
def State.catchUp (s : State) (d : DieId) (first : Bool) : State :=
  let since := if s.mapValid then (s.cues d).catchUp else none
  if first = false ∧ since = none then s
  else
    let (s, armed) := if first then s.freeArmed d else (s, [])
    let c := s.cues d
    let s := if since.isSome then s.setCues d { c with catchUp := none } else s
    let owed := c.schedIndices.filterMap (s.owed d first since)
    let owed := owed.filter fun q => !armed.any fun a => decide (a.src = q.src ∧
      (a.tai = q.tai ∧ (a.tai.isSome ∨ a.stamp = q.stamp)))
    let gos := if first then c.pendingGo.filter fun q => match q.stamp with
        | some w => decide (stampCycle w < s.clk.cycle)
        | none => false
      else []
    let le := fun (a b : Cue) => decide (a.stamp.getD 0 ≤ b.stamp.getD 0)
    ((armed ++ owed ++ gos).mergeSort le).foldl (fun s q =>
      (s.executeCue d q 1 true).caughtUp d q) s

/-- The cue engine at a boundary, after the staged writes and before the pass. -/
def State.cueBoundary (s : State) (d : DieId) : State :=
  let old := (s.cues d).queue ++ (s.cues d).pendingGo
  let s := ((s.bankSwap d).goSwap d).catchUp d false
  let js := (s.cues d).schedIndices
  let s := js.foldl (State.schedOccurrence d) s
  let s := js.foldl (State.takeUp d) (s.armQueue d)
  let (gos, gone) := s.fixList (s.cues d).pendingGo
  let s := gone.foldl (fun s q => s.expireCue d q) s
  let s := s.setCues d { s.cues d with pendingGo := gos }
  let s := ((s.armAll d).prepareAll d).journalFixes d old
  (s.trackAll d).executeDue d

/-- NAMED_PHASE_CUE (R223): at the epoch mark of phase step `p` the named-phase cues of the cycle
up to that phase apply their writes, and each unit with a slot that the cue names queues an event evaluation
(R182); a curtain of 0 leaves the level to
the profile's rates. -/
def State.namedPhase (s : State) (d : DieId) (p : Nat) : State :=
  let n := s.clk.cycle
  let c := s.cues d
  let due := dueOrder ((c.queue ++ c.pendingGo).filter fun q => match q.stamp with
    | some w => decide (stampCycle w = n ∧ 1 ≤ stampPhase w ∧ stampPhase w ≤ p)
    | none => false)
  due.foldl (fun s q =>
    let q := s.resolve d q
    let es := ((s.die d).named (q.ranges.getD [])).map Prod.fst
    let names := (es.map unitOf).eraseDups.map fun u =>
      UnitEvent.cue u (es.filter fun e => decide (unitOf e = u))
    let s := s.executeCue d q q.fade q.late
    s.setDie d { s.die d with events := (s.die d).events ++ names }) s

/-! ## Requests -/

/-- R235: the tag of a blackout command: the first 16 octets of the HMAC under the blackout key over
the module number and the first 48 octets. -/
def blackoutTag (key : List Byte) (module_ : Nat) (cmd : List Byte) : List Byte :=
  (hmac384 key (leBytes 2 module_ ++ cmd.take 48)).take 16

/-- BANK_SYNC_END (R215): the inactive bank is a copy of the active one with the next sequence. -/
def execBankSyncEnd (s : State) : Host.Outcome State Fault Refusal :=
  let one := fun (d : Die) =>
    let c := d.cues
    if c.syncBusy then
      let b := c.activeBank
      { d with cues := { c.setBank (1 - c.active) { b with seq := (b.seq + 1) % 2 ^ 32 } with
        syncBusy := false } }
    else d
  .next { s with dieA := one s.dieA, dieB := one s.dieB }

end Sys2Proof.Machine
end

