-- ==== Sys2Proof/Machine/Queues.lean ====
section
/-! DEFINITION. Queues, credits, waits, the timeout ladder and the weighted-share arbiters
(R244-R284). -/

namespace Sys2Proof.Machine

/-! ## Queue identifiers (R281) -/

def queueLevel (q : Nat) : Nat := q / 2 ^ 13 % 8
def queuePlane (q : Nat) : Nat := q / 2 ^ 11 % 4
def queueClass (q : Nat) : Nat := q / 2 ^ 9 % 4
def queueInst (q : Nat) : Nat := q % 2 ^ 9

/-- R281: the identifier names a queue. -/
def queueNamed (q : Nat) : Bool :=
  decide (q < 2 ^ 16 ∧ queuePlane q ≠ 3 ∧ queueClass q ≠ 3) &&
  match queueLevel q with
  | 0 => decide (queueInst q < 288)
  | 1 => decide (queueInst q < 32)
  | 2 => decide (queueInst q < 4)
  | 3 => decide (1 ≤ queueInst q ∧ queueInst q ≤ 5)
  | 4 => true
  | 5 => decide (queueInst q = 0)
  | _ => false

/-- R244: k, from 2 to 12. -/
def queueLog (q : Nat) : Nat := 2 + Config.queueLog2 q % 11
def queueSize (q : Nat) : Nat := 2 ^ queueLog q

/-- R256: the rank of a die or module queue. -/
def queueRank (q : Nat) : Nat := if queueLevel q = 3 then queueInst q else Config.queueRank q

/-- The key of a queue: the die's own at the levels up to the die, the module's beyond (R277). -/
def queueKey (d : DieId) (q : Nat) : Nat :=
  (if queueLevel q < 4 then d.num else 2) * 65536 + q

def State.queue (s : State) (key : Nat) : Queue := Tbl.get Queue.empty s.queues key
def State.setQueue (s : State) (key : Nat) (q : Queue) : State :=
  { s with queues := Tbl.put Queue.empty s.queues key q }

def Queue.ring (q : Queue) (r : Nat) : Ring := Tbl.get Ring.empty q.rings r
def Queue.setRing (q : Queue) (r : Nat) (x : Ring) : Queue :=
  { q with rings := Tbl.put Ring.empty q.rings r x }

/-- R245: the words waiting between two pointers of k + 1 bits. -/
def Ring.waiting (x : Ring) (size : Nat) : Nat := (x.wr + 2 * size - x.rd) % (2 * size)

/-- R251: the credits the producer holds. -/
def Ring.credits (x : Ring) (size : Nat) : Nat := size - x.debited

/-- The die whose QCM counts an event of a queue or arbiter: its own, or the stage holder's for the
module, company and Apron ones (R284). -/
def State.qcmDie (s : State) (d : DieId) (own : Bool) : DieId := if own then d else s.holder.getD d

/-- QCM_LAST_DROP (R280). -/
def State.lastDrop (s : State) (d : DieId) (q reason : Nat) : State :=
  (s.set (QCM_LAST_DROP.queue d) q).set (QCM_LAST_DROP.reason d) reason

/-! ## Sending and reading -/

/-- R51, R250: a packet passes from one queue to another of the same plane, and no other path exists. -/
def samePlane (q t : Nat) : Bool := queueNamed q && queueNamed t && decide (queuePlane q = queuePlane t)

/-- R250-R257: an item of `q` may wait on `t`. -/
def mayWait (q t : Nat) : Bool :=
  if queueClass q = 2 then false
  else if queueLevel t < queueLevel q then false
  else if queueLevel t = queueLevel q then
    if queueLevel q < 3 then false else decide (queueRank q < queueRank t)
  else true

/-- R257: a packet that travels inward waits at its producer for a credit of its final consumer `t`, whatever
`mayWait` says of the queues on the way, which hold nothing of it. -/
def travelsInward (q t : Nat) : Bool := decide (queueClass q ≠ 2 ∧ queueLevel t < queueLevel q)

/-- R246: a whole packet is written: its words are debited and its end mark is set. -/
def Ring.push (x : Ring) (size : Nat) (w : List (BitVec 64)) (kind : ItemKind) : Ring :=
  { x with wr := (x.wr + w.length) % (2 * size), debited := x.debited + w.length,
           packets := x.packets ++ [(w, kind)] }

/-- The high-water mark after a change of a queue. -/
def Queue.mark (q : Queue) (size : Nat) : Queue :=
  { q with hwm := max q.hwm (q.rings.foldl (fun a x => max a (x.2.waiting size)) 0) }

/-- The response queue that the requester owning `src` reads (R253): the queue of class response
beside it (log entry 23). -/
def responseQueue (src : Nat) : Nat := src - queueClass src * 512 + 2 * 512

/-- R253: a word for the response can be reserved; a response that has arrived stands in the word that was
reserved for it. -/
def State.canReserve (s : State) (d : DieId) (src : Nat) : Bool :=
  let k := queueKey d (responseQueue src)
  let q := s.queue k
  decide ((q.ring 0).debited + (q.reserved - (q.ring 0).packets.length) < queueSize (responseQueue src))

def State.reserve (s : State) (d : DieId) (src : Nat) : State :=
  let k := queueKey d (responseQueue src)
  let q := s.queue k
  s.setQueue k { q with reserved := q.reserved + 1 }

/-- R253: what a packet of `src` for `dst` must reserve is reserved: a request's word for its response; none
where there is no word. -/
def State.claim (s : State) (d : DieId) (src dst : Nat) : Option State :=
  if queueClass dst ≠ 0 then some s
  else if s.canReserve d src then some (s.reserve d src)
  else none

def State.unreserve (s : State) (key : Nat) : State :=
  let q := s.queue key
  s.setQueue key { q with reserved := q.reserved - 1 }

/-- The ring a packet goes to: ring 0 unless the queue has priority rings (R247). -/
def sendRing (x : Send) : Nat := if Config.queuePrio x.dst then x.ring else 0

/-- The number of a block with an enable. -/
def blockKey : DrainBlock → Nat
  | .radio r => r.val
  | .plc p => 4 + p.val
  | .chain n => 8 + n.val
  | .meter => 24
  | .eth e => 25 + e.val

/-- The enable and DRAINED of a block, and the interrupt of its drain. -/
def blockEnable (k : Nat) : Fld :=
  if k < 4 then RAD_CTRL.enable k else if k < 8 then PLC_CTRL.enable (k - 4)
  else if k < 24 then FLC_CTRL.enable (k - 8) else if k = 24 then MTR_CTRL.enable
  else ETH_CTRL.enable (k - 25)

def blockDrained (k : Nat) : Fld :=
  if k < 4 then RAD_CTRL.drained k else if k < 8 then PLC_CTRL.drained (k - 4)
  else if k < 24 then FLC_CTRL.drained (k - 8) else if k = 24 then MTR_CTRL.drained
  else ETH_CTRL.drained (k - 25)

def blockDrainIrq (k : Nat) : Fld :=
  if k < 4 then RAD_INT_STATUS.drained k else if k < 8 then PLC_INT_STATUS.drained (k - 4)
  else if k < 24 then FLC_INT_STATUS.drained (k - 8) else if k = 24 then MTR_INT_STATUS.drained
  else ETH_INT_STATUS.drained (k - 25)

/-- R266: a queue feeds a block whose enable is clear. -/
def State.queueStopped (s : State) (q : Nat) : Bool :=
  decide (queueLevel q = 4) && decide (Config.queueBlock q < 28) &&
    !s.flag (blockEnable (Config.queueBlock q))

/-- R251: the producer holds the credits of a packet. -/
def State.hasCredits (s : State) (d : DieId) (x : Send) : Bool :=
  decide (x.words.length ≤ ((s.queue (queueKey d x.dst)).ring (sendRing x)).credits (queueSize x.dst))

/-- A reservation that was taken is given back. -/
def State.unclaim (s : State) (d : DieId) (src dst : Nat) : State :=
  if queueClass dst = 0 then s.unreserve (queueKey d (responseQueue src)) else s

/-- A packet enters its queue: its credits are debited. -/
def State.deliver (s : State) (d : DieId) (x : Send) : State :=
  let k := queueKey d x.dst
  let q := s.queue k
  let size := queueSize x.dst
  s.setQueue k
    ((q.setRing (sendRing x) ((q.ring (sendRing x)).push size x.words x.kind)).mark size)

/-- The packet is sent, its reservation taken.  A packet that begins while the block it feeds is disabled is
discarded, and what it held returns (R266). -/
def State.sendNow (s : State) (d : DieId) (x : Send) : State :=
  if s.queueStopped x.dst then s.unclaim d x.src x.dst else s.deliver d x

/-- A producer that counts credits begins to wait. -/
def State.await (s : State) (d : DieId) (x : Send) (reserved : Bool) : State :=
  { s with waiters := s.waiters ++ [⟨d, x, s.now, s.clk.cycle, reserved⟩] }

/-- R251, R253, R255, R257: a producer that counts credits reserves the word of its response, or waits for it,
and then sends, or waits for the credits; a wait that R256 forbids is not made, and nothing is sent. -/
def State.produce (s : State) (d : DieId) (x : Send) : State :=
  match s.claim d x.src x.dst with
  | none => s.await d x false
  | some t =>
    if t.hasCredits d x then t.sendNow d x
    else if mayWait x.src x.dst || travelsInward x.src x.dst then t.await d x (decide (queueClass x.dst = 0))
    else s

/-- R254: a producer that does not count credits sends; its packet goes in where the credits would have
covered it, and a request takes its reservation where there is a word. -/
def State.intrude (s : State) (d : DieId) (x : Send) : State :=
  match s.claim d x.src x.dst with
  | some t => t.sendNow d x
  | none => if s.queueStopped x.dst then s else s.deliver d x

/-- R254: a packet that arrives without the credits to cover it is discarded whole. -/
def State.creditOverrun (s : State) (d : DieId) (q : Nat) : State :=
  let e := s.qcmDie d (decide (queueLevel q < 4))
  ((s.addSat (QCM_CREDIT_OVERRUNS.count e) 1).lastDrop e q 4).raise
    (QCM_INT_STATUS.credit_overrun e)

/-- R244: a packet has 1 to 64 words. -/
def packetOk (w : List (BitVec 64)) : Bool := decide (1 ≤ w.length ∧ w.length ≤ 64)

/-- QUEUE_PACKET_SEND (R51, R251, R253, R254, R255): a producer that counts credits sends or waits; the packet
of one that does not overruns where the credits do not cover it.  Between queues of two planes there is no
path. -/
def execQueuePacketSend (d : DieId) (x : Send) (s : State) : Host.Outcome State Fault Refusal :=
  if packetOk x.words = false ∨ samePlane x.src x.dst = false then .next s
  else if x.counts then .next (s.produce d x)
  else if s.hasCredits d x then .next (s.intrude d x)
  else .next (s.creditOverrun d x.dst)

/-- R247: the ring whose packet the consumer takes next. -/
def Queue.nextRing (q : Queue) : Option Nat :=
  match q.reading with
  | some r => some r
  | none => [0, 1, 2, 3].find? fun r => decide ((q.ring r).packets ≠ [])

/-- The consumer reads one word: the queue after it, and whether it was a packet's last. -/
def Queue.readWord (q : Queue) (size : Nat) : Queue × Bool :=
  match q.nextRing with
  | none => (q, false)
  | some r =>
    let x := q.ring r
    match x.packets with
    | [] => (q, false)
    | (w, kd) :: rest =>
      let x := { x with rd := (x.rd + 1) % (2 * size), debited := x.debited - 1 }
      if x.taken + 1 < w.length then
        ({ q with reading := some r }.setRing r
          { x with taken := x.taken + 1, packets := (w, kd) :: rest }, false)
      else ({ q with reading := none }.setRing r { x with taken := 0, packets := rest }, true)

/-- One waiter gets what it can: the reservation of its response, and then its credits; a waiter that holds
both sends. -/
def State.serveOne (s : State) (w : Waiter) : State :=
  match (if w.reserved then some s else s.claim w.die w.item.src w.item.dst) with
  | none => s
  | some t =>
    if t.hasCredits w.die w.item then
      { t with waiters := t.waiters.erase w }.sendNow w.die w.item
    else if w.reserved ∨ queueClass w.item.dst ≠ 0 then s
    else { t with waiters := t.waiters.map fun v => if v = w then { w with reserved := true } else v }

/-- Waiters that now hold what they need send, the oldest first. -/
def State.serveWaiters (s : State) (ws : List Waiter) : State := ws.foldl State.serveOne s

def State.serve (s : State) : State := s.serveWaiters s.waiters

/-! ## Flush (R248, R282) -/

/-- The words of the whole packets that wait in a ring. -/
def Ring.words (x : Ring) : Nat := (x.packets.map fun p => p.1.length).foldl (· + ·) 0

/-- R248 on one ring at a packet boundary of its consumer: the whole packets are discarded, the read pointer
passes them and their credits return; the packet being written goes at its end mark. -/
def Ring.flush (x : Ring) (size : Nat) : Ring :=
  { x with packets := [], rd := (x.rd + x.words) % (2 * size), debited := x.debited - x.words,
           drop := decide (x.writing ≠ []) }

/-- The words, and the packets, that wait whole in a queue. -/
def Queue.words (q : Queue) : Nat := q.rings.foldl (fun a x => a + x.2.words) 0
def Queue.whole (q : Queue) : Nat := q.rings.foldl (fun a x => a + x.2.packets.length) 0

/-- R248: the flush of a queue of which no packet is being read; discarded responses release their
reservations. -/
def Queue.flush (q : Queue) (size : Nat) (response : Bool) : Queue :=
  { q with rings := (q.rings.map fun x => (x.1, x.2.flush size)).filter fun x => decide (x.2 ≠ Ring.empty)
           reserved := if response then q.reserved - q.whole else q.reserved
           flushing := false }

/-- R267, R249: a queue is emptied: what waits in it is discarded, a transfer into it rewinds, and all its
credits return. -/
def Ring.drain (x : Ring) (size : Nat) : Ring :=
  let wr := (x.wr + 2 * size - x.writing.length) % (2 * size)
  { Ring.empty with wr := wr, rd := wr }

def Queue.drain (q : Queue) (size : Nat) (response : Bool) : Queue :=
  { q with rings := (q.rings.map fun x => (x.1, x.2.drain size)).filter fun x => decide (x.2 ≠ Ring.empty)
           reading := none
           reserved := if response then q.reserved - q.whole else q.reserved
           flushing := false }

/-- Words discarded by a flush are counted. -/
def State.flushCount (s : State) (d : DieId) (q n : Nat) : State :=
  if n = 0 then s
  else
    let e := s.qcmDie d (decide (queueLevel q < 4))
    ((s.addSat (QCM_FLUSH_DISCARDS.count e) n).lastDrop e q 3).raise
      (QCM_INT_STATUS.flush_discard e)

/-- R248: a flush of a queue takes effect at the next packet boundary of its consumer: at once, or when the
packet that is being read has been read to its end mark. -/
def State.flushQueue (s : State) (d : DieId) (q : Nat) : State :=
  let k := queueKey d q
  let x := s.queue k
  if x.reading.isSome then s.setQueue k { x with flushing := true }
  else ((s.setQueue k (x.flush (queueSize q) (decide (queueClass q = 2)))).flushCount d q x.words).serve

/-- CREDIT_RETURN (R251, R252, R253): the consumer reads the next word of a queue; its credit
returns on the sideband, a response's reservation is released with its last word, and producers
that waited for the credit send.  A flush that waited for the end of the packet takes effect (R248). -/
def execCreditReturn (d : DieId) (q : Fin 65536) (s : State) : Host.Outcome State Fault Refusal :=
  let k := queueKey d q
  let (x, last) := (s.queue k).readWord (queueSize q)
  let s := s.setQueue k x
  let s := if last ∧ queueClass q = 2 then s.unreserve k else s
  .next (if last ∧ x.flushing then s.flushQueue d q else s.serve)

/-- R248, R282: a write of QCM_Q_FLUSH.go through the space of die `d`: permitted for management-plane
queues, else only in offline mode; a violation's kind where it is not. -/
def State.flushTake (s : State) (d : DieId) : Except Nat State :=
  let q := s.get (QCM_Q_SEL.queue d)
  if queuePlane q ≠ 2 ∧ ¬ s.flag (TST_MODE.offline d) then .error vkRule
  else if 4 ≤ queueLevel q ∧ s.holder ≠ some d then .error vkSpace
  else if queueNamed q then .ok (s.flushQueue d q)
  else .ok s

/-- A write as it ends: its effect, or the violation it is. -/
def State.wrote (s : State) (a : Access) (r : Except Nat State) : State :=
  match r with
  | .ok t => t
  | .error k => s.violate a k

/-- A write to a die register through the die's own space. -/
def dieWrite (p : Port) (d : DieId) (off : Nat) : Access :=
  { port := p, addr := d.space + off, target := d.space + off, write := true, alias_ := false }

/-- QUEUE_FLUSH (R248, R282). -/
def execQueueFlush (p : Port) (d : DieId) (s : State) : Host.Outcome State Fault Refusal :=
  let a := dieWrite p d 0x30114
  .next (s.access a fun s => s.wrote a (s.flushTake d))

/-! ## The timeout ladder (R44, R259, R260) -/

/-- R259: the bounds of each level. -/
def tmoMin : Nat → Nat
  | 0 => 250 | 1 => 1000 | 2 => 4000 | 3 => 16000 | 4 => 1 | _ => 4
def tmoMax : Nat → Nat
  | 0 => 2000 | 1 => 8000 | 2 => 32000 | 3 => 128000 | 4 => 4 | _ => 1024
def tmoDefault : Nat → Nat
  | 0 => 1000 | 1 => 4000 | 2 => 16000 | 3 => 64000 | 4 => 1 | _ => 64

def tmoFld (d : DieId) : Nat → Fld
  | 0 => QCM_TMO_UNIT.ns d
  | 1 => QCM_TMO_CLUSTER.ns d
  | 2 => QCM_TMO_REGION.ns d
  | 3 => QCM_TMO_DIE.ns d
  | 4 => QCM_TMO_MODULE.cycles d
  | _ => QCM_TMO_COMPANY.cycles d

/-- The value a level will have: the last accepted write of the cycle, else the one in force. -/
def State.tmoNext (s : State) (d : DieId) (level : Nat) : Nat :=
  match (s.tmoPending.filter fun x => decide (x.1 = level)).getLast? with
  | some x => x.2
  | none => s.get (tmoFld d level)

/-- R44: each configured timeout is at least four times the one below; the step from the die (ns) to
the module (cycles) always holds (R259). -/
def State.tmoRatioOk (s : State) (d : DieId) (level v : Nat) : Bool :=
  let t := fun (l : Nat) => if l = level then v else s.tmoNext d l
  decide (4 * t 0 ≤ t 1 ∧ 4 * t 1 ≤ t 2 ∧ 4 * t 2 ≤ t 3 ∧ 4 * t 4 ≤ t 5)

/-- The offset of a level's timeout register. -/
def tmoOffset (level : Nat) : Nat := 0x30010 + 4 * level

/-- R260: a timeout write through the space of the die that holds the stage; a violation's kind where a
check fails. -/
def State.timeoutTake (s : State) (d : DieId) (level w : Nat) : Except Nat State :=
  let v := w % (tmoFld d level).size
  if v < tmoMin level ∨ tmoMax level < v then .error vkRange
  else if s.tmoRatioOk d level v then
    .ok ({ s with tmoPending := s.tmoPending ++ [(level, v)] }.journalMgmt
      { target := 2, code := tmoOffset level, sub := 0, ptr := 0, value := leBytes 4 v, who := none })
  else .error vkRule

/-- TIMEOUT_WRITE (R260): through space 0b00 (`space` none), or a die's own space, which is a
violation. -/
def execTimeoutWrite (p : Port) (space : Option DieId) (level : Fin 6) (w : Word) (s : State) :
    Host.Outcome State Fault Refusal :=
  match space, s.holder with
  | some d, _ =>
    let a := dieWrite p d (tmoOffset level)
    .next (s.access a fun s => s.violate a vkSpace)
  | none, some d =>
    let a := { dieWrite p d (tmoOffset level) with addr := tmoOffset level }
    .next (s.access a fun s => s.wrote a (s.timeoutTake d level w.toNat))
  | none, none => .next s

/-- The key of a register saved in a die's own stack. -/
def saveKey (f : Fld) : Nat := f.addr % 2 ^ 30 * 8 + f.lo

/-- A "load" register of a die is written and saved to its stack. -/
def State.setSaved (s : State) (d : DieId) (f : Fld) (v : Nat) : State :=
  let die := s.die d
  (s.setDie d { die with saves := Tbl.put 0 die.saves (saveKey f) (v % f.size + 1) }).set f v

/-- R260: at the next boundary both dies apply and save the accepted timeouts. -/
def State.applyTimeouts (s : State) : State :=
  let one := fun (s : State) (x : Nat × Nat) =>
    (s.setSaved .a (tmoFld .a x.1) x.2).setSaved .b (tmoFld .b x.1) x.2
  { s.tmoPending.foldl one s with tmoPending := [] }

/-! ## Arbiters (R270-R277) -/

/-- Kinds of arbiter. -/
inductive ArbKind where
  | small
  | large
  | never
  deriving DecidableEq, Repr

/-- R276: the kind, default weights, hold limit and margin of an arbiter; none where no arbiter has
the index. -/
def arbRow (a : Nat) : Option (ArbKind × List Nat × Nat × Nat) :=
  if a ≤ 31 then some (.small, [24, 24, 24, 24, 24, 24, 24, 24, 24, 40], 64, 32)
  else if a ≤ 35 then some (.never, [24, 24, 24, 24, 24, 24, 24, 24, 32, 32], 64, 0)
  else if a ≤ 39 then some (.large, [128, 64, 32, 32], 128, 0)
  else if a = 40 then some (.large, [144, 16, 64, 32], 128, 0)
  else if 64 ≤ a ∧ a ≤ 69 then some (.never, [128, 64, 64], 256, 0)
  else if 72 ≤ a ∧ a ≤ 87 then some (.small, [192, 64], 512, 64)
  else none

/-- An arbiter at its defaults. -/
def arbReset (row : ArbKind × List Nat × Nat × Nat) : Arb :=
  let w := row.2.1
  { window := 0x100, margin := row.2.2.2, weights := w, limits := w.map fun _ => row.2.2.1,
    counters := w.map fun _ => 0, grants := w.map fun _ => 0, masked := 0, flags := 0, cutoffs := 0,
    preempts := 0, holder := none, waits := [] }

/-- R277: arbiters up to 40 belong to the die, those from 64 to the Apron. -/
def arbKey (d : DieId) (a : Nat) : Nat := (if a ≤ 40 then d.num else 2) * 256 + a

/-- An arbiter of the module and its row. -/
def State.arb (s : State) (d : DieId) (a : Nat) : Option ((ArbKind × List Nat × Nat × Nat) × Arb) :=
  (arbRow a).map fun row => (row, (Tbl.get none s.arbs (arbKey d a)).getD (arbReset row))

def State.setArb (s : State) (d : DieId) (a : Nat) (x : Arb) : State :=
  { s with arbs := Tbl.put none s.arbs (arbKey d a) (some x) }

/-- R270: the holder keeps its grant for a number of clocks, and its counter is debited. -/
def Arb.run (x : Arb) (clocks : Nat) : Arb :=
  match x.holder with
  | none => x
  | some g =>
    let cs := match g.req with
      | some i => x.counters.set i (max (-(2 ^ 23 : Int)) (x.counters.getD i 0 - clocks))
      | none => x.counters
    { x with counters := cs, holder := some { g with held := g.held + clocks } }

/-- R270: the requester with a pending request and the highest counter; the lowest index among
equals; none when nobody requests. -/
def Arb.pickFrom (x : Arb) (requests : Nat) : List Nat → Option Nat → Option Nat
  | [], best => best
  | i :: rest, best =>
    if bitOf requests i = 1 ∧ bitOf x.masked i = 0 then
      match best with
      | none => x.pickFrom requests rest (some i)
      | some b =>
        x.pickFrom requests rest (if x.counters.getD b 0 < x.counters.getD i 0 then some i else some b)
    else x.pickFrom requests rest best

def Arb.pick (x : Arb) (requests : Nat) : Option Nat :=
  x.pickFrom requests (List.range x.weights.length) none

/-- R249: a ring without the packet that is being written: the write pointer returns to its first word, and
its credits return. -/
def Ring.rewind (x : Ring) (size : Nat) : Ring :=
  { x with wr := (x.wr + 2 * size - x.writing.length) % (2 * size),
           debited := x.debited - x.writing.length, writing := [], drop := false }

/-- R249: the transfer of a grant is abandoned: the queue rewinds, and the credits and the reservation
return. -/
def State.rewind (s : State) (g : Grant) : State :=
  match g.xfer with
  | none => s
  | some f =>
    let q := s.queue f.key
    let s := s.setQueue f.key (q.setRing f.ring ((q.ring f.ring).rewind (queueSize (f.key % 65536))))
    (match f.resv with
    | some k => s.unreserve k
    | none => s).serve

/-- The transfer of a grant reaches its end mark: the packet waits whole, or is discarded where a
flush has asked for it (R246, R248). -/
def State.finish (s : State) (d : DieId) (g : Grant) : State :=
  match g.xfer with
  | none => s
  | some f =>
    let q := s.queue f.key
    let x := q.ring f.ring
    if x.drop then (s.rewind g).flushCount d (f.key % 65536) f.words.length
    else s.setQueue f.key
      (q.setRing f.ring { x with writing := [], packets := x.packets ++ [(f.words, f.kind)] })

/-- A granted transfer begins: a request reserves the word of its response (R253), its credits are debited
and its words written, without an end mark; without the credits it is an overrun.  Nothing is transferred
between queues of two planes (R51), or without the reservation. -/
def State.begin (s : State) (d : DieId) (t : Transfer) : State × Option Xfer :=
  let key := queueKey d t.dst
  let r := if Config.queuePrio t.dst then t.ring.val else 0
  let size := queueSize t.dst
  if packetOk t.words = false ∨ samePlane t.src t.dst = false ∨ s.queueStopped t.dst = true then (s, none)
  else if ((s.queue key).ring r).credits size < t.words.length then (s.creditOverrun d t.dst, none)
  else
    match s.claim d t.src t.dst with
    | none => (s, none)
    | some s =>
      let q := s.queue key
      let x := q.ring r
      let x := { x with wr := (x.wr + t.words.length) % (2 * size),
                        debited := x.debited + t.words.length, writing := t.words }
      let resv := if queueClass t.dst = 0 then some (queueKey d (responseQueue t.src)) else none
      (s.setQueue key ((q.setRing r x).mark size), some ⟨key, r, t.words, t.kind, resv⟩)

/-! ## The emergency requesters (R273) -/

/-- 12 h and 1.5 h in ticks. -/
def scrubPeriod : Nat := 43200 * 25000000
def scrubGrace : Nat := 5400 * 25000000

/-- R136, R273: the scrub pass of a bank has fallen behind its period of 12 h by more than 1.5 h; a bank has
2^21 code words. -/
def State.scrubBehind (s : State) (d : DieId) (bank : Nat) : Bool :=
  let die := s.die d
  let from_ := (Tbl.get 0 die.scrubFrom bank) - 1
  decide (Tbl.get 0 die.scrubDone bank * scrubPeriod + scrubGrace * 2 ^ 21 < (s.now - from_) * 2 ^ 21)

/-- R273: the emergency requester of a large arbiter may raise its request: the scrub-and-retire engine of a
bank port, or the debug port of the Falsia link, which is live only as R691 says. -/
def State.emergencyOk (s : State) (d : DieId) (a : Nat) : Bool :=
  if 36 ≤ a ∧ a ≤ 39 then Tbl.get false (s.die d).retireWaits (a - 36) || s.scrubBehind d (a - 36)
  else decide (a = 40) && s.flag (TST_MODE.debug d)

/-- A row retirement that waited for its bank port has had its grant. -/
def State.retireDone (s : State) (d : DieId) (a : Nat) (g : Grant) : State :=
  if 36 ≤ a ∧ a ≤ 39 ∧ g.req = none then
    let die := s.die d
    s.setDie d { die with retireWaits := Tbl.put false die.retireWaits (a - 36) false }
  else s

/-! ## Grants -/

/-- R255, R261: a grant point without an emergency passes over every requester with a pending request that it
does not pick: each waits since the first point at which it was passed over (log entry 114). -/
def Arb.passOver (x : Arb) (requests : Nat) (won : Option Nat) (now cycle : Nat) : Arb :=
  let waits := fun (i : Nat) => decide (bitOf requests i = 1 ∧ some i ≠ won)
  let old := x.waits.filter fun w => waits w.1
  let new := (List.range x.weights.length).filter fun i =>
    waits i && !(old.any fun w => decide (w.1 = i))
  { x with waits := old ++ new.map fun i => (i, now, cycle) }

/-- R270, R273: a grant point: the pick among the pending requests, or the emergency requester of a
large arbiter. -/
def State.grantPoint (s : State) (d : DieId) (a : Nat) (requests : Nat) (emergency : Bool)
    (t : Option Transfer) : State :=
  match s.arb d a with
  | none => s
  | some (row, x) =>
    let urgent := emergency && decide (row.1 = .large) && s.emergencyOk d a
    let req : Option (Option Nat) := if urgent then some none else (x.pick requests).map some
    let x := if urgent then x else x.passOver requests (req.getD none) s.now s.clk.cycle
    match req with
    | none => s.setArb d a { x with holder := none }
    | some r =>
      let (s, f) := match t with
        | some t => s.begin d t
        | none => (s, none)
      let gs := match r with
        | some i => x.grants.set i ((x.grants.getD i 0 + 1) % 2 ^ 32)
        | none => x.grants
      s.setArb d a { x with grants := gs, holder := some { req := r, held := 0, xfer := f } }

/-- ARB_GRANT (R270, R271): the grant in force has reached the end mark of its packet after
`clocks` arbiter clocks, and the arbiter picks among the pending requests. -/
def execArbGrant (d : DieId) (a : Fin 256) (clocks requests : Nat) (emergency : Bool)
    (t : Option Transfer) (s : State) : Host.Outcome State Fault Refusal :=
  match s.arb d a with
  | none => .next s
  | some (_, x) =>
    let x := x.run clocks
    let s := match x.holder with
      | some g => (s.finish d g).retireDone d a g
      | none => s
    .next ((s.setArb d a { x with holder := none }).grantPoint d a requests emergency t)

/-- ARB_WINDOW_BOUNDARY (R270, R271): every counter becomes its weight and the masks clear. -/
def execArbWindowBoundary (d : DieId) (a : Fin 256) (clocks : Nat) (s : State) :
    Host.Outcome State Fault Refusal :=
  match s.arb d a with
  | none => .next s
  | some (_, x) =>
    let x := x.run clocks
    .next (s.setArb d a { x with counters := x.weights.map Int.ofNat, masked := 0 })

/-- The grant in force is taken back (R272, R273). -/
def State.takeBack (s : State) (d : DieId) (a : Nat) (x : Arb) : State :=
  match x.holder with
  | none => s.setArb d a x
  | some g =>
    (s.rewind g).setArb d a { x with holder := none, preempts := min (x.preempts + 1) (2 ^ 32 - 1) }

/-- ARB_PREEMPT (R272): a small arbiter takes the grant back when requester `j`, which has a pending request,
leads the holder by the margin. -/
def execArbPreempt (d : DieId) (a : Fin 256) (clocks : Nat) (j : Fin 16) (s : State) :
    Host.Outcome State Fault Refusal :=
  match s.arb d a with
  | none => .next s
  | some (row, x) =>
    let x := x.run clocks
    match x.holder with
    | some { req := some i, .. } =>
      if row.1 = .small ∧ i ≠ j.val ∧ j.val < x.weights.length ∧
          x.counters.getD i 0 + x.margin ≤ x.counters.getD j 0 then .next (s.takeBack d a x)
      else .next (s.setArb d a x)
    | _ => .next (s.setArb d a x)

/-- ARB_EMERGENCY (R273): the emergency requester of a large arbiter preempts at once. -/
def execArbEmergency (d : DieId) (a : Fin 256) (clocks : Nat) (t : Option Transfer) (s : State) :
    Host.Outcome State Fault Refusal :=
  match s.arb d a with
  | none => .next s
  | some (row, x) =>
    let x := x.run clocks
    if row.1 = .large ∧ s.emergencyOk d a then
      match x.holder with
      | some { req := none, .. } => .next (s.setArb d a x)
      | _ => .next ((s.takeBack d a x).grantPoint d a 0 true t)
    else .next (s.setArb d a x)

/-- R275: the requesters of R276 that a privileged request comes through (log entry 115): the journal of the
Falsia link; the control plane of a bank port or an Apron arbiter; any requester of a bank port once a power
failure or a restart has begun. -/
def State.privileged (s : State) (who : Privileged) (a i : Nat) : Bool :=
  match who with
  | .journalCommit => decide (a = 40 ∧ i = 0)
  | .emergencyCue => decide (36 ≤ a ∧ a ≠ 40 ∧ i = 0)
  | .powerFailSave => decide (36 ≤ a ∧ a ≤ 39) && s.shed

/-- ARB_WITHDRAW (R275): a privileged requester that holds the grant withdraws; it is counted, and
after one idle clock the arbiter picks again.  No other requester may. -/
def execArbWithdraw (d : DieId) (a : Fin 256) (clocks : Nat) (who : Privileged) (requests : Nat)
    (emergency : Bool) (t : Option Transfer) (s : State) : Host.Outcome State Fault Refusal :=
  match s.arb d a with
  | none => .next s
  | some (_, x) =>
    let x := x.run clocks
    match x.holder with
    | some { req := some i, held := h, xfer := f } =>
      if s.privileged who a i = false then .next (s.setArb d a x)
      else
        let s := (s.rewind { req := some i, held := h, xfer := f }).setArb d a { x with holder := none }
        let s := s.addSat (QCM_WITHDRAWALS.count (s.qcmDie d (decide (a.val ≤ 40)))) 1
        .next (s.grantPoint d a requests emergency t)
    | _ => .next (s.setArb d a x)

/-- R276: the condition on the Falsia link's weights: the journal has at least 144/256 of the window,
and the others fit beside it. -/
def falsiaOk (window : Nat) (w : List Nat) : Bool :=
  decide (144 * window ≤ 256 * w.getD 0 0 ∧ w.getD 1 0 + w.getD 2 0 + w.getD 3 0 + w.getD 0 0 ≤ window)

/-- R276, R277, R283: a write of QCM_ARB_CFG or QCM_ARB_REQ of the selected arbiter; a violation
kind where it is refused. -/
def State.arbWrite (s : State) (d : DieId) (cfg : Bool) (w : Nat) : Except Nat State :=
  let a := s.get (QCM_ARB_SEL.arb d)
  let r := s.get (QCM_ARB_SEL.req d)
  match s.arb d a with
  | none => .error vkRule
  | some (row, x) =>
    if 40 < a ∧ s.holder ≠ some d then .error vkSpace
    else
      let y := if cfg then
          { x with window := w % 2 ^ 13, margin := if row.1 = .small then w / 2 ^ 16 % 256 else x.margin }
        else { x with weights := x.weights.set r (w % 2 ^ 16), limits := x.limits.set r (w / 2 ^ 16) }
      if cfg = false ∧ x.weights.length ≤ r then .error vkRule
      else if cfg ∧ (y.window < 64 ∨ 4096 < y.window) then .error vkRange
      else if cfg = false ∧ (4096 < y.weights.getD r 0 ∨ y.limits.getD r 0 < 16) then .error vkRange
      else if a = 40 ∧ falsiaOk y.window y.weights = false then .error vkRule
      else .ok (s.setArb d a y)

/-- R265: a unit timeout or a cut-off of a unit joins the count of the last 1,024 cycles; the answer
says that the count reaches the limit. -/
def State.unitStrike (s : State) (d : DieId) (phys : Nat) : State × Bool :=
  let n := s.clk.cycle
  let key := d.num * 512 + phys
  let l := n :: (Tbl.get [] s.unitTmo key).filter fun c => decide (n < c + 1024)
  let hit := decide (s.get (QCM_CTRL.unit_tmo_limit d) ≤ l.length)
  let s := { s with unitTmo := Tbl.put [] s.unitTmo key (if hit then [] else l) }
  (s.raiseIf hit (QCM_INT_STATUS.unit_limit d), hit)

/-- R271: a requester is cut off. -/
def State.cutOff (s : State) (d : DieId) (a : Nat) (x : Arb) (g : Grant) (i : Nat) : State :=
  let e := s.qcmDie d (decide (a ≤ 40))
  let s := (s.rewind g).setArb d a
    { x with holder := none, masked := setBit x.masked i, flags := setBit x.flags i,
             cutoffs := min (x.cutoffs + 1) 0xFFFF }
  let s := match g.xfer with
    | some f => s.lastDrop e (f.key % 65536) 5
    | none => s
  (s.raise (QCM_INT_STATUS.cutoff e)).post .control (cbSource (originDie e) cbQCM 0) (unnamed 249) []

end Sys2Proof.Machine
end

