-- ==== Sys2Proof/Machine/Nodes.lean ====
section
/-! DEFINITION. What the two node transports share: the node table, frame security, payloads, grants,
the waiting updates, reports and joins (R295-R328, R348-R358). -/

namespace Sys2Proof.Machine

def State.node (s : State) (n : Nat) : Node := Tbl.get Node.unknown s.nodes n
def State.setNode (s : State) (n : Nat) (v : Node) : State :=
  { s with nodes := Tbl.put Node.unknown s.nodes n v }
def State.radio (s : State) (r : Nat) : RadioState := Tbl.get RadioState.empty s.radios r
def State.setRadio (s : State) (r : Nat) (v : RadioState) : State :=
  { s with radios := Tbl.put RadioState.empty s.radios r v }
def State.plc (s : State) (p : Nat) : PlcState := Tbl.get PlcState.empty s.plcs p
def State.setPlc (s : State) (p : Nat) (v : PlcState) : State :=
  { s with plcs := Tbl.put PlcState.empty s.plcs p v }

/-- The module's own number, as frames carry it (R303). -/
def State.moduleNumber (s : State) : Nat := s.obj 0x1200 0

/-- The die whose store the Apron resolves bindings against, and that serves requests: the stage
holder, at a start the die chosen for the stage, in offline mode the one that last was (log entry 78). -/
def State.stageDie (s : State) : DieId :=
  s.holder.getD (s.power.chosen.getD (s.tests.server.getD .a))

/-- R292: the superframe of a cycle. -/
def superframe (c : Nat) : Nat := c / 64

/-! ## Check sequences and security -/

/-- One octet through the CRC-16 of IEEE 802.15.4. -/
def crc16Bits : Nat → Nat → Nat
  | 0, c => c
  | k + 1, c => crc16Bits k (if c % 2 = 1 then (c / 2) ^^^ 0x8408 else c / 2)

/-- The FCS of a frame (R287, R348). -/
def fcs16 (b : List Byte) : Nat := b.foldl (fun c x => crc16Bits 8 (c ^^^ x.toNat)) 0

/-- A frame with its FCS, and the check of one. -/
def withFcs (b : List Byte) : List Byte := b ++ leBytes 2 (fcs16 b)
def fcsOk (b : List Byte) : Bool :=
  decide (3 ≤ b.length ∧ leAt b (b.length - 2) 2 = fcs16 (b.take (b.length - 2)))

/-- Octets most significant first. -/
def beBytes (n v : Nat) : List Byte := (leBytes n v).reverse
def beNat (b : List Byte) : Nat := leNat b.reverse

/-- R305: the nonce under a join key names the node's EUI-64; otherwise the module number, the
sender's address or 0, and whether the sender is the module. -/
def joinNonce (eui counter : Nat) : List Byte := leBytes 8 eui ++ beBytes 4 counter ++ leBytes 1 5
def segNonce (module_ sender counter : Nat) : List Byte :=
  leBytes 2 module_ ++ leBytes 2 sender ++ leBytes 1 (if sender = 0 then 1 else 0) ++ leBytes 3 0 ++
    beBytes 4 counter ++ leBytes 1 5

/-- The octets of a key label. -/
def label (t : String) : List Byte := t.toList.map fun c => BitVec.ofNat 8 c.toNat

/-- The value of a key slot as unsealed; empty where it holds none.  Slots 0 to 2 are fixed (R615). -/
def State.keyValue (s : State) (slot : Nat) : List Byte :=
  if slot ≤ 2 then Config.factoryKey slot else (Tbl.get KeySlot.empty s.keys.slots slot).value

/-- R621: the slots whose keys a die's key engine holds working copies of. -/
def workSlots : List Nat := [5, 6, 7, 8, 10, 11]

/-- R28, R617: what the ghost light holds of a slot reaches the key engine of a die that has booted over the
relay: its working copy, or the erasure of it. -/
def State.relayKey (s : State) (c : Nat) (d : DieId) : State :=
  if workSlots.contains c ∧ s.power.booted.getD d.num false = true then
    let die := s.die d
    s.setDie d { die with
      workKeys := Tbl.put [] die.workKeys c (Tbl.get KeySlot.empty s.keys.slots c).value }
  else s

/-- R28: a die's key engine asks for its working keys, at its boot. -/
def State.relayKeys (s : State) (d : DieId) : State := workSlots.foldl (fun s c => s.relayKey c d) s

/-- R28, R621: the stage holder's working copy of a slot's key; empty where it holds none. -/
def State.workKey (s : State) (c : Nat) : List Byte := Tbl.get [] (s.die s.stageDie).workKeys c

/-- R618: the keys of a node; there is none where the key it derives from is absent. -/
def State.joinKey (s : State) (eui : Nat) : List Byte :=
  if s.keyValue 3 = [] then [] else hkdf384 (s.keyValue 3) (beBytes 8 eui) (label "zuine join") 16
def State.nodeKey (s : State) (eui addr : Nat) : List Byte :=
  if s.keyValue 9 = [] then [] else hkdf384 (s.keyValue 9) (beBytes 8 eui) (label "zuine node" ++ leBytes 2 addr) 16

/-- R631: a segment key change whose new key is not yet in use. -/
def State.keyWaits (s : State) : Bool := s.segUse.isSome && !s.segNew

/-- R631: the segment key the module sends under, and its generation. -/
def State.segmentKey (s : State) : List Byte := if s.keyWaits then s.link.previous else s.link.current
def State.segmentGen (s : State) : Nat := if s.keyWaits then s.link.previousGen else s.link.currentGen

/-- The module's next frame counter; every 4,096 uses it is saved (R307). -/
def State.nextCounter (s : State) : State :=
  let c := s.frameCounter + 1
  { s with frameCounter := c,
           counterSaved := if s.counterSaved + 4096 ≤ c then c else s.counterSaved }

/-- The key a frame of the module to the neighbour `hop` is sent under: node 0, segment 1, join 2 (R303, R306):
every hop has its own, so a frame to a relay goes under the relay's node key. -/
def State.txKey (s : State) (x : TxItem) (hop : Nat) : List Byte :=
  if x.key = 0 then Tbl.get [] s.link.nodes hop
  else if x.key = 1 then s.segmentKey
  else s.joinKey x.eui

/-- Seals a frame of the module: the header through its counter, the payload and its MIC, the
FCS. -/
def State.sealFrame (s : State) (x : TxItem) (key head payload : List Byte) : List Byte :=
  let c := s.frameCounter % 2 ^ 32
  let auth := head ++ leBytes 4 c
  let nonce := if x.key = 2 then joinNonce x.eui c else segNonce s.moduleNumber 0 c
  withFcs (auth ++ ccmSeal key nonce auth payload)

/-- R305, R307, R631: a received frame opened under a key, the new segment generation first. -/
def State.openFrame (s : State) (keyCode sender eui counter : Nat) (auth sealed : List Byte) :
    Option (List Byte) :=
  if keyCode = 0 then
    ccmOpen (Tbl.get [] s.link.nodes sender) (segNonce s.moduleNumber sender counter) auth
      sealed
  else if keyCode = 1 then
    match ccmOpen s.link.current (segNonce s.moduleNumber sender counter) auth sealed with
    | some p => some p
    | none =>
      if s.link.previous = [] then none
      else ccmOpen s.link.previous (segNonce s.moduleNumber sender counter) auth sealed
  else ccmOpen (s.joinKey eui) (joinNonce eui counter) auth sealed

/-- R307, R631: which of a sender's counters holds for a frame: by its key, 3 where only the previous segment key
opens it. -/
def State.counterOf (s : State) (keyCode sender counter : Nat) (auth sealed : List Byte) : Nat :=
  if keyCode = 1 ∧ (ccmOpen s.link.current (segNonce s.moduleNumber sender counter) auth sealed).isNone then 3
  else keyCode

/-! ## Capacity (R294, R295, R338) -/

/-- R295: the capacity frequency in 0.1 Hz. -/
def State.capacity (s : State) (r : Nat) : Nat :=
  min 660 ((if s.flag CYC_CTRL.nominal_60 then 600 else 500) + s.get (RAD_CAP.margin r))

/-- A time of `us` µs fits in `slots` eighths of a cycle at the capacity frequency. -/
def fitsCapacity (us slots f10 : Nat) : Bool := decide (us * f10 * 8 ≤ 10000000 * slots)

/-- The same at the measured period. -/
def State.fitsNow (s : State) (us slots : Nat) : Bool := decide (us * 51200 ≤ s.period * slots)

/-- R299: the fields of a slot entry. -/
def slotKind (w : Nat) : Nat := w / 2 ^ 28
def slotDouble (w : Nat) : Bool := bitOf w 27 = 1

def State.slotEntry (s : State) (r k : Nat) : Nat := Tbl.get 0 (s.radio r).active k

/-- The way down to a node: the next hop first (R312). -/
def State.pathTo (s : State) : Nat → Nat → List Nat
  | 0, _ => []
  | fuel + 1, n =>
    let p := (s.node n).parent
    if p = 0 then [n] else s.pathTo fuel p ++ [n]

/-- R345: the fields of a plan entry. -/
def planKind (w : Nat) : Nat := w / 2 ^ 28
def planRun (w : Nat) : Nat := w / 2 ^ 23 % 32 + 1

def planNode (w : Nat) : Nat := w % 65536

/-- Bits per OFDM symbol. -/
def ofdmBits : Nat → Nat
  | 3 => 12 | 4 => 24 | 5 => 48 | _ => 96

/-- The air time of a PSDU of `len` octets in µs. -/
def airTime (mode preamble len : Nat) : Nat :=
  if mode = 0 then 160 * (preamble + 4 + len)
  else if mode = 1 then 80 * (preamble + 4 + len)
  else if mode = 2 then 40 * (preamble + 4 + len)
  else 1080 + 120 * ((8 * len + 6 + ofdmBits mode - 1) / ofdmBits mode)

def State.air (s : State) (r len : Nat) : Nat :=
  airTime (s.get (RAD_PHY.mode r)) (s.get (RAD_PHY.preamble r)) len

/-- Header time, symbol time (µs) and payload bits per symbol of a band and modulation. -/
def plcTimes (band mod : Nat) : Nat × Nat × Nat :=
  if band = 0 then
    (15115, 695, match mod with | 0 => 4 | 1 => 18 | 2 => 36 | _ => 54)
  else (4811, 232, match mod with | 0 => 9 | 1 => 36 | 2 => 72 | _ => 108)

/-- R338: the reckoned air time of a PSDU in µs. -/
def plcAir (band mod len : Nat) : Nat :=
  let (h, sy, b) := plcTimes band mod
  h + sy * ((8 * (len + 16) + b - 1) / b)

/-- R342: how long a frame holds the line from the start of its window, in µs. -/
def State.plcHold (s : State) (p len : Nat) : Nat :=
  plcAir (s.get (PLC_PHY.band p)) (s.get (PLC_PHY.mod p)) len + 700

/-- R342: the run of a frame at the capacity frequency. -/
def State.plcRun (s : State) (p len : Nat) : Nat :=
  (s.plcHold p len * s.capacity 0 * 4 + 9999999) / 10000000

/-- How long the preamble of a radio lasts, in µs. -/
def State.preambleTime (s : State) (r : Nat) : Nat :=
  if s.get (RAD_PHY.mode r) ≤ 2 then airTime (s.get (RAD_PHY.mode r)) (s.get (RAD_PHY.preamble r)) 0 - airTime (s.get (RAD_PHY.mode r)) 0 0
  else Config.ofdmPreamble

/-- R324: the drift bound of a sleepy node in µs: the value set for it, or its declared drift over B superframes
and 32 µs; the rounding is open. -/
def State.driftBound (s : State) (nd : Node) : Nat :=
  let d := leAt nd.sleep 3 2
  if d ≠ 0 then d else openQuotN 324 (nd.drift * leAt nd.sleep 1 1 * s.period) 100000000 + 32

/-- R323: the node's wake period in slots. -/
def Node.wake (nd : Node) : Nat := max 1 (leAt nd.sleep 0 1)

/-- R324, R325: by how much the preamble to a sleepy node is lengthened, in µs: it lasts 250 µs, or in the long
mode W slots, and twice the drift bound. -/
def State.longer (s : State) (r : Nat) (nd : Node) : Nat :=
  if nd.sleepy then
    let base := if nd.longPre then openQuotN 325 (s.period * nd.wake) 51200 else 250
    base + 2 * s.driftBound nd - s.preambleTime r
  else 0

/-- R294: what a frame needs of its slots, in µs: the guard, its air time with what its preamble is lengthened by,
and its acknowledgement. -/
def State.slotNeed (s : State) (r len : Nat) (ack : Bool) (longer : Nat) : Nat :=
  s.get (RAD_GUARD.guard r) + s.air r len + longer + (if ack then 192 + s.air r 6 else 0)

/-- R295: the slots of a kind that a frame may take: a double slot where the table has one. -/
def State.slotsOf (s : State) (r kind : Nat) : Nat :=
  let es := ((s.radio r).active.map Prod.snd).filter fun e => decide (slotKind e = kind)
  if es = [] ∨ es.any slotDouble then 2 else 1

/-- R295: the octets of the largest payload that a frame to a node can carry, at the capacity frequency: by radio
with its header, counter, MIC and FCS, by powerline with the sync block too (R343, R349). -/
def State.downRoom (s : State) (t n : Nat) : Nat :=
  let fits := (List.range 256).filter fun len =>
    if t < 4 then
      let path := s.pathTo 8 n
      let hop := s.node (path.headD n)
      let fixed := 17 + (if path.length ≤ 1 then 0 else 1 + 2 * (path.length - 1))
      fitsCapacity (s.slotNeed t (fixed + len) true (s.longer t hop))
        (s.slotsOf t (if hop.sleepy then 6 else 3)) (s.capacity t)
    else decide (s.plcRun (t - 4) (28 + len) ≤ 32)
  fits.getLastD 0

/-! ## Reports (R309, R310) -/

/-- The endpoints bound to a node, and those bound to one of its indices. -/
def Die.boundTo (d : Die) (n : Nat) : List Nat :=
  d.actives.filter fun e =>
    decide (bindTransport (d.hotOf e).binding = 1 ∧ bindNode (d.hotOf e).binding = n)
def Die.boundIndex (d : Die) (n i : Nat) : List Nat :=
  (d.boundTo n).filter fun e => decide (bindIndex (d.hotOf e).binding = i)

/-- R120: whether a node is joined, as a data-plane input to the endpoints bound to it. -/
def State.tellBound (s : State) (n : Nat) : State :=
  let v := if (s.node n).joined then 0 else 2 ^ faultUnbound
  let ins := ((s.die s.stageDie).boundTo n).map fun e => DataIn.fault e (2 ^ faultUnbound) v
  if ins = [] then s else { s with inputs := s.inputs ++ [ins] }

/-- R120: an endpoint's binding or kind has changed: the flag of the node it is bound to now. -/
def State.tellBinding (s : State) (d : DieId) (e : Nat) : State :=
  let b := ((s.die d).hotOf e).binding
  if s.holder = some d ∧ bindTransport b = 1 ∧ (s.die d).active e ∧ (s.node (bindNode b)).joined = false then
    { s with inputs := s.inputs ++ [[DataIn.fault e (2 ^ faultUnbound) (2 ^ faultUnbound)]] }
  else s

/-- The fault bits a fault record replaces: 1, 2, 3, 5, 6 and 8. -/
def faultRecordMask : Nat := 0x16E

/-- The 3-octet records of a report payload. -/
def records3 : List Byte → List (Nat × Nat)
  | a :: b :: c :: t => (a.toNat, leNat [b, c]) :: records3 t
  | _ => []

/-- R309: a record is discarded and counted. -/
def State.discardRecord (s : State) (n : Nat) : State :=
  let nd := s.node n
  s.setNode n { nd with discards := nd.discards + 1 }

/-- R309: one record of a report of node `n`: the inputs it makes, and the state after it. -/
def State.reportRecord (n : Nat) (x : State × List DataIn) (rec : Nat × Nat) : State × List DataIn :=
  let (s, ins) := x
  let i := rec.1 % 16
  let d := s.die s.stageDie
  let nd := s.node n
  match rec.1 / 16 with
  | 0 =>
    if d.boundIndex n i = [] then (s.discardRecord n, ins)
    else (s, ins ++ (d.boundIndex n i).map fun e => DataIn.sense e rec.2)
  | 1 =>
    if d.boundIndex n i = [] then (s.discardRecord n, ins)
    else (s, ins ++ (d.boundIndex n i).map fun e => DataIn.fault e faultRecordMask rec.2)
  | 2 =>
    if i = 0 then
      let v := rec.2 % 2 * 2 ^ faultBattery + rec.2 / 2 % 2 * 2 ^ faultTamper
      (s.setNode n { nd with status := rec.2 },
        ins ++ (d.boundTo n).map fun e => DataIn.fault e (2 ^ faultBattery + 2 ^ faultTamper) v)
    else if i = 1 then (s.setNode n { nd with progress := rec.2 }, ins)
    else (s.discardRecord n, ins)
  | 3 => if i = 0 then (s.setNode n { nd with beaconLoss := rec.2 }, ins) else (s.discardRecord n, ins)
  | _ => (s.discardRecord n, ins)

/-- A report of node `n` is accepted: its records and the report itself become one data-plane
input. -/
def State.acceptReport (s : State) (n : Nat) (payload : List Byte) : State :=
  let (s, ins) := (records3 payload).foldl (State.reportRecord n) (s, [])
  let es := (s.die s.stageDie).boundTo n
  { s with inputs := s.inputs ++ [ins ++ [DataIn.report es]] }

/-- A frame of a node is heard: its cycle, and the phase offset its timing gives (R296). -/
def State.heard (s : State) (n : Nat) (o : Option Int) : State :=
  let nd := s.node n
  s.setNode n { nd with lastHeard := s.clk.cycle % 2 ^ 32, offset := nd.offset + o.getD 0 }

/-- R307: the frame's counter is accepted for its sender and key. -/
def Node.counterOk (nd : Node) (key c : Nat) : Bool :=
  match (nd.counters.getD key none) with
  | some l => decide (l < c)
  | none => true
def Node.setCounter (nd : Node) (key c : Nat) : Node :=
  { nd with counters := nd.counters.set key (some c) }

/-! ## Waiting items (R310) -/

/-- The queue of a transport: 0 to 3 the radios, 4 and 5 the powerline ports. -/
def State.txQueue (s : State) (t : Nat) : List TxItem :=
  if t < 4 then (s.radio t).queue else (s.plc (t - 4)).queue
def State.setTxQueue (s : State) (t : Nat) (q : List TxItem) : State :=
  if t < 4 then s.setRadio t { s.radio t with queue := q }
  else s.setPlc (t - 4) { s.plc (t - 4) with queue := q }

/-- A transport is in service. -/
def State.inService (s : State) (t : Nat) : Bool :=
  if t < 4 then s.flag (RAD_CTRL.enable t) else s.flag (PLC_CTRL.enable (t - 4))

/-- R310: an update record waits; it replaces an older one of its endpoint. -/
def State.queueUpdate (s : State) (n idx op value prio : Nat) : State :=
  let nd := s.node n
  if nd.joined ∧ s.inService nd.transport then
    let x : TxItem :=
      { dest := some n, kind := 3, prio, body := leBytes 1 (idx + 16 * op) ++ leBytes 2 value,
        tag := idx, key := if nd.transport < 4 then 0 else 1, eui := 0, copies := 1, retries := 0, seq := none }
    let q := (s.txQueue nd.transport).filter fun y =>
      !decide (y.kind = 3 ∧ y.dest = some n ∧ y.tag = idx)
    s.setTxQueue nd.transport (q ++ [x])
  else s

/-- R236 on one die: a confirmed hold counts for the blacked-out endpoints of the node's index. -/
def Die.holdConfirmed (d : Die) (n idx : Nat) : Die :=
  (d.boundIndex n idx).foldl (fun d e =>
    if bitOf (d.hotOf e).ovrCtrl 2 = 1 ∧ Tbl.get 0 d.cues.blackConf e = 0 then
      { d with cues := { d.cues with blackConf := Tbl.put 0 d.cues.blackConf e 1 } }
    else d) d

/-- R236: node `n` has confirmed an update record; only a hold has an effect here. -/
def State.recordConfirmed (n : Nat) (s : State) (body : List Byte) : State :=
  let b := leAt body 0 1
  if b / 16 = 1 then
    { s with dieA := s.dieA.holdConfirmed n (b % 16), dieB := s.dieB.holdConfirmed n (b % 16) }
  else s

/-- Another frame to a node waits. -/
def State.queueFrame (s : State) (n kind : Nat) (body : List Byte) : State :=
  let nd := s.node n
  s.setTxQueue nd.transport (s.txQueue nd.transport ++
    [{ dest := some n, kind, prio := 3, body, tag := 0, key := 0, eui := 0, copies := 1,
       retries := 0, seq := none }])

/-- A broadcast waits, to be sent `copies` times. -/
def State.queueBroadcast (s : State) (t kind prio : Nat) (body : List Byte) (copies tag : Nat) : State :=
  s.setTxQueue t (s.txQueue t ++
    [{ dest := none, kind, prio, body, tag, key := 1, eui := 0, copies, retries := 0, seq := none }])

/-! ## Node image campaigns (R666) -/

/-- A node image slot of the stage holder's greenroom. -/
def State.nodeSlot (s : State) (n : Nat) : ImageSlot :=
  Tbl.get ImageSlot.empty (s.die s.stageDie).green.nodes n

/-- The body octets of an image, and its blocks of 64. -/
def ImageSlot.length (x : ImageSlot) : Nat := leAt x.header 0x38 4
def ImageSlot.blocks (x : ImageSlot) : Nat := (x.length + 63) / 64
def ImageSlot.block (x : ImageSlot) (k : Nat) : List Byte :=
  (List.range (min 64 (x.length - 64 * k))).map fun i =>
    BitVec.ofNat 8 (Tbl.get 0 x.body (64 * k + i) - 1)

/-- A broadcast opportunity of transport `t`: a campaign that runs puts its next block there when no other
broadcast waits and its share permits it. -/
def State.feedCampaign (s : State) (t : Nat) : State :=
  let c := s.campaign
  if c.on = false then s
  else
    let x := s.nodeSlot c.slot
    let n := Tbl.get 0 c.done t
    let chances := Tbl.get 0 c.chances t + 1
    let busy := (s.txQueue t).any fun y => y.dest.isNone
    let go := !busy && decide (n < c.rounds * x.blocks) && decide ((n + 1) * 100 ≤ c.share * chances)
    let s := { s with campaign := { c with
      chances := Tbl.put 0 c.chances t chances, done := Tbl.put 0 c.done t (n + b2n go),
      sent := c.sent + b2n go } }
    if go then
      let k := n % x.blocks
      s.queueBroadcast t 10 4 (leBytes 1 c.slot ++ leBytes 2 k ++ x.block k) 1 0
    else s

/-! ## Grants (R301, R302) -/

/-- Two grants of one transport and index collide: their remainders agree. -/
def grantsCollide (a b : NodeGrant) : Bool :=
  decide (a.k = b.k ∧ a.r % 2 ^ min a.m b.m = b.r % 2 ^ min a.m b.m)

/-- A grant is in form: m up to 15 and the remainder below 2^m. -/
def grantOk (g : NodeGrant) : Bool := decide (g.m ≤ 15 ∧ g.r < 2 ^ g.m ∧ g.use_ ≤ 3)

/-- The grants of a transport held by other nodes. -/
def State.grantsBut (s : State) (t n : Nat) : List NodeGrant :=
  (s.nodes.filter fun x => decide (x.1 ≠ n ∧ x.2.transport = t) && x.2.joined).flatMap fun x =>
    x.2.grants

/-- The octets of a grant: radio (R308) and powerline (R349). -/
def grantBytes (g : NodeGrant) (plc : Bool) : List Byte :=
  if plc then leBytes 4 (g.k % 256 + g.run % 32 * 2 ^ 8 + g.m * 2 ^ 13 + g.r * 2 ^ 17)
  else leBytes 4 (g.k % 512 + g.use_ * 2 ^ 9 + g.m * 2 ^ 12 + g.r * 2 ^ 16)

/-- R301, R318, R323, R347: who may hold a grant of a use: dedicated down and beacon grants are for relays, which
are awake, rendezvous grants for the awake parents of sleepy nodes; a powerline grant is an up grant. -/
def State.mayUse (s : State) (n t use_ : Nat) : Bool :=
  use_ = 0 || (decide (t < 4) && !(s.node n).sleepy &&
    (decide (use_ ≠ 3) || s.nodes.any fun x => x.2.joined && x.2.sleepy && decide (x.2.parent = n)))

/-- R301: of a list of grants those that the node may hold and that collide with none before them. -/
def State.takeable (s : State) (n t : Nat) (gs : List NodeGrant) : List NodeGrant :=
  let others := s.grantsBut t n
  (gs.foldl (fun acc g =>
    if grantOk g && s.mayUse n t g.use_ && !((others ++ acc).any (grantsCollide g)) then acc ++ [g] else acc) []).take 8

/-- R301: the up slots of a superframe that a list of grants gives, in 2^-15. -/
def upShare (gs : List NodeGrant) : Nat :=
  ((gs.filter fun g => decide (g.use_ = 0)).map fun g => 2 ^ (15 - g.m)).foldl (· + ·) 0

/-- The joined nodes beneath a node. -/
def State.beneathNode (s : State) (n : Nat) : List Nat :=
  ((s.nodes.filter fun x => x.2.joined && decide (x.1 ≠ n) && (s.pathTo 8 x.1).contains n)).map Prod.fst

/-- The shortest report period of the node's endpoints in cycles; 0 where none is supervised. -/
def State.shortestReport (s : State) (n : Nat) : Nat :=
  let d := s.die s.stageDie
  let ps := ((d.boundTo n).map fun e => (d.coldOf e).reportPeriod).filter fun p => decide (0 < p)
  match ps with
  | [] => 0
  | p :: t => t.foldl min p

/-- The largest exponent of a grant that comes at least once in each half of a report period. -/
def periodExp (p : Nat) : Nat := ((List.range 16).filter fun m => decide (128 * 2 ^ m ≤ p)).getLastD 0

/-- R301, R347: the exponent of the up grant that a node still lacks with a list of grants: one in each half of its
shortest report period, and for a relay as many as the nodes beneath it together. -/
def State.lacks (s : State) (n : Nat) (gs : List NodeGrant) : Option Nat :=
  let p := s.shortestReport n
  let m := periodExp p
  let need := ((s.beneathNode n).map fun x => upShare (s.node x).grants).foldl (· + ·) 0
  if 0 < p ∧ ¬ gs.any (fun g => decide (g.use_ = 0 ∧ g.m ≤ m)) then some m
  else if upShare gs < need then
    some (((List.range 16).filter fun m => decide (need - upShare gs ≤ 2 ^ (15 - m))).getLastD 0)
  else none

/-- The first free up grant of an exponent: in the dedicated up slots of a radio, or in the node's report windows of
a powerline plan (log entry 33). -/
def State.freeUp (s : State) (n t m : Nat) (taken : List NodeGrant) : Option NodeGrant :=
  let at_ := fun (k run : Nat) => ((List.range (2 ^ m)).map fun r => (⟨k, 0, m, r, run⟩ : NodeGrant)).find? fun g =>
    !(taken.any (grantsCollide g))
  if t < 4 then
    (((s.radio t).active.filter fun x => decide (slotKind x.2 = 2)).map Prod.fst).findSome? fun k => at_ k 0
  else
    ((s.plc (t - 4)).plan.filter fun x => decide (planKind x.2 = 3 ∧ planNode x.2 = n)).findSome? fun x =>
      at_ x.1 (planRun x.2 - 1)

/-- The scheduler adds up grants to a list until nothing lacks (R301, R347), the list is full or no slot is free. -/
def State.complete (s : State) (n t : Nat) : Nat → List NodeGrant → List NodeGrant
  | 0, gs => gs
  | fuel + 1, gs =>
    match s.lacks n gs with
    | none => gs
    | some m =>
      match s.freeUp n t m (s.grantsBut t n ++ gs) with
      | some g => if gs.length < 8 then s.complete n t fuel (gs ++ [g]) else gs
      | none => gs

/-- A node holds a list of grants of a version from here on; the grant frame waits, of no more grants than it can
carry (R295, R302). -/
def State.setGrants (s : State) (n t version : Nat) (gs : List NodeGrant) : State :=
  let gs := gs.take (min 8 ((s.downRoom t n - 2) / 4))
  let s := s.setNode n { s.node n with transport := t, version := version, grants := gs }
  s.queueFrame n 6 (leBytes 1 version ++ leBytes 1 gs.length ++ gs.flatMap (grantBytes · (decide (4 ≤ t))))

/-- R301: a relay whose up grants no longer suffice for the nodes beneath it is given more. -/
def State.relayGrants (t version : Nat) (s : State) (n : Nat) : State :=
  let nd := s.node n
  let gs := s.complete n t 8 nd.grants
  if gs = nd.grants then s else s.setGrants n t version gs

/-- The scheduler gives a node its grants (R301, R347): of those it has chosen the ones the rules allow, and the up
grants that the node lacks; then its relays theirs. -/
def State.giveGrants (s : State) (n t version : Nat) (gs : List NodeGrant) : State :=
  if (s.node n).joined then
    let s := s.setNode n { s.node n with transport := t }
    let s := s.setGrants n t version (s.complete n t 8 (s.takeable n t gs))
    (s.pathTo 8 n).dropLast.reverse.foldl (State.relayGrants t version) s
  else s

/-! ## Joining (R319, R358) -/

/-- The address of an EUI-64 the module knows. -/
def State.addressOf (s : State) (eui : Nat) : Option Nat :=
  (s.nodes.find? fun x => decide (x.2.eui = eui)).map Prod.fst

/-- The lowest address from 1 that no known node holds (log entry 30). -/
def State.freeAddress (s : State) : Option Nat :=
  (List.range (s.nodes.length + 1)).map (· + 1) |>.find? fun a =>
    decide (a < 65536 ∧ ¬ s.nodes.any fun x => decide (x.1 = a))

/-- A join request (R308). -/
structure JoinReq where
  eui : Nat
  cls : Nat
  endpoints : Nat
  drift : Nat
  modes : Nat
  deriving DecidableEq, Repr

def JoinReq.ofBytes (b : List Byte) : JoinReq :=
  { eui := leAt b 0 8, cls := leAt b 8 1, endpoints := leAt b 9 1, drift := leAt b 10 1,
    modes := leAt b 11 1 }

/-- R358: what waits for a node on a transport it has left is released there. -/
def State.releaseFormer (s : State) (n t : Nat) : State :=
  let s := s.setTxQueue t ((s.txQueue t).filter fun x => !decide (x.dest = some n))
  if t < 4 then s
  else s.setPlc (t - 4) { s.plc (t - 4) with groups := (s.plc (t - 4)).groups.filter fun g => !decide (g.node = n) }

/-- R318: what a join names as parent: the module, or a joined awake node of the transport. -/
def State.parentOk (s : State) (t parent : Nat) : Bool :=
  decide (parent = 0) ||
    ((s.node parent).joined && !(s.node parent).sleepy && decide ((s.node parent).transport = t))

/-- R631: node command 5 of the segment key change in progress. -/
def State.keyCommand (s : State) : List Byte :=
  leBytes 1 5 ++ leBytes 1 s.link.currentGen ++ s.link.current ++ leBytes 6 (s.segUse.getD 0)

/-- R319, R358: the node is given its former address or a new one, its key joins the link table, and its join
response waits: to its parent relay, or by broadcast addressing.  A node that joins during a segment key change is
sent the new key too (R631).  `seq` is the sequence that a request heard directly had; the answer says which address
joined, none where the tree would be too deep or has no such parent (R312, R318). -/
def State.join (s : State) (t parent : Nat) (q : JoinReq) (counter : Nat) (seq : Option Nat) (o : Int) :
    State × Option Nat :=
  match (match s.addressOf q.eui with
    | some a => some a
    | none => s.freeAddress) with
  | none => (s, none)
  | some a =>
    let depth := if parent = 0 then 1 else (s.node parent).depth + 1
    if s.obj 0x500B 0 < depth ∨ s.parentOk t parent = false then (s, none)
    else
      let key := s.nodeKey q.eui a
      let old := s.node a
      let nd : Node :=
        { old with
          eui := q.eui, transport := t, depth := depth, parent := parent, joined := true,
          sleepy := q.cls % 2 = 1, mains := q.cls / 2 % 2 = 1, longPre := false, repeated := false,
          drift := q.drift, modes := q.modes, endpoints := q.endpoints, offset := o,
          lastHeard := s.clk.cycle % 2 ^ 32, grants := [], rxSeq := seq, missRun := 0,
          counters := old.counters.set 2 (some counter) }
      let s := if old.joined && decide (old.transport ≠ t) then s.releaseFormer a old.transport else s
      let s := (s.setNode a nd).tellBound a
      let s := { s with link := { s.link with nodes := Tbl.put [] s.link.nodes a key } }
      let body := leBytes 8 q.eui ++ leBytes 2 a ++ leBytes 2 parent ++
        leBytes 1 (if parent = 0 then 1 else 0) ++ leBytes 2 (pattern 16 o) ++ key ++
        s.segmentKey ++ leBytes 1 s.segmentGen
      let x : TxItem :=
        { dest := if parent = 0 then none else some parent, kind := 9, prio := 3, body, tag := a,
          key := 2, eui := q.eui, copies := 1, retries := 0, seq := none }
      let s := s.setTxQueue t (s.txQueue t ++ [x])
      (if s.keyWaits then s.queueFrame a 11 s.keyCommand else s, some a)

/-! ## Moving nodes between transports (R327, R328, R359, R360) -/

/-- What waits for a node goes with it to another transport, where it has no grants yet. -/
def State.moveNode (s : State) (n t : Nat) : State :=
  let nd := s.node n
  if nd.transport = t then s
  else
    let mine := fun (x : TxItem) => decide (x.dest = some n)
    let moved := (s.txQueue nd.transport).filter mine
    let s := s.setTxQueue nd.transport ((s.txQueue nd.transport).filter fun x => !mine x)
    let s := s.setTxQueue t (s.txQueue t ++ moved.map fun x => { x with seq := none })
    s.setNode n { nd with transport := t, grants := [] }

/-- R311, R318: a node has another parent; by radio it is told with node command 2. -/
def State.newParent (s : State) (n parent : Nat) : State :=
  let nd := s.node n
  let depth := if parent = 0 then 1 else (s.node parent).depth + 1
  if nd.parent = parent ∧ nd.depth = depth then s
  else
    let s := s.setNode n { nd with parent := parent, depth := depth }
    if nd.transport < 4 then
      s.queueFrame n 11 (leBytes 1 2 ++ leBytes 2 parent ++ leBytes 1 (b2n (decide (parent = 0))) ++ leBytes 1 depth)
    else s

/-- A node moves to a transport, toward a parent there; one that may be no parent is replaced by the module. -/
def State.rehome (s : State) (n t parent : Nat) : State :=
  let s := s.moveNode n t
  s.newParent n (if s.parentOk t parent && decide (parent ≠ n) then parent else 0)

/-- The table or plan version of a transport. -/
def State.tableVersion (s : State) (t : Nat) : Nat :=
  if t < 4 then s.get (RAD_STATUS.act_ver t) else s.get (PLC_STATUS.plan_ver (t - 4))

/-- R327, R328, R359, R360: the scheduler moves the nodes of a transport, each with its tree, to the transport that
`pick` gives for the number of its branch, and grants them there. -/
def State.rehomeAll (s : State) (t : Nat) (pick : Nat → Nat) : State :=
  let mine := (s.nodes.filter fun x => x.2.joined && decide (x.2.transport = t)).map Prod.fst
  let roots := mine.filter fun n => decide ((s.node n).parent = 0)
  let moved := mine.map fun n => (n, pick (roots.idxOf ((s.pathTo 8 n).headD n)))
  let s := moved.foldl (fun s x => s.moveNode x.1 x.2) s
  moved.foldl (fun s x => (s.rehome x.1 x.2 (s.node x.1).parent).giveGrants x.1 x.2 (s.tableVersion x.2) []) s

/-- The transports that may take over the nodes of one: the other radios in service, or the other port where the
ports share a line. -/
def State.spread (s : State) (t : Nat) (new : Option Nat) : State :=
  match new with
  | some u => if u = t then s else s.rehomeAll t fun _ => u
  | none =>
    let left := ([0, 1, 2, 3] : List Nat).filter fun r => decide (r ≠ t) && s.inService r
    if left = [] then s else s.rehomeAll t fun i => left.getD (i % left.length) 0

/-- R311, R333, R334: a node is told to leave, and is joined no longer. -/
def State.nodeLeaves (s : State) (n : Nat) : State :=
  let s := s.queueFrame n 11 (leBytes 1 4)
  (s.setNode n { s.node n with joined := false, grants := [], rxSeq := none }).tellBound n

/-- R311: node command 1 carries the calibration of an endpoint. -/
def Cold.command1 (c : Cold) (idx : Nat) : List Byte :=
  leBytes 1 1 ++ leBytes 1 idx ++ leBytes 2 c.calGain ++ leBytes 2 c.calOffset ++
    leBytes 2 c.minPhys ++ leBytes 2 c.maxPhys ++ leBytes 2 c.fallback

/-- R311: the calibration of every endpoint bound to a node is sent to it. -/
def State.calibrateNode (s : State) (n : Nat) : State :=
  let d := s.die s.stageDie
  (d.boundTo n).foldl (fun s e =>
    s.queueFrame n 11 ((d.coldOf e).command1 (bindIndex (d.hotOf e).binding))) s

/-! ## Cues over a transport (R320, R321, R356) -/

/-- The entries of an arm record on a transport, one for each run of node addresses with one mask
and level (log entry 31): first node, last node, mask, level. -/
def armEntries : List (Nat × Nat × Nat) → List (Nat × Nat × Nat × Nat) → List (Nat × Nat × Nat × Nat)
  | [], acc => acc.reverse
  | (n, mask, lvl) :: t, (a, b, m, l) :: acc =>
    if n = b + 1 ∧ mask = m ∧ lvl = l then armEntries t ((a, n, m, l) :: acc)
    else armEntries t ((n, n, mask, lvl) :: (a, b, m, l) :: acc)
  | (n, mask, lvl) :: t, [] => armEntries t [(n, n, mask, lvl)]

/-- The endpoints of one node and level as one mask. -/
def mergeMask : List (Nat × Nat × Nat) → List (Nat × Nat × Nat)
  | [] => []
  | (n, i, l) :: t =>
    match mergeMask t with
    | (n', m, l') :: rest =>
      if n = n' ∧ l = l' then (n, setBit m i, l) :: rest else (n, 2 ^ i, l) :: (n', m, l') :: rest
    | [] => [(n, 2 ^ i, l)]

/-- What a cue names on a transport: node, index and level, in node order. -/
def State.armNames (s : State) (d : Die) (t : Nat) (rs : List CueRange) : List (Nat × Nat × Nat) :=
  let l := (d.named rs).filterMap fun x =>
    let b := (d.hotOf x.1).binding
    let nd := s.node (bindNode b)
    if bindTransport b = 1 ∧ nd.joined = true ∧ nd.transport = t then
      some (bindNode b, bindIndex b, x.2.level) else none
  l.mergeSort fun a b => decide (a.1 < b.1 ∨ (a.1 = b.1 ∧
    (a.2.2 < b.2.2 ∨ (a.2.2 = b.2.2 ∧ a.2.1 ≤ b.2.1))))

/-- One fragment of an arm frame (R308). -/
def armBody (gen id stamp fade flags idx count : Nat) (es : List (Nat × Nat × Nat × Nat)) : List Byte :=
  leBytes 1 gen ++ leBytes 4 id ++ leBytes 4 (stampCycle stamp) ++ leBytes 2 fade ++
    leBytes 1 flags ++ leBytes 1 (idx + 16 * (count - 1)) ++
    es.flatMap fun e => leBytes 2 e.1 ++ leBytes 2 e.2.1 ++ leBytes 2 e.2.2.1 ++ leBytes 2 e.2.2.2

end Sys2Proof.Machine
end

