-- ==== Sys2Proof/Machine/Ethernet.lean ====
section
/-! DEFINITION. The backbone and service ports: filtering, rings and pause, transmission and gate
control, failover, time stamping and PHY access (R493-R513, R517-R519, R524, R528). -/

namespace Sys2Proof.Machine

def State.eth (s : State) (e : Nat) : EthState := Tbl.get EthState.empty s.eths e

def State.setEth (s : State) (e : Nat) (v : EthState) : State :=
  { s with eths := Tbl.put EthState.empty s.eths e v }

/-- TAI of the PTP clock in ns. -/
def State.ptpNs (s : State) : Nat := s.ptp.time / 2 ^ 32 % 2 ^ 64

/-- R513: a counter of a port rises; its bit 31 becoming 1 is signalled. -/
def State.ethCount (s : State) (e n by_ : Nat) : State :=
  let x := s.eth e
  let old := Tbl.get 0 x.counts n
  let new := (old + by_) % 2 ^ 64
  let s := (s.setEth e { x with counts := Tbl.put 0 x.counts n new }).set (ETH_CNT.count e n) (new % 2 ^ 32)
  if old % 2 ^ 32 < 2 ^ 31 ∧ 2 ^ 31 ≤ new % 2 ^ 32 then
    (s.set (ETH_CNT_HALF.half e) (setBit (s.get (ETH_CNT_HALF.half e)) n)).raise (ETH_INT_STATUS.cnt_half e)
  else s

def cnRxOctets : Nat := 0
def cnRxFrames : Nat := 1
def cnRxBcast : Nat := 2
def cnRxMcast : Nat := 3
def cnUndersize : Nat := 10
def cnOversize : Nat := 11
def cnFcs : Nat := 12
def cnSymbol : Nat := 13
def cnNobuf : Nat := 14
def cnFiltered : Nat := 15
def cnRxPause : Nat := 16
def cnTxOctets : Nat := 17
def cnTxFrames : Nat := 18
def cnTxBcast : Nat := 19
def cnTxMcast : Nat := 20
def cnTxPause : Nat := 21
def cnNofit : Nat := 22
def cnNolink : Nat := 23
def cnResent : Nat := 24
def cnWake : Nat := 25

/-- R513: the size counter of a frame length. -/
def sizeCounter (len : Nat) : Nat :=
  if len ≤ 64 then 4 else if len ≤ 127 then 5 else if len ≤ 255 then 6 else if len ≤ 511 then 7
  else if len ≤ 1023 then 8 else 9

/-! ## Addresses (R495) -/

/-- The MAC address of a port, in the order of its octets. -/
def State.ethMac (s : State) (e : Nat) : List Byte :=
  beBytes 6 (s.get (ETH_MAC_HI.mac_hi e) * 2 ^ 32 + s.get (ETH_MAC_LO.mac_lo e))

/-- The link-local address a MAC address gives (log entry 56). -/
def linkLocal (mac : List Byte) : List Byte :=
  let m := fun k => mac.getD k 0
  [0xFE, 0x80, 0, 0, 0, 0, 0, 0] ++
    [m 0 ^^^ 2, m 1, m 2, 0xFF, 0xFE, m 3, m 4, m 5]

/-- The module's IPv6 addresses on a port: the link-local one, and the static one in that mode. -/
def State.ipAddresses (s : State) (e : Nat) : List (List Byte) :=
  linkLocal (s.ethMac e) :: (if s.obj 0x1100 0 = 1 then [(s.oct 0x1101 0).take 16] else [])

/-- The solicited-node multicast MAC address of an IPv6 address. -/
def solicited (a : List Byte) : List Byte := [0x33, 0x33, 0xFF] ++ a.drop 13

def isMulticast (dst : List Byte) : Bool := decide ((dst.getD 0 0).toNat % 2 = 1)

def isBroadcast (dst : List Byte) : Bool := dst.all fun b => decide (b = 0xFF)

/-- R495: the port accepts a destination address. -/
def State.ethAccepts (s : State) (e : Nat) (dst : List Byte) : Bool :=
  let hash := crc32 dst / 2 ^ 26
  let bits := s.get (ETH_MC_HASH_LO.hash_lo e) + s.get (ETH_MC_HASH_HI.hash_hi e) * 2 ^ 32
  let ptp := decide (dst = [0x01, 0x1B, 0x19, 0, 0, 0] ∨ dst = [0x01, 0x80, 0xC2, 0, 0, 0x0E])
  decide (dst = s.ethMac e) || isBroadcast dst || (ptp && decide (s.get PTP_CTRL.transport = 0)) ||
    decide (dst = [0x33, 0x33, 0, 0, 0, 1]) ||
    (s.ipAddresses e).any (fun a => decide (dst = solicited a)) ||
    (isMulticast dst && decide (bitOf bits hash = 1))

/-- R497: the tag of a frame: accepted or not, the class its PCP gives, and the octets without the tag. -/
def State.ethUntag (s : State) (e : Nat) (b : List Byte) : Option (Nat × List Byte) :=
  if beNat ((b.drop 12).take 2) = 0x8100 then
    let tci := beNat ((b.drop 14).take 2)
    let vid := tci % 4096
    if vid = 0 ∨ vid = s.get (ETH_VLAN.vid e) then some (tci / 8192, b.take 12 ++ b.drop 16) else none
  else if s.flag (ETH_CTRL.accept_untagged e) then some (0, b) else none

/-! ## Wake filters (R512) -/

def crc16ccittBits : Nat → Nat → Nat
  | 0, c => c
  | n + 1, c => crc16ccittBits n
      (if 0x8000 ≤ c then Nat.xor (c * 2 % 65536) 0x1021 else c * 2)

def crc16ccitt (b : List Byte) : Nat :=
  b.foldl (fun c x => crc16ccittBits 8 (Nat.xor c (x.toNat * 256))) 0xFFFF

/-- R512: filter `f` of a backbone port matches a frame. -/
def State.wakeMatch (s : State) (e : Nat) (b : List Byte) (f : Nat) : Bool :=
  let (mask, check) := Tbl.get (0, 0) (s.eth e).wake f
  let idx := (List.range 128).filter fun i => decide (bitOf mask i = 1)
  decide (bitOf (s.get (ETH_WAKE_CTRL.enable e)) f = 1) && idx.all (fun i => decide (i < b.length)) &&
    decide (crc16ccitt (idx.map fun i => b.getD i 0) = check)

/-- The matches of a frame are counted, recorded and raised. -/
def State.wakes (s : State) (e : Nat) (b : List Byte) : State :=
  if 2 ≤ e then s
  else ((List.range 8).filter (s.wakeMatch e b)).foldl (fun s f =>
    ((s.ethCount e cnWake 1).set (ETH_WAKE_LAST.filter e) f).raise (ETH_INT_STATUS.wake e)) s

/-! ## Rings and pause (R507-R510) -/

def ringUsed (l : List RxEntry) : Nat := (l.map fun x => x.buffers).sum

/-- The ring's register after a change. -/
def State.showRing (s : State) (e : Nat) : State :=
  let used := ringUsed (s.eth e).ring
  (s.set (ETH_RX_RING.used e) used).set (ETH_RX_RING.max e) (max used (s.get (ETH_RX_RING.max e)))

/-- A frame with its FCS. -/
def withEthFcs (b : List Byte) : List Byte := b ++ leBytes 4 (crc32 b)

/-- A PAUSE frame leaves (R509). -/
def State.sendPause (s : State) (e quanta : Nat) : State :=
  if s.shed then s else
  let b := [0x01, 0x80, 0xC2, 0, 0, 0x01] ++ s.ethMac e ++ [0x88, 0x08, 0x00, 0x01] ++
    beBytes 2 quanta ++ List.replicate 42 0
  let x := s.eth e
  let s := s.setEth e { x with pausedAt := s.now }
  let s := (s.emit (.eth e (withEthFcs b))).ethCount e cnTxPause 1
  s.set (ETH_STATUS.rx_pausing e) (b2n (decide (quanta ≠ 0)))

/-- Quanta of a port in ns (R510). -/
def State.quantaNs (s : State) (e q : Nat) : Nat :=
  q * (if s.get (ETH_STATUS.speed e) = 2 then 512 else 5120)

/-- The stage holder has taken the first frames of a ring. -/
def State.ringTake (s : State) (e taken : Nat) : State :=
  let x := s.eth e
  (s.setEth e { x with ring := x.ring.drop taken }).showRing e

/-- R509: a PAUSE frame is due: at the high watermark, again after half its quanta, and with quanta 0
at the low watermark. -/
def State.pauseWork (s : State) (e : Nat) : State :=
  let used := ringUsed (s.eth e).ring
  if s.flag (ETH_STATUS.rx_pausing e) then
    if used ≤ s.get (ETH_RX_WM.low e) then s.sendPause e 0
    else if s.quantaNs e (s.get (ETH_PAUSE.quanta e)) ≤ 2 * (40 * (s.now - (s.eth e).pausedAt)) then
      s.sendPause e (s.get (ETH_PAUSE.quanta e))
    else s
  else if s.flag (ETH_CTRL.pause_send e) ∧ s.get (ETH_RX_WM.high e) ≤ used then
    s.sendPause e (s.get (ETH_PAUSE.quanta e))
  else s

/-- PAUSE_REFRESH (R509): the stage holder has taken some frames of the ring, or half the quanta has
passed. -/
def execPauseRefresh (e : Fin 3) (taken : Nat) (s : State) : Host.Outcome State Fault Refusal :=
  .next ((s.ringTake e.val taken).pauseWork e.val)

/-- PAUSE_RECEIVE (R510). -/
def execPauseReceive (e : Fin 3) (quanta : BitVec 16) (s : State) : Host.Outcome State Fault Refusal :=
  if s.flag (ETH_CTRL.enable e.val) = false then .next s
  else
    let s := s.ethCount e.val cnRxPause 1
    if s.flag (ETH_CTRL.pause_honour e.val) then
      let x := s.eth e.val
      let until_ := s.now + (s.quantaNs e.val quanta.toNat + 39) / 40
      .next ((s.setEth e.val { x with heldUntil := until_ }).set (ETH_STATUS.tx_held e.val)
        (b2n (decide (quanta ≠ 0))))
    else .next s

/-- PAUSE_EXPIRY (R510). -/
def execPauseExpiry (e : Fin 3) (s : State) : Host.Outcome State Fault Refusal :=
  .next (if (s.eth e.val).heldUntil ≤ s.now then s.set (ETH_STATUS.tx_held e.val) 0 else s)

/-! ## Receiving (R494-R497, R507, R508, R511) -/

/-- A good frame of the port reaches the ring, or finds too few buffers. -/
def State.ringPut (s : State) (e cls : Nat) (b : List Byte) : State :=
  let need := (b.length + 255) / 256
  let x := s.eth e
  if 512 < ringUsed x.ring + need then (s.ethCount e cnNobuf 1).raise (ETH_INT_STATUS.rx_nobuf e)
  else
    let lat := if e < 2 then s.get (ETH_TS_LAT.rx_lat e) else 0
    let entry : RxEntry := { buffers := need, octets := b, cls := cls, stamp := s.ptpNs - lat }
    (s.setEth e { x with ring := x.ring ++ [entry] }).showRing e

/-- A received frame, from the destination address to the FCS. -/
def State.ethReceive (s : State) (e : Nat) (b : List Byte) (symbol : Bool) : State :=
  let dst := b.take 6
  if symbol then s.ethCount e cnSymbol 1
  else if b.length < 64 then s.ethCount e cnUndersize 1
  else if 1522 < b.length then s.ethCount e cnOversize 1
  else if leNat (b.drop (b.length - 4)) ≠ crc32 (b.take (b.length - 4)) then s.ethCount e cnFcs 1
  else
    let s := ((s.ethCount e cnRxOctets b.length).ethCount e cnRxFrames 1).ethCount e (sizeCounter b.length) 1
    let s := if isBroadcast dst then s.ethCount e cnRxBcast 1
      else if isMulticast dst then s.ethCount e cnRxMcast 1 else s
    let s := s.wakes e b
    if e < 2 ∧ s.flag (ETH_CTRL.listen e) then s
    else match s.ethUntag e b with
      | none => s.ethCount e cnFiltered 1
      | some (cls, c) => if s.ethAccepts e dst then s.ringPut e cls c else s.ethCount e cnFiltered 1

/-- ETH_FRAME_RECEIVE (R495, R507-R509): the stage holder has first taken some frames of the ring. -/
def execEthFrameReceive (e : Fin 3) (octets : List Byte) (symbol : Bool) (taken : Nat) (s : State) :
    Host.Outcome State Fault Refusal :=
  let s := s.ringTake e.val taken
  if s.flag (ETH_CTRL.enable e.val) ∧ s.flag (ETH_STATUS.link e.val) then
    .next ((s.ethReceive e.val octets symbol).pauseWork e.val)
  else .next s

/-! ## Gate control (R503-R506) -/

/-- The operational list: gate byte and length of each entry, cut and extended to the cycle. -/
def gclSpans : List Nat → Nat → List (Nat × Nat)
  | [], _ => []
  | [w], left => if left = 0 then [] else [(w / 2 ^ 24, left)]
  | w :: rest, left =>
    let n := min (w % 2 ^ 24) left
    if n = 0 then [] else (w / 2 ^ 24, n) :: gclSpans rest (left - n)

def State.gcl (s : State) (e : Nat) : List (Nat × Nat) :=
  gclSpans ((List.range (s.get (ETH_GCL_STATUS.oper_len e))).map fun k => s.get (ETH_GCL_OPER.entry e k))
    (s.get (ETH_GCL_OPER_CYCLE.ns e))

/-- The offset of the present PTP time in the cycle in progress. -/
def State.gclOffset (s : State) (e : Nat) : Nat :=
  let base := s.get (ETH_GCL_OPER_BASE_HI.base_hi e) * 2 ^ 32 + s.get (ETH_GCL_OPER_BASE_LO.base_lo e)
  let cyc := s.get (ETH_GCL_OPER_CYCLE.ns e)
  if cyc = 0 then 0 else (s.ptpNs + cyc * (base / cyc + 1) - base) % cyc

/-- The index of the entry in force at an offset, and what is left of it. -/
def gclAt : List (Nat × Nat) → Nat → Nat → Nat × Nat
  | [], _, k => (k, 0)
  | (_, n) :: rest, off, k => if off < n then (k, n - off) else gclAt rest (off - n) (k + 1)

/-- The time for which class `c` stays open from the head of a list of spans. -/
def openRun (c : Nat) : List (Nat × Nat) → Nat
  | [] => 0
  | (g, n) :: rest => if bitOf g c = 1 then n + openRun c rest else 0

/-- How long class `c` stays open from now; none when its gate never closes. -/
def State.gateLeft (s : State) (e c : Nat) : Option Nat :=
  let l := s.gcl e
  if e ≥ 2 ∨ s.flag (ETH_GCL_CTRL.enable e) = false ∨ l = [] ∨ l.all (fun x => decide (bitOf x.1 c = 1)) then
    none
  else
    let (k, left) := gclAt l (s.gclOffset e) 0
    let rest := match (l ++ l).drop k with
      | (g, _) :: t => (g, left) :: t
      | [] => []
    some (openRun c rest)

/-- The longest run of open intervals of class `c`; none when its gate never closes. -/
def State.gateMost (s : State) (e c : Nat) : Option Nat :=
  let l := s.gcl e
  if e ≥ 2 ∨ s.flag (ETH_GCL_CTRL.enable e) = false ∨ l = [] ∨ l.all (fun x => decide (bitOf x.1 c = 1)) then
    none
  else some (((List.range l.length).map fun k => openRun c ((l ++ l).drop k)).foldl max 0)

/-- R504: a gate list change is requested on a backbone port; false when it is refused. -/
def State.gclRequest (s : State) (e : Nat) : State × Bool :=
  if (s.eth e).changeAt.isSome then (s, true)
  else
    let len := s.get (ETH_GCL_LEN.length e)
    let cyc := s.get (ETH_GCL_CYCLE.ns e)
    let zero := (List.range len).any fun k => decide (s.get (ETH_GCL_ADMIN.interval e k) = 0)
    if len < 1 ∨ 64 < len ∨ zero ∨ cyc < 1000 ∨ 1000000000 < cyc then
      ((s.set (ETH_GCL_CTRL.error e) 1).set (ETH_GCL_CTRL.change e) 0, false)
    else
      let base := s.get (ETH_GCL_BASE_HI.base_hi e) * 2 ^ 32 + s.get (ETH_GCL_BASE_LO.base_lo e)
      let t := s.ptpNs
      let at_ := if t < base then base else base + ((t - base) / cyc + 1) * cyc
      let x := s.eth e
      let s := (s.setEth e { x with changeAt := some at_ }).set (ETH_GCL_STATUS.pending e) 1
      ((s.set (ETH_GCL_CTRL.error e) 0).set (ETH_GCL_CTRL.change e) 1, true)

/-- GCL_CHANGE_REQUEST (R504): a write of 1 to ETH_GCL_CTRL.change. -/
def execGclChangeRequest (e : Fin 2) (s : State) : Host.Outcome State Fault Refusal :=
  .next (s.gclRequest e.val).1

/-- GCL_CHANGE (R504): at the change time the administrative list becomes operational from entry 0. -/
def execGclChange (e : Fin 2) (s : State) : Host.Outcome State Fault Refusal :=
  let x := s.eth e.val
  match x.changeAt with
  | none => .next s
  | some t =>
    if s.ptpNs < t then .next s
    else
      let s := s.setEth e.val { x with changeAt := none }
      let s := (List.range 64).foldl (fun s k => s.set (ETH_GCL_OPER.entry e.val k)
        (s.get (ETH_GCL_ADMIN.gates e.val k) * 2 ^ 24 + s.get (ETH_GCL_ADMIN.interval e.val k))) s
      let s := (s.set (ETH_GCL_OPER_CYCLE.ns e.val) (s.get (ETH_GCL_CYCLE.ns e.val))).set
        (ETH_GCL_STATUS.oper_len e.val) (s.get (ETH_GCL_LEN.length e.val))
      let s := (s.set (ETH_GCL_OPER_BASE_LO.base_lo e.val) t).set (ETH_GCL_OPER_BASE_HI.base_hi e.val)
        (t / 2 ^ 32)
      let s := ((s.set (ETH_GCL_STATUS.entry e.val) 0).set (ETH_GCL_STATUS.pending e.val) 0)
      .next (s.set (ETH_GCL_CTRL.change e.val) 0)

/-- R503, R506: the entry that the PTP time selects is in force. -/
def State.gclEntry (s : State) (e : Nat) : State :=
  if s.gcl e = [] then s
  else s.set (ETH_GCL_STATUS.entry e) (gclAt (s.gcl e) (s.gclOffset e) 0).1

/-- GCL_ENTRY_END (R503). -/
def execGclEntryEnd (e : Fin 2) (s : State) : Host.Outcome State Fault Refusal :=
  .next (s.gclEntry e.val)

/-! ## Transmission (R496-R498, R501, R502, R505, R511, R517-R519) -/

/-- The active backbone port; none while neither has link. -/
def State.activePort (s : State) : Option Nat :=
  if s.flag (ETH_STATUS.active 0) then some 0 else if s.flag (ETH_STATUS.active 1) then some 1 else none

/-- One's complement sum of 16-bit words. -/
def sum16 : Nat → List Byte → Nat
  | 0, _ => 0
  | n + 1, b =>
    match b with
    | [] => 0
    | [x] => x.toNat * 256
    | x :: y :: rest => x.toNat * 256 + y.toNat + sum16 n rest

def fold16 (v : Nat) : Nat :=
  let v := v % 65536 + v / 65536
  let v := v % 65536 + v / 65536
  65535 - (v % 65536 + v / 65536)

/-- The upper-layer checksum over an IPv6 packet: its addresses, length, next header and payload. -/
def checksum6 (src dst : List Byte) (next : Nat) (payload : List Byte) : Nat :=
  fold16 (sum16 16 (src ++ dst) + payload.length + next + sum16 (payload.length + 1) payload)

/-- Octets put into a frame at an offset. -/
def patch (b : List Byte) (off : Nat) (p : List Byte) : List Byte :=
  b.take off ++ p ++ b.drop (off + p.length)

/-- R518: the corrected transmit time in the originTimestamp of a Sync message, with the UDP checksum
over it. -/
def oneStepTime (b : List Byte) (udp : Bool) (ns : Nat) : List Byte :=
  let t := beBytes 6 (ns / 10 ^ 9) ++ beBytes 4 (ns % 10 ^ 9)
  if udp then
    let c := patch (patch b 96 t) 60 [0, 0]
    let sum := checksum6 ((c.drop 22).take 16) ((c.drop 38).take 16) 17 (c.drop 54)
    patch c 60 (beBytes 2 (if sum = 0 then 65535 else sum))
  else patch b 48 t

/-- R497: a frame with the port's tag. -/
def State.ethTag (s : State) (e cls : Nat) (b : List Byte) : List Byte :=
  let vid := s.get (ETH_VLAN.vid e)
  if vid = 0 then b
  else b.take 12 ++ beBytes 2 0x8100 ++
    beBytes 2 (s.get (ETH_PCP_MAP.pcp e) / 8 ^ cls % 8 * 8192 + vid) ++ b.drop 12

/-- The octets of a frame on the line, padded to 64 with its FCS. -/
def State.ethLine (s : State) (e : Nat) (f : EthFrame) : List Byte :=
  let lat := if e < 2 then s.get (ETH_TS_LAT.tx_lat e) else 0
  let b := if f.oneStep then oneStepTime f.octets (s.flag PTP_CTRL.transport) (s.ptpNs + lat) else f.octets
  let b := s.ethTag e f.cls.val b
  withEthFcs (b ++ List.replicate (60 - b.length) 0)

/-- R505: the line time of a frame in ns, with preamble and gap. -/
def State.lineNs (s : State) (e : Nat) (f : EthFrame) : Nat :=
  ((s.ethLine e f).length + 20) * (if s.get (ETH_STATUS.speed e) = 2 then 8 else 80)

/-- R519: a two-step entry for a completed transmission. -/
def State.stampEntry (s : State) (e id : Nat) : State :=
  let x := s.eth e
  if 8 ≤ x.stamps.length then
    (s.addSat (ETH_TXTS_STATUS.overflows e) 1).raise (ETH_INT_STATUS.txts_overflow e)
  else
    let t := s.ptpNs + s.get (ETH_TS_LAT.tx_lat e)
    let s := s.setEth e { x with stamps := x.stamps ++ [(id, t)] }
    (s.set (ETH_TXTS_STATUS.count e) (x.stamps.length + 1)).raise (ETH_INT_STATUS.txts_ready e)

/-- A frame is sent and completes. -/
def State.ethSend (s : State) (e : Nat) (f : EthFrame) : State :=
  let b := s.ethLine e f
  let s := ((s.emit (.eth e b)).ethCount e cnTxOctets b.length).ethCount e cnTxFrames 1
  let s := if isBroadcast (b.take 6) then s.ethCount e cnTxBcast 1
    else if isMulticast (b.take 6) then s.ethCount e cnTxMcast 1 else s
  match f.stamp with
  | some id => if e < 2 then s.stampEntry e id.toNat else s
  | none => s

/-- The first frame of a class in a queue, and the queue without it. -/
def takeClass (c : Nat) : List EthFrame → Option (EthFrame × List EthFrame)
  | [] => none
  | f :: rest =>
    if f.cls.val = c then some (f, rest)
    else match takeClass c rest with
      | some (g, t) => some (g, f :: t)
      | none => none

/-- R505: frames at the heads of their classes that no run of open intervals can carry are
discarded; the argument bounds them. -/
def State.dropNofit : Nat → State → Nat → State
  | 0, s, _ => s
  | n + 1, s, e =>
    let x := s.eth e
    let bad := (List.range 8).findSome? fun c => match takeClass c x.queue, s.gateMost e c with
      | some (f, rest), some most => if most < s.lineNs e f then some rest else none
      | _, _ => none
    match bad with
    | some rest => State.dropNofit n ((s.setEth e { x with queue := rest }).ethCount e cnNofit 1) e
    | none => s

/-- R498, R505: the highest class that may send now sends its first frame. -/
def State.ethWork (s : State) (e : Nat) : State :=
  let x := s.eth e
  let pick := [7, 6, 5, 4, 3, 2, 1, 0].findSome? fun c => match takeClass c x.queue with
    | some (f, rest) => match s.gateLeft e c with
      | none => some (f, rest)
      | some left => if s.lineNs e f ≤ left then some (f, rest) else none
    | none => none
  match pick with
  | some (f, rest) => (s.setEth e { x with queue := rest }).ethSend e f
  | none => s

/-- ETH_FRAME_TRANSMIT (R496, R502, R505): the stage holder hands frames to the backbone or the service
port, and the port, when it may, sends one. -/
def execEthFrameTransmit (e : Fin 3) (handed : List EthFrame) (s : State) :
    Host.Outcome State Fault Refusal :=
  if s.shed then .next s else
  let handed := if s.holder.isSome then handed else []
  let port := if e.val = 2 then some 2 else s.activePort
  match port with
  | none => .next (if s.flag (ETH_STATUS.link 0) ∨ s.flag (ETH_STATUS.link 1) then s
      else s.ethCount e.val cnNolink handed.length)
  | some p =>
    let x := s.eth p
    let on := s.flag (ETH_CTRL.enable p)
    let s := if on then s.setEth p { x with queue := x.queue ++ handed } else s
    let s := s.dropNofit (s.eth p).queue.length p
    if p = e.val ∧ s.flag (ETH_STATUS.link p) ∧ s.flag (ETH_STATUS.tx_held p) = false then .next (s.ethWork p)
    else .next s

/-- TXTS_READ (R519). -/
def State.txtsRead (s : State) (e : Nat) : State :=
  let x := s.eth e
  match x.stamps with
  | [] => s.set (ETH_TXTS_ID.valid e) 0
  | (id, t) :: rest =>
    let s := (s.setEth e { x with stamps := rest }).set (ETH_TXTS_STATUS.count e) rest.length
    let s := (s.set (ETH_TXTS_ID.valid e) 1).set (ETH_TXTS_ID.id e) id
    (s.set (ETH_TXTS_LO.ts_lo e) t).set (ETH_TXTS_HI.ts_hi e) (t / 2 ^ 32)

def execTxtsRead (p : Port) (e : Fin 2) (s : State) : Host.Outcome State Fault Refusal :=
  let a := apronRead p (ethBase e + 0x804)
  .next (s.access a fun s =>
    let s := s.txtsRead e.val
    s.emit (.regRead p a.addr
      (BitVec.ofNat 32 (s.get (ETH_TXTS_ID.valid e.val) * 2 ^ 31 + s.get (ETH_TXTS_ID.id e.val)))))

/-! ## Links and failover (R499-R502, R515) -/

/-- The unsolicited Neighbour Advertisement of an address. -/
def State.advert (s : State) (e : Nat) (a : List Byte) : EthFrame :=
  let dst : List Byte := [0xFF, 0x02, 0, 0, 0, 0, 0, 0, 0, 0, 0, 0, 0, 0, 0, 1]
  let body := fun (sum : Nat) => [136, 0] ++ beBytes 2 sum ++ [0x20, 0, 0, 0] ++ a ++ [2, 1] ++ s.ethMac e
  let icmp := body (checksum6 a dst 58 (body 0))
  { cls := 0, oneStep := false, stamp := none,
    octets := [0x33, 0x33, 0, 0, 0, 1] ++ s.ethMac e ++ [0x86, 0xDD, 0x60, 0, 0, 0] ++
      beBytes 2 icmp.length ++ [58, 255] ++ a ++ dst ++ icmp }

/-- The PTP port state changes (R514, R515). -/
def State.ptpPort (s : State) (st : Nat) : State :=
  if s.get PTP_STATUS.port_state = st then s
  else (s.set PTP_STATUS.port_state st).raise PTP_INT_STATUS.state_change

/-- No offset comes in: holdover is entered. -/
def State.ptpHoldover (s : State) : State :=
  if s.flag PTP_STATUS.holdover ∨ s.flag PTP_CTRL.enable = false then s
  else (s.set PTP_STATUS.holdover 1).raise PTP_INT_STATUS.holdover

/-- A backbone port becomes the active one. -/
def State.activate (s : State) (e : Nat) : State :=
  let o := 1 - e
  let s := (s.set (ETH_STATUS.active e) 1).set (ETH_STATUS.standby e) 0
  let s := (s.set (ETH_STATUS.active o) 0).set (ETH_STATUS.standby o)
    (b2n (s.flag (ETH_STATUS.link o) && s.flag (ETH_CTRL.enable o)))
  s.set (ETH_BKP.active_port 0) e

/-- R500, R501, R515: transmit moves to port `e`: waiting frames keep their order, the module
advertises its addresses, and PTP restarts there in holdover. -/
def State.failover (s : State) (e : Nat) : State :=
  let o := 1 - e
  let moved := (s.eth o).queue
  let s := (s.setEth o { s.eth o with queue := [] }).activate e
  let adverts := if s.holder.isSome then (s.ipAddresses e).map (s.advert e) else []
  let s := s.setEth e { s.eth e with queue := (s.eth e).queue ++ moved ++ adverts }
  let s := (s.addSat (ETH_FAILOVERS.count 0) 1).raise (ETH_INT_STATUS.failover e)
  (if s.flag PTP_CTRL.enable then (s.set (ETH_BKP.force 0) 0).ptpPort 1 else s.set (ETH_BKP.force 0) 0).ptpHoldover

/-- A port can take transmit: it is in service and has link. -/
def State.portReady (s : State) (e : Nat) : Bool :=
  s.flag (ETH_STATUS.link e) && s.flag (ETH_CTRL.enable e)

/-- The active port can no longer carry transmit. -/
def State.activeLost (s : State) (e : Nat) : State :=
  if s.activePort ≠ some e then s.set (ETH_STATUS.standby e) 0
  else if s.portReady (1 - e) then s.failover (1 - e)
  else
    let x := s.eth e
    let s := (s.set (ETH_STATUS.active e) 0).setEth e { x with queue := [] }
    (s.ethCount e cnNolink x.queue.length).ptpHoldover

/-- LINK_FAILURE (R500-R502): a PHY reports a link failure; `partly` says that a frame was partly sent: it is
still the first of its queue, and the new port sends it again whole. -/
def execLinkFailure (e : Fin 3) (partly : Bool) (s : State) : Host.Outcome State Fault Refusal :=
  if s.flag (ETH_STATUS.link e.val) = false then .next s
  else
    let s := ((s.set (ETH_STATUS.link e.val) 0).set (ETH_STATUS.speed e.val) 0).raise
      (ETH_INT_STATUS.link_change e.val)
    if 2 ≤ e.val then .next s
    else
      let resend := partly && decide (s.activePort = some e.val) && s.portReady (1 - e.val) &&
        decide ((s.eth e.val).queue ≠ [])
      let s := s.activeLost e.val
      .next (if resend then s.ethCount (1 - e.val) cnResent 1 else s)

/-- ETH_LINK_UP (R499, R502): a PHY reports its link, at 100 or 1000 Mbit/s; SVC has 100 Mbit/s only. -/
def execEthLinkUp (e : Fin 3) (fast : Bool) (s : State) : Host.Outcome State Fault Refusal :=
  let speed := if fast ∧ e.val < 2 then 2 else 1
  let s := (s.set (ETH_STATUS.speed e.val) speed).raiseIf (s.flag (ETH_STATUS.link e.val) = false)
    (ETH_INT_STATUS.link_change e.val)
  let s := s.setEth e.val { s.eth e.val with
    upSince := if s.flag (ETH_STATUS.link e.val) then (s.eth e.val).upSince else s.now }
  let s := s.set (ETH_STATUS.link e.val) 1
  if 2 ≤ e.val ∨ s.flag (ETH_CTRL.enable e.val) = false then .next s
  else match s.activePort with
    | none => .next (s.activate e.val)
    | some a =>
      if a = e.val then .next s
      else if s.flag (ETH_BKP.force 0) then .next (s.failover e.val)
      else .next (s.set (ETH_STATUS.standby e.val) 1)

/-- FAILOVER_FORCE (R500): a write of ETH_BKP.force with 1; it stays set until the other port can take
transmit. -/
def State.failoverForce (s : State) : State :=
  match s.activePort with
  | some a => if s.portReady (1 - a) then s.failover (1 - a) else s.set (ETH_BKP.force 0) 1
  | none => s.set (ETH_BKP.force 0) 1

def execFailoverForce (s : State) : Host.Outcome State Fault Refusal := .next s.failoverForce

/-- FAILBACK (R502): in revertive mode the preferred port takes transmit after 10 s of link. -/
def execFailback (s : State) : Host.Outcome State Fault Refusal :=
  let p := s.get (ETH_BKP.preferred 0)
  if s.flag (ETH_BKP.revertive 0) ∧ s.activePort = some (1 - p) ∧ s.portReady p ∧
      250000000 ≤ s.now - (s.eth p).upSince then .next (s.failover p)
  else .next s

/-! ## PHY access (R528) -/

/-- MDIO_COMMAND (R528): a write of ETH_MDIO_CMD; go while busy is a violation. -/
def State.mdioWrite (s : State) (e w : Nat) : Except Nat State :=
  let go := w / 2 ^ 25 % 2 = 1
  if go ∧ s.flag (ETH_MDIO_CMD.busy e) then .error vkRule
  else
    let s := (s.set (ETH_MDIO_CMD.write e) (w / 2 ^ 26)).set (ETH_MDIO_CMD.reg e) (w / 2 ^ 16 % 32)
    let s := s.set (ETH_MDIO_CMD.wdata e) w
    if go then
      .ok ((s.set (ETH_MDIO_CMD.busy e) 1).emit
        (.mdio e (decide (w / 2 ^ 26 % 2 = 1)) (w / 2 ^ 16 % 32) (w % 65536)))
    else .ok s

def execMdioCommand (p : Port) (e : Fin 3) (w : Word) (s : State) : Host.Outcome State Fault Refusal :=
  let a := apronWrite p (ethBase e + 0x40)
  .next (s.access a fun s => s.wrote a (s.mdioWrite e.val w.toNat))

/-- MDIO_DONE (R528). -/
def execMdioDone (e : Fin 3) (data : BitVec 16) (s : State) : Host.Outcome State Fault Refusal :=
  if s.flag (ETH_MDIO_CMD.busy e.val) = false then .next s
  else
    let s := (s.set (ETH_MDIO_CMD.busy e.val) 0).set (ETH_MDIO_CMD.go e.val) 0
    .next (if s.flag (ETH_MDIO_CMD.write e.val) then s else s.set (ETH_MDIO_DATA.rdata e.val) data.toNat)

end Sys2Proof.Machine
end

