-- ==== Sys2Proof/Machine/Ptp.lean ====
section
/-! DEFINITION. The PTP clock: offsets, servo, steps, validity and holdover (R514-R516, R520-R523). -/

namespace Sys2Proof.Machine

/-- R516: the PTP clock over one 25 MHz tick: 16 additions of an addend of 2.5 ns, trimmed by the
frequency adjustment. -/
def State.ptpTick (s : State) : State :=
  let ppb := s.getS PTP_FREQ.ppb
  let addend := openQuot 516 (5 * 2 ^ 31 * (10 ^ 9 + ppb)) (10 ^ 9)
  { s with ptp := { s.ptp with time := (s.ptp.time + 16 * addend.toNat) % 2 ^ 96 } }

def ppbLimit : Int := 500000

/-- A signed 64-bit value in the two words of a register pair. -/
def State.setPair (s : State) (lo hi : Fld) (v : Int) : State :=
  let w := pattern 64 v
  (s.set lo (w % 2 ^ 32)).set hi (w / 2 ^ 32)

/-- A refused offset is pending, or none is. -/
def State.ptpPending (s : State) (o : Option Int) : State :=
  (s.set PTP_STATUS.jump_pending (b2n o.isSome)).setPair PTP_PEND_LO.pend_lo PTP_PEND_HI.pend_hi (o.getD 0)

/-- The holdover count restarts and holdover ends (R523). -/
def State.ptpFresh (s : State) : State :=
  { s with ptp := { s.ptp with accepted := s.now } }.set PTP_STATUS.holdover 0

/-- R523: an accepted offset joins or ends the run of offsets within the lock threshold; eight of them
make the clock valid and locked. -/
def State.ptpAgree (s : State) (o : Int) : State :=
  if o.natAbs ≤ s.get PTP_LOCK.lock then
    let n := min 8 (s.ptp.agree + 1)
    let s := { s with ptp := { s.ptp with agree := n } }
    if n < 8 then s
    else
      let s := (s.raiseIf (s.flag PTP_STATUS.locked = false) PTP_INT_STATUS.locked).set PTP_STATUS.locked 1
      let s := s.raiseIf (s.flag PTP_STATUS.valid = false) PTP_INT_STATUS.valid_set
      ((s.set PTP_STATUS.valid 1).set PTP_STATUS.ever_valid 1).setTaiValid true
  else { s with ptp := { s.ptp with agree := 0 } }.set PTP_STATUS.locked 0

/-- R520: the servo takes an accepted offset. -/
def State.ptpServo (s : State) (o : Int) : State :=
  let kp : Int := s.get PTP_GAIN.kp
  let ki : Int := s.get PTP_GAIN.ki
  let i := clampI (-ppbLimit) ppbLimit (s.ptp.integral + (ki * o).tdiv 256)
  let f := -(clampI (-ppbLimit) ppbLimit ((kp * o).tdiv 256 + i))
  let s := { s with ptp := { s.ptp with integral := i } }
  (((s.setS PTP_FREQ.ppb f).ptpFresh).ptpAgree o).ptpPort 3

/-- R521, R506: the clock is stepped by an offset. -/
def State.ptpStep (s : State) (o : Int) : State :=
  let t := ((s.ptp.time : Int) - o * 2 ^ 32) % 2 ^ 96
  let s := { s with ptp := { s.ptp with time := t.toNat, agree := 0 } }
  let s := (((s.ptpPending none).ptpFresh).set PTP_STATUS.locked 0).addSat PTP_STEPS.count 1
  let s := (s.setPair PTP_STEP_LO.step_lo PTP_STEP_HI.step_hi o).raise PTP_INT_STATUS.step
  let s := s.post .data (cbSource originApron cbPTP 0) 0x0013 (leBytes 8 (pattern 64 o))
  (s.gclEntry 0).gclEntry 1

/-- The run of refused offsets after one more (R521): the state, and whether it has reached 16. -/
def State.ptpRun (s : State) (o : Int) : State × Bool :=
  let run := s.get PTP_STATUS.run
  let p := s.ptp
  if run = 0 ∨ max p.hi o - min p.lo o > 10000 then
    let s := { s with ptp := { p with lo := o, hi := o } }
    let s := (s.set PTP_STATUS.run 1).raise PTP_INT_STATUS.jump_refused
    (s.post .data (cbSource originApron cbPTP 0) 0x0014 (leBytes 8 (pattern 64 o)), false)
  else
    let s := { s with ptp := { p with lo := min p.lo o, hi := max p.hi o } }
    if run + 1 = 16 then (s.set PTP_STATUS.run 0, true) else (s.set PTP_STATUS.run (run + 1), false)

/-- R521: an offset is judged. -/
def State.ptpJudge (s : State) (o : Int) : State :=
  let j := s.get PTP_JUMP.ns
  if s.flag PTP_STATUS.ever_valid = false then
    if j < o.natAbs then s.ptpStep o else (s.ptpPending none).ptpServo o
  else if o.natAbs ≤ j then
    ((((s.set PTP_STATUS.run 0).ptpPending none).set PTP_STATUS.auth_armed 0)).ptpServo o
  else if s.flag PTP_STATUS.auth_armed then
    ((s.set PTP_STATUS.auth_armed 0).set PTP_STATUS.run 0).ptpStep o
  else
    let s := ((s.addSat PTP_REFUSED.count 1).ptpPending (some o)).ptpHoldover
    let (s, full) := s.ptpRun o
    if full then s.ptpStep o else s

/-- R520, R521: a measured offset is kept as the last, and judged while the engine is enabled. -/
def State.ptpTake (s : State) (o : Int) : State :=
  let s := s.setPair PTP_LAST_LO.last_lo PTP_LAST_HI.last_hi o
  if s.flag PTP_CTRL.enable ∧ s.holder.isSome then s.ptpJudge o else s

/-- PTP_OFFSET_WRITE (R520, R521): the stage holder's firmware writes a measured offset. -/
def execPtpOffsetWrite (o : BitVec 64) (s : State) : Host.Outcome State Fault Refusal :=
  .next (s.ptpTake o.toInt)

/-- Valid clears (R523). -/
def State.ptpInvalid (s : State) : State :=
  ((s.raiseIf (s.flag PTP_STATUS.valid) PTP_INT_STATUS.valid_lost).set PTP_STATUS.valid 0).setTaiValid false

/-- R523: the engine is disabled: it is invalid, and the next acquisition starts afresh (log entry 60). -/
def State.ptpDisable (s : State) : State :=
  let s := (s.ptpInvalid.set PTP_STATUS.ever_valid 0).set PTP_STATUS.locked 0
  { s with ptp := { s.ptp with agree := 0 } }.ptpPort 0

/-- PTP_HOLDOVER_EXPIRY (R523): no offset accepted for the holdover limit. -/
def execPtpHoldoverExpiry (s : State) : Host.Outcome State Fault Refusal :=
  if s.flag PTP_CTRL.enable ∧ s.flag PTP_STATUS.valid ∧
      s.get PTP_LOCK.holdover * 25000000 ≤ s.now - s.ptp.accepted then
    .next s.ptpHoldover.ptpInvalid
  else .next s

/-- R522: a write of TRUE to object 0x20C9; false when it is refused. -/
def State.ptpAuthorise (s : State) : State × Bool :=
  if s.flag PTP_STATUS.jump_pending then (s.set PTP_STATUS.auth_armed 1, true) else (s, false)

/-- ANNOUNCE_RECEIPT_TIMEOUT (R514): the port state that the best master clock algorithm leaves; time
transmitter only while the module may be one. -/
def execAnnounceReceiptTimeout (st : Fin 7) (s : State) : Host.Outcome State Fault Refusal :=
  if s.flag PTP_CTRL.enable = false then .next s
  else
    let st := if st.val = 4 ∧ s.flag PTP_CTRL.tt_capable = false then 1 else st.val
    .next (if st = 4 then s.ptpPort st else (s.ptpPort st).ptpHoldover)

end Sys2Proof.Machine
end

