-- ==== Sys2Proof/Machine/Radio.lean ====
section
/-! DEFINITION. The segment radio: slots, beacons, frames, acknowledgement, joining, arming over the
air, slot tables and taking a radio out of service (R285-R334). -/

namespace Sys2Proof.Machine

/-- R290: the transmit time of the last hour in 0.1 % of it. -/
def State.dutyUsed (s : State) (r : Nat) : Nat :=
  ((s.radio r).air.filter fun x => decide (s.now < x.1 + 3600 * 25000000)).foldl
    (fun a x => a + x.2) 0 / 3600000

def State.dutyFull (s : State) (r : Nat) : Bool :=
  decide (s.get (RAD_DUTY.limit r) ≤ s.dutyUsed r)

/-! ## Sending -/

/-- Entry i of a radio's channel list. -/
def State.channel (s : State) (r i : Nat) : Nat :=
  s.get (RAD_CHAN.chan r (i / 4)) / 256 ^ (i % 4) % 256

/-- R289: the channel of slot j of the running cycle. -/
def State.slotChannel (s : State) (r j : Nat) : Nat :=
  s.channel r ((8 * s.clk.cycle + j) % (s.get (RAD_PHY.hop_len r) + 1))

/-- R292: the slot index of slot j of the running cycle. -/
def State.slotIndex (s : State) (j : Nat) : Nat := 8 * (s.clk.cycle % 64) + j

/-- The slot of the running cycle that runs now; the second slot of a double is used as one with the first. -/
def State.slotNow (s : State) (r : Nat) : Nat :=
  let j := s.phase / 128
  if 0 < j ∧ slotKind (s.slotEntry r (s.slotIndex j)) = 8 then j - 1 else j

/-- R293: how a frame leaves in slot j: its preamble begins at the guard time. -/
def State.inSlot (s : State) (r j : Nat) : OnAir :=
  { channel := s.slotChannel r j, power := s.get (RAD_PHY.power r), begins := (s.get (RAD_GUARD.guard r) : Int),
    preamble := s.preambleTime r }

/-- R324: how a frame leaves to a sleepy node: its preamble begins the drift bound before the guard time, and is
lengthened. -/
def State.toSleepy (s : State) (r j : Nat) (nd : Node) : OnAir :=
  let a := s.inSlot r j
  if nd.sleepy then
    { a with begins := a.begins - (s.driftBound nd : Int), preamble := a.preamble + s.longer r nd }
  else a

/-- R293, R331: how an acknowledgement leaves: in the channel and at the power of the running slot, 192 µs after the
frame that it acknowledges. -/
def State.asAck (s : State) (r : Nat) : OnAir :=
  { channel := s.slotChannel r (s.slotNow r), power := (s.radio r).power, begins := 192,
    preamble := s.preambleTime r }

/-- A frame leaves: it is counted and its air time joins the hour. -/
def State.transmit (s : State) (r : Nat) (a : OnAir) (psdu : List Byte) : State :=
  if s.shed then s else
  let x := s.radio r
  let us := s.air r psdu.length - s.preambleTime r + a.preamble
  let air := (s.now, us) :: x.air.filter fun y => decide (s.now < y.1 + 3600 * 25000000)
  let from_ := s.now + 25 * a.begins.toNat
  ((s.setRadio r { x with air := air, tx := (from_, from_ + 25 * us) }).addWrap (RAD_TX_FRAMES.count r) 1).emit
    (.radio r a psdu)

/-- The addressing and header octets of a module frame (R303): the destination, the mesh extension
and the segment. -/
def State.radioHead (s : State) (r kind key seq : Nat) (ack rep : Bool) (path : List Nat) : List Byte :=
  let mesh := decide (1 < path.length)
  let dest := if path = [] then 2 else 0
  leBytes 1 (kind * 16 + 8 + b2n ack * 4 + b2n rep) ++
    leBytes 1 (0x40 + key * 16 + b2n mesh * 8 + dest) ++ leBytes 1 seq ++
    leBytes 2 (s.moduleNumber % 2 ^ 14 + r * 2 ^ 14) ++
    (match path with
     | [] => []
     | n :: rest => leBytes 2 n ++
       if mesh then leBytes 1 rest.length ++ rest.flatMap (leBytes 2) else [])

/-- The octets of a frame beside its payload: header, counter, MIC and FCS. -/
def frameOverhead (head : List Byte) : Nat := head.length + 10

/-- An item that is no waiting frame: the addressing of a beacon. -/
def beaconItem : TxItem :=
  { dest := none, kind := 0, prio := 0, body := [], tag := 0, key := 1, eui := 0, copies := 1, retries := 0,
    seq := none }

/-- R308: the beacon of the module in slot j, with its phase at the end of the SFD (R296).  One that does not fit the
slots at the measured period counts as a defer (R295); the next has its own content. -/
def State.sendBeacon (s : State) (r j slots : Nat) : State :=
  if s.fitsNow (s.slotNeed r 26 false 0) slots = false then s.addSat (RAD_DEFERS.count r) 1
  else
    let fsk := decide (s.get (RAD_PHY.mode r) ≤ 2)
    let us := s.get (RAD_GUARD.guard r) +
      airTime (s.get (RAD_PHY.mode r)) (s.get (RAD_PHY.preamble r)) 0 -
        airTime (s.get (RAD_PHY.mode r)) 0 0 / 2
    let ph := if fsk then (128 * 64 * j + openQuotN 296 (us * 65536 * 6400) s.period) % 65536 else s.freeVal % 65536
    let s := if fsk then s else s.draw
    let s := (s.set (RAD_BCN_PHASE.sfd_phase r) ph).nextCounter
    let x := s.radio r
    let flags := b2n s.ghost + s.get (RAD_CTRL.join_open r) * 2 + s.get (RAD_CTRL.leaving r) * 4 +
      s.get (RAD_CTRL.leave_to r) * 8
    let body := leBytes 6 s.clk.cycle ++ leBytes 2 ph ++ leBytes 1 flags ++
      leBytes 1 (s.get (RAD_STATUS.act_ver r)) ++ leBytes 1 x.gen
    let head := s.radioHead r 0 1 x.bcastSeq false false []
    (s.setRadio r { x with bcastSeq := (x.bcastSeq + 1) % 256 }).transmit r (s.inSlot r j)
      (s.sealFrame beaconItem s.segmentKey head body)

/-- The update records of one node that travel in one frame: as many waiting records as fit in
`slots` at the capacity frequency, with a preamble lengthened by `longer`. -/
def State.gather (s : State) (r slots overhead longer : Nat) : List TxItem → List TxItem → List TxItem
  | [], acc => acc
  | x :: rest, acc =>
    let len := overhead + ((acc ++ [x]).map fun y => y.body.length).foldl (· + ·) 0
    if acc = [] ∨ fitsCapacity (s.slotNeed r len true longer) slots (s.capacity r) then
      s.gather r slots overhead longer rest (acc ++ [x])
    else acc

/-- R310: the waiting items in priority order. -/
def byPriority (l : List TxItem) : List TxItem := l.mergeSort fun a b => decide (a.prio ≤ b.prio)

/-- A unicast frame is sent in slot j toward the first waiting item that `ok` admits (R310, R312, R315).  A frame
that does not fit at the measured period waits for the next slot (R295); at the duty limit it is
held back (R290).  To a sleepy neighbour the preamble is lengthened (R324, R325), and in repeated mode the repeat
bit is set (R325). -/
def State.sendDown (s : State) (r j slots : Nat) (rdv : Bool) (ok : TxItem → Bool) : State :=
  let x := s.radio r
  match x.flight, (byPriority x.queue).find? fun y => y.dest.isSome && ok y with
  | none, some y =>
    let n := y.dest.getD 0
    let path := s.pathTo 8 n
    let hop := path.headD n
    let nd := s.node hop
    let seq := y.seq.getD nd.txSeq
    let head := s.radioHead r y.kind y.key seq (decide (y.kind ≠ 9)) (nd.sleepy && nd.repeated) path
    let overhead := frameOverhead head
    let longer := s.longer r nd
    let same := (byPriority x.queue).filter fun z =>
      decide (z.dest = y.dest ∧ z.kind = 3 ∧ y.kind = 3 ∧ z.seq = y.seq)
    let items := if y.kind = 3 then s.gather r slots overhead longer same [] else [y]
    let body := items.flatMap TxItem.body
    if s.dutyFull r then
      (s.addSat (RAD_DUTY_BLOCKS.count r) 1).raise (RAD_INT_STATUS.duty_block r)
    else if s.fitsNow (s.slotNeed r (overhead + body.length) (decide (y.kind ≠ 9)) longer) slots then
      let s := s.nextCounter
      let psdu := s.sealFrame y (s.txKey y hop) head body
      let x := { x with queue := x.queue.filter fun z => !items.contains z }
      let fl : Flight := { node := n, hop := hop, seq := seq, rendezvous := rdv, items := items }
      let x := if y.kind = 9 then x else { x with flight := some fl }
      let s := if y.seq.isNone then s.setNode hop { nd with txSeq := (nd.txSeq + 1) % 256 } else s
      (s.setRadio r x).transmit r (s.toSleepy r j nd) psdu
    else s.addSat (RAD_DEFERS.count r) 1
  | _, _ => s

/-- A broadcast frame is sent in slot j (R304, R320): an item to be sent again keeps its sequence number. -/
def State.sendBroadcast (s : State) (r j slots : Nat) (ok : TxItem → Bool) : State :=
  let x := s.radio r
  match (byPriority x.queue).find? fun y => y.dest.isNone && ok y with
  | none => s
  | some y =>
    let seq := y.seq.getD x.bcastSeq
    let head := s.radioHead r y.kind y.key seq false false []
    if s.dutyFull r then
      (s.addSat (RAD_DUTY_BLOCKS.count r) 1).raise (RAD_INT_STATUS.duty_block r)
    else if s.fitsNow (s.slotNeed r (frameOverhead head + y.body.length) false 0) slots then
      let s := s.nextCounter
      let psdu := s.sealFrame y (s.txKey y 0) head y.body
      let rest := x.queue.erase y
      let again := { y with copies := y.copies - 1, seq := some seq }
      let x := { x with
        queue := if y.copies ≤ 1 then rest else rest ++ [again]
        bcastSeq := if y.seq.isNone then (x.bcastSeq + 1) % 256 else x.bcastSeq }
      (s.setRadio r x).transmit r (s.inSlot r j) psdu
    else s.addSat (RAD_DEFERS.count r) 1

/-- A grant of use `u` that holds slot `k` in this superframe (R301). -/
def State.slotGranted (s : State) (r k u : Nat) : Bool :=
  s.nodes.any fun x => x.2.joined && decide (x.2.transport = r) && x.2.grants.any fun g =>
    decide (g.k = k ∧ g.use_ = u ∧ superframe s.clk.cycle % 2 ^ g.m = g.r)

/-- R325: the consecutive rendezvous slots from slot k that no other parent is granted. -/
def State.rendezvousRun (s : State) (r k : Nat) : Nat :=
  ((List.range (512 - k)).takeWhile fun i =>
    let e := slotKind (s.slotEntry r (k + i))
    decide (e = 6 ∨ e = 8) && !s.slotGranted r (k + i) 3).length

/-- R323, R325: a frame to a sleepy neighbour may go in slot j: one of its sampling slots, every W-th slot of the
count of R289 (log entry 33); a long preamble covers W slots and waits for none. -/
def State.samples (s : State) (j : Nat) (nd : Node) : Bool :=
  nd.longPre || decide ((8 * s.clk.cycle + j) % nd.wake = 0)

/-- R297: the slots that a beacon outside LOCKED may take: two where no broadcast follows. -/
def State.ghostSlots (s : State) (r j : Nat) : Nat := if slotKind (s.slotEntry r (s.slotIndex (j + 1))) = 5 then 1 else 2

/-- RADIO_SLOT_START (R292, R297, R298): slot j of the running cycle begins on radio r: the module
sends what the slot is for, unless a long preamble still covers it.  While the clock is not LOCKED it sends its
beacon in slot 0 and the broadcasts only.  A disabled radio sends what it had accepted (R266). -/
def execRadioSlotStart (r : Fin 4) (j : Fin 8) (s : State) : Host.Outcome State Fault Refusal :=
  let on := s.flag (RAD_CTRL.enable r)
  let k := s.slotIndex j
  let e := s.slotEntry r k
  let slots := if slotDouble e then 2 else 1
  if !on && s.flag (RAD_CTRL.drained r) || s.shed || decide (s.phase / 128 ≠ j) then .next s
  else
    let s := if s.get CYC_STATUS.state ≠ stLOCKED then s.set (RAD_STATUS.ghost_beacons r) 1
      else if k = 0 then s.set (RAD_STATUS.ghost_beacons r) 0 else s
    let s := s.setRadio r { s.radio r with power := s.get (RAD_PHY.power r) }
    let bcast := fun (y : TxItem) => decide (y.kind ≠ 9)
    let hopOf := fun (y : TxItem) => s.node ((s.pathTo 8 (y.dest.getD 0)).headD 0)
    let awake := fun (y : TxItem) => !(hopOf y).sleepy
    let asleep := fun (y : TxItem) => (hopOf y).sleepy && s.samples j (hopOf y)
    if s.now < (s.radio r).tx.2 then .next s
    else if s.flag (RAD_STATUS.ghost_beacons r) then
      if j.val = 0 ∧ on then .next (s.sendBeacon r j (s.ghostSlots r j))
      else if slotKind e = 5 then .next ((s.feedCampaign r).sendBroadcast r j slots bcast)
      else .next s
    else if slotKind e = 1 ∧ k = 0 ∧ on then .next (s.sendBeacon r j slots)
    else if slotKind e = 3 ∧ s.slotGranted r k 1 = false then
      let t := s.sendDown r j slots false awake
      if t = s then .next (s.sendBroadcast r j slots fun y => decide (y.kind = 9)) else .next t
    else if slotKind e = 5 then .next ((s.feedCampaign r).sendBroadcast r j slots bcast)
    else if slotKind e = 6 ∧ s.slotGranted r k 3 = false then
      let first := ((byPriority (s.radio r).queue).find? fun y => y.dest.isSome && asleep y).map hopOf
      let slots := if (first.map Node.longPre) = some true then s.rendezvousRun r k else slots
      .next (s.sendDown r j slots true asleep)
    else .next s

/-! ## Receiving (R303, R307, R313, R314) -/

/-- A received header (R303): type, flags, key, sequence, source or mesh origin, counter, and the
octets of the header and of the sealed payload. -/
structure RxHead where
  kind : Nat
  ack : Bool
  key : Nat
  seq : Nat
  toModule : Bool
  src : Nat
  origin : Nat
  counter : Nat
  auth : List Byte
  sealed_ : List Byte
  deriving DecidableEq, Repr

/-- The header of a good frame of this module and radio; none for a frame with a bad FCS or
format. -/
def State.radioHeadOf (s : State) (r : Nat) (f : RxFrame) : Option RxHead :=
  let b := f.psdu
  let c0 := leAt b 0 1
  let c1 := leAt b 1 1
  if f.phyOk = false ∨ fcsOk b = false ∨ b.length < 11 then none
  else if c1 / 64 ≠ 1 ∨ c1 / 16 % 4 = 3 ∨ c1 % 4 = 3 then none
  else if leAt b 3 2 ≠ s.moduleNumber % 2 ^ 14 + r * 2 ^ 14 then none
  else if c0 / 8 % 2 = 0 ∨ 12 ≤ c0 / 16 then none
  else
    let p := 5 + (if c1 % 4 = 0 then 2 else 0)
    let hasSrc := c1 / 4 % 2 = 1
    let src := if hasSrc then leAt b p 2 else 0
    let p := if hasSrc then p + 2 else p
    let mesh := c1 / 8 % 2 = 1
    let origin := if mesh then leAt b (p + 1) 2 else src
    let p := if mesh then p + 3 else p
    let body := b.take (b.length - 2)
    if body.length < p + 4 then none
    else some
      { kind := c0 / 16, ack := c0 / 4 % 2 = 1, key := c1 / 16 % 4, seq := leAt b 2 1,
        toModule := c1 % 4 = 1, src := src, origin := origin, counter := leAt b p 4,
        auth := body.take (p + 4), sealed_ := body.drop (p + 4) }

/-- R308: an acknowledgement of the module, with the pending bit and the measured offset. -/
def State.sendAck (s : State) (r : Nat) (seq : Nat) (pending : Bool) (o : Option Int) : State :=
  let w := match o with
    | some v => pattern 16 v
    | none => 0x8000
  s.transmit r (s.asAck r) (withFcs (leBytes 1 (16 + b2n pending * 2) ++ leBytes 1 seq ++ leBytes 2 w))

/-- R313: the module holds a frame whose next receiver is node `n`. -/
def State.holdsFor (s : State) (r n : Nat) : Bool :=
  (s.radio r).queue.any fun x => x.dest.isSome && decide ((s.pathTo 8 (x.dest.getD 0)).headD 0 = n)

/-- R314: the last accepted sequence number of a neighbour; the answer says whether this one repeats it. -/
def State.sequence (s : State) (n seq : Nat) : State × Bool :=
  let nd := s.node n
  let dup := decide (nd.rxSeq = some seq)
  (s.setNode n { nd with rxSeq := some seq, duplicates := min (nd.duplicates + b2n dup) 0xFFFF }, dup)

/-- R307: a frame that fails security. -/
def State.radioSecFail (s : State) (r : Nat) : State :=
  (s.addSat (RAD_SEC_FAIL.count r) 1).raise (RAD_INT_STATUS.sec_fail r)

/-- A frame of type `kind` from a node is received on a radio in service: the state after its checks and
its acknowledgement, and its header and payload when it is to be applied. -/
def State.radioReceive (s : State) (r kind : Nat) (f : RxFrame) : State × Option (RxHead × List Byte) :=
  if s.flag (RAD_CTRL.enable r) = false then (s, none)
  else match s.radioHeadOf r f with
    | none => (s.addSat (RAD_RX_BAD.count r) 1, none)
    | some h =>
      if h.toModule = false ∨ h.kind ≠ kind ∨ h.key = 2 then (s, none)
      else
        let nd := s.node h.src
        match s.openFrame h.key h.src nd.eui h.counter h.auth h.sealed_ with
        | none => (s.radioSecFail r, none)
        | some body =>
          let k := s.counterOf h.key h.src h.counter h.auth h.sealed_
          if nd.joined = false ∨ nd.counterOk k h.counter = false then (s.radioSecFail r, none)
          else
            let (s, dup) := (s.setNode h.src (nd.setCounter k h.counter)).sequence h.src h.seq
            let s := s.heard h.src f.offset
            let s := if h.ack then s.sendAck r h.seq (s.holdsFor r h.src) f.offset else s
            if dup then (s.addSat (RAD_DUPLICATES.count r) 1, none)
            else (s.addWrap (RAD_RX_FRAMES.count r) 1, some (h, body))

/-- RADIO_BAD_FRAME (R287, R303). -/
def execRadioBadFrame (r : Fin 4) (f : RxFrame) (s : State) : Host.Outcome State Fault Refusal :=
  match s.radioHeadOf r f with
  | none => if s.flag (RAD_CTRL.enable r) then .next (s.addSat (RAD_RX_BAD.count r) 1) else .next s
  | some _ => .next s

/-- REPORT (R309, R313, R314). -/
def execReport (r : Fin 4) (f : RxFrame) (s : State) : Host.Outcome State Fault Refusal :=
  match s.radioReceive r 2 f with
  | (s, some (h, body)) => .next (s.acceptReport h.origin body)
  | (s, none) => .next s

/-- GRANT_REQUEST (R302), code 0: the scheduler gives the node grants of the active version. -/
def execGrantRequest (r : Fin 4) (f : RxFrame) (gs : List NodeGrant) (s : State) :
    Host.Outcome State Fault Refusal :=
  match s.radioReceive r 7 f with
  | (s, some (h, body)) =>
    if leAt body 0 1 = 0 then .next (s.giveGrants h.origin r (s.get (RAD_STATUS.act_ver r)) gs)
    else .next s
  | (s, none) => .next s

/-- The arming record of a cue identifier, on the stage holder. -/
def State.armRecord (s : State) (id : Nat) : Option ArmRec :=
  let c := s.cues s.stageDie
  (c.arming.find? fun x => match x.2 with
    | some a => decide (a.id = id)
    | none => false).bind Prod.snd

/-- The arm frames of a record on a transport, for a cue generation: entries cut into fragments of
`per`. -/
def State.armFrames (s : State) (t gen : Nat) (a : ArmRec) (per flags : Nat) : List (List Byte) :=
  let es := armEntries (mergeMask (s.armNames (s.die s.stageDie) t (a.cue.ranges.getD []))) []
  let fr := pieces per 4096 es
  (fr.zip (List.range fr.length)).map fun x =>
    armBody gen a.id (a.cue.stamp.getD 0) (max 1 a.cue.fade) (flags + b2n a.cue.curve) x.2 fr.length x.1

/-- R294, R295: the entries of the largest arm fragment a radio can broadcast. -/
def State.armPer (s : State) (r : Nat) : Nat :=
  let fits := (List.range 256).filter fun n =>
    fitsCapacity (s.slotNeed r (28 + 8 * n) false 0) (s.slotsOf r 5) (s.capacity r)
  fits.getLastD 0

/-- R321: what a generation on a transport announced is answered by unicast to a node, in fragments that it can be
sent (R295), with the late flag once the stamp has passed; the answer says whether there was something to send. -/
def State.repair (s : State) (t n gen : Nat) (gens : Tbl (Option Generation)) : State × Bool :=
  match Tbl.get none gens gen with
  | none => (s, false)
  | some g =>
    let late := decide (g.stamp ≤ s.clk.cycle)
    if g.cancel then
      if g.node.isSome ∧ g.node ≠ some n then (s, false)
      else (s.queueFrame n 5 (leBytes 1 gen ++ leBytes 4 g.id ++ leBytes 1 (b2n late * 2)), true)
    else match s.armRecord g.id with
      | none => (s, false)
      | some a =>
        let per := (s.downRoom t n - 13) / 8
        if per = 0 then (s, false)
        else ((s.armFrames t gen a per (b2n late * 2)).foldl (fun s b => s.queueFrame n 4 b) s, true)

/-- REPAIR_REQUEST (R321): a grant request of code 1. -/
def execRepairRequest (r : Fin 4) (f : RxFrame) (s : State) : Host.Outcome State Fault Refusal :=
  match s.radioReceive r 7 f with
  | (s, some (h, body)) =>
    if leAt body 0 1 = 1 then
      let (s, done) := s.repair r h.origin (leAt body 1 1) (s.radio r).gens
      if done then
        let nd := s.node h.origin
        .next ((s.setNode h.origin { nd with repairs := nd.repairs + 1 }).addSat (RAD_REPAIRS.count r) 1)
      else .next s
    else .next s
  | (s, none) => .next s

/-- REHOME_REQUEST (R327, R328): a grant request of code 2 on a node's new radio; its parent there is whoever it
came through. -/
def execRehomeRequest (r : Fin 4) (f : RxFrame) (gs : List NodeGrant) (s : State) :
    Host.Outcome State Fault Refusal :=
  match s.radioReceive r 7 f with
  | (s, some (h, body)) =>
    if leAt body 0 1 = 2 then
      .next ((s.rehome h.origin r (if h.src = h.origin then 0 else h.src)).giveGrants h.origin r
        (s.get (RAD_STATUS.act_ver r)) gs)
    else .next s
  | (s, none) => .next s

/-- R314: the sequence number of a join request, kept by EUI-64 for a node that is heard itself and by neighbour for
a relay. -/
def State.joinSequence (s : State) (r eui : Nat) (h : RxHead) : State × Bool :=
  if h.src = 0 then
    let x := s.radio r
    (s.setRadio r { x with joinSeq := Tbl.put 0 x.joinSeq eui (1 + h.seq) },
      decide (Tbl.get 0 x.joinSeq eui = 1 + h.seq))
  else s.sequence h.src h.seq

/-- JOIN_REQUEST (R305, R307, R314, R319): the request of the node with EUI-64 `eui`, heard directly or
through a relay. -/
def execJoinRequest (r : Fin 4) (f : RxFrame) (eui : BitVec 64) (gs : List NodeGrant) (s : State) :
    Host.Outcome State Fault Refusal :=
  if s.flag (RAD_CTRL.enable r) = false then .next s
  else match s.radioHeadOf r f with
    | none => .next (s.addSat (RAD_RX_BAD.count r) 1)
    | some h =>
      if h.kind ≠ 8 ∨ h.key ≠ 2 ∨ h.toModule = false then .next s
      else match s.openFrame 2 h.src eui.toNat h.counter h.auth h.sealed_ with
        | none => .next (s.radioSecFail r)
        | some body =>
          let q := JoinReq.ofBytes body
          let known := (s.addressOf eui.toNat).map s.node
          if q.eui ≠ eui.toNat ∨ (known.map fun n => n.counterOk 2 h.counter) = some false then
            .next (s.radioSecFail r)
          else
            let s := if h.ack then s.sendAck r h.seq false f.offset else s
            let (s, dup) := s.joinSequence r eui.toNat h
            if dup then .next (s.addSat (RAD_DUPLICATES.count r) 1)
            else
              let seq := if h.src = 0 then some h.seq else none
              match (s.addWrap (RAD_RX_FRAMES.count r) 1).join r h.origin q h.counter seq (f.offset.getD 0) with
              | (s, some a) =>
                .next (((s.giveGrants a r (s.get (RAD_STATUS.act_ver r)) gs).calibrateNode a).raise
                  (RAD_INT_STATUS.join r))
              | (s, none) => .next s

/-! ## Acknowledgement (R313, R315, R325) -/

/-- A node that has left keeps its key until its last frame is done with (R311). -/
def State.dropKey (s : State) (n : Nat) : State :=
  if (s.node n).joined then s
  else { s with link := { s.link with nodes := Tbl.put [] s.link.nodes n [] } }

/-- ACKNOWLEDGEMENT (R308, R313): it ends the retries of the frame sent, and updates the hop's phase
offset; a sleepy node returns to short mode (R325). -/
def execAcknowledgement (r : Fin 4) (f : RxFrame) (s : State) : Host.Outcome State Fault Refusal :=
  let b := f.psdu
  if f.phyOk = false ∨ fcsOk b = false ∨ b.length ≠ 6 ∨ leAt b 0 1 / 16 ≠ 1 then
    .next (s.addSat (RAD_RX_BAD.count r) 1)
  else match (s.radio r).flight with
    | none => .next s
    | some fl =>
      if leAt b 1 1 = fl.seq then
        let nd := s.node fl.hop
        let o := if leAt b 2 2 = 0x8000 then 0 else signed 16 (leAt b 2 2)
        let s := s.setNode fl.hop { nd with missRun := 0, longPre := false, repeated := false,
                                            offset := nd.offset - o }
        let s := s.setRadio r { s.radio r with flight := none }
        let s := ((fl.items.filter fun x => x.kind = 3).map TxItem.body).foldl
          (State.recordConfirmed fl.node) s
        .next ((s.addWrap (RAD_RX_FRAMES.count r) 1).dropKey fl.node)
      else .next s

/-- R325: a rendezvous passes without acknowledgement; the second in a row switches the node to its
miss mode. -/
def State.missRendezvous (s : State) (r n : Nat) : State :=
  let nd := s.node n
  let s := s.addSat (RAD_RDV_MISSED.count r) 1
  let nd := { nd with missRun := nd.missRun + 1, missedRdv := min (nd.missedRdv + 1) 0xFFFF }
  if nd.missRun = 2 then
    let rep := decide (leAt nd.sleep 2 1 = 1)
    (s.setNode n { nd with longPre := !rep, repeated := rep,
                           missEntries := min (nd.missEntries + 1) 0xFFFF }).raise
      (RAD_INT_STATUS.long_mode r)
  else s.setNode n nd

/-- R325: the repeats still to come of a frame whose rendezvous passed without acknowledgement: 4 from the switch to
repeated frames on; a frame begun in that mode is the first of its 4. -/
def repeatsLeft (before after : Node) (fl : Flight) : Nat :=
  let c := (fl.items.map TxItem.copies).foldl max 1
  if after.repeated = false then 0
  else if before.repeated = false then 4
  else if c = 1 ∧ fl.items.all (fun y => decide (y.retries = 0)) then 3
  else c - 2

/-- ACK_MISSING (R315, R325): the frame sent is retransmitted in the next usable slot, or discarded
at the retry limit, with the repeats to a sleepy node sent, or once the radio has drained (R267). -/
def execAckMissing (r : Fin 4) (s : State) : Host.Outcome State Fault Refusal :=
  match (s.radio r).flight with
  | none => .next s
  | some fl =>
    let x := s.radio r
    let n := (fl.items.map TxItem.retries).foldl max 0
    let before := s.node fl.hop
    let s := if fl.rendezvous then s.missRendezvous r fl.hop else s
    let left := if fl.rendezvous then repeatsLeft before (s.node fl.hop) fl else 0
    let nd := s.node fl.node
    if (s.get (RAD_RETRY.limit r) ≤ n ∧ left = 0) ∨ s.flag (RAD_CTRL.drained r) then
      let s := s.setRadio r { x with flight := none }
      let s := s.setNode fl.node { nd with drops := min (nd.drops + 1) 0xFFFF }
      .next (((s.addSat (RAD_DROPS.count r) 1).raise (RAD_INT_STATUS.drop r)).dropKey fl.node)
    else
      let stale := fun (y : TxItem) => decide (y.kind = 3) && x.queue.any fun z =>
        decide (z.kind = 3 ∧ z.dest = y.dest ∧ z.tag = y.tag)
      let back := (fl.items.filter fun y => !stale y).map fun y =>
        { y with retries := n + 1, copies := left + 1, seq := some fl.seq }
      let s := s.setRadio r { x with flight := none, queue := back ++ x.queue }
      let s := s.setNode fl.node { nd with retries := nd.retries + 1 }
      .next (s.addSat (RAD_RETRIES.count r) 1)

/-! ## Slot tables (R299, R300) -/

/-- R300: the inactive table is in form. -/
def State.slotTableOk (s : State) (r : Nat) (x : RadioState) : Bool :=
  let e := fun k => Tbl.get 0 x.inactive k
  let needDouble := !fitsCapacity (s.slotNeed r 26 false 0) 1 (s.capacity r)
  decide (slotKind (e 0) = 1) && (slotDouble (e 0) || !needDouble) &&
  (List.range 512).all fun k =>
    decide (slotKind (e k) ≤ 8) &&
    (!slotDouble (e k) || decide (k ≠ 511 ∧ k % 8 ≠ 7 ∧ slotKind (e (k + 1)) = 8)) &&
    (decide (slotKind (e k) ≠ 8) || (decide (0 < k) && slotDouble (e (k - 1))))

/-- R300: a grant in force names a slot whose kind would change. -/
def State.swapConflict (s : State) (r : Nat) (x : RadioState) : Bool :=
  s.nodes.any fun n => n.2.joined && decide (n.2.transport = r) && n.2.grants.any fun g =>
    decide (slotKind (Tbl.get 0 x.active g.k) ≠ slotKind (Tbl.get 0 x.inactive g.k))

/-- A swap request (R300). -/
def State.swapRequest (s : State) (r version : Nat) : State :=
  let x := s.radio r
  if version = s.get (RAD_STATUS.inact_ver r) ∧ x.swapBy = none ∧ s.slotTableOk r x = true ∧
      s.swapConflict r x = false then
    (s.setRadio r { x with swapBy := some (superframe s.clk.cycle + 4) }).set
      (RAD_STATUS.swap_pending r) 1
  else
    (s.setRadio r { x with swapRefused := x.swapRefused + 1 }).raise (RAD_INT_STATUS.swap_refused r)

/-- SLOT_TABLE_SWAP (R300): a write of RAD_SWAP. -/
def execSlotTableSwap (r : Fin 4) (version : BitVec 8) (s : State) : Host.Outcome State Fault Refusal :=
  .next (s.swapRequest r version.toNat)

/-- R300: an accepted swap is made at a superframe boundary. -/
def State.swapSlots (s : State) (r : Nat) : State :=
  let x := s.radio r
  let v := s.get (RAD_STATUS.inact_ver r)
  let s := s.setRadio r { x with active := x.inactive, swapBy := none }
  let s := (s.set (RAD_STATUS.act_ver r) v).set (RAD_STATUS.inact_ver r) ((v + 1) % 256)
  (s.set (RAD_STATUS.swap_pending r) 0).raise (RAD_INT_STATUS.swap_done r)

/-- The word at the slot pointer of a bank. -/
def State.slotWord (s : State) (r : Nat) : Nat :=
  let x := s.radio r
  Tbl.get 0 (if s.flag (RAD_SLOT_ADDR.bank r) then x.active else x.inactive) (s.get (RAD_SLOT_ADDR.index r))

/-- R299: an entry keeps its kind and double bits; the reserved bits read 0. -/
def State.putSlot (s : State) (r k w : Nat) : State :=
  let x := s.radio r
  s.setRadio r { x with inactive := Tbl.put 0 x.inactive k (w / 2 ^ 27 * 2 ^ 27) }

/-- R299: after an access to RAD_SLOT_DATA the index increments. -/
def State.slotNext (s : State) (r : Nat) : State :=
  s.set (RAD_SLOT_ADDR.index r) ((s.get (RAD_SLOT_ADDR.index r) + 1) % 512)

/-- R299: a write of RAD_SLOT_DATA; a violation's kind where the bank is the active one. -/
def State.slotWrite (s : State) (r w : Nat) : Except Nat State :=
  if s.flag (RAD_SLOT_ADDR.bank r) then .error vkRule
  else .ok ((s.putSlot r (s.get (RAD_SLOT_ADDR.index r)) w).slotNext r)

/-- SLOT_DATA_ACCESS (R299): a read or write of RAD_SLOT_DATA; the index increments after it. -/
def execSlotDataAccess (p : Port) (r : Fin 4) (w : Option Word) (s : State) :
    Host.Outcome State Fault Refusal :=
  let k := radBase r + 0x34
  match w with
  | none =>
    .next (s.access (apronRead p k) fun s =>
      (s.emit (.regRead p k (BitVec.ofNat 32 (s.slotWord r)))).slotNext r)
  | some v =>
    .next (s.access (apronWrite p k) fun s => s.wrote (apronWrite p k) (s.slotWrite r v.toNat))

/-! ## Out of service (R311, R327, R328) -/

/-- NODE_LEAVE (R311, R333, R334): node command 4 is sent and the address freed; refused for an
address that is not joined. -/
def execNodeLeave (n : BitVec 16) (s : State) : Host.Outcome State Fault Refusal :=
  let nd := s.node n.toNat
  if nd.joined then
    .next (s.nodeLeaves n.toNat)
  else .next s

/-- R327: a planned leave begins. -/
def State.radioLeave (s : State) (r : Nat) : State :=
  if s.flag (RAD_CTRL.enable r) ∧ ¬ s.flag (RAD_CTRL.leaving r) then
    let x := s.radio r
    ((s.setRadio r { x with leaveBy := some (s.clk.cycle + 128), moveTo := some (some (s.get (RAD_CTRL.leave_to r))) }).set
      (RAD_CTRL.leave r) 1).set
      (RAD_CTRL.leaving r) 1
  else s

/-- RADIO_LEAVE (R327). -/
def execRadioLeave (r : Fin 4) (s : State) : Host.Outcome State Fault Refusal :=
  .next (s.radioLeave r)

/-- A radio's enable clears (R266): it stops taking in frames and drains. -/
def State.radioOff (s : State) (r : Nat) : State :=
  let x := s.radio r
  let since := if s.flag (RAD_CTRL.enable r) then s.clk.cycle + 1 else Tbl.get 0 s.drainFrom r
  let s := { s with drainFrom := Tbl.put 0 s.drainFrom r since }
  ((s.setRadio r { x with leaveBy := none }).set (RAD_CTRL.enable r) 0).set (RAD_CTRL.leave r) 0
    |>.set (RAD_CTRL.leaving r) 0

/-- RADIO_LEAVE_END (R327): after two superframes the radio clears its enable and drains. -/
def execRadioLeaveEnd (r : Fin 4) (s : State) : Host.Outcome State Fault Refusal :=
  match (s.radio r).leaveBy with
  | some c => if c ≤ s.clk.cycle then .next (s.radioOff r) else .next s
  | none => .next s

/-- R328: a radio that has failed is out of service at once; its nodes are spread at the next superframe
boundary. -/
def State.radioFails (s : State) (r : Nat) : State :=
  let s := s.radioOff r
  s.setRadio r { s.radio r with moveTo := some none }

/-- RADIO_FAILURE (R328, R330): the radio is taken out of service at once. -/
def execRadioFailure (r : Fin 4) (s : State) : Host.Outcome State Fault Refusal :=
  .next ((s.radioFails r).post .data (cbSource originApron cbRAD r) (unnamed (66 + 8 * r)) [])

/-- R327, R328: the nodes of a radio that leaves or has failed move at the first superframe boundary. -/
def State.radioMoves (s : State) (r : Nat) : State :=
  match (s.radio r).moveTo with
  | none => s
  | some new =>
    let s := s.setRadio r { s.radio r with moveTo := none }
    s.spread r new

/-- What a superframe boundary does to a radio (R297, R300, R327, R328). -/
def State.radioBoundary (delivered : List (Fin 4)) (s : State) (r : Nat) : State :=
  if s.clk.cycle % 64 ≠ 0 then s
  else
    let s := s.radioMoves r
    match (s.radio r).swapBy with
    | some n =>
      if n ≤ superframe s.clk.cycle ∨ (delivered.map Fin.val).contains r then s.swapSlots r else s
    | none => s

/-- R301, R327, R328: the scheduler's grants of a boundary. -/
def State.scheduleGrant (s : State) (g : SchedGrant) : State :=
  let n := g.node.toNat
  (s.rehome n g.transport (s.node n).parent).giveGrants n g.transport g.version.toNat g.grants

/-- R320: the next cue generation of a transport. -/
def nextGen (gen : Nat) : Nat := (gen + 1) % 256

/-- The stamp of a cue whose arm a transport has announced. -/
def stampIn (gens : Tbl (Option Generation)) (id : Nat) : Nat :=
  match (gens.filterMap Prod.snd).find? fun g => decide (g.id = id) && !g.cancel with
  | some g => g.stamp
  | none => 0

/-- R308: the payload of a cancel. -/
def cancelBody (gen id : Nat) (late : Bool) : List Byte := leBytes 1 gen ++ leBytes 4 id ++ leBytes 1 (b2n late * 2)

/-- R320: a cue is armed on a radio: its fragments wait for broadcast slots, each for two of them; a
cue that needs more than 16 fragments is declined. -/
def State.armOnRadio (s : State) (r : Nat) (a : ArmRec) : State × Bool :=
  let x := s.radio r
  let gen := nextGen x.gen
  let fr := s.armFrames r gen a (s.armPer r) 0
  if 16 < fr.length ∨ (s.armPer r = 0 ∧ fr ≠ []) then (s, true)
  else
    let g : Generation := { id := a.id, stamp := stampCycle (a.cue.stamp.getD 0), cancel := false, node := none }
    let s := s.setRadio r { x with gen := gen, gens := Tbl.put none x.gens gen (some g) }
    (fr.foldl (fun s b => s.queueBroadcast r 4 0 b 2 a.id) s, false)

/-- R231, R320: a cancellation on a radio; with a hold it goes to one node (R228). -/
def State.cancelOnRadio (s : State) (r id : Nat) (late : Bool) (node : Option Nat) : State :=
  let x := s.radio r
  let gen := nextGen x.gen
  let g : Generation := { id := id, stamp := stampIn x.gens id, cancel := true, node := node }
  let s := s.setRadio r { x with gen := gen, gens := Tbl.put none x.gens gen (some g) }
  match node with
  | none => s.queueBroadcast r 5 0 (cancelBody gen id late) 2 id
  | some n => s.queueFrame n 5 (cancelBody gen id late)

end Sys2Proof.Machine
end

