-- ==== Sys2Proof/Machine/Plc.lean ====
section
/-! DEFINITION. The powerline channels: windows, runs, bundles, reports, joining and port bypass
(R335-R365), and the hand-off of transport updates and cues to the node transports (R180, R226, R228,
R231). -/

namespace Sys2Proof.Machine

/-- R342: the frame releases the line by the end of its run at the measured period. -/
def State.plcFitsNow (s : State) (p len run : Nat) : Bool :=
  decide (s.plcHold p len * 25600 ≤ s.period * run)

/-! ## The window plan (R345-R347) -/

/-- R341: the window index of window w of the running cycle. -/
def State.windowIndex (s : State) (w : Nat) : Nat := 4 * (s.clk.cycle % 64) + w

/-- R345, R347: a plan is in form: kinds 1 and 2 in windows 0 and 2, kinds 3 to 5 in windows 1 and 3,
and no start in a window an earlier run covers. -/
def planOk (p : List Nat) : Bool :=
  decide (p.length = 256) && (List.range 256).all fun k =>
    let w := p.getD k 0
    let kind := planKind w
    decide (kind ≤ 6) && decide (w / 2 ^ 16 % 2 ^ 7 = 0) && decide (kind ≠ 3 → w % 2 ^ 16 = 0) &&
    decide (kind = 1 ∨ kind = 2 → k % 2 = 0) && decide (3 ≤ kind ∧ kind ≤ 5 → k % 2 = 1) &&
    (!decide (1 ≤ kind ∧ kind ≤ 5) || (List.range (planRun w - 1)).all fun i =>
      decide (planKind (p.getD (k + 1 + i) 6) = 0 ∨ planKind (p.getD (k + 1 + i) 6) = 6))

/-- R346: a new plan version comes into force at a superframe boundary. -/
def State.newPlan (s : State) (x : Fin 2 × BitVec 8 × List (BitVec 32)) : State :=
  let p := x.1.val
  let l := x.2.2.map BitVec.toNat
  if s.clk.cycle % 64 = 0 ∧ planOk l then
    let t := (List.range 256).foldl (fun t k => Tbl.put 0 t k (l.getD k 0)) []
    ((s.setPlc p { s.plc p with plan := t }).set (PLC_STATUS.plan_ver p) x.2.1.toNat).raise
      (PLC_INT_STATUS.plan_swap p)
  else s

/-! ## Sending -/

/-- R350: the sync block of port p. -/
def State.syncBlock (s : State) (p : Nat) (ph : Nat) : List Byte :=
  let flags := b2n s.ghost + s.get (PLC_CTRL.join_open p) * 2 + s.get (PLC_CTRL.leaving p) * 4 +
    (1 - p) * 8
  leBytes 6 s.clk.cycle ++ leBytes 2 ph ++ leBytes 1 flags ++ leBytes 1 (s.get (PLC_STATUS.plan_ver p)) ++
    leBytes 1 (s.plc p).gen

/-- R348: the header of a module frame on the line. -/
def State.plcHead (s : State) (p kind key seq : Nat) (dest : Option Nat) : List Byte :=
  leBytes 1 (kind * 16 + 8) ++
    leBytes 1 (0x80 + key * 16 + (match dest with | some _ => 0 | none => 2)) ++ leBytes 1 seq ++
    leBytes 2 (s.moduleNumber % 2 ^ 14 + p * 2 ^ 14) ++
    (match dest with | some n => leBytes 2 n | none => [])

/-- A frame goes on the line: its preamble begins 200 µs after the start of the window, and it holds the line for its
run (R342).  Its level is the attenuation in force below the full output level (R339). -/
def State.plcTransmit (s : State) (p : Nat) (psdu : List Byte) : State :=
  if s.shed then s else
  let x := s.plc p
  let hold := s.plcHold p psdu.length
  let s := s.setPlc p { x with heldUntil := s.now + 25 * hold, tx := (s.now + 25 * 200, s.now + 25 * (hold - 500)),
                               bcastSeq := (x.bcastSeq + 1) % 256 }
  ((s.addWrap (PLC_TX_FRAMES.count p) 1).set (PLC_STATUS.line_held p) 1).emit
    (.powerline p (s.get (PLC_PHY.atten p)) psdu)

/-- R342, R343: a frame of a type and payload is sent when it fits `run` windows and the measured
period; the answer says whether it left. -/
def State.plcSend (s : State) (p : Nat) (y : TxItem) (body : List Byte) (run : Nat) : State × Bool :=
  let head := s.plcHead p y.kind y.key (s.plc p).bcastSeq y.dest
  let len := head.length + 4 + body.length + 6
  if s.plcRun p len ≤ min run 32 ∧ s.plcFitsNow p len (s.plcRun p len) then
    let s := s.nextCounter
    (s.plcTransmit p (s.sealFrame y (s.txKey y (y.dest.getD 0)) head body), true)
  else (s.addSat (PLC_DEFERS.count p) 1, false)

/-- An empty item of a type, for frames the port makes itself. -/
def frameItem (kind : Nat) : TxItem :=
  { dest := none, kind, prio := 0, body := [], tag := 0, key := 1, eui := 0, copies := 1, retries := 0,
    seq := none }

/-- R351: one group of a bundle. -/
def groupBytes (n seq reply : Nat) (records : List (List Byte)) : List Byte :=
  leBytes 2 n ++ leBytes 1 seq ++ leBytes 1 reply ++ leBytes 1 records.length ++ records.flatten

/-- The waiting updates by node, in the order of their first item. -/
def updateNodes (q : List TxItem) : List Nat :=
  ((byPriority q).filter fun x => decide (x.kind = 3)).foldl (fun l x =>
    let n := x.dest.getD 0
    if l.contains n then l else l ++ [n]) []

/-- R353: the down sequence of a node's group: kept while no value has changed. -/
def groupSeq (nd : Node) (items : List TxItem) : Nat × Bool :=
  match items with
  | [] => (nd.txSeq, true)
  | x :: _ =>
    match x.seq with
    | some q => if items.all fun y => decide (y.seq = some q) then (q, false) else (nd.txSeq, true)
    | none => (nd.txSeq, true)

/-- The groups of the next bundle: as many nodes as fit in `run` windows.  Each asks for a reply at a
place the scheduler chooses (R351; a free value). -/
def State.bundle (s : State) (p run : Nat) : List Nat → List Byte → List PlcGroup →
    State × List Byte × List PlcGroup
  | [], body, gs => (s, body, gs)
  | n :: rest, body, gs =>
    let items := (s.plc p).queue.filter fun x => decide (x.kind = 3 ∧ x.dest = some n)
    let (seq, fresh) := groupSeq (s.node n) items
    let v := s.freeVal
    let reply := 0x80 + v % 2 * 64 + (1 + v / 2 % 63)
    let g := groupBytes n seq reply (items.map TxItem.body)
    let len := 9 + 11 + body.length + g.length + 6
    if s.plcRun p len ≤ min run 32 then
      let nd := s.node n
      let s := if fresh then s.setNode n { nd with txSeq := (nd.txSeq + 1) % 256 } else s
      let gr : PlcGroup := { node := n, seq := seq, records := items.map TxItem.body,
                             repeats := (items.map TxItem.retries).foldl max 0 }
      s.draw.bundle p run rest (body ++ g) (gs ++ [gr])
    else (s, body, gs)

/-- The measured phase of a frame at the end of its preamble, which only the transmitter knows
(R350): a free value. -/
def State.plcPhase (s : State) : Nat := s.freeVal % 65536

/-- The port after a bundle of updates was or was not sent: its updates wait for their confirmation. -/
def State.bundleSent (p : Nat) (gs : List PlcGroup) (x : State × Bool) : State :=
  if x.2 then
    let z := x.1.plc p
    x.1.setPlc p { z with
      queue := z.queue.filter fun i => !(decide (i.kind = 3) && gs.any fun g => decide (i.dest = some g.node))
      groups := (z.groups.filter fun g => !(gs.any fun h => decide (h.node = g.node))) ++ gs }
  else x.1

/-- The port after a waiting frame was or was not sent: a broadcast goes on until its copies are out. -/
def State.frameSent (p : Nat) (y : TxItem) (x : State × Bool) : State :=
  if x.2 then
    let z := x.1.plc p
    let rest := z.queue.erase y
    let again := { y with copies := y.copies - 1 }
    x.1.setPlc p { z with queue := if y.copies ≤ 1 then rest else rest ++ [again] }
  else x.1

/-- The port after a sync frame was or was not sent. -/
def State.syncSent (x : State × Bool) : State := x.1

/-- The window-0 frame: a waiting broadcast, bundle or unicast frame in priority order, else a sync
frame. -/
def State.windowZero (s : State) (p run : Nat) (ok : TxItem → Bool) : State :=
  let sync := s.draw.syncBlock p s.plcPhase
  let s := s.draw
  let q := (s.plc p).queue
  match (byPriority q).find? ok with
  | none => State.syncSent (s.plcSend p (frameItem 0) sync run)
  | some y =>
    if y.kind = 3 then
      let b := s.bundle p run (updateNodes q) [] []
      State.bundleSent p b.2.2 (b.1.plcSend p (frameItem 3) (sync ++ b.2.1) run)
    else State.frameSent p y (s.plcSend p y ((if y.kind = 9 then [] else sync) ++ y.body) run)

/-- The port after an acknowledgement frame was or was not sent: the entries that it still holds. -/
def State.acksSent (p : Nat) (left : List (Nat × Nat × Nat)) (x : State × Bool) : State :=
  if x.2 then x.1.setPlc p { x.1.plc p with acks := left } else x.1

/-- R352: an acknowledgement frame carries the entries of the accepted reports that fit. -/
def State.plcAckFrame (s : State) (p run : Nat) : State :=
  let x := s.plc p
  if x.acks = [] then s
  else
    let ph := s.plcPhase
    let s := s.draw
    let fits := (List.range (x.acks.length + 1)).filter fun n => decide (s.plcRun p (27 + 5 * n) ≤ min run 32)
    let n := fits.getLastD 0
    let es := x.acks.take n
    let body := s.syncBlock p ph ++ leBytes 1 n ++
      es.flatMap fun e => leBytes 2 e.1 ++ leBytes 1 e.2.1 ++ leBytes 2 e.2.2
    State.acksSent p (x.acks.drop n) (s.plcSend p (frameItem 1) body run)

/-- PLC_WINDOW_START (R341, R342, R357): window w of the running cycle begins on port p. -/
def execPlcWindowStart (p : Fin 2) (w : Fin 4) (s : State) : Host.Outcome State Fault Refusal :=
  let on := s.flag (PLC_CTRL.enable p)
  let k := s.windowIndex w
  let e := Tbl.get 0 (s.plc p).plan k
  if !on && s.flag (PLC_CTRL.drained p) || s.shed || decide (s.phase / 256 ≠ w) then .next s
  else if s.now < (s.plc p).heldUntil then .next s
  else
    let s := s.set (PLC_STATUS.line_held p) 0
    let s := if s.get CYC_STATUS.state ≠ stLOCKED then s.set (PLC_STATUS.ghost_sync p) 1
      else if k = 0 then s.set (PLC_STATUS.ghost_sync p) 0 else s
    let bcast := fun (y : TxItem) => decide (y.dest = none ∧ (y.kind = 4 ∨ y.kind = 5 ∨ y.kind = 10))
    if s.flag (PLC_STATUS.ghost_sync p) then
      if w.val = 0 ∧ on then .next ((s.feedCampaign (4 + p)).windowZero p 32 bcast) else .next s
    else if planKind e = 1 then .next ((s.feedCampaign (4 + p)).windowZero p (planRun e) fun _ => true)
    else if planKind e = 2 then .next (s.plcAckFrame p (planRun e))
    else .next s

/-! ## Receiving (R348, R352, R358) -/

/-- The header of a good frame of this module and port; none for a bad one. -/
def State.plcHeadOf (s : State) (p : Nat) (f : RxFrame) : Option RxHead :=
  let b := f.psdu
  let c0 := leAt b 0 1
  let c1 := leAt b 1 1
  if f.phyOk = false ∨ fcsOk b = false ∨ b.length < 11 then none
  else if c1 / 64 ≠ 2 ∨ c1 / 16 % 4 = 3 ∨ c1 % 4 = 3 ∨ c1 / 8 % 2 = 1 then none
  else if leAt b 3 2 ≠ s.moduleNumber % 2 ^ 14 + p * 2 ^ 14 then none
  else if c0 / 8 % 2 = 0 ∨ 12 ≤ c0 / 16 then none
  else
    let q := 5 + (if c1 % 4 = 0 then 2 else 0)
    let hasSrc := c1 / 4 % 2 = 1
    let src := if hasSrc then leAt b q 2 else 0
    let q := if hasSrc then q + 2 else q
    let body := b.take (b.length - 2)
    if body.length < q + 4 then none
    else some
      { kind := c0 / 16, ack := c0 / 4 % 2 = 1, key := c1 / 16 % 4, seq := leAt b 2 1,
        toModule := c1 % 4 = 1, src := src, origin := src, counter := leAt b q 4,
        auth := body.take (q + 4), sealed_ := body.drop (q + 4) }

def State.plcSecFail (s : State) (p : Nat) : State :=
  (s.addSat (PLC_SEC_FAIL.count p) 1).raise (PLC_INT_STATUS.sec_fail p)

/-- A frame of type `kind` from a node is received on a port in service. -/
def State.plcReceive (s : State) (p kind : Nat) (f : RxFrame) :
    State × Option (RxHead × List Byte × Bool) :=
  if s.flag (PLC_CTRL.enable p) = false then (s, none)
  else match s.plcHeadOf p f with
    | none => (s.addSat (PLC_RX_BAD.count p) 1, none)
    | some h =>
      if h.toModule = false ∨ h.kind ≠ kind ∨ h.key ≠ 0 then (s, none)
      else
        let nd := s.node h.src
        match s.openFrame h.key h.src nd.eui h.counter h.auth h.sealed_ with
        | none => (s.plcSecFail p, none)
        | some body =>
          if nd.joined = false ∨ nd.counterOk h.key h.counter = false then (s.plcSecFail p, none)
          else
            let (s, dup) := (s.setNode h.src (nd.setCounter h.key h.counter)).sequence h.src h.seq
            let s := (s.heard h.src f.offset).setS (PLC_SNR.snr p) f.snr
            let s := if dup then s.addSat (PLC_DUPLICATES.count p) 1 else s
            (s.addWrap (PLC_RX_FRAMES.count p) 1, some (h, body, dup))

/-- R351, R353: the group a reply confirms is done with. -/
def State.plcConfirm (s : State) (p n seq : Nat) : State :=
  let x := s.plc p
  let mine := x.groups.filter fun g => decide (g.node = n ∧ g.seq = seq)
  let s := (mine.flatMap PlcGroup.records).foldl (State.recordConfirmed n) s
  s.setPlc p { x with groups := x.groups.filter fun g => !decide (g.node = n ∧ g.seq = seq) }

/-- PLC_REPORT (R309, R349, R352, R354): an accepted report waits for its entry in the next
acknowledgement frame; its first octet confirms a group; a duplicate is acknowledged and not
applied. -/
def execPlcReport (p : Fin 2) (f : RxFrame) (s : State) : Host.Outcome State Fault Refusal :=
  match s.plcReceive p 2 f with
  | (s, some (h, body, dup)) =>
    let o := match f.offset with
      | some v => pattern 16 v
      | none => 0x8000
    let x := s.plc p
    let s := s.setPlc p { x with acks := x.acks ++ [(h.src, h.seq, o)] }
    let s := s.plcConfirm p h.src (leAt body 0 1)
    .next (if dup then s else s.acceptReport h.src (body.drop 1))
  | (s, none) => .next s

/-- The entries of the largest arm fragment a port can send. -/
def State.plcArmPer (s : State) (p : Nat) : Nat :=
  let fits := (List.range 256).filter fun n => decide (s.plcRun p (39 + 8 * n) ≤ 32)
  fits.getLastD 0

/-- PLC_GRANT_REQUEST (R302, R321, R349, R360): grants, a repair or a re-homing. -/
def execPlcGrantRequest (p : Fin 2) (f : RxFrame) (gs : List NodeGrant) (s : State) :
    Host.Outcome State Fault Refusal :=
  match s.plcReceive p 7 f with
  | (s, some (h, body, dup)) =>
    let t := 4 + p.val
    let v := s.get (PLC_STATUS.plan_ver p)
    if dup then .next s
    else match leAt body 0 1 with
      | 0 => .next (s.giveGrants h.src t v gs)
      | 1 =>
        let (s, done) := s.repair t h.src (leAt body 1 1) (s.plc p).gens
        if done then
          let nd := s.node h.src
          .next ((s.setNode h.src { nd with repairs := nd.repairs + 1 }).addSat (PLC_REPAIRS.count p) 1)
        else .next s
      | 2 => .next ((s.rehome h.src t 0).giveGrants h.src t v gs)
      | _ => .next s
  | (s, none) => .next s

/-- PLC_JOIN_REQUEST (R314, R319, R358). -/
def execPlcJoinRequest (p : Fin 2) (f : RxFrame) (eui : BitVec 64) (gs : List NodeGrant) (s : State) :
    Host.Outcome State Fault Refusal :=
  if s.flag (PLC_CTRL.enable p) = false then .next s
  else match s.plcHeadOf p f with
    | none => .next (s.addSat (PLC_RX_BAD.count p) 1)
    | some h =>
      if h.kind ≠ 8 ∨ h.key ≠ 2 ∨ h.toModule = false then .next s
      else match s.openFrame 2 h.src eui.toNat h.counter h.auth h.sealed_ with
        | none => .next (s.plcSecFail p)
        | some body =>
          let q := JoinReq.ofBytes body
          let known := (s.addressOf eui.toNat).map s.node
          if q.eui ≠ eui.toNat ∨ (known.map fun n => n.counterOk 2 h.counter) = some false then
            .next (s.plcSecFail p)
          else
            let t := 4 + p.val
            let x := s.plc p
            let dup := decide (Tbl.get 0 x.joinSeq eui.toNat = 1 + h.seq)
            let s := s.setPlc p { x with joinSeq := Tbl.put 0 x.joinSeq eui.toNat (1 + h.seq) }
            if dup then .next (s.addSat (PLC_DUPLICATES.count p) 1)
            else
              match (s.addWrap (PLC_RX_FRAMES.count p) 1).join t 0 q h.counter (some h.seq) (f.offset.getD 0) with
              | (s, some a) =>
                .next (((s.giveGrants a t (s.get (PLC_STATUS.plan_ver p)) gs).calibrateNode a).raise
                  (PLC_INT_STATUS.join p))
              | (s, none) => .next s

/-- PLC_REPLY_MISSING (R353): a group not confirmed waits for the next bundle with the newest values,
or is discarded after the retry limit or once the port has drained (R267). -/
def execPlcReplyMissing (p : Fin 2) (n : BitVec 16) (s : State) : Host.Outcome State Fault Refusal :=
  let x := s.plc p
  match x.groups.find? fun g => decide (g.node = n.toNat) with
  | none => .next s
  | some g =>
    let x := { x with groups := x.groups.filter fun h => decide (h.node ≠ n.toNat) }
    let nd := s.node n.toNat
    if s.get (PLC_RETRY.limit p) ≤ g.repeats ∨ s.flag (PLC_CTRL.drained p) then
      let s := (s.setPlc p x).setNode n.toNat { nd with drops := min (nd.drops + 1) 0xFFFF }
      .next ((s.addSat (PLC_DROPS.count p) 1).raise (PLC_INT_STATUS.drop p))
    else
      let items := g.records.map fun r =>
        ({ dest := some n.toNat, kind := 3, prio := 2, body := r, tag := leAt r 0 1 % 16, key := 1, eui := 0,
           copies := 1, retries := g.repeats + 1, seq := some g.seq } : TxItem)
      let back := items.filter fun y => !(x.queue.any fun z =>
        decide (z.kind = 3 ∧ z.dest = y.dest ∧ z.tag = y.tag))
      let s := s.setPlc p { x with queue := back ++ x.queue }
      let s := s.setNode n.toNat { nd with retries := nd.retries + 1 }
      .next (s.addSat (PLC_RETRIES.count p) 1)

/-! ## Port bypass (R359, R360) -/

/-- The ports share a line and a band. -/
def State.plcShared (s : State) : Bool :=
  decide (s.obj 0x5404 0 = 1 ∧ s.get (PLC_PHY.band 0) = s.get (PLC_PHY.band 1))

/-- A port's enable clears (R266). -/
def State.plcOff (s : State) (p : Nat) : State :=
  let x := s.plc p
  let since := if s.flag (PLC_CTRL.enable p) then s.clk.cycle + 1 else Tbl.get 0 s.drainFrom (4 + p)
  let s := { s with drainFrom := Tbl.put 0 s.drainFrom (4 + p) since }
  ((s.setPlc p { x with leaveBy := none }).set (PLC_CTRL.enable p) 0).set (PLC_CTRL.leave p) 0
    |>.set (PLC_CTRL.leaving p) 0

/-- A planned leave of a port (R359). -/
def State.plcLeave (s : State) (p : Nat) : State :=
  if s.flag (PLC_CTRL.enable p) ∧ ¬ s.flag (PLC_CTRL.leaving p) then
    if s.plcShared then
      let x := s.plc p
      ((s.setPlc p { x with leaveBy := some (s.clk.cycle + 128) }).set (PLC_CTRL.leave p) 1).set
        (PLC_CTRL.leaving p) 1
    else s.plcOff p
  else s

/-- PLC_LEAVE (R359). -/
def execPlcLeave (p : Fin 2) (s : State) : Host.Outcome State Fault Refusal := .next (s.plcLeave p)

/-- PLC_LINE_FAULT (R360, R361): the port is out of service at once. -/
def execPlcLineFault (p : Fin 2) (s : State) : Host.Outcome State Fault Refusal :=
  let s := (s.plcOff p).raise (PLC_INT_STATUS.line_fault p)
  let s := if s.plcShared then s.setPlc p { s.plc p with moveTo := some (some (5 - p.val)) } else s
  .next (s.post .data (cbSource originApron cbPLC p) (unnamed (101 + 8 * p)) [])

/-- R345: after a read of PLC_PLAN_DATA the index increments. -/
def State.planNext (s : State) (p : Nat) : State :=
  s.set (PLC_PLAN_ADDR.index p) ((s.get (PLC_PLAN_ADDR.index p) + 1) % 256)

/-- PLAN_DATA_READ (R345, R362): the entry at the index, which increments. -/
def execPlanDataRead (q : Port) (p : Fin 2) (s : State) : Host.Outcome State Fault Refusal :=
  let a := apronRead q (plcBase p + 0x14)
  .next (s.access a fun s =>
    let v := Tbl.get 0 (s.plc p).plan (s.get (PLC_PLAN_ADDR.index p))
    (s.emit (.regRead q a.addr (BitVec.ofNat 32 v))).planNext p)

/-- R359: a leave that has lasted two superframes ends: the nodes are granted on the other port where the ports
share a line and a band, and the port drains. -/
def State.plcLeaveEnds (s : State) (p : Nat) : State :=
  let s := s.plcOff p
  if s.plcShared then s.spread (4 + p) (some (5 - p)) else s

/-- R360: the nodes of a port that failed move at the first superframe boundary. -/
def State.plcMoves (s : State) (p : Nat) : State :=
  match (s.plc p).moveTo with
  | none => s
  | some new =>
    if s.clk.cycle % 64 ≠ 0 then s
    else
      let s := s.setPlc p { s.plc p with moveTo := none }
      s.spread (4 + p) new

/-- What a boundary does to a port (R359, R360). -/
def State.plcBoundary (s : State) (p : Nat) : State :=
  let s := s.plcMoves p
  match (s.plc p).leaveBy with
  | some c => if c ≤ s.clk.cycle then s.plcLeaveEnds p else s
  | none => s

/-! ## Hand-off from the cue engine and the sweep (R180, R226, R228, R231, R310) -/

/-- R356: a cue is armed on a port. -/
def State.armOnPlc (s : State) (p : Nat) (a : ArmRec) : State × Bool :=
  let x := s.plc p
  let gen := nextGen x.gen
  let fr := s.armFrames (4 + p) gen a (s.plcArmPer p) 0
  if 16 < fr.length ∨ (s.plcArmPer p = 0 ∧ fr ≠ []) then (s, true)
  else
    let g : Generation := { id := a.id, stamp := stampCycle (a.cue.stamp.getD 0), cancel := false, node := none }
    let s := s.setPlc p { x with gen := gen, gens := Tbl.put none x.gens gen (some g) }
    (fr.foldl (fun s b => s.queueBroadcast (4 + p) 4 0 b 2 a.id) s, false)

def State.cancelOnPlc (s : State) (p id : Nat) (late : Bool) (node : Option Nat) : State :=
  let x := s.plc p
  let gen := nextGen x.gen
  let g : Generation := { id := id, stamp := stampIn x.gens id, cancel := true, node := node }
  let s := s.setPlc p { x with gen := gen, gens := Tbl.put none x.gens gen (some g) }
  match node with
  | none => s.queueBroadcast (4 + p) 5 0 (cancelBody gen id late) 2 id
  | some n => s.queueFrame n 5 (cancelBody gen id late)

/-- R231, R320: a cancellation on a transport. -/
def State.cancelOn (s : State) (t id : Nat) (late : Bool) (node : Option Nat) : State :=
  if t < 4 then s.cancelOnRadio t id late node else s.cancelOnPlc (t - 4) id late node

/-- The transports in service. -/
def State.transports (s : State) : List Nat := [0, 1, 2, 3, 4, 5].filter s.inService

/-- R226, R320: a cue is armed on every node transport in service; one that any of them declines is
counted as not armed. -/
def State.armTransports (s : State) (d : DieId) (id : Nat) : State :=
  match s.armRecord id with
  | none => s
  | some a =>
    let (s, refused) := s.transports.foldl (fun (x : State × List Nat) t =>
      let (s, no) := if t < 4 then x.1.armOnRadio t a else x.1.armOnPlc (t - 4) a
      (s, if no then x.2 ++ [t] else x.2)) (s, [])
    if refused = [] then s
    else
      let c := s.cues d
      let arm := c.arming.map fun x => (x.1, x.2.map fun b =>
        if b.id = id then { b with declined := refused } else b)
      let s := s.setCues d { c with arming := arm }
      (s.addSat (CUE_UNARMED.count d) 1).raise (CUE_TBL_INT_STATUS.unarmed d)

/-- R228: a hold goes with a cancellation, at its node, of every armed cue that names the endpoint. -/
def State.holdCancels (s : State) (d : DieId) (e n : Nat) : State :=
  ((s.cues d).arming.filterMap Prod.snd).foldl (fun s a =>
    if !a.executed && (rangeFor (a.cue.ranges.getD []) e).isSome then
      s.cancelOn (s.node n).transport a.id false (some n)
    else s) s

/-- One operation of the cue engine reaches the node transports. -/
def State.nodeOpOut (d : DieId) (s : State) (o : NodeOp) : State :=
  let b := fun (e : Nat) => ((s.die d).hotOf e).binding
  match o with
  | .hold e => (s.queueUpdate (bindNode (b e)) (bindIndex (b e)) 1 0 0).holdCancels d e (bindNode (b e))
  | .release e => s.queueUpdate (bindNode (b e)) (bindIndex (b e)) 2 0 0
  | .arm id _ _ _ _ => s.armTransports d id
  | .cancel id late => s.transports.foldl (fun s t => s.cancelOn t id late none) s

/-- R458: the effects of the journal packets up to `after` are no longer held back: no fit understudy
exists, or it has acknowledged them. -/
def State.acked (s : State) (after : Nat) : Bool :=
  match s.holder with
  | none => s.tests.server.isSome
  | some d => !s.flag (TWN_STATUS.fit d.other) || !s.journal.unacked.any (fun q => decide (q ≤ after))

/-- R458: the hand-offs whose packets are acknowledged take place. -/
def State.releaseOps (s : State) : State :=
  match s.holder with
  | none => s
  | some d =>
    let go := s.twin.held.filter fun x => s.acked x.1
    let s := { s with twin := { s.twin with held := s.twin.held.filter fun x => !s.acked x.1 } }
    go.foldl (fun s x => s.nodeOpOut d x.2) s

/-- R552: a response no longer waits for its mirror writes. -/
def State.mirrored (s : State) (r : Reply) : Bool :=
  match s.holder with
  | none => true
  | some d => !s.flag (TWN_STATUS.fit d.other) || decide (r.mirrors + s.mirrors.length ≤ s.mirrorCount)

/-- R458: hand-offs and answers whose packets are acknowledged take place; answers also wait for their
mirror writes (R552), and those to the host port for the host. -/
def State.releaseHeld (s : State) : State :=
  let s := s.releaseOps
  let ready := fun (r : Reply) => decide (r.session ≠ 0) && s.acked r.after && s.mirrored r
  let out := s.replies.filter ready
  let s := { s with replies := s.replies.filter fun r => !ready r }
  out.foldl State.replySent s

/-- The operations a die's cue engine has made: the stage holder's go out once the journal is
acknowledged, the understudy's are discarded at the gate and counted (R31). -/
def State.flushNodeOps (s : State) (d : DieId) : State :=
  let ops := (s.die d).nodeOps
  let s := s.setDie d { s.die d with nodeOps := [] }
  if s.holder = some d then
    let after := s.journal.seq - 1
    ({ s with twin := { s.twin with held := s.twin.held ++ ops.map fun o => (after, o) } }).releaseHeld
  else { s with gateDrops := s.gateDrops + ops.length }

/-- R180: the device value of an emission. -/
def deviceValue (h : Hot) (c : Cold) : Nat :=
  if h.current = 0 then 0
  else (clampI c.minPhys c.maxPhys ((h.current * c.calGain / 32768 : Nat) + signed 16 c.calOffset)).toNat

end Sys2Proof.Machine
end

