-- ==== Sys2Proof/Machine/Protocol.lean ====
section
/-! DEFINITION. The messages of the object protocol as they are answered: response headers, items that
await their status, violations, and sessions that close (R538-R556). -/

namespace Sys2Proof.Machine

/-- A response (R540): bit 0 of its flags is set. -/
def respBytes (type id status flags : Nat) (body : List Byte) : List Byte :=
  leBytes 1 1 ++ leBytes 1 (type + 0x80) ++ leBytes 4 id ++ leBytes 1 status ++
    leBytes 1 (1 + flags) ++ leBytes 2 body.length ++ leBytes 2 0 ++ body

/-- The remembered requests with the response of one. -/
def withResponse (l : List Remembered) (session request : Nat) (b : List Byte) : List Remembered :=
  l.map fun m =>
    if m.session = session ∧ m.request = request then { m with response := some b } else m

/-- A response is ready: it is mirrored (R552) and leaves once nothing holds it back; `after` is the last
journal packet its effects rest on. -/
def State.respond (s : State) (session request after : Nat) (b : List Byte) : State :=
  let s := s.mirror (.requests (withResponse s.remembered session request b))
  let r : Reply :=
    { session := session, request := request, kept := true, after := after, mirrors := s.mirrorCount, body := b }
  { s with replies := s.replies ++ [r] }.releaseHeld

/-- A refusal with status 0x05 is counted (object 0x110D). -/
def State.countBusy (s : State) (st : Nat) : State := if st = 5 then s.objSat 0x110D else s

/-- R556: a refused item whose code is a violation is counted, recorded and posted. -/
def State.objViolate (s : State) (session idx sub st : Nat) : State :=
  if st = 1 ∨ st = 2 ∨ st = 6 ∨ st = 7 then
    let data := leBytes 2 idx ++ leBytes 1 sub ++ leBytes 1 st ++ leBytes 1 session ++ leBytes 3 0
    ((s.objSat 0x110A).setOct 0x110B 0 data).post .management
      (cbSource (originDie s.stageDie) cbOBJ session) 0x0060 data
  else s

/-- What every status of an item counts. -/
def State.countStatus (s : State) (session idx sub st : Nat) : State :=
  (s.countBusy st).objViolate session idx sub st

/-- The body of a WRITE or EP_WRITE response (R541). -/
def itemsBody (l : List (List Byte × Option Nat)) : List Byte :=
  leBytes 1 l.length ++ leBytes 3 0 ++ l.flatMap fun x => x.1 ++ leBytes 1 (x.2.getD 0)

/-- The status of an item of a request in progress is known; with the last one the request is answered
(R546). -/
def State.settleItem (s : State) (who : Option (Nat × Nat × Nat)) (st : Nat) : State :=
  match who with
  | none => s
  | some (session, request, place) =>
    match s.progress.find? fun q => decide (q.session = session ∧ q.request = request) with
    | none => s
    | some q =>
      let items := q.items.modify place fun x => (x.1, some st)
      let q' := { q with items := items }
      if items.all fun x => x.2.isSome then
        { s with progress := s.progress.erase q }.respond session request (s.journal.seq - 1)
          (respBytes q.type request 0 0 (itemsBody items))
      else { s with progress := s.progress.map fun x => if x = q then q' else x }

/-- R200: the objects that hold a pointer for each session. -/
def isPointer (idx : Nat) : Bool :=
  ([0x1208, 0x4210, 0x4300, 0x4410, 0x4412, 0x4414, 0x5010, 0x5020, 0x5410, 0x5810, 0x6010, 0x6051,
    0x6063, 0x7802, 0x7804] : List Nat).contains idx

/-- The session of a staged write; none stands for company commands that come by multicast or from the module
itself. -/
def Mgmt.session (w : Mgmt) : Nat :=
  match w.who with
  | some (n, _, _) => n
  | none => 33

/-- R200: the pointers of the sessions that `keep` leaves out are gone, with the writes of them that wait:
they are 0 at the start of a later session. -/
def State.dropPointers (s : State) (keep : Nat → Bool) : State :=
  let stays := fun (w : Mgmt) => !decide (w.target = 1 ∧ isPointer w.code) || keep w.session
  { s with
    pointers := s.pointers.filter fun x => keep (x.1 / 65536)
    dieA := { s.dieA with staged := s.dieA.staged.filter stays }
    dieB := { s.dieB with staged := s.dieB.staged.filter stays } }

/-- DTLS sessions close: what is remembered and in progress in them goes with them, and the understudy
is told (R538). -/
def State.closeSessions (s : State) (which : Nat → Session → Bool) : State :=
  let gone := (s.sessions.filter fun x => which x.1 x.2).map Prod.fst
  if gone = [] then s
  else
    let keep := fun (n : Nat) => !gone.contains n
    let s := { s with
      sessions := s.sessions.filter fun x => keep x.1,
      remembered := s.remembered.filter fun m => keep m.session,
      progress := s.progress.filter fun q => keep q.session,
      replies := s.replies.filter fun r => keep r.session }
    let s := s.dropPointers keep
    match s.holder with
    | none => s
    | some d => { s with continuity := s.continuity ++ [(d.other, .sessions s.sessions)] }

/-- The answer to a management-plane write that was applied or refused at a boundary. -/
def State.answer (s : State) (w : Mgmt) (st : Nat) : State :=
  let s := match w.who with
    | some (session, _, _) => s.countStatus session w.code w.sub st
    | none => s
  s.settleItem w.who st

end Sys2Proof.Machine
end

