-- ==== Sys2Proof/Machine/Chains.lean ====
section
/-! DEFINITION. The footlight chains: shares, frames, latch, returns and statuses (R366-R400), and the
hand-off of emissions to every transport (R180, R383). -/

namespace Sys2Proof.Machine

def State.chain (s : State) (n : Nat) : ChainState := Tbl.get ChainState.empty s.chains n
def State.setChain (s : State) (n : Nat) (v : ChainState) : State :=
  { s with chains := Tbl.put ChainState.empty s.chains n v }
def ChainState.dev (c : ChainState) (p : Nat) : ChainDev := Tbl.get ChainDev.none_ c.devs p
def ChainState.setDev (c : ChainState) (p : Nat) (d : ChainDev) : ChainState :=
  { c with devs := Tbl.put ChainDev.none_ c.devs p d }

/-! ## Checks and shares (R369, R370, R379) -/

/-- The CRC-4 of x^4 + x + 1 over the low n bits of a word, most significant first. -/
def crc4 : Nat → Nat → Nat → Nat
  | 0, _, c => c
  | n + 1, w, c =>
    let top := (c / 8 + bitOf w n) % 2
    crc4 n w ((c * 2 % 16) ^^^ (if top = 1 then 3 else 0))

/-- R369: a share of 80 bits: four levels, the opcode, the check and the fade. -/
def share (l0 l1 l2 l3 op fade : Nat) : BitVec 80 :=
  let levels := ((l0 % 65536 * 65536 + l1 % 65536) * 65536 + l2 % 65536) * 65536 + l3 % 65536
  let covered := (levels * 16 + op) * 256 + fade
  BitVec.ofNat 80 (((levels * 16 + op) * 16 + crc4 76 covered 0) * 256 + fade)

/-- R376, R379: a status word whose check holds. -/
def statusOk (w : Nat) : Bool := decide (crc4 20 (w / 16) 0 = w % 16)
def statusFlag (w k : Nat) : Bool := bitOf (w / 16) k = 1
def statusTemp (w : Nat) : Nat := w / 2 ^ 12

/-! ## The snapshot (R383, R386, R387, R390, R392) -/

/-- R392: a device value scaled by the chain's compensation for its channel. -/
def compensate (d : Nat) (slope tref : Int) (temp : Option Int) : Nat :=
  match temp with
  | none => d
  | some t =>
    let f := clampI 0 65535 (32768 + (slope * (t - tref)).tdiv 16)
    if d = 0 then 0 else min 65535 (d * f.toNat / 32768)

/-- R387: the fallback values of a position: the device values of its endpoints' fallback levels, 0
for an unbound channel. -/
def State.fallbackLevels (s : State) (n p : Nat) : List Nat :=
  let d := s.die s.stageDie
  [0, 1, 2, 3].map fun ch =>
    match d.actives.find? fun e =>
        let b := (d.hotOf e).binding
        kindOutput (d.kindOf e) && decide (bindTransport b = 2 ∧ bindChain b = n ∧ bindPos b = p ∧ bindChan b = ch) with
    | some e =>
      let c := d.coldOf e
      deviceValue { d.hotOf e with current := c.fallback } c
    | none => 0

/-- The share of position p in a frame, with the command it carries (0 levels). -/
def State.chainShare (s : State) (n : Nat) (c : ChainState) (p : Nat) : BitVec 80 × Nat × List Nat :=
  let lv := [0, 1, 2, 3].map fun ch => Tbl.get 0 c.levels (4 * p + ch)
  if c.configure.contains p then
    (share (s.get (FLC_CTRL.pwm_bits n)) (s.get (FLC_OTEMP.threshold n)) 0 0 3 0, 3, (c.dev p).sent)
  else if c.fallback.contains p then
    let f := s.fallbackLevels n p
    (share (f.getD 0 0) (f.getD 1 0) (f.getD 2 0) (f.getD 3 0) 2 0, 2, (c.dev p).sent)
  else
    let sent := (lv.zip [0, 1, 2, 3]).map fun x =>
      compensate x.1 (s.getS (FLC_SLOPE.slope n x.2)) (s.getS (FLC_TREF.tref n)) (c.dev p).temp
    (share (sent.getD 0 0) (sent.getD 1 0) (sent.getD 2 0) (sent.getD 3 0) 0
      (s.get (FLC_CTRL.smooth n)), 0, sent)

/-- R380, R394: N_L of a chain; a chain whose frame is a count frame takes no part in the alignment. -/
def State.latchDevices (s : State) (n : Nat) : Nat :=
  if s.flag (FLC_CTRL.align n) then
    (List.range 16).foldl (fun a m =>
      if s.flag (FLC_CTRL.enable m) ∧ s.flag (FLC_CTRL.align m) ∧ ¬ s.flag (FLC_CTRL.count m) then max a (s.get (FLC_CTRL.devices m))
      else a) 0
  else s.get (FLC_CTRL.devices n)

/-- R380: t_L in µs for N_L devices; the half µs of an odd N_L is rounded in a way the manual leaves
open. -/
def latchAt (nl : Nat) : Nat := openQuotN 380 (128 + 105 * nl) 2

/-- A level or command frame (R383-R387). -/
def State.levelFrame (s : State) (n : Nat) : State :=
  let c := s.chain n
  let dev := s.get (FLC_CTRL.devices n)
  let ps := List.range dev
  let shares := ps.map fun p => (p, s.chainShare n c p)
  let cmds := shares.filter fun x => decide (x.2.2.1 ≠ 0)
  let confs := (cmds.filter fun x => decide (x.2.2.1 = 3)).map Prod.fst
  let falls := (cmds.filter fun x => decide (x.2.2.1 = 2)).map Prod.fst
  let frame : ChainFrame :=
    { count := false, devices := dev, snapshot := c.levels,
      commands := cmds.foldl (fun t x => Tbl.put 0 t x.1 x.2.2.1) [] }
  let c := shares.foldl (fun c x => c.setDev x.1 { c.dev x.1 with sent := x.2.2.2 }) c
  let left := c.fallback.filter fun p => !falls.contains p
  let c := { c with frame := some frame
                    configure := c.configure.filter fun p => !confs.contains p
                    fallback := left ++ confs.filter fun p => !left.contains p }
  let s := (s.setChain n c).emit (.chainFrame n (shares.map fun x => x.2.1))
  (s.addWrap (FLC_CMDS.count n) cmds.length).set (FLC_LATCH_AT.us n) (latchAt (s.latchDevices n))

/-- R394: a count frame. -/
def State.countFrame (s : State) (n : Nat) : State :=
  let c := s.chain n
  let frame : ChainFrame := { count := true, devices := 512, snapshot := c.levels, commands := [] }
  let s := (s.setChain n { c with frame := some frame }).emit
    (.chainFrame n ((List.range 512).map fun _ => share 0 0 0 0 0xE 0))
  s.set (FLC_LATCH_AT.us n) (latchAt 512)

/-- R47, R690: no die holds the stage and none is taking it: the chains start no frame, and their devices go to
fallback. -/
def State.noStage (s : State) : Bool := s.holder.isNone && s.twin.release.isNone

/-- CHAIN_FRAME_START (R382, R383, R394): at phase 256 of an even cycle an enabled chain starts a frame,
once the outputs are enabled and while a die drives them. -/
def execChainFrameStart (n : Fin 16) (s : State) : Host.Outcome State Fault Refusal :=
  if s.flag (FLC_CTRL.enable n) ∧ s.clk.cycle % 2 = 0 ∧ s.phase = 256 ∧ s.flag MCTL_STATUS.outputs_en ∧
      s.noStage = false then
    let s := (s.addWrap (FLC_FRAMES.count n) 1).set (FLC_STATUS.in_frame n) 1
    .next (if s.flag (FLC_CTRL.count n) then s.countFrame n else s.levelFrame n)
  else .next s

/-! ## The return (R378, R388, R389) -/

/-- The endpoints bound to a position: outputs, or lamp-board temperatures. -/
def Die.chainBound (d : Die) (n p : Nat) (out : Bool) : List Nat :=
  d.actives.filter fun e =>
    let b := (d.hotOf e).binding
    decide (bindTransport b = 2 ∧ bindChain b = n ∧ bindPos b = p) &&
      (if out then kindOutput (d.kindOf e) else decide (d.kindOf e = 5))

/-- The inputs that set bits of an endpoint's fault word, when they change it. -/
def Die.faultIn (d : Die) (e mask v : Nat) : List DataIn :=
  let w := (d.hotOf e).fault
  if (List.range 16).any fun k => bitOf mask k = 1 && decide (bitOf w k ≠ bitOf v k) then
    [DataIn.fault e mask v] else []

/-- R389: a frame without a valid word from position p. -/
def State.chainMissing (n : Nat) (x : State × List DataIn) (p : Nat) : State × List DataIn :=
  let (s, ins) := x
  let c := s.chain n
  let dv := c.dev p
  let d := s.die s.stageDie
  let es := d.chainBound n p true ++ d.chainBound n p false
  let k := dv.silent + 1
  let s := s.setChain n (c.setDev p { dv with silent := k })
  if 4 ≤ k then
    (s.raiseIf (decide (k = 4 ∧ es ≠ [])) (FLC_INT_STATUS.absent n),
      ins ++ es.flatMap fun e => d.faultIn e (2 ^ faultUnbound) (2 ^ faultUnbound))
  else (s, ins)

/-- R388: the writes of a valid status word at position p. -/
def State.statusWrites (s : State) (n p w : Nat) (f : ChainFrame) : List DataIn :=
  let d := s.die s.stageDie
  let outs := d.chainBound n p true
  let temps := d.chainBound n p false
  let v := b2n (statusFlag w 2) * 2 ^ faultLamp + b2n (statusFlag w 3) * 2 ^ faultDriver +
    b2n (statusFlag w 4) * 2 ^ faultOverTemp + b2n (statusFlag w 5) * 2 ^ faultFallback
  let levels := decide (statusFlag w 6 = false ∧ Tbl.get 0 f.commands p = 0)
  let t := signed 12 (statusTemp w)
  (outs.flatMap fun e =>
    let sv := Tbl.get 0 f.snapshot (4 * p + bindChan (d.hotOf e).binding)
    d.faultIn e 0x19E v ++
      (if levels ∧ sv ≠ (d.hotOf e).sense then [DataIn.sense e sv] else [])) ++
  (temps.flatMap fun e =>
    d.faultIn e 0x90 0 ++
      (if statusTemp w ≠ 0x800 ∧ 8 ≤ (t - signed 16 (d.hotOf e).sense).natAbs then
        [DataIn.sense e (pattern 16 t)] else [])) ++
  (if outs ++ temps = [] then [] else [DataIn.report (outs ++ temps)])

/-- One status word of a return. -/
def State.chainWord (n : Nat) (f : ChainFrame) (x : State × List DataIn) (y : Nat × Nat) :
    State × List DataIn :=
  let (s, ins) := x
  let (p, w) := y
  let c := s.chain n
  let dv := c.dev p
  if statusOk w then
    let temp := if statusTemp w = 0x800 then dv.temp else some (signed 12 (statusTemp w))
    let reset := statusFlag w 7
    let again := reset && !c.configure.contains p && decide (Tbl.get 0 f.commands p ≠ 3)
    let writes := s.statusWrites n p w f
    let c := c.setDev p { dv with valid := true, checkError := false, word := w, silent := 0,
                                  temp := temp, cycle := s.clk.cycle % 2 ^ 32 }
    let s := s.setChain n (if again then { c with configure := c.configure ++ [p] } else c)
    let s := s.set (FLC_STATUS.returned n) (s.get (FLC_STATUS.returned n) + 1)
    let s := if statusFlag w 6 then s.addSat (FLC_SHARE_ERRORS.count n) 1 else s
    let s := if reset then (s.addSat (FLC_RESETS.count n) 1).raise (FLC_INT_STATUS.device_reset n) else s
    (s, ins ++ writes)
  else
    let d := s.die s.stageDie
    let es := d.chainBound n p true ++ d.chainBound n p false
    let s := (s.setChain n (c.setDev p { dv with checkError := true })).addSat
      (FLC_CHECK_ERRORS.count n) 1
    State.chainMissing n (s.raise (FLC_INT_STATUS.check_error n),
      ins ++ es.flatMap fun e => d.faultIn e (2 ^ faultCheck) (2 ^ faultCheck)) p

/-- R394: the return of a count frame. -/
def State.countReturn (s : State) (n : Nat) (r : ChainReturn) : State :=
  let b := r.bits
  let a := (40960 - b) / 56
  let ok := decide (r.silent = false ∧ r.preamble = 0xAC35#16 ∧ b ≤ 40960 ∧ (40960 - b) % 56 = 0 ∧ a ≤ 512)
  let s := (s.set (FLC_COUNT.valid n) (b2n ok)).set (FLC_COUNT.devices n) (if ok then a else 0)
  (s.set (FLC_CTRL.count n) 0).raise (FLC_INT_STATUS.count_done n)

/-- The return of a frame is judged (R378). -/
def State.chainReturn (s : State) (n : Nat) (r : ChainReturn) : State :=
  let c := s.chain n
  match c.frame with
  | none => s
  | some f =>
    let s := s.setChain n { c with frame := none }
    if f.count then s.countReturn n r
    else
      let bad := decide (r.silent = false ∧ r.preamble ≠ 0xAC35#16)
      let long := decide (r.silent = false ∧ bad = false ∧
        (r.bits ≠ 24 * f.devices ∨ r.words.length ≠ f.devices))
      let s := ((s.set (FLC_STATUS.frame_error n) (b2n bad)).set (FLC_STATUS.length_error n)
        (b2n long)).set (FLC_STATUS.returned n) 0
      let s := if bad ∨ long then
          (s.addSat (FLC_LEN_ERRORS.count n) 1).raise (FLC_INT_STATUS.frame_error n) else s
      let (s, ins) :=
        if r.silent ∨ bad ∨ long then (List.range f.devices).foldl (State.chainMissing n) (s, [])
        else ((List.range f.devices).zip (r.words.map BitVec.toNat)).foldl (State.chainWord n f) (s, [])
      if ins = [] then s else { s with inputs := s.inputs ++ [ins] }

/-- CHAIN_RETURN_END (R378, R388, R389, R394). -/
def execChainReturnEnd (n : Fin 16) (r : ChainReturn) (s : State) : Host.Outcome State Fault Refusal :=
  .next (s.chainReturn n r)

/-- CHAIN_LATCH (R380): the latch pulse is driven.  A return that has not ended by then was silent
(R378). -/
def execChainLatch (n : Fin 16) (s : State) : Host.Outcome State Fault Refusal :=
  if s.flag (FLC_STATUS.in_frame n) then
    let s := s.chainReturn n { silent := true, preamble := 0, bits := 0, words := [] }
    let s := (s.set (FLC_STATUS.in_frame n) 0).set (FLC_STATUS.latch_seen n) 1
    .next (s.emit (.chainLatch n))
  else .next s

/-- LATCH_MISSING (R381). -/
def execLatchMissing (n : Fin 16) (s : State) : Host.Outcome State Fault Refusal :=
  .next (((s.set (FLC_STATUS.latch_seen n) 0).addSat (FLC_LATCH_MISSING.count n) 1).raise
    (FLC_INT_STATUS.latch_missing n))

/-- CHAIN_COUNT_REQUEST (R394): a write of 1 to FLC_CTRL.count. -/
def execChainCountRequest (n : Fin 16) (s : State) : Host.Outcome State Fault Refusal :=
  .next (s.set (FLC_CTRL.count n) 1)

/-- R387: a configure for every position, when the chain is enabled or its devices or resolution
change. -/
def State.chainConfigure (s : State) (n : Nat) : State :=
  s.setChain n { s.chain n with configure := List.range (s.get (FLC_CTRL.devices n)) }

/-- R387: a fallback for the position an output endpoint is bound to. -/
def State.chainFallback (s : State) (binding : Nat) : State :=
  if bindTransport binding = 2 then
    let n := bindChain binding
    let c := s.chain n
    if c.fallback.contains (bindPos binding) then s
    else s.setChain n { c with fallback := c.fallback ++ [bindPos binding] }
  else s

/-- R383: the level of a channel that the output endpoint `e` bound, by its former kind and binding, and
binds no longer, is 0. -/
def State.chainUnbound (s : State) (d : DieId) (e kind binding : Nat) : State :=
  let die := s.die d
  if d = s.stageDie ∧ kindOutput kind = true ∧ bindTransport binding = 2 ∧
      ¬ (kindOutput (die.kindOf e) = true ∧ (die.hotOf e).binding = binding) then
    let n := bindChain binding
    let c := s.chain n
    s.setChain n { c with levels := Tbl.put 0 c.levels (4 * bindPos binding + bindChan binding) 0 }
  else s

/-! ## Emission hand-off (R31, R180, R181, R383) -/

/-- A transport update reaches the Apron: the radio or powerline port of its node, or the level table
of its chain. -/
def State.transportUpdate (s : State) (binding value : Nat) (exact : Bool) : State :=
  if bindTransport binding = 1 then
    s.queueUpdate (bindNode binding) (bindIndex binding) 0 value (if exact then 1 else 2)
  else if bindTransport binding = 2 then
    let n := bindChain binding
    let c := s.chain n
    s.setChain n { c with levels := Tbl.put 0 c.levels (4 * bindPos binding + bindChan binding) value }
  else s

/-- EMISSION_HANDOFF (R180, R181): the stage holder's sender clears an endpoint's emission bits and
hands over its device value; the understudy hands nothing over. -/
def execEmissionHandoff (d : DieId) (e : Endpoint) (s : State) : Host.Outcome State Fault Refusal :=
  let die := s.die d
  if s.holder = some d ∧ Tbl.get false die.emission e.toNat = true then
    let x := Tbl.get false die.exactEmission e.toNat
    let h := die.hotOf e.toNat
    let s := s.setDie d { die with emission := Tbl.put false die.emission e.toNat false,
                                   exactEmission := Tbl.put false die.exactEmission e.toNat false }
    .next (s.transportUpdate h.binding (deviceValue h (die.coldOf e.toNat)) x)
  else .next s

end Sys2Proof.Machine
end

