-- ==== Sys2Proof/Machine/Metering.lean ====
section
/-! DEFINITION. Feeder metering: the window close, results, energies, windows, pulses, commit records,
history, meter endpoints, harmonics, offset calibration, the theft watch, and the balance check
(R191, R192, R401-R442). -/

namespace Sys2Proof.Machine

/-- A value in a field of `bits` bits; beyond it, see log entry 42. -/
def fit (site bits v : Nat) : Nat := if v < 2 ^ bits then v else Config.fit site v % 2 ^ bits

/-! ## Results (R407-R410) -/

/-- The significand of an F32 value times 2^149 (R544). -/
def f32Scaled (w : Nat) : Nat :=
  let e := w / 2 ^ 23 % 256
  let m := w % 2 ^ 23
  if e = 0 then m else (2 ^ 23 + m) * 2 ^ (e - 1)

/-- R403: ratio times installation gain of an input as they govern the window, times 2^173. -/
def State.inputScale (s : State) (i : Nat) : Nat :=
  f32Scaled (Tbl.get ratioDefault s.meter.govRatio i) * Tbl.get gainDefault s.meter.govGain i

/-- R403: an rms at the lands in 2^-32 V as a primary quantity in 10^-6. -/
def State.primaryRms (s : State) (i v : Nat) : Nat :=
  openQuotN 403 (v * 10 ^ 6 * s.inputScale i) (2 ^ 205)

/-- R403: a mean product at the lands in 2^-64 V² as primary power in 2^-32 W. -/
def State.primaryPower (s : State) (i : Nat) (x : Int) : Int :=
  openQuot 403 (x * (s.inputScale (18 + i % 3) * s.inputScale i * 2 ^ 32 : Nat)) (2 ^ 410)

/-- R403: the readings of a window referred to primary units: rms in µV and µA, powers in 2^-32 W. -/
def State.primary (s : State) (m : MeterIn) : MeterIn :=
  { m with
    volts := (List.range 3).map fun k =>
      let x := m.volts.getD k (0, 0)
      (s.primaryRms (18 + k) x.1, x.2),
    amps := (List.range 18).map fun i =>
      let x := m.amps.getD i (0, 0, 0)
      (s.primaryRms i x.1, s.primaryPower i x.2.1, s.primaryPower i x.2.2),
    neutral := s.primaryRms 21 m.neutral }

/-- R407: Irms lies below 0.05 % of the rms full scale of its input, referred to primary current. -/
def State.currentSmall (s : State) (input irms : Nat) : Bool :=
  decide (irms * 10 * 2 ^ 173 < 1768 * s.inputScale input)

/-- R407: PF in 1/10,000. -/
def powerFactor (input : Nat) (small : Bool) (p : Int) (sv : Nat) : Int :=
  if small then 0 else if sv = 0 then Config.powerFactor0 input else openQuot 407 (p * 10000) sv

/-- R409: the flags of a result that uses `inputs`, on the phase of voltage input `k` if any. -/
def State.resultFlags (s : State) (m : MeterIn) (inputs : List Nat) (k : Option Nat) : Nat :=
  let cal := match s.meter.cal with
    | some (i, _) => inputs.contains i
    | none => false
  let absent := match k with
    | some k => decide (bitOf (s.get CYC_STATUS.v_present) k = 0)
    | none => false
  b2n s.clk.ghostSeen + 2 * b2n s.clk.oorSeen + 4 * b2n (inputs.any fun i => bitOf m.overrange i = 1) +
    8 * b2n absent + 16 * b2n cal + 32 * b2n (inputs.any fun i => s.meter.changed.contains i)

/-- The frequency of a voltage input; 0 when it is absent (R407). -/
def State.meterFreq (s : State) (m : MeterIn) (k : Nat) : Nat :=
  if bitOf (s.get CYC_STATUS.v_present) k = 1 then (m.volts.getD k (0, 0)).2 else 0

/-- R407: the results of one input over the window that closes, from its primary readings. -/
def State.formResult (s : State) (m : MeterIn) (i : Nat) : MeterResult :=
  let c := s.clk.cycle
  if i < 18 then
    let k := i % 3
    let v := (m.volts.getD k (0, 0)).1
    let (ir, p, q) := m.amps.getD i (0, 0, 0)
    let sv := openQuotN 407 (v * ir * 2 ^ 32) (10 ^ 12)
    { cycle := c, v := openQuotN 407 v 1000, i := openQuotN 407 ir 1000,
      p := openQuot 407 (p * 10) (2 ^ 32), q := openQuot 407 (q * 10) (2 ^ 32),
      s := openQuotN 407 (sv * 10) (2 ^ 32),
      pf := powerFactor i (s.currentSmall i ir) p sv, freq := s.meterFreq m k,
      flags := s.resultFlags m [i, 18 + k] (some k), pRaw := p, qRaw := q, sRaw := sv }
  else if i < 21 then
    { MeterResult.zero with
      cycle := c, v := openQuotN 407 (m.volts.getD (i - 18) (0, 0)).1 1000,
      freq := s.meterFreq m (i - 18), flags := s.resultFlags m [i] (some (i - 18)) }
  else
    { MeterResult.zero with
      cycle := c, i := openQuotN 407 m.neutral 1000, flags := s.resultFlags m [i] none }

/-- R431: during a calibration run a result that uses the input repeats the last value. -/
def State.windowResult (s : State) (m : MeterIn) (i : Nat) : MeterResult :=
  let r := s.formResult m i
  if bitOf r.flags 4 = 1 then
    { Tbl.get MeterResult.zero s.meter.last i with cycle := r.cycle, flags := r.flags }
  else r

/-- R437: the inputs the window in progress measures. -/
def State.measured (s : State) : List Nat :=
  if s.meter.running then
    (List.range 22).filter fun i => decide (18 ≤ i) || decide (bitOf s.meter.feeders (i / 3) = 1)
  else []

/-! ## Energies (R412-R416) -/

/-- R413: what a result adds to the five totals of its input, in 2^-32 mWh, over a window of `len`
ticks. -/
def energyOf (r : MeterResult) (absolute : Bool) (len : Nat) : List Nat :=
  let e := fun (p : Nat) => openQuotN 413 (p * len) 90000000
  let pos := fun (p : Int) => if 0 ≤ p then e p.toNat else 0
  let neg := fun (p : Int) => if p < 0 then e (-p).toNat else 0
  if absolute then [e r.pRaw.natAbs, 0, e r.qRaw.natAbs, 0, e r.sRaw]
  else [pos r.pRaw, neg r.pRaw, pos r.qRaw, neg r.qRaw, e r.sRaw]

/-- One energy joins a total and its residue (R412). -/
def MeterState.addEnergy (m : MeterState) (key e : Nat) : MeterState :=
  let t := Tbl.get 0 m.totals key * 2 ^ 32 + Tbl.get 0 m.residues key + e
  { m with
    totals := Tbl.put 0 m.totals key (t / 2 ^ 32 % 2 ^ 64),
    residues := Tbl.put 0 m.residues key (t % 2 ^ 32) }

/-- The total of feeder f, phase p (3 the sum) and quantity q (R414). -/
def MeterState.total (m : MeterState) (f p q : Nat) : Nat :=
  let t := fun (i : Nat) => Tbl.get 0 m.totals (i * 5 + q)
  if p < 3 then t (3 * f + p) else t (3 * f) + t (3 * f + 1) + t (3 * f + 2)

/-- R415: energy window n in Wh. -/
def MeterState.window (m : MeterState) (n : Nat) : Nat :=
  m.total (n / 20) (n % 20 / 5) (n % 5) / 1000 % 2 ^ 32

/-- R416: windows whose bit 31 went from 0 to 1. -/
def State.halfRange (s : State) (old : MeterState) : State :=
  (List.range 120).foldl (fun s n =>
    if old.window n < 2 ^ 31 ∧ 2 ^ 31 ≤ s.meter.window n then
      (s.set (MTR_HALF.half (n / 32)) (setBit (s.get (MTR_HALF.half (n / 32))) (n % 32))).raise
        MTR_INT_STATUS.half_range
    else s) s

/-- R427, R428: a pulse output takes the energy added to its total. -/
def State.pulseTake (added : List (Nat × List Nat)) (s : State) (n : Nat) : State :=
  if s.flag (MTR_PULSE_CFG.enable n) then
    let f := s.get (MTR_PULSE_CFG.feeder n)
    let p := s.get (MTR_PULSE_CFG.phase n)
    let q := s.get (MTR_PULSE_CFG.quantity n)
    let e := added.foldl (fun t x =>
      if x.1 / 3 = f ∧ (p = 3 ∨ x.1 % 3 = p) then t + x.2.getD q 0 else t) 0
    let k := s.get (MTR_PULSE_CFG.constant n)
    let unit := 10 ^ 6 * 2 ^ 32
    let acc := Tbl.get 0 s.meter.pulses n + e
    let owed := acc * k / unit
    let acc := acc - (if k = 0 then 0 else openQuotN 427 (owed * unit) k)
    let back := s.get (MTR_PULSE_TIM.backlog n) + owed
    let lost := back - 65535
    let s := { s with meter := { s.meter with
      pulses := Tbl.put 0 s.meter.pulses n acc,
      lost := Tbl.put 0 s.meter.lost n (min (Tbl.get 0 s.meter.lost n + lost) (2 ^ 32 - 1)) } }
    let s := (s.set (MTR_PULSE_TIM.backlog n) (min back 65535)).addSat MTR_PULSE_LOST.count lost
    s.raiseIf (decide (0 < lost)) MTR_INT_STATUS.pulse_lost
  else s

/-! ## History accumulation (R424) -/

def minOpt (a : Option Nat) (b : Nat) : Option Nat := some (match a with | some x => min x b | none => b)
def maxOpt (a : Option Nat) (b : Nat) : Option Nat := some (match a with | some x => max x b | none => b)

/-- The closing window joins a feeder's interval. -/
def State.histWindow (rs : List (Nat × MeterResult)) (s : State) (f : Nat) : State :=
  let h := Tbl.get HistAcc.empty s.meter.hist f
  let mine := rs.filter fun x => decide (x.1 < 18 ∧ x.1 / 3 = f)
  let h' : HistAcc :=
    if mine = [] then { h with disabled := true }
    else
      let p := mine.foldl (fun t x => t + x.2.p) 0
      let v := fun (k : Nat) => ((mine.find? fun x => x.1 % 3 = k).map fun x => x.2.v).getD 0
      { h with
        pMax := some (match h.pMax with | some x => max x p | none => p),
        vMin := (List.range 3).map fun k => minOpt (h.vMin[k]?).join (v k),
        vMax := (List.range 3).map fun k => maxOpt (h.vMax[k]?).join (v k),
        flagged := h.flagged || mine.any fun x => decide (x.2.flags ≠ 0) }
  { s with meter := { s.meter with hist := Tbl.put HistAcc.empty s.meter.hist f h' } }

/-! ## Offset calibration (R430, R431) -/

/-- R430: the voltage input that is the reference of the cycle clock. -/
def State.isReference (s : State) (i : Nat) : Bool := decide (i = 18 + s.get CYC_CTRL.ref_sel)

/-- The next queued run starts when none is in progress. -/
def State.calStart (s : State) : State :=
  match s.meter.cal, s.meter.calQueue with
  | none, i :: rest =>
    let s := { s with meter := { s.meter with cal := some (i, 0), calQueue := rest } }
    (s.set MTR_STATUS.cal_busy 1).set MTR_STATUS.cal_input i
  | _, _ => s

/-- A run ends with the offset measured, or at its fourth cycle with whatever it has: a free value. -/
def State.calEnd (s : State) (offset : Option Int) : State :=
  match s.meter.cal with
  | none => s
  | some (i, n) =>
    if offset.isNone ∧ n + 1 < 4 then { s with meter := { s.meter with cal := some (i, n + 1) } }
    else
      let v := match offset with
        | some o => pattern 32 o
        | none => s.freeVal
      let s := if offset.isNone then s.draw else s
      let s := { s with meter := { s.meter with cal := none } }
      let s := ((s.set (MTR_OFFSET.offset i) v).set MTR_STATUS.cal_busy 0).addWrap
        MTR_CAL_RUNS.count 1
      s.raise MTR_INT_STATUS.cal_done

/-- A request for a run; false when it is refused (R430). -/
def State.calRequest (s : State) (i : Nat) : State × Bool :=
  if 21 < i ∨ s.isReference i then (s, false)
  else if s.meter.calQueue.contains i then (s, true)
  else ({ s with meter := { s.meter with calQueue := s.meter.calQueue ++ [i] } }, true)

/-- CALIBRATION_AUTO (R430): the automatic interval queues the next input in turn, the reference
skipped. -/
def execCalibrationAuto (s : State) : Host.Outcome State Fault Refusal :=
  let h := s.get MTR_CAL_AUTO.hours
  if h = 0 ∨ s.now - s.meter.calFrom < h * 3600 * 25000000 then .next s
  else
    let i := s.meter.calNext % 22
    let i := if s.isReference i then (i + 1) % 22 else i
    let s := { s with meter := { s.meter with calNext := (i + 1) % 22, calFrom := s.now } }
    .next (s.calRequest i).1

/-! ## The window close -/

/-- R405: the settings as they stand govern the window that begins. -/
def State.govern (s : State) : State :=
  { s with meter := { s.meter with
    govMode := s.get MTR_MODE.absolute,
    govRatio := (List.range 22).foldl (fun t i => Tbl.put ratioDefault t i (s.obj 0x6002 i)) [],
    govGain := (List.range 22).foldl (fun t i =>
      Tbl.put gainDefault t i (s.get (MTR_GAIN.gain i))) [],
    changed := s.meter.changing, changing := [] } }

/-- METER_WINDOW_CLOSE (R406, R413, R437): the window of the running cycle closes at the present
tick. -/
def State.meterClose (s : State) (land : MeterIn) : State :=
  let m := s.primary land
  let len := s.now - s.clk.cycleStart
  let old := s.meter
  let rs := s.measured.map fun i => (i, s.windowResult m i)
  let added := (rs.filter fun x => decide (x.1 < 18)).map fun x =>
    (x.1, energyOf x.2 (decide (bitOf s.meter.govMode x.1 = 1)) len)
  let mt := added.foldl (fun mt x =>
    (List.range 5).foldl (fun mt q => mt.addEnergy (x.1 * 5 + q) (x.2.getD q 0)) mt) s.meter
  let harm := mt.harm.map fun h =>
    let busyCal := match mt.cal with
      | some (i, _) => decide (i = h.1)
      | none => false
    if decide (h.2.1 < s.clk.cycle) && !s.clk.ghostSeen && !busyCal then (h.1, h.2.1, h.2.2 + 1) else h
  let exceeds := s.meter.running && decide (m.overrange % 2 ^ 22 ≠ 0)
  let s := { s with meter := { mt with
    last := Tbl.putAll MeterResult.zero mt.last rs, ready := s.meter.running, harm := harm } }
  let s := (s.addSat MTR_OVERRANGE.count (b2n exceeds)).raiseIf exceeds MTR_INT_STATUS.over_range
  let s := s.halfRange old
  let s := (List.range 8).foldl (State.pulseTake added) s
  let s := (List.range 6).foldl (State.histWindow rs) s
  let s := (s.calEnd m.offset).calStart
  let stopping := s.meter.running && !s.flag MTR_CTRL.enable
  let s := { s with meter := { s.meter with
    running := s.flag MTR_CTRL.enable, feeders := s.get MTR_CTRL.feeder_en } }
  let s := s.govern
  if stopping then (s.set MTR_CTRL.drained 1).raise MTR_INT_STATUS.drained else s

/-! ## Commit records (R418-R422) -/

/-- R418: the 2,048 octets of a commit record. -/
def Commit.bytes (c : Commit) : List Byte :=
  let body := leBytes 8 c.stamp ++ leBytes 4 (b2n c.final + 2 * b2n c.gap) ++ leBytes 4 c.optime ++
    leBytes 4 c.pwrcyc ++ List.replicate 12 0 ++
    ((List.range 90).flatMap fun k => leBytes 8 (Tbl.get 0 c.totals k)) ++
    ((List.range 90).flatMap fun k => leBytes 4 (Tbl.get 0 c.residues k)) ++
    ((List.range 8).flatMap fun k => leBytes 8 (Tbl.get 0 c.pulses k)) ++ List.replicate 868 0
  body ++ leBytes 4 (crc32 body)

/-- The record of the present moment with a stamp. -/
def State.commitOf (s : State) (stamp : Nat) (final : Bool) : Commit :=
  { stamp := stamp, final := final, gap := s.meter.gap, optime := s.get CYC_OPTIME.optime,
    pwrcyc := s.get CYC_PWRCYC.count, totals := s.meter.totals, residues := s.meter.residues,
    pulses := s.meter.pulses,
    backlogs := (List.range 8).foldl (fun t n =>
      Tbl.put 0 t n (s.get (MTR_PULSE_TIM.backlog n))) [] }

/-- A record in slot k of a die's stack. -/
def Die.putCommit (d : Die) (k : Nat) (c : Option Commit) : Die :=
  { d with commits := Tbl.put (some Commit.delivered) d.commits (k % 2) c }

def Die.commitAt (d : Die) (k : Nat) : Option Commit :=
  Tbl.get (some Commit.delivered) d.commits (k % 2)

/-- A die that runs its firmware writes a commit record to its own stack. -/
def State.commitAlone (c : Nat) (r : Commit) (d : DieId) (s : State) : State :=
  if s.power.booted.getD d.num false = false ∨ s.roleOf d = roUNFIT then s
  else s.setDie d ((s.die d).putCommit c (some r))

/-- METER_COMMIT (R85, R96, R418-R420): the record of cycle `c` goes to the stage holder's stack and into the
journal; a final one ends the mark of an energy gap.  While no die holds the stage each die writes its own
stack (log entry 113). -/
def State.commitNow (s : State) (c stamp : Nat) (final : Bool) : State :=
  let r := s.commitOf stamp final
  let s := match s.holder with
    | none => both (State.commitAlone c r) s
    | some d => (s.setDie d ((s.die d).putCommit c (some r))).journalMetering 1 r.bytes (.meterCommit r)
  if final then { s with meter := { s.meter with gap := false } } else s

/-! ## Results at phase 32 (R408, R425, R426) -/

/-- A quantity of a result in the unit of meter_qty: its sum's divisor (R124). -/
def meterDiv (q : Nat) : Nat :=
  if q = 0 then 100 else if q = 1 then 10 else if q ≤ 4 then 100 else 1

/-- R425: the quantities an input provides. -/
def meterProvides (input q : Nat) : Bool :=
  if input < 18 then decide (q ≤ 6)
  else if input < 21 then decide (q = 0 ∨ q = 6)
  else decide (input = 21 ∧ q = 1)

/-- The seven quantities of a result. -/
def MeterResult.values (r : MeterResult) : List Int :=
  [(r.v : Int), (r.i : Int), r.p, r.q, (r.s : Int), r.pf, (r.freq : Int)]

def addList : List Int → List Int → List Int
  | a :: as, b :: bs => (a + b) :: addList as bs
  | [], bs => bs
  | as, [] => as

/-- A result joins its input's sums. -/
def MeterState.sumUp (m : MeterState) (i : Nat) (r : MeterResult) : MeterState :=
  { m with
    sums := Tbl.put [] m.sums i (addList (Tbl.get [] m.sums i) r.values),
    counts := Tbl.put 0 m.counts i (Tbl.get 0 m.counts i + 1) }

/-- R425: the sense of a meter endpoint from the period's sums. -/
def MeterState.sense (m : MeterState) (input q : Nat) : Nat :=
  if meterProvides input q then
    let n := Tbl.get 0 m.counts input
    let v := openQuot 426 ((Tbl.get [] m.sums input).getD q 0) (n * meterDiv q)
    if q = 2 ∨ q = 3 ∨ q = 5 then pattern 16 (clampI (-32768) 32767 v)
    else (clampI 0 65535 v).toNat
  else 0

/-- R426: the inputs the end of a period makes for one meter endpoint. -/
def State.meterEndpoint (s : State) (d : Die) (e : Nat) : List DataIn :=
  let h := d.hotOf e
  let i := bindInput h.binding
  let on := if i < 18 then decide (bitOf (s.get MTR_CTRL.feeder_en) (i / 3) = 1) else true
  if d.kindOf e = 8 ∧ bindTransport h.binding = 3 ∧ on ∧ 0 < Tbl.get 0 s.meter.counts i then
    let v := s.meter.sense i (d.coldOf e).meterQty
    (if v = h.sense then [] else [DataIn.sense e v]) ++ [.report [e]]
  else []

/-- A die's metering result table takes the results of a cycle (R191). -/
def Die.meterResults (d : Die) (rs : List (Nat × MeterResult)) : Die :=
  (List.range 6).foldl (fun d f =>
    let mine := rs.filter fun x => decide (x.1 < 18 ∧ x.1 / 3 = f)
    if mine = [] then d
    else
      let m := Tbl.get MeterSum.zero d.meterSums f
      let v : MeterSum :=
        { sum := mine.foldl (fun t x => t + x.2.p) m.sum, count := m.count + 1,
          flagged := m.flagged || mine.any fun x => decide (x.2.flags ≠ 0) }
      { d with meterSums := Tbl.put MeterSum.zero d.meterSums f v }) d

/-- The seven register words of a result (object 0x6011). -/
def MeterResult.words (r : MeterResult) : List Nat :=
  [r.v % 2 ^ 32, r.i % 2 ^ 32, pattern 32 r.p, pattern 32 r.q, r.s % 2 ^ 32,
    r.freq % 2 ^ 16 * 2 ^ 16 + pattern 16 r.pf, r.flags]

/-- The octets in which results travel in the journal. -/
def resultBytes (rs : List (Nat × MeterResult)) : List Byte :=
  rs.flatMap fun x => leBytes 4 x.1 ++ x.2.words.flatMap (leBytes 4)

/-- METER_RESULTS_READY (R408, R426): the results of the last window are published, handed to the
stage holder and journaled, and meter endpoints take the means of a period that has ended. -/
def execMeterResultsReady (s : State) : Host.Outcome State Fault Refusal :=
  if s.meter.ready ∧ 32 ≤ s.phase then
    let c := s.clk.cycle - 1
    let rs := s.meter.last.filter fun x => decide (x.2.cycle = c)
    let m := rs.foldl (fun m x => m.sumUp x.1 x.2) s.meter
    let s := { s with meter := { m with
      ready := false, results := Tbl.putAll MeterResult.zero m.results rs } }
    let s := s.raise MTR_INT_STATUS.cycle_ready
    let s := match s.holder with
      | some d => s.setDie d ((s.die d).meterResults rs)
      | none => s
    let s := s.journalMetering 0 (resultBytes rs) (.meterResults rs)
    if (c + 1) % max 1 (s.obj 0x600A 0) = 0 then
      let d := s.die s.stageDie
      let ins := d.actives.flatMap (s.meterEndpoint d)
      let s := { s with meter := { s.meter with sums := [], counts := [] } }
      .next (if ins.isEmpty then s else { s with inputs := s.inputs ++ [ins] })
    else .next s
  else .next s

/-! ## History (R423, R424) -/

/-- The interval of object 0x6050 in seconds. -/
def State.histLen (s : State) : Nat := s.obj 0x6050 0

/-- R423: the TAI multiple that ended the interval, when the mapping is valid and one has passed. -/
def State.histMultiple (s : State) : Option Nat :=
  let len := s.histLen * 1000000000
  let from_ := s.taiP0 - (s.clk.cycleStart - s.meter.histFrom) * 40
  if s.mapValid ∧ 0 < len ∧ from_ / len < s.taiP0 / len then some (s.taiP0 / len * len) else none

/-- R423: the interval has ended at the last boundary. -/
def State.historyDue (s : State) : Bool :=
  if s.mapValid then s.histMultiple.isSome
  else decide (s.histLen * 25000000 ≤ s.clk.cycleStart - s.meter.histFrom)

/-- A U16 of 0.1 V from mV; a free value when the interval held no result. -/
def State.histVolt (s : State) (v : Option Nat) (k : Nat) : Nat :=
  match v with
  | some x => fit 424 16 (openQuotN 424 x 100)
  | none => Config.freeValue (s.free + k) % 2 ^ 16

/-- R424: the record of a feeder. -/
def State.historyRecord (s : State) (f seq : Nat) : List Byte :=
  let h := Tbl.get HistAcc.empty s.meter.hist f
  let e := fun (q : Nat) => leBytes 4 (pattern 32
    ((s.meter.window (20 * f + 15 + q) : Int) - Tbl.get 0 s.meter.histWin (20 * f + 15 + q)))
  let p := match h.pMax with
    | some x => pattern 32 (openQuot 424 x 10)
    | none => s.freeVal % 2 ^ 32
  let body := leBytes 8 (s.histMultiple.getD 0) ++
    leBytes 8 (stampOf s.clk.cycle 0 + (if s.ghost then 2 ^ 63 else 0)) ++
    leBytes 1 f ++
    leBytes 1 (b2n (!s.mapValid) + 2 * b2n s.meter.histCut + 4 * b2n h.flagged +
      8 * b2n s.meter.histGap + 16 * b2n h.disabled) ++ leBytes 2 0 ++
    e 0 ++ e 1 ++ e 2 ++ e 3 ++ e 4 ++ leBytes 4 p ++
    ((List.range 3).flatMap fun k => leBytes 2 (s.histVolt (h.vMin[k]?).join (1 + k))) ++
    ((List.range 3).flatMap fun k => leBytes 2 (s.histVolt (h.vMax[k]?).join (4 + k))) ++
    leBytes 4 seq
  body ++ leBytes 4 (crc32 body)

/-- A record joins the ring of a die (R423). -/
def Die.addHistory (d : Die) (seq : Nat) (b : List Byte) : Die :=
  { d with history := Tbl.put [] (Tbl.put [] d.history
      ((seq + 2 ^ 32 - 261120) % 2 ^ 32) []) seq b }

/-- A record of one feeder is written by the stage holder and mirrored to the other die's stack
(R423, R452). -/
def State.writeHistory (s : State) (f : Nat) : State :=
  let seq := (s.get MTR_HIST_SEQ.seq + 1) % 2 ^ 32
  let b := s.historyRecord f seq
  let h := Tbl.get HistAcc.empty s.meter.hist f
  let s := if h.pMax.isNone then { s with free := s.free + 7 } else s
  let s := s.setDie s.stageDie ((s.die s.stageDie).addHistory seq b)
  (s.mirror (.history seq b)).set MTR_HIST_SEQ.seq seq

/-- A new interval begins at the last boundary. -/
def State.historyStart (s : State) : State :=
  { s with meter := { s.meter with
    hist := [], histFrom := s.clk.cycleStart, histCut := false, histGap := false,
    histWin := (List.range 120).foldl (fun t n => Tbl.put 0 t n (s.meter.window n)) [] } }

/-- HISTORY_INTERVAL_END (R423, R424): one record for each enabled feeder. -/
def execHistoryIntervalEnd (s : State) : Host.Outcome State Fault Refusal :=
  if s.holder.isSome ∧ s.historyDue then
    let fs := if s.flag MTR_CTRL.enable ∨ s.meter.running then
      (List.range 6).filter fun f => decide (bitOf (s.get MTR_CTRL.feeder_en) f = 1) else []
    let s := fs.foldl State.writeHistory s
    let s := s.set MTR_STATUS.hist_unaligned (b2n (!s.mapValid))
    .next ((s.raiseIf (decide (fs ≠ [])) MTR_INT_STATUS.history).historyStart)
  else .next s

/-! ## Pulses (R428) -/

/-- PULSE_OUTPUT (R428): an output that is free and owes a pulse drives its land for its width. -/
def execPulseOutput (n : Fin 8) (s : State) : Host.Outcome State Fault Refusal :=
  let b := s.get (MTR_PULSE_TIM.backlog n)
  let w := s.get (MTR_PULSE_TIM.width n)
  if s.flag (MTR_PULSE_CFG.enable n) ∧ 0 < b ∧ Tbl.get 0 s.meter.free n ≤ s.now then
    let s := { s with meter := { s.meter with
      free := Tbl.put 0 s.meter.free n (s.now + 2 * w * 25000) } }
    .next ((s.set (MTR_PULSE_TIM.backlog n) (b - 1)).emit (.pulse n w))
  else .next s

/-! ## Harmonics (R429) -/

/-- A harmonic request; false when one is busy. -/
def State.harmRequest (s : State) (i : Nat) : State × Bool :=
  if s.flag MTR_STATUS.harm_busy then (s, false)
  else
    let s := { s with meter := { s.meter with harm := some (i, s.clk.cycle, 0) } }
    (((s.set MTR_STATUS.harm_busy 1).set MTR_HARM_STATUS.valid 0).set MTR_HARM_STATUS.aborted 0,
      true)

/-- HARMONIC_DONE (R429): after eight windows the result becomes valid: the fundamental's rms in mV or
mA, THD and harmonics 2 to 31 in 0.01 %. -/
def execHarmonicDone (fundamental thd : Nat) (amps : List Nat) (s : State) :
    Host.Outcome State Fault Refusal :=
  match s.meter.harm with
  | none => .next s
  | some (i, _, n) =>
    if n < 8 then .next s
    else
      let s := { s with meter := { s.meter with harm := none } }
      let s := ((s.set MTR_STATUS.harm_busy 0).set MTR_HARM_STATUS.valid 1).set
        MTR_HARM_STATUS.input i
      let s := (s.set MTR_HARM_FUND.rms (fit 429 32 fundamental)).set MTR_HARM_THD.thd
        (fit 429 16 thd)
      let s := (List.range 30).foldl (fun s k =>
        s.set (MTR_HARM.amp k) (fit 429 16 (amps.getD k 0))) s
      .next (s.raise MTR_INT_STATUS.harm_done)

/-! ## Selections (R439) -/

/-- R439: a selection of results shows a snapshot of the input's result registers. -/
def State.resultSelect (s : State) (i : Nat) : State :=
  let r := Tbl.get MeterResult.zero s.meter.results i
  let s := ((s.set MTR_RES_SEL.input i).set MTR_RES_CYCLE.cycle r.cycle).set MTR_RES_V.mv r.v
  let s := ((s.set MTR_RES_I.ma r.i).setS MTR_RES_P.p r.p).setS MTR_RES_Q.q r.q
  ((s.set MTR_RES_S.s r.s).set MTR_RES_PF.freq r.freq).setS MTR_RES_PF.pf r.pf
    |>.set MTR_RES_FLAGS.flags r.flags

/-- R439: a selection of a total shows a snapshot of it and of its window. -/
def State.totalSelect (s : State) (f p q : Nat) : State :=
  let t := s.meter.total f p q
  let s := ((s.set MTR_TOT_SEL.feeder f).set MTR_TOT_SEL.quantity q).set MTR_TOT_SEL.phase p
  ((s.set MTR_TOT_LO.mwh_lo t).set MTR_TOT_HI.mwh_hi (t / 2 ^ 32)).set MTR_TOT_WIN.wh
    (s.meter.window (20 * f + 5 * p + q))

/-- R439: a write of MTR_RES_SEL; inputs 22 to 31 are violations. -/
def State.resSelWrite (s : State) (w : Nat) : Except Nat State :=
  if 21 < w % 32 then .error vkRange else .ok (s.resultSelect (w % 32))

/-- R439: a write of MTR_TOT_SEL; phases 4 to 7, quantities 5 to 7 and feeders 6 and 7 are violations. -/
def State.totSelWrite (s : State) (w : Nat) : Except Nat State :=
  if 3 < w / 256 % 8 ∨ 4 < w / 16 % 8 ∨ 5 < w % 8 then .error vkRange
  else .ok (s.totalSelect (w % 8) (w / 256 % 8) (w / 16 % 8))

/-- RESULT_SELECT (R439). -/
def execResultSelect (p : Port) (w : Word) (s : State) : Host.Outcome State Fault Refusal :=
  let a := apronWrite p 0xC0070010
  .next (s.access a fun s => s.wrote a (s.resSelWrite w.toNat))

/-- TOTAL_SELECT (R439). -/
def execTotalSelect (p : Port) (w : Word) (s : State) : Host.Outcome State Fault Refusal :=
  let a := apronWrite p 0xC0070040
  .next (s.access a fun s => s.wrote a (s.totSelWrite w.toNat))

/-! ## Theft watch (R432-R436) -/

/-- RTC seconds. -/
def State.rtcSeconds (s : State) : Nat := s.rtc.count / 2 ^ 15

/-- R434: the header of the block. -/
def Theft.header (t : Theft) : List Byte :=
  let body := leBytes 1 (b2n t.running + 2 * b2n t.lapsed + 4 * b2n t.wrapped) ++
    t.inputs.flatMap (leBytes 1) ++ leBytes 2 t.next ++ leBytes 2 0 ++ leBytes 8 t.firstFlow ++
    leBytes 8 t.lastSave ++ leBytes 4 t.minutes ++ t.charge.flatMap (leBytes 4) ++
    leBytes 4 t.threshold ++ List.replicate 16 0
  body ++ leBytes 4 (crc32 body)

/-- The minute counters start again. -/
def Theft.clearMinute (t : Theft) : Theft :=
  { t with sums := [0, 0, 0], seconds := 0, secAbove := 0, above := 0 }

/-- R433, R434: a record for the minute that ends at an RTC second, when it had flow. -/
def Theft.record (t : Theft) (sec : Nat) (part : Bool) : Theft :=
  if t.secAbove = 0 then t.clearMinute
  else
    let mean := t.sums.map fun x => openQuotN 434 x (10 * t.seconds)
    let body := leBytes 4 (sec % 2 ^ 32) ++ (mean.flatMap fun x => leBytes 2 (fit 434 16 x)) ++
      leBytes 1 (t.above + 128 * b2n part) ++ leBytes 1 (min 60 t.secAbove) ++
      leBytes 2 (t.seq % 2 ^ 16)
    let b := body ++ leBytes 2 (fcs16 body)
    let add := fun (c m : Nat) => fit 434 32 (c + openQuotN 434 (m * t.seconds) 60)
    let charge := (List.range 3).map fun k => add (t.charge.getD k 0) (mean.getD k 0)
    { t with
      records := Tbl.put [] t.records t.next b, seq := (t.seq + 1) % 2 ^ 16,
      wrapped := t.wrapped || decide (t.next = 251), next := (t.next + 1) % 252,
      firstFlow := if t.minutes = 0 then sec else t.firstFlow, lastSave := sec,
      minutes := fit 434 32 (t.minutes + 1), charge := charge, added := t.added + 1 }.clearMinute

/-- R432: the watch starts as the ghost light switches to the backup. -/
def State.theftStart (s : State) : State :=
  if s.flag GHL_THEFT_CFG.enable then
    let t := { s.theft with
      running := true, threshold := s.get GHL_THEFT_THR.ma, added := 0,
      inputs := [s.get GHL_THEFT_CFG.in0, s.get GHL_THEFT_CFG.in1, s.get GHL_THEFT_CFG.in2],
      scale := [s.inputScale (s.get GHL_THEFT_CFG.in0), s.inputScale (s.get GHL_THEFT_CFG.in1),
        s.inputScale (s.get GHL_THEFT_CFG.in2)] }
    { s with theft := t.clearMinute }
  else s

/-- R432, R433: the watch stops as the main supply returns, with a record for the partial minute. -/
def State.theftStop (s : State) : State :=
  if s.theft.running then { s with theft := { s.theft.record s.rtcSeconds true with running := false } }
  else s

/-- R432: 1-s rms values at the lands, in 2^-32 V, as primary mA. -/
def Theft.primary (t : Theft) (land : List Nat) : List Nat :=
  (List.range 3).map fun k => openQuotN 432 (land.getD k 0 * 1000 * t.scale.getD k 0) (2 ^ 205)

/-- THEFT_SECOND (R432, R433): the 1-s rms of the three inputs at their lands, in 2^-32 V. -/
def execTheftSecond (a b c : Nat) (s : State) : Host.Outcome State Fault Refusal :=
  if s.theft.running then
    let t := s.theft
    let x := t.primary [a, b, c]
    let exceeds := (List.range 3).filter fun k => decide (t.threshold < x.getD k 0)
    .next { s with theft := { t with
      sums := (List.range 3).map fun k => t.sums.getD k 0 + x.getD k 0,
      seconds := t.seconds + 1, secAbove := t.secAbove + (if exceeds = [] then 0 else 1),
      above := exceeds.foldl setBit t.above } }
  else .next s

/-- THEFT_MINUTE (R433): an RTC second that is a multiple of 60. -/
def execTheftMinute (s : State) : Host.Outcome State Fault Refusal :=
  if s.theft.running ∧ s.rtcSeconds % 60 = 0 then
    .next { s with theft := s.theft.record s.rtcSeconds false }
  else .next s

/-- R436: the block is cleared; false while the watch runs. -/
def State.theftClear (s : State) : State × Bool :=
  if s.theft.running then (s, false) else ({ s with theft := Theft.empty }, true)

/-- R435: what a start makes of the watch. -/
def State.theftAtStart (s : State) : State :=
  let lost := s.theft.running && s.flag GHL_RTC_STATUS.time_lost
  let flow := decide (0 < s.theft.added)
  let s := if lost then
    let s := { s with theft := { s.theft with lapsed := true, running := false } }
    ((s.set MTR_STATUS.theft_lost 1).raise MTR_INT_STATUS.theft_lost).post .management
      (cbSource originApron cbMTR 0) 0x0051 (leBytes 8 s.theft.lastSave)
  else s
  if flow then
    let n := s.theft.added
    let s := { s with theft := { s.theft with added := 0 } }
    ((s.set MTR_STATUS.theft_flow 1).raise MTR_INT_STATUS.theft_flow).post .management
      (cbSource originApron cbMTR 0) 0x0052 (leBytes 2 n ++ leBytes 6 0)
  else s

/-! ## Balance check (R191, R192) -/

/-- The node-meter endpoints of a feeder that count, and whether one was excluded. -/
def Die.nodeMeters (d : Die) (f : Nat) : List Nat × Bool :=
  let es := d.actives.filter fun e => decide (d.kindOf e = 6 ∧ (d.coldOf e).feeder = f)
  (es.filter fun e => decide (bitOf (d.hotOf e).fault faultNoReport = 0),
   es.any fun e => decide (bitOf (d.hotOf e).fault faultNoReport = 1))

/-- The output endpoints of a feeder that are estimated: chain-bound ones, and those of nodes that no
node meter names. -/
def Die.estimated (d : Die) (f : Nat) : List Nat :=
  let metered := (d.actives.filter fun e => decide (d.kindOf e = 6 ∧
    bindTransport (d.hotOf e).binding = 1)).map fun e => bindNode (d.hotOf e).binding
  d.actives.filter fun e =>
    let b := (d.hotOf e).binding
    kindOutput (d.kindOf e) && decide ((d.coldOf e).feeder = f) &&
      (decide (bindTransport b = 2) ||
        (decide (bindTransport b = 1) && !metered.contains (bindNode b)))

/-- R191: the accounted power of a feeder times 655,350, in W. -/
def Die.accounted (d : Die) (f : Nat) : Nat :=
  (d.nodeMeters f).1.foldl (fun t e => t + (d.hotOf e).sense * 65535) 0 +
    (d.estimated f).foldl (fun t e => t + (d.coldOf e).nominal * (d.hotOf e).current) 0

/-- R192: the counts and the alarm of a feeder after a complete check; both outlive a takeover (log entry
126). -/
def State.balanceJudge (s : State) (d : DieId) (f : Nat) (u : Int) : State :=
  let exceeds := decide (s.obj 0x4011 f < u.natAbs)
  let n := max 1 (s.obj 0x4013 0)
  let o := if exceeds then Tbl.get 0 s.balanceOver f + 1 else 0
  let w := if exceeds then 0 else Tbl.get 0 s.balanceWithin f + 1
  let s := { s with balanceOver := Tbl.put 0 s.balanceOver f o,
                    balanceWithin := Tbl.put 0 s.balanceWithin f w }
  let a := s.get (CUE_BAL_STATUS.alarm d)
  let data := leBytes 1 f ++ leBytes 3 0 ++ leBytes 4 (pattern 32 u)
  let src := cbSource (originDie d) cbCUE 0
  if bitOf a f = 0 ∧ n ≤ o then
    let s := (s.set (CUE_BAL_STATUS.alarm d) (setBit a f)).raise (CUE_INT_STATUS.bal_alarm d)
    s.post .management src 0x0020 data
  else if bitOf a f = 1 ∧ n ≤ w then
    let s := (s.set (CUE_BAL_STATUS.alarm d) (clrBit a f)).raise (CUE_INT_STATUS.bal_clear d)
    s.post .management src 0x0021 data
  else s

/-- R191: the check of one feeder. -/
def State.balanceFeeder (d : DieId) (s : State) (f : Nat) : State :=
  let x := s.die d
  let m := Tbl.get MeterSum.zero x.meterSums f
  let a := x.accounted f
  let bad := (x.nodeMeters f).2 || m.flagged || decide (m.count = 0)
  let s := s.setObj 0x4017 f (fit 191 32 (a / 655350))
  let s := s.set (CUE_BAL_STATUS.incomplete d) (putBit (s.get (CUE_BAL_STATUS.incomplete d)) f bad)
  if m.count = 0 then
    let s := (s.setObj 0x4016 f (s.freeVal % 2 ^ 32)).draw
    let s := (s.set (CUE_BAL_U.watts d f) s.freeVal).draw
    s.raise (CUE_INT_STATUS.bal_incomplete d)
  else
    let den := 10 * m.count * 65535
    let allow := signed 32 (s.obj 0x4012 f)
    let num := m.sum * 65535 - ((m.count * a : Nat) : Int) - allow * (den : Int)
    let u := num.tdiv den
    let s := s.setObj 0x4016 f (pattern 32 (m.sum.tdiv (10 * m.count : Nat)))
    let s := s.setS (CUE_BAL_U.watts d f) u
    if bad then s.raise (CUE_INT_STATUS.bal_incomplete d) else s.balanceJudge d f u

/-- A new balance period (R191, R192). -/
def State.balanceRestart (s : State) : State :=
  { s with balanceFrom := s.clk.cycleStart,
           dieA := { s.dieA with meterSums := [] }, dieB := { s.dieB with meterSums := [] } }

/-- BALANCE_CHECK (R191): at the first phase 0 after a period, the stage holder checks each feeder with
metering enabled; the next period starts there. -/
def execBalanceCheck (s : State) : Host.Outcome State Fault Refusal :=
  match s.holder with
  | none => .next s
  | some d =>
    if s.phase ≠ 0 ∨ s.clk.cycleStart < s.balanceFrom + s.obj 0x4010 0 * 25000000 then .next s
    else
      let fs := if s.flag MTR_CTRL.enable then
        (List.range 6).filter fun f => decide (bitOf (s.get MTR_CTRL.feeder_en) f = 1) else []
      .next (fs.foldl (State.balanceFeeder d) s).balanceRestart

end Sys2Proof.Machine
end

