-- ==== Sys2Proof/Machine/Staged.lean ====
section
/-! DEFINITION. Writes reaching the dies' stores: data-plane writes in journal order, and staged
management writes of endpoint fields, profiles, groups, aggregate definitions, curves and cue tables,
applied at a boundary (R53, R127-R130, R148, R149, R162, R165, R169, R185, R206, R209, R213-R219). -/

namespace Sys2Proof.Machine

/-! ## Status codes (R555) -/

def stOK : Nat := 0
def stNoObject : Nat := 1
def stAccess : Nat := 2
def stRange : Nat := 3
def stType : Nat := 4
def stBusy : Nat := 5
def stLocked : Nat := 6
def stRights : Nat := 7
def stTimeout : Nat := 8
def stDamaged : Nat := 9
def stState : Nat := 0x0A
def stMalformed : Nat := 0x0B
def stTooLarge : Nat := 0x0C
def stAuth : Nat := 0x0D
def stExpired : Nat := 0x0E
def stTamper : Nat := 0x0F

/-! ## Data-plane writes -/

/-- R236: a report with sense 0 confirms a blackout whose hold is confirmed. -/
def Die.blackReport (d : Die) (e : Nat) : Die :=
  if Tbl.get 0 d.cues.blackConf e = 1 ∧ (d.hotOf e).sense = 0 then
    { d with cues := { d.cues with blackConf := Tbl.put 0 d.cues.blackConf e 2 } }
  else d

/-- R145, R147: a write to an endpoint of a unit that waits for its spare, or moves to it, goes to the hot image
too. -/
def Die.throughImage (d : Die) (e : Nat) (f : Hot → Hot) : Die :=
  if d.moves.any (fun m => m.remap && decide (m.unit = unitOf e)) || d.waiting.any fun x => decide (x.1 = unitOf e)
  then { d with image := Tbl.put Hot.delivered d.image e (f (d.imageOf e)) }
  else d

/-- One data-plane write is applied in cycle `n` (R53, R127, R145). -/
def Die.applyIn (n : Nat) (d : Die) (i : DataIn) : Die :=
  match i with
  | .sense e v => (d.writeSense e (v % 2 ^ 16) n).throughImage e fun h => { h with sense := v % 2 ^ 16 }
  | .fault e mask v =>
    let old := (d.hotOf e).fault
    let w := Nat.lor (Nat.land old (Nat.xor (Nat.lor old mask) mask)) (Nat.land v mask)
    (d.writeFault e w n).throughImage e fun h => { h with fault := w }
  | .report es => es.foldl (fun d e => ((d.report e n).blackReport e).throughImage e fun h =>
      { h with fault := clrBit h.fault faultNoReport }) d

/-- Every write placed and not yet applied (R155 step 1, R53). -/
def Die.applyPlaced (d : Die) (n : Nat) : Die :=
  let l := d.ready ++ d.placed
  l.foldl (Die.applyIn n) { d with ready := [], placed := [] }

/-! ## Endpoint field codes (R148) -/

/-- Size of a field code's value and its access: 0 RO, 1 RW, 2 WO. -/
def epField (code : Nat) : Option (Nat × Nat) :=
  if code = 0x00 then some (32, 0)
  else if 0x01 ≤ code ∧ code ≤ 0x09 then some (2, 0)
  else if code = 0x0A then some (4, 0)
  else if code = 0x0B then some (2, 0)
  else if code = 0x10 ∨ code = 0x11 then some (1, 1)
  else if code = 0x12 then some (4, 1)
  else if code = 0x20 ∨ code = 0x21 then some (1, 1)
  else if code = 0x22 ∨ code = 0x28 then some (2, 1)
  else if 0x23 ≤ code ∧ code ≤ 0x27 then some (4, 1)
  else if code = 0x29 then some (1, 1)
  else if code = 0x2A then some (4, 1)
  else if code = 0x2B ∨ code = 0x2C then some (16, 1)
  else if code = 0x30 then some (32, 0)
  else if code = 0x31 then some (1, 2)
  else if code = 0x3F then some (96, 1)
  else if code = 0x40 then some (128, 0)
  else none

/-- The value of a field code. -/
def Die.epValue (d : Die) (e code : Nat) : List Byte :=
  let h := d.hotOf e
  let c := d.coldOf e
  let cold := c.bytes ++ (d.statsOf e).bytes
  if code = 0x00 then h.bytes
  else if code = 0x01 then leBytes 2 h.current
  else if code = 0x02 then leBytes 2 h.target
  else if code = 0x03 then leBytes 2 h.lastTx
  else if code = 0x04 then leBytes 2 h.fadeLeft
  else if code = 0x05 then leBytes 2 h.holdLeft
  else if code = 0x06 then leBytes 2 h.fsLevel
  else if code = 0x07 then leBytes 2 h.ovrLevel
  else if code = 0x08 then leBytes 2 h.sense
  else if code = 0x09 then leBytes 2 h.fault
  else if code = 0x0A then leBytes 4 h.lastChange
  else if code = 0x0B then leBytes 1 h.fadeCtrl ++ leBytes 1 h.ovrCtrl
  else if code = 0x10 then leBytes 1 h.profile
  else if code = 0x11 then leBytes 1 h.group
  else if code = 0x12 then leBytes 4 h.binding
  else if code = 0x20 then leBytes 1 c.kind
  else if code = 0x21 then leBytes 1 c.linkCount
  else if code = 0x22 then leBytes 2 c.fallback
  else if code = 0x23 then leBytes 4 c.nameHash
  else if 0x24 ≤ code ∧ code ≤ 0x27 then leBytes 4 (c.links.getD (code - 0x24) 0)
  else if code = 0x28 then leBytes 2 c.daylightRef
  else if code = 0x29 then leBytes 1 c.derate
  else if code = 0x2A then leBytes 4 c.daylightEp
  else if code = 0x2B then c.calBytes
  else if code = 0x2C then c.bindBytes
  else if code = 0x30 then (d.statsOf e).bytes
  else if code = 0x3F then cold
  else if code = 0x40 then h.bytes ++ cold
  else []

/-- R138: the codes that read a cold record, which a damaged one refuses. -/
def epCold (code : Nat) : Bool := decide (0x20 ≤ code)

/-- The cold record after a write of one of its codes; reserved bits are ignored (R21). -/
def Cold.withField (c : Cold) (code : Nat) (b : List Byte) : Cold :=
  let v := leNat b
  if code = 0x21 then { c with linkCount := v % 8 }
  else if code = 0x22 then { c with fallback := v }
  else if code = 0x23 then { c with nameHash := v }
  else if code = 0x24 then { c with link0 := v }
  else if code = 0x25 then { c with link1 := v }
  else if code = 0x26 then { c with link2 := v }
  else if code = 0x27 then { c with link3 := v }
  else if code = 0x28 then { c with daylightRef := v }
  else if code = 0x29 then { c with derate := v }
  else if code = 0x2A then { c with daylightEp := v / 2 ^ 31 * 2 ^ 31 + v % 2 ^ 20 }
  else if code = 0x2B then c.withCal b
  else if code = 0x2C then c.withBind b
  else if code = 0x3F then
    let x := Cold.ofBytes b
    { x with linkCount := x.linkCount % 8,
             daylightEp := x.daylightEp / 2 ^ 31 * 2 ^ 31 + x.daylightEp % 2 ^ 20 }
  else c

/-- R121, R123, R188: a binding value in form; bits that its transport does not assign are dropped (log entry
124). -/
def bindForm (v : Nat) : Option Nat :=
  let t := v / 2 ^ 29
  if t = 0 then (if v = 0 then some 0 else none)
  else if t = 1 then some (t * 2 ^ 29 + v % 2 ^ 20)
  else if t = 2 then some (t * 2 ^ 29 + v % 2 ^ 15)
  else if t = 3 then (if v % 32 ≤ 21 then some (t * 2 ^ 29 + v % 32) else none)
  else if t = 4 then (if v % 2 ^ 16 ≤ 1023 then some (t * 2 ^ 29 + v % 2 ^ 16) else none)
  else none

/-- R117, R123: a kind the endpoint may take with the binding it holds. -/
def Die.kindOk (d : Die) (e k : Nat) : Bool :=
  let b := (d.hotOf e).binding
  kindValid k && (decide (bindTransport b = 0) || bindPermitted k (bindTransport b)) &&
    !(kindOutput k && d.bindTaken e b)

/-- R130: the resets that a change of kind makes. -/
def Die.kindReset (d : Die) (e n : Nat) : Die :=
  let h := d.hotOf e
  let d := d.setHot e { Hot.delivered with
    profile := h.profile, group := h.group, binding := h.binding } n
  (d.setStats e Stats.zero).setCounts e Counts.zero

/-- R120: a new supervision period of an endpoint starts. -/
def Die.restartPeriod (d : Die) (e n : Nat) : Die :=
  { d with period := Tbl.put 0 d.period e n }

/-- R169: the daylight pair of an endpoint changes; none when its unit has no entry left. -/
def Die.daylightMove (d : Die) (e : Nat) (old new : Option (Nat × Nat)) : Option Die :=
  if old = new then some d
  else
    let u := unitOf e
    let d1 := match old with
      | some p => d.daylightLeave u p
      | none => d
    match new with
    | none => some d1
    | some p =>
      let d2 := d1.daylightUse u p
      if (d2.daylightFind u p).isSome then some d2 else none

/-- A staged write of an endpoint field is applied to a die in cycle `n` (R128-R130): the die after it,
the status, and whether the endpoint's kind or binding changed. -/
def Die.applyEp (d : Die) (e code : Nat) (b : List Byte) (n : Nat) : Die × Nat × Bool :=
  let h := d.hotOf e
  let c := d.coldOf e
  let v := leNat b
  let no := (d, stRange, false)
  if code = 0x10 then (d.setHot e { h with profile := v } n, stOK, false)
  else if code = 0x11 then (d.setHot e { h with group := v } n, stOK, false)
  else if code = 0x12 then
    match bindForm v with
    | none => no
    | some w =>
      let t := bindTransport w
      if t ≠ 0 ∧ ¬ bindPermitted c.kind t then no
      else if kindOutput c.kind ∧ d.bindTaken e w then no
      else
        let d := d.restartPeriod e n
        if w = h.binding then (d, stOK, false)
        else
          (d.setHot e { h with
            binding := w, sense := 0, fault := 0, lastTx := 0xFFFF - h.current } n, stOK, true)
  else if code = 0x20 then
    if d.kindOk e v then
      let d := d.restartPeriod e n
      if v = c.kind then (d, stOK, false)
      else ((d.setCold e { c with kind := v }).kindReset e n, stOK, true)
    else no
  else if code = 0x31 then
    (if v = 1 then d.clearStats e n else d, stOK, false)
  else
    let x := c.withField code b
    if ¬ x.ok e ∨ (x.kind ≠ c.kind ∧ ¬ d.kindOk e x.kind) then no
    else match d.daylightMove e c.daylightPair x.daylightPair with
      | none => no
      | some d =>
        let d := d.setCold e x
        let d := if code = 0x3F then { d with damaged := Tbl.put false d.damaged e false } else d
        let d := if x.reportPeriod ≠ c.reportPeriod ∨ x.kind ≠ c.kind ∨ code = 0x2C ∨ code = 0x3F
          then d.restartPeriod e n else d
        if x.kind ≠ c.kind then (d.kindReset e n, stOK, true) else (d, stOK, false)

/-- R147: what a staged write that leaves the hot record `new` puts into the record's image. -/
def Hot.stagedImage (h new : Hot) (code : Nat) (changed : Bool) : Hot :=
  if code = 0x10 then { h with profile := new.profile }
  else if code = 0x11 then { h with group := new.group }
  else if changed = false then h
  else if code = 0x12 then
    { h with binding := new.binding, sense := new.sense, fault := new.fault, lastTx := new.lastTx }
  else { new with profile := h.profile, group := h.group, binding := h.binding }

/-- What the transports are told of an applied cold write of an endpoint: node command 1 (R311), and a
chain fallback (R387). -/
def State.coldChanged (s : State) (d : DieId) (e : Nat) (old : Cold) : State :=
  let die := s.die d
  let c := die.coldOf e
  let b := (die.hotOf e).binding
  if s.holder = some d ∧ (c.calBytes.take 8 ≠ old.calBytes.take 8 ∨ c.fallback ≠ old.fallback) then
    if bindTransport b = 1 then
      s.queueFrame (bindNode b) 11 (c.command1 (bindIndex b))
    else if kindOutput c.kind then s.chainFallback b else s
  else s

/-- A staged endpoint write on a die: the state, the status, and the endpoint where its kind or binding
changed. -/
def State.applyEp (s : State) (d : DieId) (w : Mgmt) : State × Nat × Option Nat :=
  let die := s.die d
  let old := die.coldOf w.sub
  let (die', st, ch) := die.applyEp w.sub w.code w.value s.clk.cycle
  let die' := if st = stOK then
      die'.throughImage w.sub fun h => h.stagedImage (die'.hotOf w.sub) w.code ch
    else die'
  let s := (s.setDie d die').coldChanged d w.sub old
  let s := if ch then (s.chainUnbound d w.sub old.kind (die.hotOf w.sub).binding).tellBinding d w.sub else s
  (s, st, if ch then some w.sub else none)

/-! ## Profiles, curves, groups and aggregates -/

/-- R160: a profile field by sub-index of objects 0x4100-0x41FF. -/
def Profile.withSub (p : Profile) (sub v : Nat) : Profile :=
  if sub = 1 then { p with minLevel := v } else if sub = 2 then { p with maxLevel := v }
  else if sub = 3 then { p with presenceLevel := v } else if sub = 4 then { p with holdTime := v }
  else if sub = 5 then { p with riseTime := v } else if sub = 6 then { p with fallTime := v }
  else if sub = 7 then { p with deadband := v } else if sub = 8 then { p with fsOutLevel := v }
  else if sub = 9 then { p with fsDecayTime := v } else if sub = 10 then { p with dlMin := v }
  else if sub = 11 then { p with refreshPeriod := v } else if sub = 12 then { p with flags := v }
  else if sub = 13 then { p with nameHash := v } else p

def Profile.sub (p : Profile) (sub : Nat) : Nat :=
  [13, p.minLevel, p.maxLevel, p.presenceLevel, p.holdTime, p.riseTime, p.fallTime, p.deadband,
    p.fsOutLevel, p.fsDecayTime, p.dlMin, p.refreshPeriod, p.flags, p.nameHash].getD sub 0

/-- R162: a profile write. -/
def State.writeProfile (s : State) (p sub v : Nat) : State × Nat :=
  let x := (s.profile p).withSub sub v
  if x.ok then ({ s with profiles := Tbl.put Profile.factory s.profiles p x }, stOK) else (s, stRange)

/-- R171: a write of one curve point. -/
def State.writeCurve (s : State) (c point v : Nat) : State × Nat :=
  let x := (s.curve c).set point (v % 2 ^ 16, v / 2 ^ 16)
  if curveRises x then ({ s with curves := Tbl.put curveFactory s.curves c x }, stOK)
  else (s, stRange)

/-- R165: a write of a sensor group on a die. -/
def Die.writeGroup (d : Die) (key : Nat) (b : List Byte) : Die × Nat :=
  let count := leAt b 0 1
  let members := (List.range 12).map fun i => leAt b (4 + 4 * i) 4
  let ok := decide (count ≤ 12) && members.all (fun m => decide (m < 2 ^ 20)) &&
    (members.take count).all fun m => decide (d.kindOf m = 3 ∨ d.kindOf m = 7)
  if ok then
    let g := Tbl.get Group.empty d.groups key
    let g := { g with count := count, members := members, latch := false, mask := 0 }
    ({ d with groups := Tbl.put Group.empty d.groups key g }, stOK)
  else (d, stRange)

/-- A definition's four ranges from its octets. -/
def aggRanges (b : List Byte) : List (Nat × Nat) :=
  (List.range 4).map fun i => (leAt b (8 * i) 4, leAt b (8 * i + 4) 4)

/-- R185: one range in form. -/
def aggRangeOk (r : Nat × Nat) : Bool :=
  if r.1 / 2 ^ 31 = 1 then
    decide (r.1 % 2 ^ 31 < 2 ^ 20 ∧ r.2 < 2 ^ 20 ∧ r.1 % 2 ^ 20 ≤ r.2)
  else decide (r = (0, 0))

/-- The ranges of a definition that are in force and touch a logical unit. -/
def aggInUnit (u : Nat) (rs : List (Nat × Nat)) : List (Nat × Nat) :=
  rs.filter fun r => decide (r.1 / 2 ^ 31 = 1 ∧ unitOf (r.1 % 2 ^ 20) ≤ u ∧ u ≤ unitOf (r.2 % 2 ^ 20))

/-- R185: the limits of a unit's range list. -/
def aggLimits (defs : Tbl (List (Nat × Nat))) (u : Nat) : Bool :=
  let rs := defs.map fun x => (aggInUnit u x.2).length
  decide (rs.sum ≤ 64 ∧ (rs.filter fun n => 0 < n).length ≤ 16)

/-- R185: a write of an aggregate definition. -/
def State.writeAgg (s : State) (g : Nat) (b : List Byte) : State × Nat :=
  let rs := aggRanges b
  let new := Tbl.put [] s.aggDefs g (if rs.all fun r => decide (r = (0, 0)) then [] else rs)
  if rs.all aggRangeOk ∧ (List.range 256).all (fun u =>
      decide (aggInUnit u rs = []) || aggLimits new u) then ({ s with aggDefs := new }, stOK)
  else (s, stRange)

/-! ## Cue tables (R206, R209, R213, R214, R217-R219, R235) -/

/-- Writes to a bank are refused while a sync runs; those received after an accepted swap request are
refused before they are staged (R214). -/
def Die.bankWrite (d : Die) (f : CueBank → CueBank) : Die × Nat :=
  if d.cues.syncBusy then (d, stBusy)
  else ({ d with cues := d.cues.setBank (1 - d.cues.active) (f d.cues.inactiveBank) }, stOK)

def Die.writeHeader (d : Die) (i : Nat) (b : List Byte) : Die × Nat :=
  let x := SceneHdr.ofBytes b
  if x.ok (leAt b 7 1) then
    d.bankWrite fun k => { k with headers := Tbl.put SceneHdr.zero k.headers i x }
  else (d, stRange)

def Die.writeEntries (d : Die) (i : Nat) (b : List Byte) : Die × Nat :=
  let parts := pieces 16 (b.length / 16 + 1) b
  let ok := decide (i + parts.length ≤ 65536) &&
    parts.all fun p => (SceneEntry.ofBytes p).ok (leNat (p.drop 11))
  if ok then
    d.bankWrite fun k => { k with
      entries := (parts.foldl (fun (x : Tbl SceneEntry × Nat) p =>
        (Tbl.put SceneEntry.zero x.1 x.2 (SceneEntry.ofBytes p), x.2 + 1)) (k.entries, i)).1 }
  else (d, stRange)

def Die.writeSched (d : Die) (j : Nat) (b : List Byte) : Die × Nat :=
  let x := Sched.ofBytes b
  if x.ok (leNat ((b.drop 17).take 3) + leNat (b.drop 28)) then
    d.bankWrite fun k => { k with sched := Tbl.put Sched.zero k.sched j x }
  else (d, stRange)

/-- R217, R218: a go entry is placed in the inactive go bank with the next sequence. -/
def Die.placeGo (d : Die) (x : GoEntry) : Die × Nat :=
  let c := d.cues
  if 256 ≤ c.goInactive.length ∨ 1024 ≤ c.pendingGo.length + c.goInactive.length then (d, stBusy)
  else
    let seq := (c.goSeq + 1) % 2 ^ 32
    let y := { x with seq := seq }
    ({ d with cues := { c with goSeq := seq, goInactive := c.goInactive ++ [y] } }, stOK)

/-- R219: a write of the object Go command; ops 4 and 5 come only through Blackout command. -/
def Die.writeGo (d : Die) (b : List Byte) : Die × Nat :=
  let x := GoEntry.ofBytes b
  if x.ok (leNat (b.drop 28)) ∧ x.op ≠ 4 ∧ x.op ≠ 5 then d.placeGo x else (d, stRange)

/-- R235: an accepted blackout command is placed, and the counter follows. -/
def Die.writeBlackout (d : Die) (b : List Byte) : Die × Nat :=
  let (d, st) := d.placeGo (GoEntry.ofBytes (b.take 32))
  if st = stOK then
    ({ d with cues := { d.cues with blackCounter := leAt b 32 4 } }, st)
  else (d, st)

/-- R235: the checks of a blackout command. -/
def State.blackoutOk (s : State) (d : DieId) (b : List Byte) : Bool :=
  let x := GoEntry.ofBytes (b.take 32)
  let key := Tbl.get [] (s.die d).workKeys 8
  decide (key ≠ []) && decide (b.drop 48 = blackoutTag key s.moduleNumber b) &&
    decide ((s.cues d).blackCounter < leAt b 32 4 ∧ leNat ((b.drop 36).take 12) = 0) &&
    x.ok (leNat ((b.take 32).drop 28)) && decide (x.op = 4 ∨ x.op = 5)

/-- R235: a refused blackout command is counted, recorded and raised. -/
def State.authFail (s : State) (d : DieId) : State :=
  ((s.addSat (CUE_AUTH_FAIL.count d) 1).raise (CUE_TBL_INT_STATUS.auth_fail d)).post .control
    (cbSource (originDie d) cbCUE 0) (unnamed 55) []

/-- The writes of objects that each die holds for itself: cue tables and sensor groups; none for any
other object. -/
def Die.applyObj (d : Die) (w : Mgmt) : Option (Die × Nat) :=
  if w.code = 0x4211 then some (d.writeGroup (groupKey (w.ptr / 256) (w.ptr % 256)) w.value)
  else if w.code = 0x4411 ∧ w.sub = 1 then some (d.writeHeader w.ptr w.value)
  else if w.code = 0x4413 ∧ w.sub = 1 then some (d.writeEntries w.ptr w.value)
  else if w.code = 0x4415 ∧ w.sub = 1 then some (d.writeSched w.ptr w.value)
  else if w.code = 0x4420 then some (d.writeGo w.value)
  else if w.code = 0x4422 then some (d.writeBlackout w.value)
  else if w.code = 0x4402 then
    some ({ d with cues := { d.cues with swapPending := true } }, stOK)
  else none

/-- R214, R239: a bank swap is accepted and not yet made, its request applied or not. -/
def Die.swapWaits (d : Die) : Bool :=
  d.cues.swapPending || d.staged.any fun w => decide (w.target = 1 ∧ w.code = 0x4402)

/-- The understudy applies its staged writes: those of its own stores. -/
def State.applyShadow (s : State) (d : DieId) : State × List Nat :=
  let l := (s.die d).staged
  let s := s.setDie d { s.die d with staged := [] }
  l.foldl (fun (x : State × List Nat) w =>
    if w.target = 0 then
      let (s, _, ch) := x.1.applyEp d w
      (s, match ch with
        | some e => e :: x.2
        | none => x.2)
    else match (x.1.die d).applyObj w with
      | some (v, _) => (x.1.setDie d v, x.2)
      | none => x) (s, [])

end Sys2Proof.Machine
end

