-- ==== Sys2Proof/Machine/Roles.lean ====
section
/-! DEFINITION. The roles of the dies, the output gate, and how a die leaves the stage or its role
(R29-R34, R47, R443-R447, R469-R474, R479, R482-R485). -/

namespace Sys2Proof.Machine

/-! ## Taking a role (R443) -/

/-- A die takes a role; it is not fit until the next phase 16 says so. -/
def State.setRole (s : State) (d : DieId) (r : Nat) : State :=
  (s.set (TWN_STATUS.role d) r).set (TWN_STATUS.fit d) 0

/-- R446: the die is a fit understudy as last judged. -/
def State.fitDie (s : State) (d : DieId) : Bool :=
  decide (s.roleOf d = roUNDERSTUDY) && s.flag (TWN_STATUS.fit d)

/-- A fit understudy exists beside the stage holder. -/
def State.fitOther (s : State) : Bool :=
  match s.holder with
  | some d => s.fitDie d.other
  | none => s.fitDie .a || s.fitDie .b

def State.twinPost (s : State) (d : DieId) (code : Nat) (data : List Byte) : State :=
  s.post .control (cbSource (originDie d) cbTWN 0) code data

/-- R460: the understudy runs provisionally in the running cycle, which is counted once. -/
def State.goProvisional (s : State) (d : DieId) : State :=
  let k := s.side d
  let s := s.set (TWN_STATUS.provisional d) 1
  if k.counted = some s.clk.cycle then s
  else
    let k := { k with counted := some s.clk.cycle, run := k.run + 1 }
    ((s.setSide d k).addSat (TWN_PROVISIONAL.count d) 1).raise (TWN_INT_STATUS.provisional d)

/-! ## Leaving a role -/

/-- R467: resyncs end, and R144: a move whose spare is loaded stands, when a die falls out of step: its
records come with the next resynchronisation. -/
def Die.endMoves (d : Die) : Die :=
  let put := fun (t : Tbl Nat) (m : Moving) =>
    Tbl.put 0 t m.unit (if m.phys = resetPhys m.unit then 0 else 1 + m.phys)
  { d with moved := (d.moves.filter fun m => m.remap).foldl put d.moved, moves := [], staged := [],
           ready := [], placed := [] }

/-- R174: a die's unit map reaches the other die, while the link is up. -/
def State.sendMap (s : State) (d : DieId) : State :=
  if s.flag (TWN_STATUS.link_up d) then
    s.setDie d.other { s.die d.other with otherMoved := (s.die d).moved }
  else s

/-- R467, R144: a die's moves and resyncs end as it falls out of step. -/
def State.endMoves (s : State) (d : DieId) : State := (s.setDie d (s.die d).endMoves).sendMap d

/-- The exclusions of a die from comparison (R144). -/
def State.exclude (s : State) (d : DieId) (u : Nat) (on : Bool) : State :=
  let f := TWN_EXCLUDED.units d (u / 32)
  s.set f (putBit (s.get f) (u % 32) on)

def State.excluded (s : State) (d : DieId) (u : Nat) : Bool :=
  decide (bitOf (s.get (TWN_EXCLUDED.units d (u / 32))) (u % 32) = 1)

def State.anyExcluded (s : State) (d : DieId) : Bool :=
  (List.range 8).any fun k => decide (s.get (TWN_EXCLUDED.units d k) ≠ 0)

def State.clearExcluded (s : State) (d : DieId) : State :=
  (List.range 8).foldl (fun s k => s.set (TWN_EXCLUDED.units d k) 0) s

/-- A die leaves the understudy's role, or its resynchronisation, for another role: what was on its
way to it is dropped, disputes end, and the effects that waited for it take place. -/
def State.leave (s : State) (d : DieId) (r : Nat) : State :=
  let s := ((s.setRole d r).set (TWN_STATUS.provisional d) 0).set (TWN_RESYNC.stage d) 0
  let s := (s.clearExcluded d).set (EPS_STATUS.remap_busy d) 0
  let k := s.side d
  let s := s.setSide d { k with waiting := false, lapses := [], run := 0, toTest := false, mark := none }
  let s := s.endMoves d
  let gone := s.twin.disputes.filterMap fun x => x.clones
  let s := { s with
    journal := { s.journal with link := s.journal.link.filter fun p => decide (p.toDie ≠ d), unacked := [] }
    mirrors := s.mirrors.filter fun x => decide (x.1 ≠ d)
    twin := { s.twin with disputes := [], clones := s.twin.clones ++ gone, planned := none,
                          blamed := false, blameAfter := none } }
  (s.raise (TWN_INT_STATUS.other_left d.other)).releaseHeld

/-- R470, R471: the stage holder releases the stage: the gate closes at once, it stops journaling and
runs full self-test; the understudy runs provisionally from here. -/
def State.releaseStage (s : State) (cause : Nat) : State :=
  match s.holder with
  | none => s
  | some d =>
    let s := { s with
      holder := none
      journal := { s.journal with stopped := true }
      twin := { s.twin with release := some (d, cause), planned := none, blamed := false,
                            blameAfter := none, held := [], silent := 0 } }
    let s := (s.setRole d roTEST).setSide d { s.side d with tested := false, toTest := false }
    let s := s.endMoves d
    let s := both (fun e s => s.set (TWN_HO_CAUSE.cause e) cause) s
    let s := (s.raise (TWN_INT_STATUS.gave_stage d)).twinPost d (unnamed 2) (leBytes 1 cause)
    if s.roleOf d.other = roUNDERSTUDY then s.goProvisional d.other else s

/-- R47, R50: a die is declared unfit: the stage holder releases the stage and tests itself; any other
die is out of its role until it passes full self-test. -/
def State.dieUnfit (s : State) (d : DieId) : State :=
  if s.holder = some d then s.releaseStage 5
  else if s.roleOf d = roUNDERSTUDY ∨ s.roleOf d = roRESYNC then s.leave d roUNFIT
  else s.setRole d roUNFIT

/-- R47: a die diagnosis failure with a cause of R469: the die leaves the stage if it holds it, then
runs full self-test. -/
def State.dieDiagnosis (s : State) (d : DieId) (cause : Nat) : State :=
  if s.holder = some d then s.releaseStage cause
  else if s.roleOf d = roUNDERSTUDY ∨ s.roleOf d = roRESYNC then
    (s.leave d roTEST).setSide d { (s.leave d roTEST).side d with tested := false }
  else s

/-- STAGE_RELEASE (R470): the stage holder gives up the stage with an unplanned cause, 1 to 6. -/
def execStageRelease (cause : Fin 7) (s : State) : Host.Outcome State Fault Refusal :=
  .next (if 1 ≤ cause.val then s.releaseStage cause.val else s)

/-- LOCKSTEP_MISMATCH (R47, R470). -/
def execLockstepMismatch (d : DieId) (s : State) : Host.Outcome State Fault Refusal :=
  .next (s.dieDiagnosis d 3)

/-- WATCHDOG_EXPIRY (R47, R469). -/
def execWatchdogExpiry (d : DieId) (s : State) : Host.Outcome State Fault Refusal :=
  .next (s.dieDiagnosis d 4)

/-- CROSSBAR_FAULT (R47): a cluster or region fault. -/
def execCrossbarFault (d : DieId) (s : State) : Host.Outcome State Fault Refusal :=
  .next (s.dieUnfit d)

/-- SWEEP_OVERRUN (R158): counted and raised; a die diagnosis failure. -/
def execSweepOverrun (d : DieId) (s : State) : Host.Outcome State Fault Refusal :=
  .next (((s.addSat (CUE_OVERRUNS.count d) 1).raise (CUE_INT_STATUS.overrun d)).dieDiagnosis d 2)

/-! ## Planned handovers (R474, R482, R483) -/

/-- R474: a planned handover is accepted: the understudy is fit, not provisional, with no dispute open
but a settled one, and no unit excluded. -/
def State.plannedOk (s : State) : Bool :=
  match s.holder with
  | none => false
  | some d => s.fitDie d.other && !s.flag (TWN_STATUS.provisional d.other) &&
      s.twin.disputes.all (fun x => x.settled) && !s.anyExcluded d.other

/-- R482: a commanded handover to a die; false when it is refused.  During probation it rejects the new
image, with cause 11 (R664). -/
def State.handOver (s : State) (d : DieId) : State × Bool :=
  if s.holder = some d.other ∧ s.plannedOk then
    let rej := decide (s.activation.state = 4 ∧ s.activation.die = some d.other)
    ({ s with twin := { s.twin with planned := some (if rej then 11 else 8) },
              activation := { s.activation with rejecting := s.activation.rejecting || rej } }, true)
  else (s, false)

/-- R483: a die is to leave for full self-test; false when it is not the understudy. -/
def State.selfTest (s : State) (d : DieId) : State × Bool :=
  if s.roleOf d = roUNDERSTUDY then (s.setSide d { s.side d with toTest := true }, true)
  else (s, false)

/-! ## The Falsia link (R484, R485) -/

/-- R479: a resynchronisation restarts for a reason of record RESYNC_FAIL, as long as the link is up. -/
def State.resyncFail (s : State) (d : DieId) (reason : Nat) : State :=
  let k := s.side d
  let s := s.setSide d { k with restarts := k.restarts + 1 }
  let s := { s with journal := { s.journal with
    link := s.journal.link.filter fun p => decide (p.toDie ≠ d), unacked := [] } }
  let s := (s.raise (TWN_INT_STATUS.resync_failed d)).twinPost d 0x0042 (leBytes 1 reason)
  let up := s.flag (TWN_STATUS.link_up d)
  (s.set (TWN_RESYNC.stage d) (if up then 1 else 0)).set (TWN_RESYNC.cycles d) 0

/-- R485: the link goes down. -/
def State.linkDown (s : State) : State :=
  if s.flag (TWN_STATUS.link_up .a) = false then s
  else
    let one := fun d (s : State) =>
      let s := (s.set (TWN_STATUS.link_up d) 0).set (TWN_STATUS.lanes d) 0
      let s := (s.addSat (TWN_LINK_DOWNS.count d) 1).raise (TWN_INT_STATUS.link_down d)
      s.twinPost d 0x0043 []
    let s := both one { s with twin := { s.twin with resends := 0, downAt := s.clk.cycle }, mirrors := [] }
    let fall := fun d (s : State) =>
      if s.roleOf d = roUNDERSTUDY then s.leave d roRESYNC
      else if s.roleOf d = roRESYNC ∧ 1 ≤ s.get (TWN_RESYNC.stage d) then s.resyncFail d 3
      else s
    both fall s

/-- The link trains on some of its lanes: lane code 1 two lanes, 2 four. -/
def State.linkTrain (s : State) (lanes : Nat) : State :=
  if lanes = 0 then s
  else
    let s := both (fun d s =>
      (((s.set (TWN_STATUS.link_up d) 1).set (TWN_STATUS.lanes d) lanes)).raiseIf (decide (lanes = 1))
        (TWN_INT_STATUS.link_degraded d)) s
    both (fun d s => s.sendMap d) s

/-- LINK_PACKET_ERROR (R484, R485): a packet sent by die `d` arrives with an error and is resent, up to
8 times; `again` says that it was itself a resend. -/
def execLinkPacketError (d : DieId) (again : Bool) (s : State) : Host.Outcome State Fault Refusal :=
  let n := if again then s.twin.resends else 0
  if s.flag (TWN_STATUS.link_up d) = false then .next s
  else if 8 ≤ n then .next s.linkDown
  else .next ({ s with twin := { s.twin with resends := n + 1 } }.addSat (TWN_LINK_RETRIES.count d) 1)

/-- The lane code of the lanes still sound: lanes 0-3 together, or a pair 0-1 or 2-3. -/
def laneCode (bad : Nat) : Nat :=
  if bad % 16 = 0 then 2 else if bad % 4 = 0 ∨ bad / 4 % 4 = 0 then 1 else 0

/-- LANE_FAILURE (R484, R485): the link retrains on the pair that is sound, or goes down. -/
def execLaneFailure (lane : Fin 4) (s : State) : Host.Outcome State Fault Refusal :=
  let s := { s with twin := { s.twin with badLanes := setBit s.twin.badLanes lane.val } }
  let code := laneCode s.twin.badLanes
  if s.flag (TWN_STATUS.link_up .a) = false then .next s
  else if code = 0 then .next s.linkDown
  else .next (s.linkTrain code)

/-- LINK_DOWN (R485). -/
def execLinkDown (s : State) : Host.Outcome State Fault Refusal := .next s.linkDown

/-- LINK_RETRAIN (R485): while the link is down it tries to train every 64 cycles; the lanes that
train. -/
def execLinkRetrain (lanes : Fin 3) (s : State) : Host.Outcome State Fault Refusal :=
  if s.flag (TWN_STATUS.link_up .a) ∨ (s.clk.cycle - s.twin.downAt) % 64 ≠ 0 ∨
      s.clk.cycle ≤ s.twin.downAt then .next s
  else .next (s.linkTrain lanes.val)

end Sys2Proof.Machine
end

