-- ==== Sys2Proof/Machine/Rtc.lean ====
section
/-! DEFINITION. The ghost-light real-time clock: ticks, coherent reads, sets and temperature
compensation (R97-R107, R110-R112). -/

namespace Sys2Proof.Machine

/-- R97: the count is 48 bits. -/
def rtcSize : Nat := 2 ^ 48

/-- The status word of GHL_RTC_STATUS. -/
def State.rtcStatus (s : State) : Nat :=
  s.get GHL_RTC_STATUS.comp_ppm * 2 ^ 16 + s.get GHL_RTC_STATUS.temp * 2 ^ 8 +
    s.get GHL_RTC_STATUS.set_busy * 2 + s.get GHL_RTC_STATUS.time_lost

/-- R99: the shadows of a port. -/
def RtcState.shadow (r : RtcState) : Port → Option RtcShadow
  | .host => r.shadowHost
  | .coresA => r.shadowA
  | .coresB => r.shadowB

def RtcState.setShadow (r : RtcState) (p : Port) (v : Option RtcShadow) : RtcState :=
  match p with
  | .host => { r with shadowHost := v }
  | .coresA => { r with shadowA := v }
  | .coresB => { r with shadowB := v }

/-- GHL_BACKUP_SECONDS: a tick on the backup counts. -/
def State.backupTick (s : State) : State :=
  if s.power.backup then
    let n := s.power.backupTicks + 1
    let s := { s with power := { s.power with backupTicks := n } }
    s.set GHL_BACKUP_SECONDS.seconds (min (n / 32768) (2 ^ 32 - 1))
  else s

/-- RTC_TICK (R97, R98, R106): the count advances by one, by two where the compensation adds a
tick, or not at all where it suppresses one; the mirror is refreshed. -/
def execRtcTick (s : State) : Host.Outcome State Fault Refusal :=
  if s.power.ghost = false then .next s else
  let s := s.backupTick
  let c := s.rtc.compLeft
  let step := if 0 < c then 2 else if c < 0 then 0 else 1
  let left := if 0 < c then c - 1 else if c < 0 then c + 1 else 0
  let n := (s.rtc.count + step) % rtcSize
  .next { s with rtc := { s.rtc with count := n, mirror := n, compLeft := left } }

/-- R99: a read of GHL_RTC_LO freezes the time words for the port. -/
def State.rtcFreeze (s : State) (p : Port) : State :=
  { s with rtc := s.rtc.setShadow p (some ⟨s.rtc.mirror, s.rtcStatus⟩) }

def State.rtcLo (s : State) : Nat := s.rtc.mirror % 2 ^ 32

/-- R99: GHL_RTC_HI as the port sees it: its shadow, or the live value without a freeze. -/
def State.rtcHi (s : State) (p : Port) : Nat :=
  match s.rtc.shadow p with
  | some f => f.count / 2 ^ 32
  | none => s.rtc.mirror / 2 ^ 32

def State.rtcRelease (s : State) (p : Port) : State :=
  { s with rtc := s.rtc.setShadow p none }

/-- RTC_LO_READ (R99). -/
def execRtcLoRead (p : Port) (s : State) : Host.Outcome State Fault Refusal :=
  .next (s.access (apronRead p 0xC0030000) fun s =>
    (s.rtcFreeze p).emit (.regRead p 0xC0030000 (BitVec.ofNat 32 s.rtcLo)))

/-- RTC_HI_READ (R99). -/
def execRtcHiRead (p : Port) (s : State) : Host.Outcome State Fault Refusal :=
  .next (s.access (apronRead p 0xC0030004) fun s =>
    (s.rtcRelease p).emit (.regRead p 0xC0030004 (BitVec.ofNat 32 (s.rtcHi p))))

/-- The key of a port's holding register for the pair whose high word lies at an address (R594). -/
def holdKey (p : Port) (addr : Nat) : Nat := p.num * 2 ^ 32 + addr

def State.held (s : State) (p : Port) (addr : Nat) : Nat := Tbl.get 0 s.holds (holdKey p addr)

def State.hold (s : State) (p : Port) (addr v : Nat) : State :=
  { s with holds := Tbl.put 0 s.holds (holdKey p addr) v }

/-- RTC_SET_HI_WRITE (R101): seconds bit 32 goes to the port's holding register; the reserved bits
are ignored (R21). -/
def execRtcSetHiWrite (p : Port) (v : Word) (s : State) : Host.Outcome State Fault Refusal :=
  .next (s.access (apronWrite p 0xC0030010) fun s => s.hold p 0xC0030010 (v.toNat % 2))

/-- R101, R102: a set is committed; a later commit replaces it until it is applied. -/
def State.rtcCommit (s : State) (sec : Nat) : State :=
  { s with rtc := { s.rtc with setPending := some sec } }.set GHL_RTC_STATUS.set_busy 1

/-- RTC_SET_COMMIT (R101): the low word commits the seconds with the held high bit, and the
holding register is cleared (R594). -/
def execRtcSetCommit (p : Port) (v : Word) (s : State) : Host.Outcome State Fault Refusal :=
  .next (s.access (apronWrite p 0xC003000C) fun s =>
    (s.rtcCommit (s.held p 0xC0030010 * 2 ^ 32 + v.toNat)).hold p 0xC0030010 0)

/-- R101, R102: the count becomes the seconds with the prescaler at 0; time_lost and set_busy
clear, the interrupt is raised and the old and new seconds are recorded. -/
def State.rtcApply (s : State) (sec : Nat) : State :=
  let old := s.rtc.count / 2 ^ 15
  let n := sec * 2 ^ 15 % rtcSize
  let s := { s with rtc := { s.rtc with count := n, mirror := n, setPending := none } }
  let s := (s.set GHL_RTC_STATUS.set_busy 0).set GHL_RTC_STATUS.time_lost 0
  (s.raise GHL_RTC_INT_STATUS.set_applied).post .management (cbSource originApron cbGHL 0)
    (unnamed 25) (leBytes 8 old ++ leBytes 8 sec)

/-- RTC_SET_APPLY (R101, R102): the last committed set is applied at the edge. -/
def execRtcSetApply (s : State) : Host.Outcome State Fault Refusal :=
  match s.rtc.setPending with
  | some sec => .next (s.rtcApply sec)
  | none => .next s

/-- R104: the RTC is to be set from TAI: the object is TRUE, the mapping valid, and the time lost
or off by more than the threshold. -/
def State.rtcFollows (s : State) : Bool :=
  let tai : Nat := s.tai / 1000000000
  let rtc : Nat := s.rtc.count / 2 ^ 15
  decide (s.obj 0x2045 0 = 1) && s.mapValid &&
    (s.flag GHL_RTC_STATUS.time_lost ||
      decide (s.obj 0x2046 0 < 1000 * ((tai : Int) - (rtc : Int)).natAbs))

/-- A TAI second has begun within the present 25 MHz tick, of 40 ns. -/
def State.taiSecondStarts (s : State) : Bool := decide (s.tai % 1000000000 ≤ 40)

/-- RTC_SET_FROM_TAI (R104, R111): at a TAI second boundary the RTC takes the TAI seconds.  A commit of
software that waits is dropped by it, as a later set replaces an earlier one (log entry 112). -/
def execRtcSetFromTai (s : State) : Host.Outcome State Fault Refusal :=
  if s.rtcFollows ∧ s.taiSecondStarts then
    .next ((s.rtcApply (s.tai / 1000000000)).raise GHL_RTC_INT_STATUS.tai_set)
  else .next s

/-- R105: four times the crystal deviation at a temperature, in 0.01 ppm, from the 33-point curve
with linear interpolation between points 4 °C apart. -/
def State.curve4 (s : State) (celsius : Int) : Int :=
  let t := (clampI (-40) 88 celsius + 40).toNat
  let d0 := s.getS (GHL_RTC_CURVE.dev (t / 4))
  let d1 := if t / 4 < 32 then s.getS (GHL_RTC_CURVE.dev (t / 4 + 1)) else d0
  4 * d0 + (d1 - d0) * ((t % 4 : Nat) : Int)

/-- RTC_COMPENSATION (R105, R106): the temperature is measured and the correction for the next
262,144 ticks joins the accumulator; its whole ticks, up to 127, are applied from here.  What comp_ppm shows of
a correction beyond its 16 bits, and after enable has been cleared, is the model's choice (log entry 112). -/
def execRtcCompensation (celsius : Int) (s : State) : Host.Outcome State Fault Refusal :=
  if s.power.ghost ∧ s.flag GHL_RTC_COMP.enable then
    let corr4 := -(s.curve4 celsius + 4 * s.getS GHL_RTC_TRIM.trim)
    let acc := s.rtc.compAcc + openQuot 106 (corr4 * (262144 * 256)) (4 * 100000000)
    let whole := clampI (-127) 127 (acc.tdiv 256)
    let s := { s with rtc := { s.rtc with compAcc := acc - whole * 256, compLeft := whole } }
    .next ((s.setS GHL_RTC_STATUS.temp celsius).setS GHL_RTC_STATUS.comp_ppm (openQuot 105 corr4 4))
  else .next s

end Sys2Proof.Machine
end

