-- ==== Sys2Proof/Machine/Keys.lean ====
section
/-! DEFINITION. The key slots, the tamper watch, attestation and segment key generations (R613-R647). -/

namespace Sys2Proof.Machine

/-! ## Slots (R614-R617) -/

/-- The EUI-64 of the module, most significant octet first (R618). -/
def moduleEui : List Byte := beBytes 8 (leNat (Config.factory 0x1004 0))

def State.slot (s : State) (c : Nat) : KeySlot := Tbl.get KeySlot.empty s.keys.slots c

/-- A slot changes in the ghost light, and both dies hear of it (R28, R617 step 3). -/
def State.setSlot (s : State) (c : Nat) (v : KeySlot) : State :=
  both (fun d s => s.relayKey c d)
    { s with keys := { s.keys with slots := Tbl.put KeySlot.empty s.keys.slots c v } }

/-- The state of a slot: 0 empty, 1 valid, 2 invalid; slots 0 to 2 are fixed and valid. -/
def State.slotState (s : State) (c : Nat) : Nat := if c ≤ 2 then 1 else (s.slot c).state
def State.slotValid (s : State) (c : Nat) : Bool := s.slotState c = 1

/-- R615: the parent of a slot; slot 9 stands under the root while it is held. -/
def State.keyParent (s : State) (c : Nat) : Nat :=
  if c ≤ 3 then 0 else if c = 4 then 3 else if c ≤ 8 then 4
  else if c = 9 then (if s.keys.held then 0 else 3)
  else if c ≤ 11 then 9 else if c = 12 then 3 else if c = 13 then 12 else 0

/-- The origin of a slot: 1 fixed, 2 derived, 3 generated, 4 imported. -/
def keyOrigin (c : Nat) : Nat :=
  if c ≤ 2 then 1 else if c = 9 ∨ c = 12 then 2 else if c = 4 ∨ c = 5 ∨ c = 10 ∨ c = 11 then 3 else 4

/-- The octets of a slot's key. -/
def keyOctets (c : Nat) : Nat :=
  if c = 6 ∨ c = 13 then 97 else if c = 5 ∨ c = 7 ∨ c = 8 then 48 else if c = 10 ∨ c = 11 then 16 else 32

/-- The slots beneath a slot. -/
def State.beneath (s : State) (c : Nat) : List Nat :=
  if c = 3 then [4, 5, 6, 7, 8] ++ (if s.keys.held then [] else [9, 10, 11]) ++ [12, 13]
  else if c = 4 then [5, 6, 7, 8]
  else if c = 9 then [10, 11]
  else if c = 12 then [13]
  else []

/-- Random octets. -/
def State.random (s : State) (n : Nat) : List Byte := Config.drbg s.free n

/-- R616: the key that wraps the key of slot `c`. -/
def State.wrapKey (s : State) (c : Nat) : List Byte :=
  hkdf384 (s.keyValue (s.keyParent c)) (s.slot (s.keyParent c)).salt
    (label "zuine wrap" ++ leBytes 1 c) 32

/-- A key enters a slot with a generation: it is wrapped under its parent, and the slot has a fresh seal
for what lies beneath it. -/
def State.storeKey (s : State) (c gen : Nat) (v : List Byte) : State :=
  let seal_ := s.random 32
  let s := s.draw
  let mask := s.random v.length
  let s := s.draw
  s.setSlot c { state := 1, gen := gen % 65536, salt := seal_, record := some (aesWrap (s.wrapKey c) v), value := v,
                mask := mask }

/-- Interrupt status of the KEY blocks of both dies. -/
def State.raiseKey (s : State) (f : DieId → Fld) : State := both (fun d s => s.raise (f d)) s

/-- A seal is overwritten (R617 steps 1 and 2). -/
def State.breakSeal (s : State) (c : Nat) : State :=
  let k := s.slot c
  let s' := s.draw
  s'.setSlot c { k with state := 2, salt := s.random 32, value := [], mask := [] }

/-- R617: a key is invalidated with every key beneath it; a slot without a key stays empty.  With slot 5
goes the management certificate (R628), and with slot 4 every DTLS session (R538). -/
def State.keyInvalidate (s : State) (c : Nat) : State :=
  if s.slotState c = 0 ∨ c ≤ 2 then s
  else
    let cs := c :: (s.beneath c).filter fun k => decide (s.slotState k ≠ 0)
    let s := cs.foldl State.breakSeal s
    let s := if cs.contains 5 then s.setOct 0x7004 0 [] else s
    let s := if cs.contains 4 then s.closeSessions (fun _ _ => true) else s
    let s := s.raiseKey KEY_INT_STATUS.invalidated
    s.postIf s.power.on .management (cbSource (originDie s.stageDie) cbKEY 0) 0x0070
      (leBytes 8 (cs.foldl (fun a k => setBit a k) 0))

/-- KEY_INVALIDATE (R617): a slot other than the fixed and the reserved ones. -/
def execKeyInvalidate (c : Fin 16) (s : State) : Host.Outcome State Fault Refusal :=
  .next (if c.val ≤ 13 then s.keyInvalidate c.val else s)

/-- A key operation of the stage holder's engine or for it is counted (KEY_OPS). -/
def State.keyOp (s : State) : State := s.addWrap (KEY_OPS.count s.stageDie) 1

/-! ## Unsealing (R619, R620) -/

/-- One slot is unsealed: its record unwraps under its parent, or it counts as invalidated. -/
def State.unsealOne (s : State) (c : Nat) : State :=
  let k := s.slot c
  if k.state ≠ 1 then s
  else match k.record with
    | some w =>
      match aesUnwrap (s.wrapKey c) w with
      | some v => s.draw.setSlot c { k with value := v, mask := s.random v.length }
      | none => s.keyInvalidate c
    | none => s.keyInvalidate c

def State.unseal (s : State) : State :=
  ([3, 4, 5, 6, 7, 8, 9, 10, 11, 12, 13] : List Nat).foldl State.unsealOne s

/-- New shares for every unsealed key. -/
def State.remask (s : State) : State :=
  let one := fun (s : State) (c : Nat) =>
    let k := s.slot c
    if k.value = [] then s else s.draw.setSlot c { k with mask := s.random k.value.length }
  let s := ([3, 4, 5, 6, 7, 8, 9, 10, 11, 12, 13] : List Nat).foldl one s
  let s := both (fun d s => s.addWrap (KEY_REMASKS.count d) 1) s
  { s with keys := { s.keys with remaskWaits := false } }

/-- KEY_REMASK (R620): a re-mask that finds a key operation in progress waits for its end and is counted
late. -/
def execKeyRemask (s : State) : Host.Outcome State Fault Refusal :=
  if s.keys.ops = [] then .next s.remask
  else
    let s := { s with keys := { s.keys with remaskWaits := true } }
    .next (s.raiseKey KEY_INT_STATUS.remask_late)

/-! ## Tamper (R634-R642) -/

/-- The data of a TAMPER record (R676). -/
def State.tamperData (s : State) : List Byte :=
  leBytes 1 s.keys.latched ++ leBytes 1 0 ++ leBytes 2 s.keys.events ++ leBytes 4 0 ++
    leBytes 8 s.keys.firstTick

def State.tamperPost (s : State) : State :=
  s.post .management (cbSource originGhost cbKEY 0) 0x0071 s.tamperData

/-- R637: every key operation in progress is aborted; what it was to answer is answered with 0x0F. -/
def State.abortOps (s : State) : State :=
  let one := fun (s : State) (o : KeyOp) =>
    let d := s.stageDie
    let s := (s.addSat (KEY_ABORTS.count d) 1).raise (KEY_INT_STATUS.op_aborted d)
    let s := (s.set (KEY_LAST_ABORT.slot d) o.slot).set (KEY_LAST_ABORT.op d) o.op
    s.settleItem o.who 0x0F
  let ops := s.keys.ops
  let s := ops.foldl one { s with keys := { s.keys with ops := [] } }
  if s.keys.remaskWaits then s.remask else s

/-- R635: an event sets its latch bit and is counted; the first one keeps its tick. -/
def State.tamperMark (s : State) (bit : Nat) : State :=
  let k := s.keys
  { s with keys := { k with
      firstTick := if k.latched = 0 then s.rtc.count else k.firstTick,
      latched := setBit k.latched bit,
      events := min (k.events + 1) 65535,
      total := min (k.total + 1) (2 ^ 32 - 1) } }

/-- R635, R636, R638, R640: a confirmed event; while the main supply is absent only its marks are
written.  One that finds slot 4 invalid, or without a key and the latch set, is only marked and posted
(R638, R643). -/
def State.tamperEvent (s : State) (bit : Nat) : State :=
  let later := s.slotState 4 = 2 ∨ (s.keys.latched ≠ 0 ∧ s.slotState 4 = 0)
  let s := s.tamperMark bit
  if s.power.on = false then
    { s with power := { s.power with posts := s.power.posts ++ [(0x0071, s.tamperData)] } }
  else
    let s := (s.tamperPost).raiseKey KEY_INT_STATUS.tamper
    if later then s else ((s.keyInvalidate 4).closeSessions fun _ _ => true).abortOps

/-- One input at a grid tick: its counts, and whether it confirms an event (R634). -/
def TamperInput.sample (x : TamperInput) (shows : Bool) : TamperInput × Bool :=
  if shows then
    let on := min (x.on + 1) 2
    let hit := decide (on = 2) && !x.confirmed
    ({ on := on, off := 0, confirmed := x.confirmed || hit }, hit)
  else
    let off := min (x.off + 1) 2
    ({ on := 0, off := off, confirmed := x.confirmed && decide (off < 2) }, false)

/-- Input `i` at a grid tick, 4 the mesh. -/
def State.sampleInput (shows : Nat → Bool) (s : State) (i : Nat) : State :=
  let on := shows i && decide (bitOf s.keys.enabled i = 1)
  let (x, hit) := (Tbl.get TamperInput.quiet s.keys.inputs i).sample on
  let k := s.keys
  let s := { s with keys := { k with
    inputs := Tbl.put TamperInput.quiet k.inputs i x, present := putBit k.present i on } }
  if hit then s.tamperEvent i else s

/-- TAMPER_SAMPLE (R634): a grid tick of the ghost light; bit i of `open_` says that switch i is open,
and `mesh` that what returned on the mesh did not match. -/
def execTamperSample (open_ : Fin 16) (mesh : Bool) (s : State) : Host.Outcome State Fault Refusal :=
  let shows := fun (i : Nat) =>
    if i = 4 then mesh else decide (bitOf open_ i + bitOf s.keys.polarity i = 1)
  if s.power.ghost = false then .next s else
  .next (([0, 1, 2, 3, 4] : List Nat).foldl (State.sampleInput shows) s)

/-- R642: the latch and the marks are cleared; the status tells a refusal. -/
def State.tamperClear (s : State) (v : Nat) : State × Nat :=
  if v ≠ s.keys.events then (s, 3)
  else if s.keys.present &&& s.keys.enabled ≠ 0 then (s, 10)
  else
    let s := { s with keys := { s.keys with latched := 0, events := 0, firstTick := 0 } }
    (s.raiseKey KEY_INT_STATUS.tamper_clear, 0)

/-- R639: the tamper step of a start: with the latch set, slot 4 is invalidated before anything is
unsealed, and the records of what was latched while the supply was absent are posted. -/
def State.tamperStep (s : State) : State :=
  let ps := s.power.posts
  let s := { s with power := { s.power with posts := [] } }
  let s := ps.foldl (fun (s : State) p => s.post .management (cbSource originGhost cbKEY 0) p.1 p.2) s
  let s := if ps.isEmpty then s else s.raiseKey KEY_INT_STATUS.tamper
  if s.keys.latched ≠ 0 ∧ s.slotValid 4 then s.keyInvalidate 4 else s

/-- R641: at a start after a ghost-light reset the lapse is an event when object 0x7034 says so, and a
record otherwise. -/
def State.watchLapsed (s : State) : State :=
  let s := s.raiseKey KEY_INT_STATUS.lapse
  if s.keys.lapseCounts then
    let s := (s.tamperMark 5).tamperPost.raiseKey KEY_INT_STATUS.tamper
    if s.slotValid 4 then s.keyInvalidate 4 else s
  else s.post .management (cbSource originGhost cbKEY 0) 0x0072 []

/-! ## Provisioning (R625-R628) -/

/-- The join state of object 0x1202. -/
def State.joinState (s : State) : Nat := s.obj 0x1202 0

def State.importRefused (s : State) (st : Nat) : State × Nat :=
  let d := s.stageDie
  ((s.addSat (KEY_IMPORT_REFUSED.count d) 1).raise (KEY_INT_STATUS.import_refused d), st)

/-- R625, R626: an import as object 0x7010 brings it. -/
def State.keyImport (s : State) (b : List Byte) : State × Nat :=
  let c := leAt b 0 1
  let counter := leAt b 4 4
  let eph := (b.drop 8).take 97
  let wrapped := (b.drop 0x6B).take (leAt b 0x69 2)
  if counter ≤ s.obj 0x7011 0 ∨ ([3, 6, 7, 8, 13] : List Nat).contains c = false then s.importRefused 3
  else if (c = 3 ∧ 2 ≤ s.joinState) ∨ s.slotValid (s.keyParent c) = false ∨
      (6 ≤ c ∧ c ≤ 8 ∧ s.keys.latched ≠ 0) then s.importRefused 10
  else
    let kek := fun z => hkdf384 z moduleEui (label "zuine import" ++ leBytes 1 c) 32
    match (ecdh eph (s.keyValue 1)).bind fun z => aesUnwrap (kek z) wrapped with
    | none => s.importRefused 3
    | some v =>
      if v.length ≠ keyOctets c ∨ b.length ≠ 0x6B + leAt b 0x69 2 then s.importRefused 3
      else
        let s := ((s.keyOp.storeKey c ((s.slot c).gen + 1) v).setObj 0x7011 0 counter)
        (s.raise (KEY_INT_STATUS.import_done s.stageDie), 0)

/-- R627: the management branch and its credential are generated. -/
def State.generateBranch (s : State) : State × Nat :=
  if s.slotValid 4 ∨ s.keys.latched ≠ 0 ∨ s.joinState ≠ 2 then (s, 10)
  else
    let v := s.random 32
    let s := s.keyOp.draw.storeKey 4 ((s.slot 4).gen + 1) v
    let w := s.random 48
    let s := s.keyOp.draw.storeKey 5 ((s.slot 5).gen + 1) w
    (s.raise (KEY_INT_STATUS.import_done s.stageDie), 0)

/-- Object 0x7003: the public key of slot 5. -/
def State.managementKey (s : State) : List Byte :=
  if s.slotValid 5 then ecPublic (s.workKey 5) else []

/-- R628: the management certificate. -/
def State.managementCert (s : State) (b : List Byte) : State × Nat :=
  if s.slotValid 5 ∧ certKey b = some s.managementKey then (s.setOct 0x7004 0 b, 0) else (s, 3)

/-! ## Attestation (R630) -/

/-- A request for a statement: accepted, it runs until ATTESTATION_READY; the status is `none` while it
runs. -/
def State.attest (s : State) (b : List Byte) (who : Option (Nat × Nat × Nat)) : State × Option Nat :=
  let c := leAt b 0 1
  if c = 0 ∨ 13 < c ∨ s.slotState c = 0 then (s, some 3)
  else if s.keys.ops ≠ [] then (s, some 5)
  else
    let op : KeyOp := { slot := c, op := 5, data := (b.drop 4).take 16, who := who }
    let s := s.setOct 0x7021 0 []
    ({ s with keys := { s.keys with ops := [op] } }, none)

/-- The 8 octets of object 0x7000 (R646). -/
def State.slotBytes (s : State) (c : Nat) : List Byte :=
  leBytes 1 (s.slotState c) ++ leBytes 1 (if 14 ≤ c then 0 else keyOrigin c) ++
    leBytes 1 (if c = 0 then 0xFF else s.keyParent c) ++ leBytes 1 0 ++ leBytes 2 (s.slot c).gen ++
    leBytes 2 0

/-- The statement of R630 for a slot. -/
def State.statement (s : State) (c : Nat) (nonce : List Byte) : List Byte :=
  let v := s.keyValue c
  let digest := if c = 1 ∨ c = 5 then sha384 (ecPublic v)
    else if c = 2 ∨ c = 6 ∨ c = 13 then sha384 v
    else hmac384 v (label "zuine check")
  let gen := b2n (decide (keyOrigin c = 3))
  let body := leBytes 1 1 ++ leBytes 1 c ++ leBytes 1 (keyOrigin c) ++
    leBytes 1 (gen + 2 + 4 * b2n (s.slotValid c)) ++ leBytes 2 (s.slot c).gen ++ leBytes 2 0 ++
    Config.factory 0x1004 0 ++
    leBytes 8 (s.rtc.count % 2 ^ 48 + 2 ^ 63 * s.get GHL_RTC_STATUS.time_lost) ++ nonce ++ digest
  body ++ ecdsaSign (s.keyValue 1) body

/-- ATTESTATION_READY (R630): the statement is signed. -/
def execAttestationReady (s : State) : Host.Outcome State Fault Refusal :=
  match s.keys.ops with
  | [] => .next s
  | o :: rest =>
    let s := s.keyOp.setOct 0x7021 0 (s.statement o.slot o.data)
    let s := { s with keys := { s.keys with ops := rest } }
    let s := (s.raise (KEY_INT_STATUS.attest_ready s.stageDie)).settleItem o.who 0
    .next (if s.keys.remaskWaits then s.remask else s)

/-! ## Segment keys (R618, R631-R633) -/

/-- TAI seconds as the PTP clock gives them. -/
def State.taiSec (s : State) : Nat := s.tai / 1000000000

/-- A new key in slot 10 with the next generation. -/
def State.newSegmentKey (s : State) : State :=
  let g := (s.link.currentGen + 1) % 256
  let v := s.random 16
  let s := s.keyOp.draw.storeKey 10 g v
  { s with link := { s.link with current := v, currentGen := g },
           keys := { s.keys with segStart := some s.taiSec } }

/-- R307: the frame counters accepted under a key that is replaced: those under the segment key go on under the
previous one, and those under a node's key end with a new segment branch. -/
def Node.newKeys (nd : Node) (branch : Bool) : Node :=
  if branch then { nd with counters := [none, none, nd.counters.getD 2 none, none] }
  else { nd with counters := (nd.counters.set 3 (nd.counters.getD 1 none)).set 1 none }

/-- R631: a segment key change; status 5 while another is in progress. -/
def State.segmentChange (s : State) : State × Nat :=
  if s.segUse.isSome then (s, 5)
  else
    let t := s.taiSec + s.obj 0x7019 0
    let old := s.slot 10
    let s := s.storeKey 11 old.gen old.value
    let s := { s with link := { s.link with previous := s.link.current, previousGen := s.link.currentGen },
                      nodes := s.nodes.map fun (x : Nat × Node) => (x.1, x.2.newKeys false) }
    let s := s.newSegmentKey
    let s := { s with segUse := some t, segNew := false }
    let body := s.keyCommand
    let joined := (s.nodes.filter fun x => x.2.joined).map Prod.fst
    (joined.foldl (fun s n => s.queueFrame n 11 body) s, 0)

/-- SEGMENT_KEY_PERIOD (R631): the period of object 0x701A expires. -/
def execSegmentKeyPeriod (s : State) : Host.Outcome State Fault Refusal :=
  let days := s.obj 0x701A 0
  match s.keys.segStart with
  | some t0 =>
    if 0 < days ∧ t0 + days * 86400 ≤ s.taiSec then .next s.segmentChange.1 else .next s
  | none => .next s

/-- SEGMENT_KEY_USE (R631): at T every frame is sent under the new key. -/
def execSegmentKeyUse (s : State) : Host.Outcome State Fault Refusal :=
  match s.segUse with
  | some t =>
    if t ≤ s.taiSec ∧ s.segNew = false then
      .next ({ s with segNew := true }.raiseKey KEY_INT_STATUS.seg_change)
    else .next s
  | none => .next s

/-- SEGMENT_KEY_RETIRE (R631): at T plus the lead slot 11 is emptied. -/
def execSegmentKeyRetire (s : State) : Host.Outcome State Fault Refusal :=
  match s.segUse with
  | some t =>
    if t + s.obj 0x7019 0 ≤ s.taiSec ∧ s.segNew then
      let s := s.setSlot 11 KeySlot.empty
      let s := { s with link := { s.link with previous := [], previousGen := 0 } }
      .next { s with segUse := none, segNew := false }
    else .next s
  | none => .next s

/-- The key of the segment branch (R618). -/
def State.branchKey (s : State) : List Byte :=
  hkdf384 (s.keyValue 3) (leBytes 8 (s.obj 0x1201 0))
    (label "zuine segment" ++ leBytes 2 s.moduleNumber) 32

/-- A fresh segment branch with its first segment key (log entry 65). -/
def State.deriveSegment (s : State) : State :=
  let s := { s with keys := { s.keys with held := false } }
  let s := (s.keyOp.storeKey 9 ((s.slot 9).gen + 1) s.branchKey).setSlot 11 KeySlot.empty
  let s := { s with segUse := none, segNew := false,
                    link := { s.link with previous := [], previousGen := 0 },
                    nodes := s.nodes.map fun (x : Nat × Node) => (x.1, x.2.newKeys true) }
  s.newSegmentKey

/-- R618: what JOINED derives: the image branch, and the segment branch unless it is held. -/
def State.joinKeys (s : State) : State :=
  let v := hkdf384 (s.keyValue 3) (leBytes 8 (s.obj 0x1201 0)) (label "zuine image") 32
  let s := s.keyOp.storeKey 12 ((s.slot 12).gen + 1) v
  if s.keys.held then s else s.deriveSegment

/-- R633: the segment branch is renewed; every node must rejoin. -/
def State.renewSegment (s : State) : State × Nat :=
  if s.joinState = 2 ∧ s.keys.held then
    let s := s.deriveSegment
    let all := (s.nodes.filter fun x => x.2.joined).map Prod.fst
    let s := { s with link := { s.link with nodes := [] },
                      nodes := s.nodes.map fun x => (x.1, { x.2 with joined := false }) }
    (all.foldl State.tellBound s, 0)
  else (s, 10)

/-- R632: slot 9 is re-anchored to the root and held, then the company key is invalidated and the
commissioning anchor is the factory's again. -/
def State.keyDecommission (s : State) : State :=
  let k := s.slot 9
  let s := { s with keys := { s.keys with held := decide (k.state = 1) } }
  let s := if k.state = 1 then s.setSlot 9 { k with record := some (aesWrap (s.wrapKey 9) k.value) } else s
  (s.keyInvalidate 3).setOct 0x7001 0 []

end Sys2Proof.Machine
end

