-- ==== Sys2Proof/Machine/Greenroom.lean ====
section
/-! DEFINITION. The greenroom: staging, activation, probation and node image campaigns (R648-R673). -/

namespace Sys2Proof.Machine

def State.green (s : State) (d : DieId) : Green := (s.die d).green
def State.setGreen (s : State) (d : DieId) (g : Green) : State := s.setDie d { s.die d with green := g }

/-! ## Images (R650, R651) -/

/-- The header of an image: that of the delivered image where a valid slot holds none. -/
def ImageSlot.head (x : ImageSlot) : List Byte :=
  if x.header = [] ∧ x.state = 2 then Config.factoryImage else x.header

def ImageSlot.kind (x : ImageSlot) : Nat := leAt x.head 5 1
def ImageSlot.flags (x : ImageSlot) : Nat := leAt x.head 6 2
def ImageSlot.type (x : ImageSlot) : Nat := leAt x.head 8 4
def ImageSlot.version (x : ImageSlot) : Nat := leAt x.head 0x0C 4
def ImageSlot.journal (x : ImageSlot) : Nat := leAt x.head 0x10 1
def ImageSlot.dictionary (x : ImageSlot) : Nat := leAt x.head 0x12 2
def ImageSlot.security (x : ImageSlot) : Nat := leAt x.head 0x14 2

/-- The body of a slot whose octets are all there. -/
def ImageSlot.octets (x : ImageSlot) : List Byte :=
  (List.range x.length).map fun i => BitVec.ofNat 8 (Tbl.get 0 x.body i - 1)

/-- The largest body of a target: 0 the staging slot, 1 to 8 the node slots. -/
def bodyLimit (target : Nat) : Nat := (if target = 0 then 6291456 else 1572864) - 256

/-- R653 check 1: the form of the header. -/
def headerOk (target : Nat) (x : ImageSlot) : Bool :=
  let h := x.header
  let zeros := fun (off n : Nat) => decide (leAt h off n = 0)
  decide (h.take 4 = [0x5A, 0x47, 0x52, 0x4E] ∧ leAt h 4 1 = 1) &&
    decide (x.kind = (if target = 0 then 1 else 2)) && decide (x.flags < 8) &&
    zeros 0x11 1 && zeros 0x16 2 && zeros 0x44 4 && zeros 0x78 40 &&
    decide (x.length ≤ bodyLimit target)

/-- R651, R653 check 4: the signature. -/
def State.signatureOk (s : State) (target : Nat) (x : ImageSlot) : Bool :=
  let company := decide (bitOf x.flags 2 = 1)
  if target = 0 ∧ company then false
  else if company ∧ s.slotValid 13 = false then false
  else ecdsaVerify (s.keyValue (if company then 13 else 2)) (x.header.take 0xA0)
    ((x.header.drop 0xA0).take 96)

/-- The serial number, zero-padded to 32 octets. -/
def serial32 : List Byte := (Config.factory 0x1002 0 ++ List.replicate 32 0).take 32

/-- R653: the first check that fails, 0 when none does. -/
def State.imageCheck (s : State) (target minimum : Nat) (x : ImageSlot) : Nat :=
  if headerOk target x = false then 1
  else if (x.body.filter fun e => decide (e.1 < x.length)).length ≠ x.length then 2
  else if sha384 x.octets ≠ (x.header.drop 0x48).take 48 then 3
  else if s.signatureOk target x = false then 4
  else if target = 0 ∧ x.type ≠ leNat (Config.factory 0x1003 0) then 5
  else if bitOf x.flags 0 = 1 ∧ (x.header.drop 0x18).take 32 ≠ serial32 then 6
  else if x.security < minimum then 7
  else 0

/-! ## Staging (R652-R655) -/

/-- The slot of a target. -/
def Green.slot (g : Green) (target : Nat) : ImageSlot :=
  if target = 0 then g.stage else Tbl.get ImageSlot.empty g.nodes (target - 1)
def Green.setSlot (g : Green) (target : Nat) (x : ImageSlot) : Green :=
  if target = 0 then { g with stage := x }
  else { g with nodes := Tbl.put ImageSlot.empty g.nodes (target - 1) x }

/-- R649: a slot of the stage holder changes, and the other die is told. -/
def State.putImage (s : State) (target : Nat) (x : ImageSlot) : State :=
  let d := s.stageDie
  let s := s.setGreen d ((s.green d).setSlot target x)
  { s with continuity := s.continuity ++ [(d.other, .slot target x)] }

/-- The activation is accepted, preparing, ready or in probation. -/
def State.activating (s : State) : Bool := decide (1 ≤ s.activation.state ∧ s.activation.state ≤ 4)

/-- Stage begin (R652, R654). -/
def State.stageBegin (s : State) (b : List Byte) : State × Nat :=
  let target := leAt b 0 1
  let d := s.stageDie
  if 8 < target then (s, 3)
  else if (target = 0 ∧ s.activating) ∨
      (1 ≤ target ∧ s.campaign.on ∧ s.campaign.slot + 1 = target) then (s, 5)
  else
    let g := { s.green d with target := target, failed := 0 }
    let s := s.setGreen d g
    let s := if target = 0 then
        both (fun e s => s.setGreen e { s.green e with endorsement := [] }) s else s
    (s.putImage target { state := 1, header := b.drop 4, body := [] }, 0)

/-- Stage block (R652). -/
def State.stageBlock (s : State) (b : List Byte) : State × Nat :=
  let g := s.green s.stageDie
  let x := g.slot g.target
  let off := leAt b 0 4
  let data := b.drop 4
  if x.state ≠ 1 then (s, 10)
  else if x.length < off + data.length then (s, 3)
  else
    let put := fun (t : Tbl Nat) (e : Nat × Byte) => Tbl.put 0 t (off + e.1) (e.2.toNat + 1)
    (s.putImage g.target { x with body := ((List.range data.length).zip data).foldl put x.body }, 0)

/-- Stage end (R653). -/
def State.stageEnd (s : State) : State × Nat :=
  let d := s.stageDie
  let g := s.green d
  let x := g.slot g.target
  if x.state ≠ 1 then (s, 10)
  else
    let f := s.imageCheck g.target g.minimum x
    let s := s.setGreen d { g with failed := f }
    ((s.putImage g.target { x with state := if f = 0 then 2 else 3 }).raise (GRN_INT_STATUS.stage_end d), 0)

/-- R655: an endorsement of the staged header. -/
def State.endorse (s : State) (b : List Byte) : State × Nat :=
  let x := (s.green s.stageDie).stage
  if x.header ≠ [] ∧ s.slotValid 13 ∧ ecdsaVerify (s.keyValue 13) x.header b then
    (both (fun e s => s.setGreen e { s.green e with endorsement := b }) s, 0)
  else (s, 13)

/-- R649: a die that reaches UNDERSTUDY receives the slots in which it differs. -/
def State.sendSlots (s : State) (d : DieId) : State :=
  let mine := s.green d.other
  let theirs := s.green d
  let ts := (List.range 9).filter fun t => decide (mine.slot t ≠ theirs.slot t)
  { s with continuity := s.continuity ++ ts.map fun t => (d, .slot t (mine.slot t)) }

/-! ## Activation (R657, R659-R662) -/

/-- R659: a request for an activation; `hw` is the type code of action 3. -/
def State.activate_ (s : State) (version : Nat) (hw : Option Nat) (t : Nat) : State × Nat :=
  let d := s.stageDie
  let g := s.green d
  let x := g.stage
  let hwOk : Bool := match hw with
    | some h => decide (h = leNat (Config.factory 0x1003 0))
    | none => true
  let endorsed := decide (s.obj 0x7407 0 = 0 ∨ g.endorsement ≠ [])
  if x.state = 2 ∧ x.version = version ∧ hwOk ∧ x.journal = (s.side d).format ∧
      (g.rejected = 0 ∨ g.rejected ≠ version) ∧ s.activating = false ∧ s.fitOther ∧ endorsed then
    ({ s with activation := { Activation.none_ with state := 1, version := version, tai := t } }, 0)
  else (s, 10)

/-- A die restarts: it is in BOOT until DIE_BOOT; its working keys are gone (R621). -/
def State.restartDie (s : State) (d : DieId) : State :=
  let s := if s.roleOf d = roUNDERSTUDY ∨ s.roleOf d = roRESYNC then s.leave d roBOOT
    else s.setRole d roBOOT
  let s := { s with power := { s.power with booted := s.power.booted.set d.num false } }
  let s := s.setDie d { s.die d with workKeys := [] }
  s.setSide d { s.side d with tested := false, toTest := false }

/-- R657, R660: the staged image is copied to the run slot that the die is not running, and the boot
pointer follows. -/
def Green.copyStage (g : Green) : Green :=
  if g.running = 0 then { g with run1 := g.stage, boot := 1, former := 0 }
  else { g with run0 := g.stage, boot := 0, former := 1 }

/-- The die goes back to its former run slot. -/
def Green.back (g : Green) : Green := { g with boot := g.former }

def State.grnPost (s : State) (code : Nat) (data : List Byte) : State :=
  s.post .management (cbSource (originDie s.stageDie) cbGRN 0) code data

/-- R660: at a boundary, preparation begins when its time has come. -/
def State.activationPrepare (s : State) : State :=
  let a := s.activation
  match s.holder with
  | none => s
  | some h =>
    let d := h.other
    if a.state = 1 ∧ s.mapValid ∧ s.roleOf d = roUNDERSTUDY ∧
        a.tai ≤ s.taiP0 + s.obj 0x7413 0 * 1000000000 then
      let s := s.restartDie d
      let s := s.setGreen d (s.green d).copyStage
      { s with activation := { a with state := 2, die := some d } }.raise (GRN_INT_STATUS.prep_start h)
    else if a.state = 2 ∧ a.die = some d ∧ s.roleOf d = roUNDERSTUDY ∧
        (s.green d).running ≠ (s.green d).former then
      { s with activation := { a with state := 3 } }
    else s

/-- R661: T has come at this boundary. -/
def State.activationDue (s : State) : Bool :=
  let a := s.activation
  decide (1 ≤ a.state ∧ a.state ≤ 3) && s.mapValid && decide (a.tai ≤ s.taiP0)

/-- R661: the understudy is ready to take the stage with the new image. -/
def State.activationReady (s : State) : Bool :=
  match s.holder with
  | some h => decide (s.activation.state = 3 ∧ s.activation.die = some h.other) && s.fitDie h.other &&
      decide (64 ≤ s.get (TWN_MATCH_RUN.run h))
  | none => false

/-- R661: the activation is missed; the understudy returns to its former image. -/
def State.activationMiss (s : State) : State :=
  let a := s.activation
  let s := match a.die with
    | some d => if s.holder = some d then s else (s.setGreen d (s.green d).back).restartDie d
    | none => s
  let s := { s with activation := { a with state := 5 } }
  (s.raise (GRN_INT_STATUS.activation_missed s.stageDie)).grnPost (unnamed 195) []

/-- R661, R662: the new image holds the stage from the boundary with this stamp, and probation begins. -/
def State.activationMade (s : State) (stamp : Nat) : State :=
  let a := s.activation
  let s := { s with activation := { a with
    state := 4, stamp := stamp, until_ := s.now + s.obj 0x7412 0 * 3600 * 25000000, seated := false } }
  s.raise (GRN_INT_STATUS.activated s.stageDie)

/-! ## Probation (R663-R665) -/

/-- R664: the old-image die holds the stage again: the new image is rejected with a cause of R469. -/
def State.activationReject (s : State) (cause : Nat) : State :=
  let a := s.activation
  match a.die with
  | none => s
  | some d =>
    let s := both (fun e s => s.setGreen e { s.green e with rejected := a.version }) s
    let s := s.setGreen d (s.green d).back
    let s := s.restartDie d
    let s := { s with activation := { a with state := 6, rejecting := false } }
    (s.raise (GRN_INT_STATUS.rejected s.stageDie)).grnPost 0x0081
      (leBytes 4 a.version ++ leBytes 1 cause ++ leBytes 3 0)

/-- R665: probation ends with acceptance; the old-image die restarts on the new image. -/
def State.activationAccept (s : State) : State :=
  let a := s.activation
  match a.die with
  | none => s
  | some d =>
    let sec := (s.green d).stage.security
    let s := both (fun e s => s.setGreen e { s.green e with minimum := sec }) s
    let s := s.setGreen d.other (s.green d.other).copyStage
    let s := s.restartDie d.other
    let s := { s with activation := { a with state := 7 } }
    s.raise (GRN_INT_STATUS.probation_end d)

/-- R664: a rejection is asked for; it is made at the next boundary by a planned handover with cause 11. -/
def State.rejectImage (s : State) : State × Nat :=
  let a := s.activation
  match a.die with
  | none => (s, 10)
  | some d =>
    if a.state = 4 ∧ s.fitDie d.other then
      ({ s with activation := { a with rejecting := true }, twin := { s.twin with planned := some 11 } }, 0)
    else (s, 10)

/-- R665: acceptance by object 0x7415. -/
def State.acceptImage (s : State) : State × Nat :=
  if s.activation.state = 4 then (s.activationAccept, 0) else (s, 10)

/-- PROBATION_EXPIRY (R663, R665). -/
def execProbationExpiry (s : State) : Host.Outcome State Fault Refusal :=
  if s.activation.state = 4 ∧ s.activation.until_ ≤ s.now ∧ s.activation.rejecting = false then
    .next s.activationAccept
  else .next s

/-- Seconds of probation left (GRN_PROB_LEFT). -/
def State.probationLeft (s : State) : Nat :=
  if s.activation.state = 4 then openQuotN 62 (s.activation.until_ - s.now) 25000000 else 0

/-! ## Node images (R666-R668) -/

/-- R666: a campaign is started. -/
def State.campaignStart (s : State) (b : List Byte) : State × Nat :=
  let slot := leAt b 0 1
  let rounds := leAt b 1 1
  let share := leAt b 2 1
  if 7 < slot ∨ rounds < 1 ∨ 16 < rounds ∨ share < 1 ∨ 100 < share then (s, 3)
  else if s.campaign.on then (s, 5)
  else if (s.nodeSlot slot).state ≠ 2 then (s, 10)
  else ({ s with campaign := { on := true, slot := slot, rounds := rounds, share := share, done := [],
                               chances := [], sent := 0 } }, 0)

/-- CAMPAIGN_DONE (R666): the last round has ended on every transport in service. -/
def execCampaignDone (s : State) : Host.Outcome State Fault Refusal :=
  let c := s.campaign
  let all := c.rounds * (s.nodeSlot c.slot).blocks
  let ts := (List.range 6).filter s.inService
  if c.on ∧ ts ≠ [] ∧ ts.all (fun t => decide (all ≤ Tbl.get 0 c.done t)) then
    .next ({ s with campaign := { c with on := false } }.raise (GRN_INT_STATUS.campaign_done s.stageDie))
  else .next s

/-- The class octet of a node's join request (R308; log entry 73). -/
def Node.cls (nd : Node) : Nat := b2n nd.sleepy + 2 * b2n nd.mains

/-- R668: node command 6 goes to every joined node of the slot's class. -/
def State.nodeActivate (s : State) (b : List Byte) : State × Nat :=
  let slot := leAt b 0 1
  let x := s.nodeSlot slot
  if 7 < slot then (s, 3)
  else if x.state ≠ 2 then (s, 10)
  else
    let body := leBytes 1 6 ++ leBytes 1 slot ++ leBytes 4 x.version ++ (b.drop 2).take 6
    let ns := (s.nodes.filter fun e => e.2.joined && decide (e.2.cls = x.type)).map Prod.fst
    (ns.foldl (fun s n => s.queueFrame n 11 body) s, 0)

end Sys2Proof.Machine
end

