-- ==== Sys2Proof/Machine/Callboard.lean ====
section
/-! DEFINITION. The callboard, and the mirror writes and continuity messages that carry it and other stores
to the other die (R452, R649, R674-R685). -/

namespace Sys2Proof.Machine

/-! ## Records (R674) -/

/-- The bits of the pwrcyc word beside the power-cycle count. -/
def cbNobody : Nat := 2 ^ 27
def cbUnstored : Nat := 2 ^ 28

/-- Data of 32 octets. -/
def data32 (b : List Byte) : List Byte := (b ++ List.replicate 32 0).take 32

/-- The octets of a record at their offsets, with its CRC over 0x00-0x0F and 0x18-0x3B. -/
def CbRec.bytes (r : CbRec) : List Byte :=
  let head := leBytes 4 r.optime ++ leBytes 4 r.pwrcyc ++ leBytes 4 r.stamp ++ leBytes 2 r.source ++
    leBytes 2 r.code
  let tail := leBytes 4 r.seq ++ data32 r.data
  head ++ leBytes 4 r.count ++ leBytes 4 r.last ++ tail ++ leBytes 4 (crc32 (head ++ tail))

/-- R681: the keys of two records agree. -/
def CbRec.same (a b : CbRec) : Bool :=
  decide (a.source = b.source ∧ a.code = b.code ∧ (data32 a.data).take 8 = (data32 b.data).take 8)

/-- A record of the moment (R680); `alone` when no die holds the stage. -/
def State.makeRec (s : State) (p : Post) (alone : Bool) : CbRec :=
  let stamp := s.stampNow % 2 ^ 32
  { optime := s.get CYC_OPTIME.optime,
    pwrcyc := s.get CYC_PWRCYC.count % 2 ^ 24 + p.plane.num * 2 ^ 24 + b2n s.ghost * 2 ^ 26 +
      (if alone then cbNobody else 0),
    stamp := stamp, source := p.source, code := p.code, count := 1, last := stamp, seq := 0,
    data := p.data }

/-! ## Storage (R678, R681, R682, R684) -/

/-- The records the main log holds. -/
def logSize : Nat := 262144

def Board.full (b : Board) : Bool := decide (logSize ≤ b.fill)
def Board.at_ (b : Board) (n : Nat) : CbRec := Tbl.get CbRec.empty b.log n

/-- A repeat may be counted on a record. -/
def mayRepeat (last r : CbRec) : Bool := last.same r && decide (last.count < 65535)

/-- A repeat is counted. -/
def CbRec.again (last r : CbRec) : CbRec := { last with count := last.count + 1, last := r.stamp }

/-- R684: a record enters the window, or repeats its newest. -/
def Board.enter (b : Board) (r : CbRec) : Board :=
  let newest := Tbl.get CbRec.empty b.window b.head
  if b.entered ∧ mayRepeat newest r then
    { b with window := Tbl.put CbRec.empty b.window b.head (newest.again r) }
  else
    let pos := if b.entered then (b.head + 1) % 256 else b.head
    { b with window := Tbl.put CbRec.empty b.window pos r, head := pos, entered := true }

/-- A record takes the next sequence and the next index of the main log. -/
def Board.append (b : Board) (r : CbRec) : Board :=
  let r := { r with seq := b.next }
  let b := { b with log := Tbl.put CbRec.empty b.log b.fill r, fill := b.fill + 1,
                    next := (b.next + 1) % 2 ^ 32, stored := true }
  b.enter r

/-- What storing a record did. -/
inductive Stored where
  | new
  | repeated
  | filled
  | lost
  deriving DecidableEq, Repr

/-- R681, R682, R684: a record is stored, repeated, or lost to the main log; `full` is the
CALLBOARD_FULL record of the moment. -/
def Board.store (b : Board) (r full : CbRec) : Board × Stored :=
  if b.full then
    let r := { r with pwrcyc := r.pwrcyc + cbUnstored, seq := b.next }
    ({ b.enter r with lost := min (b.lost + 1) (2 ^ 32 - 1) }, .lost)
  else
    let last := b.at_ (b.fill - 1)
    if b.stored ∧ 0 < b.fill ∧ mayRepeat last r then
      let b := { b with log := Tbl.put CbRec.empty b.log (b.fill - 1) (last.again r) }
      (b.enter r, .repeated)
    else
      let b := b.append r
      if b.fill = logSize - 1 then
        let f := { full with data := leBytes 4 b.next ++ leBytes 4 0 }
        (b.append f, .filled)
      else (b, .new)

/-- The registers and interrupts of a die's callboard after a record. -/
def State.boardShow (s : State) (d : DieId) (r : CbRec) (w : Stored) (fill : Nat) : State :=
  let last := fun (s : State) => (s.set (CBD_LAST.code d) r.code).set (CBD_LAST.source d) r.source
  let levels := fun (s : State) =>
    (s.raiseIf (decide (fill = 131072)) (CBD_INT_STATUS.half d)).raiseIf
      (decide (fill = s.obj 0x7806 0)) (CBD_INT_STATUS.warn d)
  match w with
  | .new => levels ((last s).raise (CBD_INT_STATUS.stored d))
  | .repeated => (last s).addWrap (CBD_REPEATS.count d) 1
  | .filled => ((last s).raise (CBD_INT_STATUS.stored d)).raise (CBD_INT_STATUS.full d)
  | .lost => s.raise (CBD_INT_STATUS.lost d)

/-- The CALLBOARD_FULL record of the moment. -/
def State.fullRec (s : State) (d : DieId) : CbRec :=
  s.makeRec { source := cbSource (originDie d) cbCBD 0, code := 0x0002, data := [], plane := .management,
              tick := s.now } (decide (s.holder = none))

/-- A record is stored by the writer of a die; the stage holder mirrors its callboard. -/
def State.storeRec (s : State) (d : DieId) (r : CbRec) : State :=
  let die := s.die d
  let (b, w) := die.board.store r (s.fullRec d)
  let s := (s.setDie d { die with board := b }).boardShow d r w b.fill
  if s.holder = some d then s.mirror (.board b) else s

/-- The next record of the intake (R680): the oldest, among those of its clock the one of the first plane,
then of the lowest source. -/
def pickPost : List Post → Option Post
  | [] => none
  | p :: ps =>
    some ((ps.filter fun q => decide (q.tick = p.tick)).foldl (fun a q =>
      if q.plane.num < a.plane.num ∨ (q.plane.num = a.plane.num ∧ q.source < a.source) then q else a) p)

/-- The die a record comes from; the Apron and the ghost light have none. -/
def postDie (p : Post) : Option DieId :=
  if p.source / 2 ^ 14 = 0 then some .a else if p.source / 2 ^ 14 = 1 then some .b else none

/-- CALLBOARD_POST (R679-R682, R708): the next record of the intake is stored by the stage holder; a record
of the understudy goes to it as a continuity message; with no stage holder each die stores its own, and
die A those of the Apron (log entry 75).  Nothing is stored before the counters are loaded. -/
def execCallboardPost (s : State) : Host.Outcome State Fault Refusal :=
  match pickPost s.posts, s.power.loaded with
  | some p, true =>
    let s := { s with posts := s.posts.erase p }
    match s.holder with
    | some d =>
      let r := s.makeRec p false
      if postDie p = some d.other then
        let s := s.addWrap (CBD_FORWARDED.count d.other) 1
        .next { s with continuity := s.continuity ++ [(d, .records [{ r with count := 0 }])] }
      else .next (s.storeRec d r)
    | none =>
      let d := (postDie p).getD .a
      let r := s.makeRec p true
      let s := s.storeRec d r
      .next (s.setDie d { s.die d with alone := (s.die d).alone ++ [r] })
  | _, _ => .next s

/-- A forwarded record reaches the writer: one of a die that stored it alone keeps its time fields, any
other takes those of the moment (R679, R680). -/
def State.takeForwarded (d : DieId) (s : State) (r : CbRec) : State :=
  if r.count = 0 then
    let p : Post := { source := r.source, code := r.code, data := r.data, plane := .control, tick := s.now }
    let m := s.makeRec p false
    let plane := r.pwrcyc / 2 ^ 24 % 4 * 2 ^ 24
    s.storeRec d { m with pwrcyc := m.pwrcyc + plane }
  else s.storeRec d { r with count := 1 }

/-- R264: a callboard intake item is discarded. -/
def State.intakeDrop (s : State) (d : DieId) : State :=
  let die := s.die d
  let s := s.setDie d { die with board := { die.board with lost := min (die.board.lost + 1) (2 ^ 32 - 1) } }
  (s.addSat (CBD_INTAKE_DROPS.count d) 1).raise (CBD_INT_STATUS.lost d)

/-- R683: the callboard is cleared when the value names the next sequence. -/
def State.clearBoard (s : State) (v : Nat) : State × Nat :=
  let d := s.stageDie
  let die := s.die d
  let b := die.board
  if v ≠ b.next then (s, 3)
  else
    let clean := { b with log := [], fill := 0, lost := 0, clears := b.clears + 1, stored := false }
    let s := s.setDie d { die with board := clean }
    let p : Post := { source := cbSource (originDie d) cbCBD 0, code := 0x0001,
                      data := leBytes 4 b.fill ++ leBytes 4 b.lost ++ leBytes 4 b.next,
                      plane := .management, tick := s.now }
    ((s.storeRec d (s.makeRec p false)).raise (CBD_INT_STATUS.cleared d), 0)

/-! ## What the other die writes (R452, R649) -/

/-- MIRROR_WRITE (R452): the oldest mirror write is written into its die's stack; answers that waited for
it may leave (R552). -/
def execMirrorWrite (s : State) : Host.Outcome State Fault Refusal :=
  match s.mirrors with
  | [] => .next s
  | (d, m) :: rest =>
    let s := { s with mirrors := rest }
    let die := s.die d
    let die := match m with
      | .history seq b => die.addHistory seq b
      | .board b => { die with board := b }
      | .requests l => { die with requestCopy := l }
      | .books l ever => { die with books := l, everSeq := ever }
    .next (s.setDie d die).releaseHeld

/-- CONTINUITY_MESSAGE (R538, R649, R679): the oldest continuity message reaches its die and is written
there. -/
def execContinuityMessage (s : State) : Host.Outcome State Fault Refusal :=
  match s.continuity with
  | [] => .next s
  | (d, m) :: rest =>
    let s := { s with continuity := rest }
    match m with
    | .slot t x => .next (s.setGreen d ((s.green d).setSlot t x))
    | .sessions l => .next (s.setDie d { s.die d with sessionCopy := l })
    | .records l => .next (l.foldl (State.takeForwarded d) s)

end Sys2Proof.Machine
end

