-- ==== Sys2Proof/Machine/Drain.lean ====
section
/-! DEFINITION. Blocks that are taken out of service and drained, and put back (R266-R269). -/

namespace Sys2Proof.Machine

/-- The queues of the module that feed a block and hold packets. -/
def State.feeding (s : State) (k : Nat) : List Nat :=
  (s.queues.map Prod.fst).filter fun q =>
    decide (2 * 65536 ≤ q) && decide (queueLevel (q % 65536) = 4) &&
      decide (Config.queueBlock (q % 65536) = k)

/-- Packets that wait in a queue or are being written or read. -/
def Queue.items (q : Queue) : Nat :=
  q.rings.foldl (fun a x => a + x.2.packets.length + b2n (decide (x.2.writing ≠ []))) 0

/-- The accepted items of a block that are not complete, beside what is on its line (R268). -/
def State.blockItems (s : State) (k : Nat) : Nat :=
  let own :=
    if k < 4 then (s.radio k).queue.length
    else if k < 8 then (s.plc (k - 4)).queue.length
    else if k < 25 then 0
    else (s.eth (k - 25)).queue.length
  own + ((s.feeding k).map fun q => (s.queue q).items).foldl (· + ·) 0

/-- R268: an item that is completed whatever the drain: a radio frame sent and not yet acknowledged, groups
sent on a powerline, a chain frame in flight, or a metering window. -/
def State.blockBusy (s : State) (k : Nat) : Bool :=
  if k < 4 then (s.radio k).flight.isSome
  else if k < 8 then decide ((s.plc (k - 4)).groups ≠ [])
  else if k < 24 then (s.chain (k - 8)).frame.isSome
  else if k = 24 then s.meter.running
  else false

/-- DRAINED is set and signalled. -/
def State.drained (s : State) (k : Nat) : State :=
  ({ s with drainFrom := Tbl.put 0 s.drainFrom k 0 }.set (blockDrained k) 1).raise (blockDrainIrq k)

/-- R266: the enable of a block is cleared.  A backbone port that loses its service gives transmit to
the other. -/
def State.blockOff (s : State) (k : Nat) : State :=
  if s.flag (blockEnable k) = false then s
  else
    let s := { s with drainFrom := Tbl.put 0 s.drainFrom k (s.clk.cycle + 1) }
    if k < 4 then s.radioOff k
    else if k < 8 then s.plcOff (k - 4)
    else
      let s := s.set (blockEnable k) 0
      if k = 25 ∨ k = 26 then s.activeLost (k - 25) else s

/-- BLOCK_DISABLE (R266). -/
def execBlockDisable (b : DrainBlock) (s : State) : Host.Outcome State Fault Refusal :=
  .next (s.blockOff (blockKey b))

/-- DRAINED (R266, R268): a disabled block has completed every item that it had accepted. -/
def execDrained (b : DrainBlock) (s : State) : Host.Outcome State Fault Refusal :=
  let k := blockKey b
  if s.flag (blockEnable k) = false ∧ s.flag (blockDrained k) = false ∧ s.blockItems k = 0 ∧
      s.blockBusy k = false then .next (s.drained k)
  else .next s

/-- The module timeout in cycles, as the stage holder has it (R259). -/
def State.moduleTimeout (s : State) : Nat := s.get (QCM_TMO_MODULE.cycles s.stageDie)

/-- The transfers into a queue are abandoned: its arbiters' grants stand without them, and the reservations
return. -/
def State.endXfers (s : State) (key : Nat) : State :=
  let mine := fun (f : Xfer) => decide (f.key = key)
  let held := s.arbs.filterMap fun x => (x.2.bind fun a => a.holder).bind fun g => g.xfer.filter mine
  let cut := fun (g : Grant) => if g.xfer.any mine then { g with xfer := none } else g
  let s := { s with arbs := s.arbs.map fun x => (x.1, x.2.map fun a => { a with holder := a.holder.map cut }) }
  (held.filterMap fun f => f.resv).foldl State.unreserve s

/-- R267: every item of a block that remains is discarded and its credits return. -/
def State.dropItems (s : State) (k : Nat) : State :=
  let s :=
    if k < 4 then s.setRadio k { s.radio k with queue := [] }
    else if k < 8 then s.setPlc (k - 4) { s.plc (k - 4) with queue := [] }
    else if k < 25 then s
    else s.setEth (k - 25) { s.eth (k - 25) with queue := [] }
  let one := fun (s : State) (q : Nat) =>
    (s.endXfers q).setQueue q ((s.queue q).drain (queueSize (q % 65536)) (decide (queueClass (q % 65536) = 2)))
  ((s.feeding k).foldl one s).serve

/-- QCM_LAST_DROP after a drain that discarded `n` items (R280): the last feeding queue that held some; an
item that a transport held itself names no queue (log entry 62). -/
def State.drainLast (s : State) (d : DieId) (n : Nat) (q : Option Nat) : State :=
  if n = 0 then s
  else match q with
    | some q => s.lastDrop d (q % 65536) 2
    | none => (s.lastDrop d s.freeVal 2).draw

/-- DRAIN_TIMEOUT (R267, R268): what a block still holds after the module timeout is discarded, counted
and recorded; what is on its line completes. -/
def execDrainTimeout (b : DrainBlock) (s : State) : Host.Outcome State Fault Refusal :=
  let k := blockKey b
  let from_ := Tbl.get 0 s.drainFrom k
  if s.flag (blockEnable k) = false ∧ s.flag (blockDrained k) = false ∧ 0 < from_ ∧
      from_ + s.moduleTimeout ≤ s.clk.cycle + 1 then
    let n := s.blockItems k
    let d := s.stageDie
    let (blk, i) := if k < 4 then (cbRAD, k) else if k < 8 then (cbPLC, k - 4)
      else if k < 24 then (cbFLC, k - 8) else if k = 24 then (cbMTR, 0) else (cbETH, k - 25)
    let last := ((s.feeding k).filter fun q => decide (0 < (s.queue q).items)).getLast?
    let s := (((s.dropItems k).addSat (QCM_DRAIN_DISCARDS.count d) n).raiseIf (decide (0 < n))
      (QCM_INT_STATUS.drain_discard d)).drainLast d n last
    let s := s.drained k
    .next (s.post .management (cbSource (originDie d) cbQCM 0) 0x0031
      (leBytes 2 (cbSource originApron blk i) ++ leBytes 2 0 ++ leBytes 4 n))
  else .next s

/-- R288: the channels a radio may use in a mode. -/
def channelTop (part : Part) (mode : Nat) : Nat :=
  match part, mode with
  | .e8, 1 => 63
  | .e8, 2 => 31
  | .e8, _ => 9
  | .u9, 1 => 128
  | .u9, 2 => 63
  | .u9, _ => 19

/-- R286, R288: a radio may be put in service: its mode is one of 1 to 6, and its channels lie in
range. -/
def State.radioReady (s : State) (r : Nat) : Bool :=
  let m := s.get (RAD_PHY.mode r)
  decide (1 ≤ m ∧ m ≤ 6) &&
    (List.range (s.get (RAD_PHY.hop_len r) + 1)).all fun i =>
      decide (s.channel r i ≤ channelTop s.part m)

/-- R269: the enable of a block is set: DRAINED clears, and the items it holds stay.  A chain sends a
configure to every position (R387), and a backbone port with link takes transmit that nobody has. -/
def State.blockOn (s : State) (k : Nat) : State :=
  if s.flag (blockEnable k) then s
  else
    let s := { s with drainFrom := Tbl.put 0 s.drainFrom k 0 }
    let s := (s.set (blockEnable k) 1).set (blockDrained k) 0
    let s := if k < 4 then s.setRadio k { s.radio k with power := s.get (RAD_PHY.power k) } else s
    if 8 ≤ k ∧ k < 24 then s.chainConfigure (k - 8)
    else if k = 25 ∨ k = 26 then
      let e := k - 25
      if s.flag (ETH_STATUS.link e) = false then s
      else match s.activePort with
        | none => s.activate e
        | some _ => if s.flag (ETH_BKP.force 0) then s.failover e else s.set (ETH_STATUS.standby e) 1
    else s

/-- R269, R286, R288: a write of 1 to the enable of a block; a radio that is not ready may not be
enabled. -/
def State.enableWrite (s : State) (k : Nat) : Except Nat State :=
  if k < 4 ∧ s.flag (blockEnable k) = false ∧ s.radioReady k = false then .error vkRule
  else .ok (s.blockOn k)

/-- The address of the control register of a block. -/
def blockCtrl (k : Nat) : Nat := (blockEnable k).addr

/-- BLOCK_ENABLE (R269, R286, R288). -/
def execBlockEnable (p : Port) (b : DrainBlock) (s : State) : Host.Outcome State Fault Refusal :=
  let a := apronWrite p (blockCtrl (blockKey b))
  .next (s.access a fun s => s.wrote a (s.enableWrite (blockKey b)))

end Sys2Proof.Machine
end

