-- ==== Sys2Proof/Machine/Spares.lean ====
section
/-! DEFINITION. Failed cue units and their spares, unit resyncs, MRAM protection and arbiter cut-offs
(R48, R49, R136-R139, R143-R147, R193, R265, R271, R466, R467). -/

namespace Sys2Proof.Machine

/-! ## The parts of a logical unit -/

/-- A logical unit's part of a die (R193) with its queued evaluations, which the journal has on both
dies; `whole` for the whole working store (R467). -/
def Die.unitPart (d : Die) (u : Nat) (whole : Bool) : UnitPart :=
  let lo := u * 4096
  let hi := lo + 4096
  let mine := fun (x : UnitEvent) => match x with
    | .groupRise v _ => decide (v = u)
    | .sensorRise e => decide (unitOf e = u)
    | .cue v _ => decide (v = u)
  { hot := Tbl.range d.hot lo hi, scene := Tbl.range d.scene lo hi, exact := Tbl.range d.exact lo hi,
    daylight := Tbl.range d.daylight (u * 64) (u * 64 + 64),
    groups := Tbl.range d.groups (u * 256) (u * 256 + 256),
    preLights := d.preLights.filter fun m => decide (unitOf m.ep = u),
    emission := if whole then Tbl.range d.emission lo hi else [],
    exactEmission := if whole then Tbl.range d.exactEmission lo hi else [],
    events := d.events.filter mine }

/-- A part of a table in the place of what lay between two keys. -/
def Tbl.splice {α : Type} (t : Tbl α) (lo hi : Nat) (p : Tbl α) : Tbl α :=
  (t.filter fun e => decide (e.1 < lo)) ++ Tbl.range p lo hi ++ t.filter fun e => decide (hi ≤ e.1)

/-- A logical unit's part is put into a die.  A group keeps its members, which are the die's own
(R193 sends bytes 0x01-0x0B). -/
def Die.putPart (d : Die) (u : Nat) (p : UnitPart) (whole : Bool) : Die :=
  let lo := u * 4096
  let hi := lo + 4096
  let mine := fun (x : UnitEvent) => match x with
    | .groupRise v _ => decide (v = u)
    | .sensorRise e => decide (unitOf e = u)
    | .cue v _ => decide (v = u)
  let d := { d with
    hot := Tbl.splice d.hot lo hi p.hot, scene := Tbl.splice d.scene lo hi p.scene,
    exact := Tbl.splice d.exact lo hi p.exact,
    daylight := Tbl.splice d.daylight (u * 64) (u * 64 + 64) p.daylight,
    groups := Tbl.splice d.groups (u * 256) (u * 256 + 256) p.groups,
    preLights := (d.preLights.filter fun m => decide (unitOf m.ep ≠ u)) ++ p.preLights,
    events := (d.events.filter fun x => !mine x) ++ p.events }
  if whole then
    { d with
      emission := Tbl.splice d.emission lo hi p.emission,
      exactEmission := Tbl.splice d.exactEmission lo hi p.exactEmission }
  else d

/-! ## Spares (R43, R143, R464) -/

/-- The spare position of a physical cluster. -/
def spareAt (cluster : Nat) : Nat := 9 * cluster + 8

/-- The logical units in order. -/
def unitList : List Nat := List.range 256

/-- A physical unit is in use: it failed, holds a logical unit, is the goal of a move, or a clone's. -/
def State.spareHeld (s : State) (d : DieId) (p : Nat) : Bool :=
  let die := s.die d
  let at_ := fun (c : Nat × Nat) => if d = .a then c.1 else c.2
  Tbl.get false die.failed p || die.moved.any (fun x => decide (x.2 = 1 + p)) ||
    die.moves.any (fun m => decide (m.phys = p)) ||
    s.twin.clones.any (fun c => decide (at_ c = p)) ||
    s.twin.disputes.any fun x => match x.clones with
      | some c => decide (at_ c = p)
      | none => false

/-- A spare is taken: it is in use, or failed test 2 (R689). -/
def State.spareTaken (s : State) (d : DieId) (p : Nat) : Bool :=
  decide (p % 9 = 8 ∧ bitOf (s.get (TST_SPARE_FAIL.failed d)) (p / 9) = 1) || s.spareHeld d p

/-- R143: the spare a failed logical unit goes to: its own cluster's, else the free one of the
lowest-numbered other cluster of the region. -/
def State.spareFor (s : State) (d : DieId) (u : Nat) : Option Nat :=
  let own := clusterOfUnit u % 8
  let all := own :: (List.range 8).filter fun c => decide (c ≠ own)
  (all.map fun c => spareAt (8 * regionOfUnit u + c)).find? fun p => !s.spareTaken d p

/-- EPS_REMAP_STATUS. -/
def State.remapStatus (s : State) (d : DieId) (u p result : Nat) : State :=
  ((s.set (EPS_REMAP_STATUS.unit d) u).set (EPS_REMAP_STATUS.phys d) p).set
    (EPS_REMAP_STATUS.result d) result

/-- A move begins (R143): to a spare, or, when none is free, the die is unfit (R47).  The unit is on the spare
`wait` boundaries from here, and has skipped `skipped` cycles then. -/
def State.startMove (s : State) (d : DieId) (u : Nat) (loss : UnitLoss) (wait skipped : Nat) : State :=
  match s.spareFor d u with
  | none =>
    ((s.remapStatus d u ((s.die d).phys u) 3).raise (EPS_INT_STATUS.remap_done d)).dieUnfit d
  | some p =>
    let die := s.die d
    let die := { die with failed := Tbl.put false die.failed (die.phys u) true }
    let m : Moving := { unit := u, phys := p, remap := true, wait := wait, skipped := skipped, owed := 0,
                        changed := [], part := none, lost := loss }
    ((s.setDie d { die with moves := die.moves ++ [m] }).remapStatus d u p 2).set
      (EPS_STATUS.remap_busy d) 1

/-- R144: the waiting units of an understudy start to move; its stage holder sends their records with the
second marker from here. -/
def State.shadowMoves (s : State) (d : DieId) : State :=
  let l := (s.die d).waiting
  l.foldl (fun s (x : Nat × UnitLoss × Nat) =>
      if s.roleOf d = roUNDERSTUDY then s.startMove d x.1 x.2.1 2 0 else s)
    (s.setDie d { s.die d with waiting := [] })

/-- R143: a unit of a die out of both roles moves at once. -/
def State.moveNow (s : State) (d : DieId) (u : Nat) : State :=
  let die := s.die d
  match s.spareFor d u with
  | none => ((s.remapStatus d u (die.phys u) 3).raise (EPS_INT_STATUS.remap_done d)).dieUnfit d
  | some p =>
    (((s.setDie d { die with moved := Tbl.put 0 die.moved u (1 + p) }).sendMap d).remapStatus d u p 1).raise
      (EPS_INT_STATUS.remap_done d)

/-- R143, R50: the units of a die whose physical units have failed move, after its full self-test. -/
def State.moveFailed (s : State) (d : DieId) : State :=
  let l := unitList.filter fun u => Tbl.get false (s.die d).failed ((s.die d).phys u)
  if s.get (EPS_CTRL.auto_remap d) = 0 then s
  else l.foldl (fun s u => s.moveNow d u) (s.setDie d { s.die d with waiting := [] })

/-- R48, R49, R143: a logical unit of a die fails.  The understudy excludes it and starts its move;
the stage holder first gives up the stage to a fit understudy, and else moves it at the next
boundary; a die out of both roles moves it at once.  With auto_remap 0 the unit, commanded or not, is only
marked failed (log entry 118). -/
def State.unitFail (s : State) (d : DieId) (u : Nat) (loss : UnitLoss) : State :=
  let die := s.die d
  let s := s.setDie d { die with failed := Tbl.put false die.failed (die.phys u) true }
  if s.get (EPS_CTRL.auto_remap d) = 0 then s
  else
    let die := s.die d
    let wait := s.setDie d { die with waiting := die.waiting ++ [(u, loss, 0)] }
    if s.holder = some d then
      if s.fitOther then { wait with twin := { wait.twin with planned := some 8 } } else wait
    else if s.roleOf d = roUNDERSTUDY then (wait.exclude d u true).shadowMoves d
    else s.moveNow d u

/-- A unit takes its new position: both dies hear of it (R174), messages held for it reach it, and the
move ends. -/
def State.landMove (s : State) (d : DieId) (m : Moving) : State :=
  let die := s.die d
  let v := if m.phys = resetPhys m.unit then 0 else 1 + m.phys
  let held := die.heldLights.filter fun x => decide (unitOf x.ep = m.unit)
  let die := { die with
    moved := Tbl.put 0 die.moved m.unit v
    moves := die.moves.filter fun x => decide (x ≠ m)
    heldLights := die.heldLights.filter fun x => decide (unitOf x.ep ≠ m.unit) }
  let s := (s.setDie d (held.foldl Die.fsReceive die)).sendMap d
  let s := (s.remapStatus d m.unit m.phys 1).set (EPS_STATUS.remap_busy d)
    (b2n (die.moves.any fun x => x.remap))
  let s := (s.exclude d m.unit false).raise (EPS_INT_STATUS.remap_done d)
  if s.twin.blameAfter = some m.unit ∧ s.holder = some d.other then
    { s with twin := { s.twin with blamed := true, blameAfter := none } }
  else s

/-- R196, R197: the units whose pass of the running cycle has ended; the pass is over when all 256 have. -/
def State.passEnded (s : State) (d : DieId) : State :=
  let n := s.clk.cycle
  let rest := (unitList.filter fun u => (s.die d).resting u).length
  let s := (s.set (CUE_SWEEP_STATUS.busy d) 0).set (CUE_SWEEP_STATUS.units_done d) (256 - rest)
  if rest = 0 then
    ((s.set (CUE_PASS_CYCLE_LO.cycle_lo d) n).set (CUE_PASS_CYCLE_HI.cycle_hi d) (n / 2 ^ 32)).raise
      (CUE_INT_STATUS.pass_done d)
  else s

/-- A unit's own pass, when it starts late (R144), with the evaluations marked for it meanwhile. -/
def State.latePass (s : State) (d : DieId) (m : Moving) : State :=
  let n := s.clk.cycle
  let die := (s.die d).passOf (fun u => decide (u = m.unit)) m.changed n true
  let die := (List.range m.owed).foldl (fun x _ => x.eventRun m.unit n) die
  ((s.setDie d die).flushTally d).passEnded d

/-- REMAP_SNAPSHOT_INSTALL (R144): once the snapshot has come with a commit and the cycle's pass has
begun, the spare takes it, runs its late pass, and comparison resumes. -/
def execRemapSnapshotInstall (d : DieId) (s : State) : Host.Outcome State Fault Refusal :=
  match (s.die d).moves.find? fun m => m.remap && decide (m.wait = 0) with
  | none => .next s
  | some m =>
    if s.holder = some d ∨ (s.side d).waiting then .next s
    else .next ((s.landMove d m).latePass d m)

/-- R145, R193: what a failed unit could not give is made good on its spare: hot records from their
images, restored; scene levels from the standing image; daylight factors of 1.0; pre-lights lost. -/
def Die.makeGood (d : Die) (u : Nat) (l : UnitLoss) (n : Nat) : Die :=
  let ep := fun (k : Fin 4096) => u * 4096 + k.val
  let d := (l.hot.map ep).foldl (fun d e =>
    let h := d.imageOf e
    d.setHot e { h with fadeCtrl := setBit h.fadeCtrl 7 } n) d
  let scene := (l.scene.map ep).foldl (fun t e => Tbl.put 0 t e (Tbl.get 0 d.cues.standing e)) d.scene
  let day := l.daylight.foldl (fun t (i : Fin 64) =>
    let x := Tbl.get Daylight.free t (dayKey u i.val)
    Tbl.put Daylight.free t (dayKey u i.val)
      (if x.users = 0 then x else { x with factor := 0x8000 })) d.daylight
  let mine := d.preLights.filter fun m => decide (unitOf m.ep = u)
  let gone := min l.preLights mine.length
  let rest := d.preLights.filter fun m => decide (unitOf m.ep ≠ u)
  { d with scene := scene, daylight := day, preLights := rest ++ mine.drop gone,
           tally := { d.tally with dropped := d.tally.dropped + gone } }

/-- R49: a waiting unit of the stage holder starts to move: it stays unevaluated for the cycles it has waited
and a free number more, at most 2 in all. -/
def State.holderMove (d : DieId) (s : State) (x : Nat × UnitLoss × Nat) : State :=
  if s.holder ≠ some d then s
  else
    let wait := s.freeVal % (3 - min 2 x.2.2)
    s.draw.startMove d x.1 x.2.1 wait (x.2.2 + wait)

/-- R49, R145: the stage holder's moves at a boundary: without a fit understudy its waiting units start to
move, and a unit whose cycles have passed is on its spare before the pass. -/
def State.holderMoves (s : State) (d : DieId) : State :=
  let l := (s.die d).waiting
  let s := if s.fitOther then
      s.setDie d { s.die d with waiting := l.map fun x => (x.1, x.2.1, x.2.2 + 1) }
    else l.foldl (State.holderMove d) (s.setDie d { s.die d with waiting := [] })
  if s.holder ≠ some d then s
  else
    let ready := (s.die d).moves.filter fun m => m.remap && decide (m.wait = 0)
    let s := ready.foldl (fun s m =>
      let s := s.setDie d ((s.die d).makeGood m.unit m.lost s.clk.cycle)
      (s.landMove d m).post .control (cbSource (originDie d) cbEPS m.unit) (unnamed 56) (leBytes 8 m.skipped)) s
    let down := fun (m : Moving) => { m with wait := m.wait - 1 }
    s.setDie d { s.die d with moves := (s.die d).moves.map down }

/-- R475: at an unplanned takeover a unit in the middle of a move is restored on its spare from the
MRAM hot images and the standing image. -/
def State.restoreMoves (s : State) (d : DieId) : State :=
  ((s.die d).moves.filter fun m => m.remap).foldl (fun s m =>
    let die := s.die d
    let lo := m.unit * 4096
    let es := die.actives.filter fun e => decide (unitOf e = m.unit)
    let die := es.foldl (fun x e =>
      let h := x.imageOf e
      x.setHot e { h with fadeCtrl := setBit h.fadeCtrl 7 } s.clk.cycle) die
    let die := { die with scene := Tbl.splice die.scene lo (lo + 4096) die.cues.standing }
    (s.setDie d die).landMove d m) s

/-- UNIT_FAILURE (R143). -/
def execUnitFailure (d : DieId) (u : Fin 256) (loss : UnitLoss) (s : State) :
    Host.Outcome State Fault Refusal :=
  .next (s.unitFail d u.val loss)

/-- REMAP_COMMAND (R151): a write of EPS_REMAP_CMD with go set moves the unit as if it had failed. -/
def State.remapCommand (s : State) (d : DieId) (w : Nat) : State :=
  if w / 2 ^ 31 % 2 = 1 then
    s.unitFail d (w % 256) { hot := [], scene := [], daylight := [], preLights := 0 }
  else s

def execRemapCommand (d : DieId) (w : Word) (s : State) : Host.Outcome State Fault Refusal :=
  .next (s.remapCommand d w.toNat)

/-- UNIT_RESYNC_INSTALL (R467): the store sent with a commit is installed before the understudy's next
pass, and comparison of the unit resumes. -/
def execUnitResyncInstall (d : DieId) (u : Fin 256) (s : State) : Host.Outcome State Fault Refusal :=
  let die := s.die d
  match die.moves.find? fun m => !m.remap && decide (m.unit = u.val) with
  | some m =>
    match m.part, (s.side d).waiting with
    | some p, true =>
      let die := die.putPart u.val p true
      let s := s.setDie d { die with moves := die.moves.filter fun x => decide (x ≠ m) }
      .next { s with twin := { s.twin with
        resynced := Tbl.put 0 s.twin.resynced u.val (1 + s.clk.cycle) } }
    | _, _ => .next s
  | none => .next s

/-! ## MRAM (R136-R139) -/

/-- A row must be retired; with no spare row left the stack is at fault (R139). -/
def State.retireOrFail (s : State) (d : DieId) (bank row : Nat) : State :=
  match s.retireRow d bank row with
  | some t => t
  | none => (s.post .control (cbSource (originDie d) cbEPS 0) (unnamed 59) []).dieUnfit d

/-- SCRUB_PASS (R136): the scrubber checks a code word that shows 0, 1 or 2 wrong bits; word 0 of row 0
begins a new pass over its bank. -/
def State.scrub (s : State) (d : DieId) (bank row word bits : Nat) : State :=
  let die := s.die d
  let pass := Tbl.get 0 die.scrubPass bank + b2n (decide (row = 0 ∧ word = 0))
  let key := (bank * 65536 + row) * 32 + word
  let again := decide (Tbl.get 0 die.corrected key = pass ∧ 0 < pass)
  let die := { die with
    scrubPass := Tbl.put 0 die.scrubPass bank pass
    scrubFrom := if row = 0 ∧ word = 0 then Tbl.put 0 die.scrubFrom bank (1 + s.now) else die.scrubFrom
    scrubDone := Tbl.put 0 die.scrubDone bank (row * 32 + word + 1)
    corrected := Tbl.put 0 die.corrected key (if bits = 1 then 1 + pass else 0) }
  let s := ((s.setDie d die).set (EPS_SCRUB_POS.bank d) bank).set (EPS_SCRUB_POS.row d) row
  if bits = 0 then s
  else
    let s := s.addSat (EPS_ECC_CORR.count d) 1
    if bits = 2 ∨ again then s.retireOrFail d bank row else s

def execScrubPass (d : DieId) (bank : Fin 4) (row : Fin 65536) (word : Fin 32) (bits : Fin 3) (s : State) :
    Host.Outcome State Fault Refusal :=
  .next (s.scrub d bank.val row.val word.val bits.val)

/-- The endpoint whose record holds a code word, for words of the record area. -/
def recordAt (bank row word : Nat) : Option Nat :=
  let off := row * 1024 + word * 32
  if off < 0x2000000 then some (bank * 2 ^ 18 + off / 128) else none

/-- R138: an uncorrectable word that cannot be repaired: in an endpoint record the hot image is written
again from the unit and the cold record is damaged. -/
def State.unrepaired (s : State) (d : DieId) (bank row word : Nat) : State :=
  let s := match recordAt bank row word with
    | some e =>
      let die := s.die d
      s.setDie d { die with
        image := Tbl.put Hot.delivered die.image e (die.hotOf e)
        dirty := Tbl.erase die.dirty e
        damaged := Tbl.put false die.damaged e true }
    | none => s
  (s.post .control (cbSource (originDie d) cbEPS 0) (unnamed 58) []).dieDiagnosis d 1

/-- MRAM_UNCORRECTABLE (R137, R138): the word comes from the other die when that is fit and its copy
(`sound`) is good. -/
def execMramUncorrectable (d : DieId) (bank : Fin 4) (row : Fin 65536) (word : Fin 32) (sound : Bool)
    (s : State) : Host.Outcome State Fault Refusal :=
  let s := (s.addSat (EPS_ECC_UNCORR.count d) 1).raise (EPS_INT_STATUS.ecc_uncorr d)
  let s := s.set (EPS_ECC_LAST_ADDR.addr d) (mramAddr bank.val row.val word.val)
  let other := decide (s.holder = some d.other) || s.fitDie d.other
  if other ∧ s.flag (TWN_STATUS.link_up d) ∧ sound then
    match s.retireRow d bank.val row.val with
    | some t => .next (t.addWrap (EPS_ECC_REPAIRED.count d) 1)
    | none => .next (s.retireOrFail d bank.val row.val)
  else .next (s.unrepaired d bank.val row.val word.val)

/-! ## Cut-offs (R265, R271) -/

/-- R265: a strike against a physical unit; at the limit its logical unit fails. -/
def State.strike (s : State) (d : DieId) (phys : Nat) : State :=
  let (s, hit) := s.unitStrike d phys
  if hit then
    match unitList.find? fun u => decide ((s.die d).phys u = phys) with
    | some u => s.unitFail d u { hot := [], scene := [], daylight := [], preLights := 0 }
    | none => s
  else s

/-- ARB_CUTOFF (R271): the holder of a grant has held it beyond its limit and is cut off; a cue unit's
cut-off at its cluster crossbar counts against it. -/
def execArbCutoff (d : DieId) (a : Fin 256) (clocks : Nat) (s : State) :
    Host.Outcome State Fault Refusal :=
  match s.arb d a with
  | none => .next s
  | some (_, x) =>
    let x := x.run clocks
    match x.holder with
    | some g =>
      match g.req with
      | some i =>
        if x.limits.getD i 0 < g.held then
          let s := s.cutOff d a x g i
          .next (if a.val ≤ 31 ∧ i ≤ 8 then s.strike d (9 * a.val + i) else s)
        else .next (s.setArb d a x)
      | none => .next (s.setArb d a x)
    | none => .next (s.setArb d a x)

end Sys2Proof.Machine
end

