-- ==== Sys2Proof/Machine/Twin.lean ====
section
/-! DEFINITION. Continuity: data-plane inputs and the journal, epochs, the commit marker, the
understudy's shadow run, digests and disputes, resynchronisation (R53, R448-R468, R475-R479). -/

namespace Sys2Proof.Machine

/-! ## Data-plane inputs (R53, R451, R476) -/

/-- The fault word of an endpoint after the writes placed so far. -/
def Die.faultAhead (d : Die) (acc : List DataIn) (e : Nat) : Nat :=
  (d.ready ++ d.placed ++ acc).foldl (fun w i => match i with
    | .fault f mask v => if f = e then Nat.lor (Nat.land w (Nat.xor (Nat.lor w mask) mask)) (Nat.land v mask) else w
    | _ => w) (d.hotOf e).fault

/-- An input's endpoint writes as the journal carries them: whole fault words, one report each. -/
def Die.resolveIn (d : Die) (ins : List DataIn) : List DataIn :=
  (oneEach ins).foldl (fun acc i => match i with
    | .fault e mask v =>
      let w := d.faultAhead acc e
      acc ++ [.fault e 0xFFFF (Nat.lor (Nat.land w (Nat.xor (Nat.lor w mask) mask)) (Nat.land v mask))]
    | i => acc ++ [i]) []

/-- DATA_PLANE_INPUT (R53, R451): the oldest input held by the Apron is numbered, kept for a replay,
handed to the stage holder, journaled, and placed for the next epoch mark. -/
def execDataPlaneInput (s : State) : Host.Outcome State Fault Refusal :=
  match s.holder, s.inputs with
  | some d, i :: rest =>
    if (s.side d).waiting then .next s
    else
      let n := s.clk.cycle
      let seq := s.twin.input + 1
      let kept := (s.twin.replay.filter fun x => decide (n < x.1 + 4)) ++ [(n, seq, i)]
      let kept := kept.drop (kept.length - 262144)
      let s := { s with inputs := rest, twin := { s.twin with input := seq, replay := kept } }
      let die := s.die d
      let ws := die.resolveIn i
      let s := s.setDie d { die with placed := die.placed ++ ws }
      .next (s.journalData (ws.length + 1) seq ws)
  | _, _ => .next s

/-! ## Work at another cycle -/

/-- Something done as in cycle `c`, by a die that runs behind. -/
def State.atCycle (s : State) (c : Nat) (f : State → State) : State :=
  let t := f { s with clk := { s.clk with cycle := c } }
  { t with clk := { t.clk with cycle := s.clk.cycle } }

/-- The cycle a die is in: the one after the last it closed. -/
def State.dieCycle (s : State) (d : DieId) : Nat := (s.die d).closedCycle + 1

/-! ## Epochs (R453-R455) -/

/-- Writes placed before a mark are applied, and the named-phase cues up to it act. -/
def State.epochOpen (s : State) (d : DieId) (phase : Nat) (ins : List DataIn) : State :=
  let s := s.setDie d (ins.foldl (Die.applyIn s.clk.cycle) (s.die d))
  ((s.namedPhase d phase).flushTally d).flushNodeOps d

/-- Counted evaluations of one unit; a unit that is moving owes them. -/
def State.runCounted (d : DieId) (s : State) (x : Nat × Nat) : State :=
  let die := s.die d
  if die.isMoving x.1 then
    let owe := fun (m : Moving) => if m.unit = x.1 then { m with owed := m.owed + x.2 } else m
    s.setDie d { die with moves := die.moves.map owe }
  else
    (s.setDie d ((List.range x.2).foldl (fun t _ => t.eventRun x.1 s.clk.cycle) die)).flushTally d

/-- R455: the understudy holds mark `phase`: it runs the epoch before it. -/
def State.shadowMark (s : State) (d : DieId) (phase : Nat) (counts : List (Nat × Nat)) : State :=
  let k := s.side d
  s.atCycle (s.dieCycle d) fun s =>
    match k.mark with
    | none =>
      let die := s.die d
      (s.setDie d { die with ready := die.ready ++ die.placed, placed := [] }).setSide d
        { k with mark := some phase }
    | some e =>
      if phase < e then s
      else if phase = e then counts.foldl (State.runCounted d) s
      else
        let ins := (s.die d).ready
        let s := (s.setDie d { s.die d with ready := [] }).epochOpen d e ins
        let s := counts.foldl (State.runCounted d) s
        let die := s.die d
        (s.setDie d { die with ready := die.placed, placed := [] }).setSide d
          { s.side d with mark := some phase }

/-! ## Receiving the journal (R449-R452, R457) -/

/-- R449, R456: a packet is taken: its sequence is checked, and it joins the cycle's count and CRC. -/
def State.receive (s : State) (d : DieId) (p : Packet) : State × Bool :=
  let k := s.side d
  if p.seq ≠ k.expect then (s.leave d roRESYNC, false)
  else
    let crc := crc32Run k.crc (p.words.flatMap fun w => leBytes 8 w.toNat)
    (s.setSide d { k with expect := p.seq + 1, packets := k.packets + 1, crc := crc }, true)

/-- Marks at the head of the link reach the understudy; the first argument bounds them. -/
def State.drainMarks : Nat → State → State
  | 0, s => s
  | fuel + 1, s =>
    match s.journal.link with
    | p :: rest =>
      match p.content with
      | .epochMark phase counts =>
        let (s, ok) := State.receive { s with journal := { s.journal with link := rest } } p.toDie p
        State.drainMarks fuel (if ok then s.shadowMark p.toDie phase counts else s)
      | _ => s
    | [] => s

/-- The packet at the head of the link reaches the die it goes to, when it is of the record type of
the command; the marks behind it follow. -/
def State.take (s : State) (mine : Rec → Bool) (f : State → DieId → Rec → State) : State :=
  match s.journal.link with
  | p :: rest =>
    if mine p.content then
      let (s, ok) := State.receive { s with journal := { s.journal with link := rest } } p.toDie p
      let s := if ok then f s p.toDie p.content else s
      s.drainMarks s.journal.link.length
    else s
  | [] => s

/-- DATA_WRITE_RECORD (R450, R451). -/
def execDataWriteRecord (s : State) : Host.Outcome State Fault Refusal :=
  .next (s.take (fun r => match r with
    | .dataWrite _ _ => true
    | _ => false) fun s d r => match r with
    | .dataWrite input ins =>
      let die := s.die d
      let k := s.side d
      (s.setDie d { die with placed := die.placed ++ ins }).setSide d { k with input := max k.input input }
    | _ => s)

/-- MANAGEMENT_WRITE_RECORD (R451): the write waits for its boundary. -/
def execManagementWriteRecord (s : State) : Host.Outcome State Fault Refusal :=
  .next (s.take (fun r => match r with
    | .manage _ => true
    | _ => false) fun s d r => match r with
    | .manage w => let die := s.die d; s.setDie d { die with staged := die.staged ++ [w] }
    | _ => s)

/-- A journaled stamp is used for its cue (R220, R450): the one that has it, else the one that has none yet. -/
def CueArea.takeFix (c : CueArea) (src : CueSrc) (stamp : Nat) (late : Bool) : CueArea :=
  let all := c.queue ++ c.pendingGo
  let has := fun (w : Option Nat) => all.any fun q => decide (q.src = src ∧ q.stamp = w)
  let mine := fun (q : Cue) => decide (q.src = src) && (
    if has (some stamp) then decide (q.stamp = some stamp)
    else if has none then decide (q.stamp = none) else true)
  let f := fun (q : Cue) => if mine q then { q with stamp := some stamp, late := q.late || late } else q
  { c with queue := c.queue.map f, pendingGo := c.pendingGo.map f }

/-- CUE_FIX_RECORD (R450). -/
def execCueFixRecord (s : State) : Host.Outcome State Fault Refusal :=
  .next (s.take (fun r => match r with
    | .cueFix _ _ _ _ => true
    | _ => false) fun s d r => match r with
    | .cueFix src stamp _ late => s.setCues d ((s.cues d).takeFix src stamp late)
    | _ => s)

/-- SCHEDULE_OCCURRENCE_RECORD (R212, R450): the occurrence is pending, unless the understudy has fixed it by
now. -/
def execScheduleOccurrenceRecord (s : State) : Host.Outcome State Fault Refusal :=
  .next (s.take (fun r => match r with
    | .occurrence _ _ => true
    | _ => false) fun s d r => match r with
    | .occurrence j tai =>
      let c := s.cues d
      let o := c.occAt j
      let day := s.dayOf (c.activeBank.schedAt j) tai
      let fixed := match o.lastDay with
        | some l => decide (day ≤ l)
        | none => false
      if fixed then s else s.setCues d (c.setOcc j { o with tai := some tai, day := day })
    | _ => s)

/-- METERING_RECORD (R408, R419, R450): results go to the die's table, a commit record to its stack. -/
def execMeteringRecord (s : State) : Host.Outcome State Fault Refusal :=
  .next (s.take (fun r => match r with
    | .meterResults _ => true
    | .meterCommit _ => true
    | .fragment => true
    | _ => false) fun s d r => match r with
    | .meterResults rs => s.setDie d ((s.die d).meterResults rs)
    | .meterCommit c => s.setDie d ((s.die d).putCommit (stampCycle c.stamp - 1) (some c))
    | _ => s)

/-- COMMIT_TOTALS_RECORD (R456). -/
def execCommitTotalsRecord (s : State) : Host.Outcome State Fault Refusal :=
  .next (s.take (fun r => match r with
    | .commitTotals _ _ => true
    | _ => false) fun s d r => match r with
    | .commitTotals _ ts =>
      let k := s.side d
      s.setSide d { k with totals := ts.foldl (fun t x => Tbl.put 0 t x.1 x.2) k.totals }
    | _ => s)

/-- RESERVED_RECORD (R450): a packet of a reserved type reaches the understudy. -/
def execReservedRecord (d : DieId) (s : State) : Host.Outcome State Fault Refusal :=
  .next (if s.roleOf d = roUNDERSTUDY then s.leave d roRESYNC else s)

/-! ## Turning the cycle in a die (R155, R189) -/

/-- The die closes the cycle before the running one: its digests, the counts of R184
and R196, and the TAI saved with the boundary (R201). -/
def State.closeDie (s : State) (d : DieId) : State :=
  let die := (s.die d).closeDigests (s.clk.cycle - 1)
  let t := die.tally
  let carried := die.events.length
  let saved := if s.mapValid then s.taiP0 else die.cues.savedTai
  let s := s.setDie d { die with tally := { t with emits := 0, events := 0, posted := [] },
                                 cues := { die.cues with savedTai := saved } }
  let s := (s.set (CUE_EMITS.count d) t.emits).set (CUE_EVENTS.count d) t.events
  (s.addSat (CUE_EVENTS_CARRIED.count d) carried).raiseIf (decide (0 < carried))
    (CUE_INT_STATUS.events_carried d)

/-- The cue engine and the pass of the running cycle; the time a pass takes is not the model's and is
a free value. -/
def State.openDie (s : State) (d : DieId) (changed : List Nat) : State :=
  let s := (s.takeRules d).cueBoundary d
  let n := s.clk.cycle
  let note := fun (m : Moving) => { m with changed := changed.filter fun e => decide (unitOf e = m.unit) }
  let s := s.setDie d { s.die d with moves := (s.die d).moves.map note }
  let s := (s.setDie d ((s.die d).sweepPass changed n)).flushTally d
  let k := s.side d
  let s := s.setSide d { k with mark := none, started := [] }
  let t := s.freeVal % 65536
  let s := (s.draw.set (CUE_PASS_TIME.time d) t).set (CUE_PASS_TIME_MAX.time d)
    (max t (s.get (CUE_PASS_TIME_MAX.time d)))
  let s := s.setDie d { s.die d with passMax := max (s.die d).passMax (10 * t) }
  let s := (s.set (CUE_PASS_SLOWEST.phys d) (s.freeVal % 288)).draw
  (s.passEnded d).flushNodeOps d

/-- The parts sent for units that move are put in place before the pass (R144). -/
def Die.takeParts (d : Die) : Die :=
  let d := d.moves.foldl (fun x m => match m.part with
    | some p => if m.remap then x.putPart m.unit p false else x
    | none => x) d
  let done := fun (m : Moving) => if m.remap then { m with part := none } else m
  { d with moves := d.moves.map done }

/-! ## The commit marker (R456-R461) -/

/-- A count of 128 totals of one half as words of four. -/
def totalWords (t : Tbl Nat) (half : Nat) : List (BitVec 64) :=
  (List.range 32).map fun i => word ((List.range 4).foldr (fun j v =>
    v * 65536 + Tbl.get 0 t (128 * half + 4 * i + j) % 65536) 0)

/-- R456: the stage holder sends the marker of the closed cycle with the totals and the carried count
given. -/
def State.commitMarker (s : State) (d : DieId) (gaveUp : Bool) : State :=
  let c := s.clk.cycle - 1
  let die := s.die d
  let half := fun (h : Nat) (s : State) => s.journalPacket 0x0D (word h :: totalWords die.done h)
    (.commitTotals h (Tbl.range die.done (128 * h) (128 * h + 128)))
  let s := half 1 (half 0 s)
  let j := s.journal
  let crc := Nat.xor j.crc crc32Ones
  let fmt := (s.side d).format % 256
  let carried := die.events.length % 2 ^ 32
  let s := s.journalPacket 0x0F
    [word (b2n s.ghost * 2 ^ 63 + c), word (j.packets % 2 ^ 32 * 2 ^ 32 + crc),
      word (s.twin.input % 2 ^ 32 * 2 ^ 32 + b2n gaveUp * 256 + fmt), word carried]
    (.commitClose s.ghost c j.packets crc s.twin.input gaveUp fmt carried)
  let s := (s.set (TWN_JOURNAL_BYTES.bytes d) (min s.journal.bytes (2 ^ 32 - 1))).set
    (TWN_JOURNAL_MAX.bytes d) (max (s.get (TWN_JOURNAL_MAX.bytes d)) (min s.journal.bytes (2 ^ 32 - 1)))
  let s := (s.set (TWN_COMMIT_LO.cycle_lo d) c).set (TWN_COMMIT_HI.cycle_hi d) (c / 2 ^ 32)
  { s with journal := { s.journal with packets := 0, crc := crc32Ones, bytes := 0 } }

/-! ## Epoch marks (R453, R454, R460) -/

/-- The bitmap words and count words of a mark (R454). -/
def markWords (e : Nat) (more : Bool) (counts : List (Nat × Nat)) : List (BitVec 64) :=
  let bits := (List.range 4).map fun i => word (counts.foldl (fun w x =>
    if x.1 / 64 = i then setBit w (x.1 % 64) else w) 0)
  word (e + b2n more * 2 ^ 15) :: bits ++
    wordsOf (counts.flatMap fun x => leBytes 2 x.2)

/-- EPOCH_MARK (R453, R454): in phase step `e` the stage holder places the mark of `e` with the evaluations started
since the last one, and acts on what was placed before it; a die that runs provisionally places its
own. -/
def State.markOn (s : State) (d : DieId) (e : Nat) : State :=
  let k := s.side d
  let s := s.setSide d { k with mark := some e, started := [] }
  let die := s.die d
  let ins := die.ready ++ die.placed
  (s.setDie d { die with ready := [], placed := [] }).epochOpen d e ins

def State.mayMark (s : State) (d : DieId) (e : Nat) : Bool :=
  !(s.side d).waiting && match (s.side d).mark with
    | some m => decide (m < e)
    | none => true

def execEpochMark (e : Fin 1024) (s : State) : Host.Outcome State Fault Refusal :=
  if e.val < 16 ∨ 1016 < e.val ∨ s.phase ≠ e.val then .next s
  else
    let s := match s.holder with
      | some d =>
        if s.mayMark d e.val then
          let counts := (s.side d).started
          let a := counts.take 232
          let b := counts.drop 232
          let s := s.journalPacket 0x0C (markWords e.val false a) (.epochMark e.val a)
          let s := if b = [] then s
            else s.journalPacket 0x0C (markWords e.val true b) (.epochMark e.val b)
          s.markOn d e.val
        else s
      | none => s
    let own := fun d (s : State) =>
      if s.holder ≠ some d ∧ s.roleOf d = roUNDERSTUDY ∧ s.flag (TWN_STATUS.provisional d) ∧
          s.mayMark d e.val then s.markOn d e.val else s
    let s := both own s
    .next (s.drainMarks s.journal.link.length)

/-! ## Acknowledgements (R458) -/

/-- JOURNAL_ACK (R458): the oldest packet not acknowledged is in the understudy's receive queue. -/
def execJournalAck (s : State) : Host.Outcome State Fault Refusal :=
  .next ({ s with journal := { s.journal with unacked := s.journal.unacked.drop 1 } }.releaseHeld)

/-! ## Fitness, digests and disputes (R446, R462-R468, R471) -/

def noLoss : UnitLoss := { hot := [], scene := [], daylight := [], preLights := 0 }

/-- R446: a die's fitness as judged at phase 16 from its health word: none when it did not arrive, else
whether it reports a failure. -/
def State.judgeFit (s : State) (d : DieId) (w : Option Bool) : State :=
  let same := decide ((s.side d).format = (s.side d.other).format)
  let fit := decide (s.roleOf d = roUNDERSTUDY ∧ w = some false ∧ (s.side d).run ≤ 4) && same
  (s.set (TWN_STATUS.fit d) (b2n fit)).set (TWN_STATUS.format_ok d) (b2n same)

/-- R471: the stage holder's health word. -/
def State.judgeSilence (s : State) (w : Option Bool) : State :=
  match s.holder with
  | none => s
  | some d =>
    if w ≠ none then { s with twin := { s.twin with silent := 0 } }
    else if s.twin.silent = 0 then { s with twin := { s.twin with silent := 1 } }
    else (s.releaseStage 6).raise (TWN_INT_STATUS.holder_silent d.other)

/-- The digest a unit or clone of a die formed for the closed cycle. -/
def State.digestOf (s : State) (bad : List BadDigest) (d : DieId) (u : Nat) (clone : Bool) : Nat :=
  match bad.find? fun b => decide (b.unit.val = u ∧ b.die = d ∧ b.clone = clone) with
  | some b => b.digest.toNat
  | none => Tbl.get 0 (s.die d).closed u

/-- R465: the finding from the four digests. -/
def finding (h h' u u' : Nat) : Nat :=
  if h = u then 1 else if h = h' ∧ h' = u' then 2 else if u = u' ∧ u' = h' then 3
  else if h = h' ∧ u = u' then 4 else 5

/-- R465, R466: a settled dispute acts. -/
def State.settle (s : State) (d : DieId) (u result : Nat) : State :=
  let code := if result = 6 then 4 else result
  let arb := fun e (s : State) => ((s.set (TWN_ARB_LAST.unit e) u).set (TWN_ARB_LAST.result e) result).raise
    (TWN_INT_STATUS.arb_done e)
  let s := both arb s
  let s := { s with twin := { s.twin with
    arbCycle := s.clk.cycle
    disputes := s.twin.disputes.map fun x => if x.unit = u then { x with settled := true } else x } }
  let o := d.other
  if code = 2 then s.unitFail o u noLoss
  else if code = 3 then
    let die := s.die d
    let s := s.setDie d { die with waiting := die.waiting ++ [(u, noLoss, 0)] }
    { s with twin := { s.twin with blamed := true } }
  else if code = 4 then
    let die := s.die o
    let m : Moving := { unit := u, phys := die.phys u, remap := false, wait := 0, skipped := 0,
                        owed := 0, changed := [], part := none, lost := noLoss }
    s.setDie o { die with moves := die.moves ++ [m] }
  else if code = 5 then
    let s := { s with twin := { s.twin with blameAfter := some u } }
    s.unitFail o u noLoss
  else s

/-- A dispute at the comparison of one cycle in which its unit was compared. -/
def State.disputeStep (bad : List BadDigest) (d : DieId) (s : State) (x : Dispute) : State :=
  let h := s.digestOf bad d x.unit false
  let u := s.digestOf bad d.other x.unit false
  if x.settled then s
  else if x.again = false then
    if h = u then
      let s := s.settle d x.unit 1
      let clones := match x.clones with
        | some c => [c]
        | none => []
      { s with twin := { s.twin with
        disputes := s.twin.disputes.filter fun y => decide (y.unit ≠ x.unit)
        clones := s.twin.clones ++ clones } }
    else { s with twin := { s.twin with
      disputes := s.twin.disputes.map fun y => if y.unit = x.unit then { y with again := true } else y } }
  else match x.clones with
    | some _ => s.settle d x.unit (finding h (s.digestOf bad d x.unit true) u
        (s.digestOf bad d.other x.unit true))
    | none => s.settle d x.unit 6

/-- R464, R466: a unit's digests differ and no dispute is open on it. -/
def State.openDispute (d : DieId) (s : State) (u : Nat) : State :=
  let n := s.clk.cycle - 1
  let back := Tbl.get 0 s.twin.resynced u
  let blame := decide (0 < back ∧ n + 1 < back + 64)
  let x : Dispute := { unit := u, cycle := n, again := false, tried := false, clones := none,
                       settled := blame }
  let s := { s with twin := { s.twin with
    disputes := s.twin.disputes ++ [x], blamed := s.twin.blamed || blame } }
  let s := if blame then
      s.setDie d { s.die d with waiting := (s.die d).waiting ++ [(u, noLoss, 0)] } else s
  let count := fun e (s : State) => (s.addSat (TWN_DISPUTES.count e) 1).raise (TWN_INT_STATUS.dispute e)
  (both count s).twinPost d 0x0040 (leBytes 4 u ++ leBytes 4 n)

/-- R462-R465: the digests of the closed cycle are compared, unit by unit. -/
def State.compareDigests (s : State) (bad : List BadDigest) : State :=
  let zero := both (fun d s => s.set (TWN_MATCH_RUN.run d) 0) s
  match s.holder with
  | none => zero
  | some d =>
    let o := d.other
    let n := s.clk.cycle - 1
    let ready := decide (s.roleOf o = roUNDERSTUDY ∧ (s.die d).closedCycle = n ∧
        (s.die o).closedCycle = n ∧ (s.side o).counted ≠ some n) &&
      !s.flag (TWN_STATUS.provisional o) && s.flag (TWN_STATUS.link_up d)
    if ready = false then zero
    else
      let comp := fun u => !s.excluded o u && !(s.die o).moves.any fun m => decide (m.unit = u)
      let units := unitList.filter comp
      let diff := units.filter fun u => decide (s.digestOf bad d u false ≠ s.digestOf bad o u false)
      let all := decide (units.length = 256 ∧ diff = [])
      let count := fun e (s : State) =>
        let s := (s.addSat (TWN_MISMATCHES.count e) diff.length).raiseIf (decide (diff ≠ []))
          (TWN_INT_STATUS.mismatch e)
        if all then s.addSat (TWN_MATCH_RUN.run e) 1 else s.set (TWN_MATCH_RUN.run e) 0
      let s := both count s
      let open_ := s.twin.disputes
      let s := (open_.filter fun x => comp x.unit).foldl (State.disputeStep bad d) s
      (diff.filter fun u => !open_.any fun x => decide (x.unit = u)).foldl (State.openDispute d) s

/-- HEALTH_DEADLINE (R445, R446, R462, R471): at phase 16, the health words of dies A and B that have
arrived, and the digests that faults made differ. -/
def execHealthDeadline (a b : Option Bool) (bad : List BadDigest) (s : State) :
    Host.Outcome State Fault Refusal :=
  if s.phase ≠ 16 then .next s
  else
    let s := (s.judgeFit .a a).judgeFit .b b
    let s := s.judgeSilence (match s.holder with
      | some .a => a
      | some .b => b
      | none => none)
    .next (s.compareDigests bad)

/-! ## Resynchronisation (R478, R479) -/

/-- R679: before it requests resynchronisation a die forwards the records it stored alone. -/
def State.forwardAlone (s : State) (d : DieId) : State :=
  let die := s.die d
  if die.alone = [] then s
  else
    let s := (s.setDie d { die with alone := [] }).addWrap (CBD_FORWARDED.count d) die.alone.length
    { s with continuity := s.continuity ++ [(d.other, .records die.alone)] }

/-- RESYNC_REQUEST (R478): refused on another format version; else the MRAM copy starts. -/
def execResyncRequest (d : DieId) (s : State) : Host.Outcome State Fault Refusal :=
  if s.roleOf d ≠ roRESYNC ∨ s.holder ≠ some d.other ∨ s.flag (TWN_STATUS.link_up d) = false ∨
      (1 ≤ s.get (TWN_RESYNC.stage d) ∧ s.get (TWN_RESYNC.stage d) ≤ 3) then .next s
  else if (s.side d).format ≠ (s.side d.other).format then
    .next ((s.raise (TWN_INT_STATUS.format_mismatch d)).set (TWN_STATUS.format_ok d) 0)
  else .next (((s.forwardAlone d).set (TWN_RESYNC.stage d) 1).set (TWN_RESYNC.cycles d) 0)

/-- RESYNC_COPY_DONE (R478): the working stores go with the next commit marker. -/
def execResyncCopyDone (d : DieId) (s : State) : Host.Outcome State Fault Refusal :=
  .next (if s.get (TWN_RESYNC.stage d) = 1 then s.set (TWN_RESYNC.stage d) 2 else s)

/-- RESYNC_RESTART (R479): past its limit, with more than 8 MiB buffered, or without the link. -/
def execResyncRestart (d : DieId) (s : State) : Host.Outcome State Fault Refusal :=
  let st := s.get (TWN_RESYNC.stage d)
  let words : List Nat := (s.journal.link.filter fun p => decide (p.toDie = d)).map fun p => p.words.length
  if s.roleOf d ≠ roRESYNC ∨ st < 1 ∨ 3 < st then .next s
  else if s.get (TWN_CTRL.resync_limit d) < s.get (TWN_RESYNC.cycles d) then .next (s.resyncFail d 1)
  else if 8388608 < 8 * words.sum then .next (s.resyncFail d 2)
  else if s.flag (TWN_STATUS.link_up d) = false then .next (s.resyncFail d 3)
  else .next s

/-- R478: the joining die takes the stage holder's stores as they stand after a commit; what belongs to
its own silicon and stack stays. -/
def Die.adopt (own other : Die) : Die :=
  { other with
    moved := own.moved, otherMoved := other.moved, failed := own.failed, moves := [], waiting := [],
    retired := own.retired, corrected := own.corrected, scrubPass := own.scrubPass, scrubFrom := own.scrubFrom,
    scrubDone := own.scrubDone, retireWaits := own.retireWaits, passMax := own.passMax, workKeys := own.workKeys,
    damaged := own.damaged, saves := own.saves, nodeOps := [], green := own.green, alone := own.alone }

end Sys2Proof.Machine
end

