-- ==== Sys2Proof/Machine/Tests.lean ====
section
/-! DEFINITION. Tests during operation, offline mode and the test access port (R686-R691). -/

namespace Sys2Proof.Machine

/-- R690: offline mode is in force. -/
def State.offline (s : State) : Bool := s.flag (TST_MODE.offline .a)

/-! ## The test queue (R687, R688) -/

/-- R688: the instances of a test; none for a code without a test. -/
def testInstances (t : Nat) : Nat :=
  match t with
  | 1 => 2
  | 2 => 32
  | 3 => 4
  | 4 => 4
  | 5 => 2
  | 6 => 16
  | 7 => 22
  | 8 => 3
  | 9 => 1
  | 10 => 3
  | _ => 0

/-- R688: a port may take a cable diagnostic: the standby backbone port or a disabled service port. -/
def State.cableOk (s : State) (e : Nat) : Bool :=
  if e < 2 then decide (s.activePort ≠ some e) else !s.flag (ETH_CTRL.enable 2)

/-- R688: a request that the table refuses as it stands. -/
def State.testRefused (s : State) (t i : Nat) : Bool :=
  match t with
  | 1 => decide (s.holder = some (DieId.ofNum i)) && !s.plannedOk
  | 8 => !s.cableOk i
  | 9 => !s.offline
  | 10 => !s.offline
  | _ => false

/-- The next waiting test starts when none runs. -/
def State.testNext (s : State) : State :=
  match s.tests.running, s.tests.queue with
  | none, x :: rest =>
    { s with tests := { s.tests with
        running := some x, queue := rest, began := s.clk.cycle, steps := 0, verdict := none } }
  | _, _ => s

/-- A request joins the queue, unless an equal one waits in it. -/
def State.testQueue (s : State) (x : Nat × Nat) : State :=
  if s.tests.queue.contains x then s
  else { s with tests := { s.tests with queue := s.tests.queue ++ [x] } }.testNext

def State.raiseTest (s : State) (f : DieId → Fld) : State := (s.raise (f .a)).raise (f .b)

/-- TEST_REQUEST (R687, R688, R699): a request as object 0x7810 brings it. -/
def State.testRequest (s : State) (b : List Byte) : State × Nat :=
  let t := leAt b 0 1
  let i := leAt b 1 1
  let no := fun (st : Nat) => (s.raiseTest TST_INT_STATUS.test_refused, st)
  if testInstances t ≤ i then no stRange
  else if s.testRefused t i then no stState
  else if s.tests.queue.contains (t, i) then (s, stOK)
  else if 16 ≤ s.tests.queue.length then no stBusy
  else (s.testQueue (t, i), stOK)

/-- R687: what the end of a test records: result 0 pass, 1 fail, 2 aborted, 3 refused.  The manual gives
the detail no meaning: it is a free value. -/
def State.testRecord (s : State) (t i result : Nat) : State :=
  let detail := s.freeVal % 2 ^ 32
  let one := fun d (s : State) =>
    let s := ((s.set (TST_LAST.test d) t).set (TST_LAST.inst d) i).set (TST_LAST.result d) result
    let s := (s.set (TST_LAST_DETAIL.detail d) detail).set (TST_LAST_CYCLE.cycle d) s.clk.cycle
    let s := if result = 0 then s.addWrap (TST_PASSES.count d) 1 else s
    let s := if result = 1 then s.addSat (TST_FAILS.count d) 1 else s
    let s := (s.raise (TST_INT_STATUS.test_done d)).raiseIf (decide (result = 1)) (TST_INT_STATUS.test_fail d)
    s.raiseIf (decide (result = 3)) (TST_INT_STATUS.test_refused d)
  (both one s.draw).post .management (cbSource (originDie s.stageDie) cbTST 0) 0x0003
    (leBytes 1 t ++ leBytes 1 i ++ leBytes 1 result ++ leBytes 1 0 ++ leBytes 4 detail)

/-- R687: the running test ends. -/
def State.testEnd (s : State) (result : Nat) : State :=
  match s.tests.running with
  | none => s
  | some (t, i) =>
    let s := s.testRecord t i result
    { s with tests := { s.tests with running := none, steps := 0, verdict := none } }.testNext

/-- The running test has a result. -/
def State.verdict (s : State) (result : Nat) : State :=
  { s with tests := { s.tests with verdict := some result } }

def State.testSteps (s : State) (n : Nat) : State := { s with tests := { s.tests with steps := n } }

/-- A test that waits for its result is running. -/
def State.runs (s : State) (t i : Nat) : Bool :=
  decide (s.tests.running = some (t, i) ∧ s.tests.verdict = none)

/-! ## The tests -/

/-- DIE_FULL_SELF_TEST (R688): the understudy leaves for full self-test; the stage holder first hands
over; a die that is in full self-test for another reason is tested in it.  The test ends with TEST_END. -/
def execDieFullSelfTest (d : DieId) (s : State) : Host.Outcome State Fault Refusal :=
  if s.runs 1 d.num = false ∨ s.tests.steps = 1 then .next s
  else if s.holder = some d then
    let (t, ok) := s.handOver d.other
    .next (if ok then t else s.verdict 3)
  else if s.roleOf d = roUNDERSTUDY then .next ((s.selfTest d).1.testSteps 1)
  else if s.roleOf d = roTEST then .next (s.testSteps 1)
  else .next s

/-- R689: one spare of a die after its test. -/
def State.markSpare (s : State) (d : DieId) (c : Nat) (bad : Bool) : State :=
  let f := TST_SPARE_FAIL.failed d
  (s.set f (putBit (s.get f) c bad)).raiseIf bad (TST_INT_STATUS.spare_fail d)

/-- R688: the spare of a cluster is free for its test on a die. -/
def State.spareTestable (s : State) (d : DieId) (c : Nat) : Bool := !s.spareHeld d (spareAt c)

/-- R688, R689: the free spares of a cluster are tested on both dies; whether one failed. -/
def State.spareTest (s : State) (c : Nat) (a b : Bool) : State × Bool :=
  let fa := a && s.spareTestable .a c
  let fb := b && s.spareTestable .b c
  let s := if s.spareTestable .a c then s.markSpare .a c fa else s
  let s := if s.spareTestable .b c then s.markSpare .b c fb else s
  (s, fa || fb)

/-- SPARE_UNIT_TEST (R689): the spare of die A or of die B of the cluster shows a fault. -/
def execSpareUnitTest (c : Fin 32) (a b : Bool) (s : State) : Host.Outcome State Fault Refusal :=
  if s.runs 2 c.val then
    let (s, bad) := s.spareTest c.val a b
    .next (s.verdict (b2n bad))
  else .next s

/-- MRAM_SCRUB_TEST (R688): a scrub pass of one bank of both stacks, with the code words found wrong: die,
row, word and wrong bits; `pass` is the engine's verdict, for which the manual gives no rule. -/
def execMramScrubTest (bank : Fin 4) (found : List (DieId × Fin 65536 × Fin 32 × Fin 3)) (pass : Bool)
    (s : State) : Host.Outcome State Fault Refusal :=
  if s.runs 3 bank.val then
    let s := both (fun d s => s.scrub d bank.val 0 0 0) s
    let one := fun (s : State) (x : DieId × Fin 65536 × Fin 32 × Fin 3) =>
      s.scrub x.1 bank.val x.2.1.val x.2.2.1.val x.2.2.2.val
    .next ((found.foldl one s).verdict (b2n (!pass)))
  else .next s

/-- One of the 8 steps of a test that runs in idle slots or windows; `pass` matters with the last. -/
def State.idleStep (s : State) (idle pass : Bool) : State :=
  if idle then
    let s := s.testSteps (s.tests.steps + 1)
    if 8 ≤ s.tests.steps then s.verdict (b2n (!pass)) else s
  else s

/-- RADIO_CALIBRATION (R688): one step in the running slot, when it is idle. -/
def execRadioCalibration (r : Fin 4) (pass : Bool) (s : State) : Host.Outcome State Fault Refusal :=
  if s.runs 4 r.val then
    let e := s.slotEntry r.val (s.slotIndex (s.phase / 128))
    .next (s.idleStep (decide (slotKind e = 0)) pass)
  else .next s

/-- PLC_LINE_MEASUREMENT (R688): one uncovered idle window, receive only. -/
def execPlcLineMeasurement (p : Fin 2) (pass : Bool) (s : State) : Host.Outcome State Fault Refusal :=
  if s.runs 5 p.val then
    let w := Tbl.get 0 (s.plc p.val).plan (s.windowIndex (s.phase / 256))
    .next (s.idleStep (decide (planKind w = 0 ∧ (s.plc p.val).heldUntil ≤ s.now)) pass)
  else .next s

/-- CHAIN_COUNT_TEST (R688, R394): one count frame is requested. -/
def execChainCountTest (n : Fin 16) (s : State) : Host.Outcome State Fault Refusal :=
  if s.runs 6 n.val ∧ s.tests.steps = 0 then .next ((s.set (FLC_CTRL.count n) 1).testSteps 1)
  else .next s

/-- OFFSET_CALIBRATION_TEST (R688, R430): one run of the input is requested. -/
def execOffsetCalibrationTest (i : Fin 22) (s : State) : Host.Outcome State Fault Refusal :=
  if s.runs 7 i.val ∧ s.tests.steps = 0 then
    let (t, ok) := s.calRequest i.val
    .next (if ok then t.testSteps 1 else s.verdict 3)
  else .next s

/-- CABLE_DIAGNOSTIC (R688): refused on a port that has become active since. -/
def execCableDiagnostic (e : Fin 3) (pass : Bool) (s : State) : Host.Outcome State Fault Refusal :=
  if s.runs 8 e.val then .next (s.verdict (if s.cableOk e.val then b2n (!pass) else 3)) else .next s

/-- FALSIA_LANE_TEST (R688). -/
def execFalsiaLaneTest (pass : Bool) (s : State) : Host.Outcome State Fault Refusal :=
  .next (if s.runs 9 0 ∧ s.offline then s.verdict (b2n (!pass)) else s)

/-- PHY_LOOPBACK (R688). -/
def execPhyLoopback (e : Fin 3) (pass : Bool) (s : State) : Host.Outcome State Fault Refusal :=
  .next (if s.runs 10 e.val ∧ s.offline then s.verdict (b2n (!pass)) else s)

/-- The result of the running test, once it has one: 4 and 5 are aborted after 16 superframes. -/
def State.testResult (s : State) : Option Nat :=
  match s.tests.verdict, s.tests.running with
  | some r, _ => some r
  | none, some (6, n) =>
    if s.tests.steps = 1 ∧ s.flag (FLC_CTRL.count n) = false then some (1 - s.get (FLC_COUNT.valid n))
    else none
  | none, some (7, i) =>
    let busy := s.meter.calQueue.contains i || (match s.meter.cal with
      | some (j, _) => decide (j = i)
      | none => false)
    if s.tests.steps = 1 ∧ busy = false then some 0 else none
  | none, some (t, _) =>
    if (t = 4 ∨ t = 5) ∧ s.tests.began + 1024 ≤ s.clk.cycle then some 2 else none
  | none, none => none

/-- R50, R709: a region of the die has a failed unit and no spare for it. -/
def State.lacksSpare (s : State) (d : DieId) : Bool :=
  let die := s.die d
  unitList.any fun u => Tbl.get false die.failed (die.phys u) && (s.spareFor d u).isNone

/-- R50, R473, R483: full self-test of a die ends. -/
def State.fullTestEnd (s : State) (d : DieId) (pass : Bool) : State :=
  let good := pass && !s.lacksSpare d
  let s := if s.tests.running = some (1, d.num) ∧ s.tests.steps = 1 then s.testEnd (b2n (!good)) else s
  if s.offline then s
  else if good then
    let s := s.moveFailed d
    if s.lacksSpare d then s.setRole d roUNFIT
    else (s.setRole d roRESYNC).setSide d { s.side d with tested := true }
  else s.setRole d roUNFIT

/-- TEST_PERIODIC (R688): the period of object 0x7815 tests every free spare, of which those listed show
a fault; the interval of object 0x7814 queues a calibration of a radio. -/
def State.sparesPeriodic (s : State) (bad : List (DieId × Fin 32)) : State :=
  let shows := fun (d : DieId) (c : Nat) => bad.any fun x => decide (x.1 = d ∧ x.2.val = c)
  let one := fun (s : State) (c : Nat) =>
    if s.spareTestable .a c || s.spareTestable .b c then
      let (s, f) := s.spareTest c (shows .a c) (shows .b c)
      s.testRecord 2 c (b2n f)
    else s
  (List.range 32).foldl one { s with tests := { s.tests with spareFrom := s.clk.cycle } }

def execTestPeriodic (radio : Option (Fin 4)) (bad : List (DieId × Fin 32)) (s : State) :
    Host.Outcome State Fault Refusal :=
  match radio with
  | none =>
    if s.tests.running = none ∧ s.tests.spareFrom + s.obj 0x7815 0 ≤ s.clk.cycle then
      .next (s.sparesPeriodic bad)
    else .next s
  | some r =>
    let hours := s.obj 0x7814 0
    let last := Tbl.get 0 s.tests.radioFrom r.val
    if 0 < hours ∧ last + hours * 3600 * 25000000 ≤ s.now ∧ s.tests.queue.length < 16 then
      let from_ := Tbl.put 0 s.tests.radioFrom r.val s.now
      .next ({ s with tests := { s.tests with radioFrom := from_ } }.testQueue (4, r.val))
    else .next s

/-! ## Offline mode (R690) -/

/-- R690, R713: the value that enters offline mode or restarts: the module number. -/
def State.offlineWrite (s : State) (v : Nat) : State × Nat :=
  if v = s.moduleNumber then ({ s with tests := { s.tests with offlineAsked := true } }, stOK)
  else (s, stRange)

/-- R690: offline mode is entered at a boundary: the gate closes to both dies, which leave their roles. -/
def State.enterOffline (s : State) : State :=
  let d := s.stageDie
  let num := s.moduleNumber
  let s := { s with
    holder := none
    tests := { s.tests with offlineAsked := false, server := some d } }
  let s := both (fun e s =>
    let s := if s.roleOf e = roUNDERSTUDY ∨ s.roleOf e = roRESYNC then s.leave e roTEST
      else if s.roleOf e = roSTAGE then s.setRole e roTEST else s
    (s.set (TST_MODE.offline e) 1).raise (TST_INT_STATUS.offline e)) s
  s.post .management (cbSource (originDie d) cbTST 0) 0x0004 (leBytes 2 num ++ leBytes 6 0)

/-! ## The test access port (R691) -/

/-- TAP_RELEASE (R691): in offline mode, or with TEST_EN high at supply-good, the port leaves reset. -/
def execTapRelease (s : State) : Host.Outcome State Fault Refusal :=
  if s.tap.out = false ∧ s.power.on ∧ (s.offline ∨ s.power.testEn) then
    let one := fun d (s : State) =>
      ((s.set (TST_MODE.tap d) 1).set (TST_MODE.debug d) 1).raise (TST_INT_STATUS.tap_active d)
    .next (both one { s with tap := { Tap.reset with out := true, ir := 1 } })
  else .next s

/-- The controller of IEEE 1149.1: 0 Test-Logic-Reset, 1 Run-Test/Idle, 2 to 8 Select, Capture, Shift,
Exit1, Pause, Exit2 and Update of the data registers, 9 to 15 the same of the instruction register. -/
def tapNext (st : Nat) (tms : Bool) : Nat :=
  match st, tms with
  | 0, true => 0
  | 0, false => 1
  | 1, true => 2
  | 1, false => 1
  | 2, true => 9
  | 2, false => 3
  | 3, true => 5
  | 3, false => 4
  | 4, true => 5
  | 4, false => 4
  | 5, true => 8
  | 5, false => 6
  | 6, true => 7
  | 6, false => 6
  | 7, true => 8
  | 7, false => 4
  | 8, true => 2
  | 8, false => 1
  | 9, true => 0
  | 9, false => 10
  | 10, true => 12
  | 10, false => 11
  | 11, true => 12
  | 11, false => 11
  | 12, true => 15
  | 12, false => 13
  | 13, true => 14
  | 13, false => 13
  | 14, true => 15
  | 14, false => 11
  | _, true => 2
  | _, false => 1

/-- Bits of a number, least significant first. -/
def bitList (n v : Nat) : List Bool := (List.range n).map fun k => decide (bitOf v k = 1)

/-- What the selected data register captures: the boundary register takes the lands, which the model does
not hold: free values. -/
def State.tapCapture (s : State) : List Bool :=
  match s.tap.ir with
  | 0 => [false]
  | 1 => bitList 32 Config.tapIdcode.toNat
  | _ => bitList Config.tapCells s.freeVal

/-- A rising edge of TCK. -/
def State.tapRise (s : State) (tms tdi : Bool) : State :=
  let t := s.tap
  let st := t.state
  let dr := if st = 3 then s.tapCapture else if st = 4 then t.drShift.drop 1 ++ [tdi] else t.drShift
  let ir := if st = 10 then true :: false :: Config.tapCapture
    else if st = 11 then t.irShift.drop 1 ++ [tdi] else t.irShift
  let s := if st = 3 then s.draw else s
  { s with tap := { t with state := tapNext st tms, drShift := dr, irShift := ir, tck := true } }

/-- A falling edge of TCK: the update stages and TDO. -/
def State.tapFall (s : State) : State :=
  let t := s.tap
  let st := t.state
  let ir := if st = 0 then 1 else if st = 15 then (Config.tapDecode t.irShift).val else t.ir
  let cells := if st = 8 ∧ 2 ≤ t.ir then t.drShift else t.boundary
  let tdo := if st = 4 then t.drShift.headD false else if st = 11 then t.irShift.headD false else false
  { s with tap := { t with ir := ir, boundary := cells, tdo := tdo, tck := false } }

/-- TAP_CLOCK_EDGE (R691): an edge of TCK with TMS and TDI while the port is out of reset. -/
def execTapClockEdge (rising tms tdi : Bool) (s : State) : Host.Outcome State Fault Refusal :=
  if s.tap.out = false ∨ s.tap.tck = rising then .next s
  else .next (if rising then s.tapRise tms tdi else s.tapFall)

end Sys2Proof.Machine
end

