-- ==== Sys2Proof/Machine/Views.lean ====
section
/-! DEFINITION. The registers that show other state: for each, what its fields hold beside the register
file (R149, R196, R239, R282, R331, R362, R397, R440, R488, R526-R531, R610, R644, R670, R694, R696, R724). -/

namespace Sys2Proof.Machine

/-! ## Blocks of a die -/

/-- Endpoints whose ovr_ctrl has bit 2 set (CUE_BLACKOUT_EPS). -/
def Die.blackouts (d : Die) : Nat :=
  (d.hot.filter fun x => decide (bitOf x.2.ovrCtrl 2 = 1)).length

/-- The armed records in use. -/
def CueArea.armed (c : CueArea) : Nat := (c.arming.filter fun x => x.2.isSome).length

/-- EPS: the staging buffer, the age and the number of the dirty records, and the unit map. -/
def State.epsView (s : State) (d : DieId) (off : Nat) : Nat :=
  let die := s.die d
  if off = 0x4 then
    die.staged.length % 2 ^ 16 * 2 ^ 16 +
      b2n (decide (s.get (EPS_CTRL.wb_max_age d) < die.dirtyAge s.clk.cycle))
  else if off = 0xC then die.dirty.length
  else if 0x400 ≤ off ∧ off < 0x800 then
    let u := (off - 0x400) / 4
    die.phys u + b2n (decide (die.phys u ≠ resetPhys u)) * 2 ^ 31
  else 0

/-- CUE: the event queues, the daylight settings, digests, derating curves, and the cue engine. -/
def State.cueView (s : State) (d : DieId) (off : Nat) : Nat :=
  let die := s.die d
  let c := die.cues
  if off = 0x4 then min die.events.length 65535
  else if off = 0x3C then
    (s.die d).rules.step * 2 ^ 16 + (s.die d).rules.gain * 2 ^ 8 + b2n (s.die d).rules.fsOn
  else if off = 0x44 then Tbl.get 0 die.closed (s.get (CUE_DIGEST_SEL.unit d)) % 2 ^ 32
  else if off = 0x48 then Tbl.get 0 die.closed (s.get (CUE_DIGEST_SEL.unit d)) / 2 ^ 32
  else if off = 0x4C then die.closedCycle % 2 ^ 32
  else if 0x100 ≤ off ∧ off < 0x100 + 32 * 15 then
    let p := (((s.die d).curve ((off - 0x100) / 32)).getD ((off - 0x100) % 32 / 4) (0, 0))
    p.2 * 2 ^ 16 + p.1
  else if off = 0x800 then c.active + 2 * b2n die.swapWaits + 4 * b2n c.syncBusy
  else if off = 0x804 then c.activeBank.seq
  else if off = 0x808 then c.pendingGo.length + c.armed * 2 ^ 16
  else if off = 0x80C then c.nextId
  else if off = 0x810 then c.goExec
  else if off = 0x83C then die.blackouts
  else 0

/-- QCM: what the selections of the die show (R282, R283). -/
def State.qcmView (s : State) (d : DieId) (off : Nat) : Nat :=
  let q := s.get (QCM_Q_SEL.queue d)
  let size := queueSize q
  let x := s.queue (queueKey d q)
  let prio := Config.queuePrio q
  let r := x.ring (if prio then s.get (QCM_Q_SEL.ring d) else 0)
  let named := queueNamed q
  let blk := Config.queueBlock q
  let module_ := decide (queueLevel q = 4 ∧ blk < 28)
  if 0x104 ≤ off ∧ off ≤ 0x110 ∧ named = false then 0
  else if off = 0x104 then
    2 ^ 31 + b2n (!s.queueStopped q) * 2 ^ 30 + b2n (module_ && s.flag (blockDrained blk)) * 2 ^ 29 +
      b2n prio * 2 ^ 28 + queueLog q * 2 ^ 24 + r.credits size
  else if off = 0x108 then r.packets.length * 2 ^ 16 + r.waiting size
  else if off = 0x10C then r.wr * 2 ^ 16 + r.rd
  else if off = 0x110 then x.hwm
  else match s.arb d (s.get (QCM_ARB_SEL.arb d)) with
    | none => 0
    | some (_, a) =>
      let i := s.get (QCM_ARB_SEL.req d)
      if off = 0x204 then a.margin * 2 ^ 16 + a.window
      else if off = 0x208 then a.limits.getD i 0 * 2 ^ 16 + a.weights.getD i 0
      else if off = 0x20C then pattern 24 (a.counters.getD i 0)
      else if off = 0x210 then a.grants.getD i 0
      else if off = 0x214 then a.cutoffs * 2 ^ 16 + a.flags
      else if off = 0x218 then a.preempts
      else 0

/-- TWN_STATUS: the gate, the other die's role and an open dispute. -/
def State.twnView (s : State) (d : DieId) (off : Nat) : Nat :=
  if off = 0x4 then
    b2n s.holder.isSome * 2 ^ 31 + (match s.holder with
      | some h => h.num
      | none => 0) * 2 ^ 30 + s.roleOf d.other * 2 ^ 26 + b2n (decide (s.twin.disputes ≠ [])) * 2 ^ 20
  else 0

/-- KEY: the ghost light's slots and tamper watch (R644). -/
def State.keyView (s : State) (off : Nat) : Nat :=
  let k := s.keys
  if off = 0x0 then
    ((List.range 16).foldl (fun w c => putBit w c (s.slotValid c)) 0) * 2 ^ 16 +
      s.link.currentGen % 256 * 2 ^ 8 + b2n k.held * 8 + b2n (decide (s.slotState 4 = 2)) * 4 +
      b2n (decide (k.latched ≠ 0)) * 2 + b2n (decide (k.ops ≠ []))
  else if off = 0x4 then k.events * 2 ^ 16 + k.present * 2 ^ 8 + k.latched
  else if off = 0x8 then k.firstTick % 2 ^ 32
  else if off = 0xC then k.firstTick / 2 ^ 32
  else 0

/-- GRN: the die's greenroom and the activation (R670). -/
def State.grnView (s : State) (d : DieId) (off : Nat) : Nat :=
  let g := s.green d
  if off = 0x0 then
    s.activation.state * 2 ^ 16 + g.stage.state * 2 ^ 8 + b2n (decide (g.run1.state = 2)) * 4 +
      b2n (decide (g.run0.state = 2)) * 2 + g.running
  else if off = 0x4 then g.run0.version
  else if off = 0x8 then g.run1.version
  else if off = 0xC then g.stage.version
  else if off = 0x10 then g.rejected
  else if off = 0x14 then g.minimum
  else if off = 0x18 then s.activation.tai % 2 ^ 32
  else if off = 0x1C then s.activation.tai / 2 ^ 32
  else if off = 0x20 then s.probationLeft
  else if off = 0x24 then
    b2n s.campaign.on * 256 +
      (List.range 8).foldl (fun w n => putBit w n (decide ((g.slot (1 + n)).state = 2))) 0
  else if off = 0x28 then g.fallbacks
  else 0

/-- The window record of an age, 0 the newest; zeros where none has entered (R684, R698). -/
def Board.aged (b : Board) (age : Nat) : List Byte :=
  let r := Tbl.get CbRec.empty b.window ((b.head + 256 - age % 256) % 256)
  if r = CbRec.empty then List.replicate 64 0 else r.bytes

/-- CBD: the callboard's header and window (R694). -/
def State.cbdView (s : State) (d : DieId) (off : Nat) : Nat :=
  let b := (s.die d).board
  if off = 0x0 then b2n b.full * 2 ^ 31 + b.fill
  else if off = 0x4 then b.next
  else if off = 0x8 then b.lost
  else if off = 0xC then b.clears
  else if off = 0x10 then b.head
  else if off = 0x24 then s.obj 0x7806 0
  else if 0x100 ≤ off ∧ off < 0x140 then leAt (b.aged (s.get (CBD_WIN_SEL.age d))) (off - 0x100) 4
  else 0

/-- TST_QUEUE (R696). -/
def State.tstView (s : State) (off : Nat) : Nat :=
  if off = 0x4 then s.tests.queue.length * 256 + (match s.tests.running with
    | some (t, _) => t
    | none => 0)
  else 0

/-! ## Blocks of the Apron -/

/-- FLC: what the device selection of a chain shows (R397). -/
def State.flcView (s : State) (n off : Nat) : Nat :=
  let v := (s.chain n).dev (s.get (FLC_DEV_SEL.position n))
  if off = 0x54 then b2n v.valid * 2 ^ 31 + b2n v.checkError * 2 ^ 30 + v.word
  else if off = 0x58 then v.sent.getD 1 0 * 2 ^ 16 + v.sent.getD 0 0
  else if off = 0x5C then v.sent.getD 3 0 * 2 ^ 16 + v.sent.getD 2 0
  else 0

/-- ETH: the selected wake filter (R526). -/
def State.ethView (s : State) (e off : Nat) : Nat :=
  let w := Tbl.get (0, 0) (s.eth e).wake (s.get (ETH_WAKE_SEL.filter e))
  if 0x910 ≤ off ∧ off < 0x920 then w.1 / 2 ^ (8 * (off - 0x910)) % 2 ^ 32
  else if off = 0x920 then w.2
  else 0

/-- GHL: the mirror of the RTC and the theft watch (R98, R724). -/
def State.ghlView (s : State) (off : Nat) : Nat :=
  let t := s.theft
  if off = 0x0 then s.rtc.mirror % 2 ^ 32
  else if off = 0x4 then s.rtc.mirror / 2 ^ 32
  else if off = 0x148 then
    b2n t.running * 2 ^ 31 + b2n t.lapsed * 2 ^ 30 + b2n t.wrapped * 2 ^ 29 + t.next
  else if off = 0x14C then t.minutes
  else 0

/-- A transmission is on the air or on the line now. -/
def State.onAir (s : State) (tx : Nat × Nat) : Bool := decide (tx.1 ≤ s.now ∧ s.now < tx.2)

/-- What the fields of a register show beside the register file. -/
def State.extra (s : State) (b : Block) (off : Nat) : Nat :=
  match b with
  | .eps d => s.epsView d off
  | .cue d => s.cueView d off
  | .qcm d => s.qcmView d off
  | .twn d => s.twnView d off
  | .key _ => s.keyView off
  | .grn d => s.grnView d off
  | .cbd d => s.cbdView d off
  | .tst _ => s.tstView off
  | .flc n => s.flcView n off
  | .eth e => s.ethView e off
  | .ghl => s.ghlView off
  | .cyc =>
    if off = 0x8 then s.containerNow % 2 ^ 32 else if off = 0xC then s.containerNow / 2 ^ 32 else 0
  | .rad r =>
    if off = 0x20 then min (s.dutyUsed r) 65535 * 2 ^ 16 else if off = 0x34 then s.slotWord r
    else if off = 0x2C then b2n (s.onAir (s.radio r).tx) else 0
  | .plc p =>
    if off = 0xC then b2n (s.onAir (s.plc p).tx)
    else if off = 0x14 then Tbl.get 0 (s.plc p).plan (s.get (PLC_PLAN_ADDR.index p)) else 0
  | .mtr => if 0x100 ≤ off ∧ off < 0x100 + 480 then s.meter.window ((off - 0x100) / 4) else 0
  | .ptp => if off = 0x8 then s.ptpNs % 2 ^ 32 else if off = 0xC then s.ptpNs / 2 ^ 32 else 0
  | .hpt =>
    if off = 0x4 then (match s.holder with
      | some d => d.num
      | none => 2) * 16
    else 0
  | .mctl => 0
  | .icu d => s.icuView d off

/-- The register of a block at an offset: its row and its index in an array. -/
def Block.regAt (b : Block) (off : Nat) : Option RegDesc :=
  b.regs.find? fun r =>
    if r.count = 1 then decide (off = r.off)
    else decide (r.off ≤ off ∧ off < r.off + r.stride * r.count ∧ (off - r.off) % r.stride = 0)

/-- The stored word of a register. -/
def State.storedWord (s : State) (addr : Nat) (r : RegDesc) : Nat :=
  r.fields.foldl (fun w f => w + s.get ⟨addr, f.lo, f.hi + 1 - f.lo⟩ * 2 ^ f.lo) 0

/-- The word a register shows now, whatever its access code. -/
def State.wordAt (s : State) (b : Block) (off : Nat) : Nat :=
  match b.regAt off with
  | some r => s.storedWord (b.base + off) r + s.extra b off
  | none => 0

/-- The words of consecutive registers as octets. -/
def State.wordsAt (s : State) (b : Block) (off n : Nat) : List Byte :=
  (List.range n).flatMap fun i => leBytes 4 (s.wordAt b (off + 4 * i))

end Sys2Proof.Machine
end

