-- ==== Sys2Proof/Machine/Dict.lean ====
section
/-! DEFINITION. The object dictionary: every object with its sub-indices, type and access, as the object
tables of the chapters list them, and the checks a written value passes on receipt (R23, R24, R544). -/

namespace Sys2Proof.Machine

/-- The value types of R544; the integers by octets. -/
inductive OTy where
  | bool
  | uint (octets : Nat)
  | sint (octets : Nat)
  | f32
  | cstamp
  | epref
  | text
  | octets
  deriving DecidableEq, Repr

/-- The object access codes of R23. -/
inductive OAcc where
  | ro
  | rw
  | rwp
  | wo
  | wo1
  | rwl
  deriving DecidableEq, Repr

/-- Rows of an object table: indices and sub-indices from and to, type and access. -/
structure ObjRow where
  lo : Nat
  hi : Nat
  subLo : Nat
  subHi : Nat
  ty : OTy
  acc : OAcc
  deriving DecidableEq, Repr

def objRows0 : List ObjRow := [
  ⟨0x1000, 0x1000, 0, 0, .text, .ro⟩,
  ⟨0x1001, 0x1001, 0, 0, .text, .ro⟩,
  ⟨0x1002, 0x1002, 0, 0, .text, .ro⟩,
  ⟨0x1003, 0x1003, 0, 0, .uint 4, .ro⟩,
  ⟨0x1004, 0x1004, 0, 0, .uint 8, .ro⟩,
  ⟨0x1005, 0x1005, 0, 1, .octets, .ro⟩,
  ⟨0x1006, 0x1006, 0, 1, .uint 4, .ro⟩,
  ⟨0x1007, 0x1007, 0, 1, .uint 1, .ro⟩,
  ⟨0x1010, 0x1010, 0, 0, .uint 2, .ro⟩,
  ⟨0x1040, 0x1040, 0, 0, .uint 4, .wo⟩,
  ⟨0x1041, 0x1041, 0, 0, .octets, .ro⟩,
  ⟨0x1042, 0x1042, 0, 0, .uint 4, .wo⟩,
  ⟨0x1043, 0x1043, 0, 0, .uint 4, .ro⟩,
  ⟨0x1044, 0x1044, 0, 0, .uint 4, .ro⟩,
  ⟨0x1100, 0x1100, 0, 0, .uint 1, .rwp⟩,
  ⟨0x1101, 0x1101, 0, 0, .octets, .rwp⟩,
  ⟨0x1102, 0x1102, 0, 0, .octets, .rwp⟩,
  ⟨0x1103, 0x1103, 0, 0, .uint 2, .rwp⟩,
  ⟨0x1104, 0x1104, 0, 0, .uint 2, .rwp⟩,
  ⟨0x1105, 0x1105, 0, 0, .uint 1, .ro⟩,
  ⟨0x1106, 0x1106, 0, 0, .uint 4, .ro⟩,
  ⟨0x1107, 0x1107, 0, 0, .uint 4, .ro⟩,
  ⟨0x1108, 0x1108, 0, 0, .bool, .rwl⟩,
  ⟨0x1109, 0x1109, 0, 0, .bool, .rw⟩,
  ⟨0x110A, 0x110A, 0, 0, .uint 4, .ro⟩,
  ⟨0x110B, 0x110B, 0, 0, .octets, .ro⟩,
  ⟨0x110C, 0x110C, 0, 0, .uint 4, .ro⟩,
  ⟨0x110D, 0x110D, 0, 0, .uint 4, .ro⟩,
  ⟨0x110E, 0x110E, 0, 0, .octets, .rwp⟩,
  ⟨0x110F, 0x110F, 0, 0, .uint 4, .ro⟩,
  ⟨0x1200, 0x1200, 0, 0, .uint 2, .wo1⟩,
  ⟨0x1201, 0x1201, 0, 0, .uint 8, .wo1⟩,
  ⟨0x1202, 0x1202, 0, 0, .uint 1, .ro⟩,
  ⟨0x1203, 0x1203, 0, 0, .bool, .wo⟩,
  ⟨0x1204, 0x1204, 0, 0, .uint 2, .wo⟩,
  ⟨0x1208, 0x1208, 0, 0, .uint 2, .rw⟩,
  ⟨0x1209, 0x1209, 0, 0, .octets, .rwp⟩,
  ⟨0x1210, 0x1210, 0, 0, .octets, .wo⟩,
  ⟨0x1211, 0x1211, 0, 0, .octets, .ro⟩,
  ⟨0x1212, 0x1212, 0, 0, .octets, .ro⟩,
  ⟨0x1213, 0x1213, 0, 0, .uint 1, .ro⟩,
  ⟨0x1214, 0x1214, 0, 0, .bool, .wo⟩,
  ⟨0x1215, 0x1215, 0, 0, .uint 4, .ro⟩,
  ⟨0x2000, 0x2000, 0, 0, .cstamp, .ro⟩,
  ⟨0x2001, 0x2001, 0, 0, .uint 1, .ro⟩]

def objRows1 : List ObjRow := [
  ⟨0x2002, 0x2002, 0, 0, .uint 1, .rwp⟩,
  ⟨0x2003, 0x2003, 0, 0, .uint 1, .rwp⟩,
  ⟨0x2004, 0x2004, 0, 0, .uint 1, .rwp⟩,
  ⟨0x2005, 0x2005, 0, 0, .sint 2, .rwp⟩,
  ⟨0x2006, 0x2006, 0, 0, .uint 1, .rwp⟩,
  ⟨0x2007, 0x2007, 0, 0, .f32, .ro⟩,
  ⟨0x2008, 0x2008, 0, 0, .uint 4, .ro⟩,
  ⟨0x2009, 0x2009, 0, 0, .uint 4, .ro⟩,
  ⟨0x2010, 0x2010, 0, 0, .uint 8, .ro⟩,
  ⟨0x2011, 0x2011, 0, 0, .uint 4, .rwp⟩,
  ⟨0x2012, 0x2012, 0, 0, .sint 4, .ro⟩,
  ⟨0x2013, 0x2013, 0, 0, .uint 4, .ro⟩,
  ⟨0x2020, 0x2020, 0, 0, .uint 4, .ro⟩,
  ⟨0x2021, 0x2021, 0, 0, .uint 4, .ro⟩,
  ⟨0x2040, 0x2040, 0, 0, .uint 8, .ro⟩,
  ⟨0x2041, 0x2041, 0, 0, .uint 8, .wo⟩,
  ⟨0x2042, 0x2042, 0, 0, .bool, .ro⟩,
  ⟨0x2043, 0x2043, 0, 0, .sint 2, .rwp⟩,
  ⟨0x2044, 0x2044, 0, 0, .bool, .rwp⟩,
  ⟨0x2045, 0x2045, 0, 0, .bool, .rwp⟩,
  ⟨0x2046, 0x2046, 0, 0, .uint 4, .rwp⟩,
  ⟨0x20C0, 0x20C0, 0, 0, .bool, .rwp⟩,
  ⟨0x20C1, 0x20C1, 0, 0, .uint 1, .rwp⟩,
  ⟨0x20C2, 0x20C2, 0, 0, .uint 1, .rwp⟩,
  ⟨0x20C3, 0x20C3, 0, 0, .uint 1, .rwp⟩,
  ⟨0x20C4, 0x20C4, 0, 0, .bool, .rwp⟩,
  ⟨0x20C5, 0x20C5, 0, 0, .uint 1, .rwp⟩,
  ⟨0x20C6, 0x20C6, 0, 0, .uint 1, .rwp⟩,
  ⟨0x20C7, 0x20C7, 0, 0, .octets, .rwp⟩,
  ⟨0x20C8, 0x20C8, 0, 0, .uint 4, .rwp⟩,
  ⟨0x20C9, 0x20C9, 0, 0, .bool, .wo⟩,
  ⟨0x20CA, 0x20CA, 0, 0, .uint 2, .rwp⟩,
  ⟨0x20CB, 0x20CB, 0, 0, .uint 2, .rwp⟩,
  ⟨0x20CC, 0x20CC, 0, 0, .octets, .rwp⟩,
  ⟨0x20D0, 0x20D0, 0, 0, .uint 1, .ro⟩,
  ⟨0x20D1, 0x20D1, 0, 0, .bool, .ro⟩,
  ⟨0x20D2, 0x20D2, 0, 0, .sint 8, .ro⟩,
  ⟨0x20D3, 0x20D3, 0, 0, .sint 4, .ro⟩,
  ⟨0x20D4, 0x20D4, 0, 0, .uint 4, .ro⟩,
  ⟨0x20D5, 0x20D5, 0, 0, .uint 4, .ro⟩,
  ⟨0x20D6, 0x20D6, 0, 0, .sint 8, .ro⟩,
  ⟨0x20D7, 0x20D7, 0, 0, .uint 4, .ro⟩,
  ⟨0x20D8, 0x20D8, 0, 0, .octets, .ro⟩,
  ⟨0x20D9, 0x20D9, 0, 0, .sint 2, .ro⟩,
  ⟨0x2100, 0x2100, 0, 0, .uint 1, .ro⟩]

def objRows2 : List ObjRow := [
  ⟨0x2101, 0x2101, 0, 1, .uint 1, .ro⟩,
  ⟨0x2102, 0x2102, 0, 0, .bool, .rwp⟩,
  ⟨0x2103, 0x2103, 0, 0, .uint 1, .wo⟩,
  ⟨0x2104, 0x2104, 0, 1, .bool, .wo⟩,
  ⟨0x2105, 0x2105, 0, 0, .uint 2, .rwp⟩,
  ⟨0x2106, 0x2106, 0, 0, .uint 4, .ro⟩,
  ⟨0x2108, 0x2108, 0, 0, .uint 4, .ro⟩,
  ⟨0x2109, 0x2109, 0, 0, .octets, .ro⟩,
  ⟨0x210A, 0x210A, 0, 0, .uint 4, .ro⟩,
  ⟨0x210B, 0x210B, 0, 0, .uint 4, .ro⟩,
  ⟨0x210C, 0x210C, 0, 0, .octets, .ro⟩,
  ⟨0x210D, 0x210D, 0, 0, .uint 4, .ro⟩,
  ⟨0x210E, 0x210E, 0, 0, .uint 4, .ro⟩,
  ⟨0x210F, 0x210F, 0, 0, .uint 4, .ro⟩,
  ⟨0x2110, 0x2110, 0, 0, .uint 1, .ro⟩,
  ⟨0x3000, 0x3000, 0, 0, .uint 4, .ro⟩,
  ⟨0x3001, 0x3001, 0, 0, .uint 1, .rwp⟩,
  ⟨0x3002, 0x3002, 0, 0, .bool, .rwp⟩,
  ⟨0x3003, 0x3003, 0, 0, .uint 4, .ro⟩,
  ⟨0x3004, 0x3004, 0, 3, .uint 2, .ro⟩,
  ⟨0x3005, 0x3005, 0, 0, .uint 4, .ro⟩,
  ⟨0x3006, 0x3006, 0, 0, .uint 4, .ro⟩,
  ⟨0x3007, 0x3007, 0, 0, .uint 4, .ro⟩,
  ⟨0x3008, 0x3008, 0, 255, .uint 2, .ro⟩,
  ⟨0x3009, 0x3009, 0, 0, .uint 2, .ro⟩,
  ⟨0x300A, 0x300A, 0, 0, .uint 4, .ro⟩,
  ⟨0x4000, 0x4000, 0, 0, .uint 1, .rwp⟩,
  ⟨0x4001, 0x4001, 0, 0, .bool, .rwp⟩,
  ⟨0x4002, 0x4002, 0, 0, .uint 1, .rwp⟩,
  ⟨0x4003, 0x4003, 0, 0, .uint 2, .rwp⟩,
  ⟨0x4008, 0x4008, 0, 0, .uint 4, .ro⟩,
  ⟨0x4009, 0x4009, 0, 0, .uint 4, .ro⟩,
  ⟨0x400A, 0x400A, 0, 0, .uint 4, .ro⟩,
  ⟨0x400B, 0x400B, 0, 0, .uint 4, .ro⟩,
  ⟨0x400C, 0x400C, 0, 0, .uint 4, .ro⟩,
  ⟨0x400D, 0x400D, 0, 0, .uint 4, .ro⟩,
  ⟨0x4010, 0x4010, 0, 0, .uint 2, .rwp⟩,
  ⟨0x4011, 0x4011, 0, 5, .uint 4, .rwp⟩,
  ⟨0x4012, 0x4012, 0, 5, .sint 4, .rwp⟩,
  ⟨0x4013, 0x4013, 0, 0, .uint 1, .rwp⟩,
  ⟨0x4014, 0x4014, 0, 5, .sint 4, .ro⟩,
  ⟨0x4015, 0x4015, 0, 5, .uint 1, .ro⟩,
  ⟨0x4016, 0x4016, 0, 5, .sint 4, .ro⟩,
  ⟨0x4017, 0x4017, 0, 5, .uint 4, .ro⟩,
  ⟨0x4100, 0x41FF, 0, 0, .uint 1, .ro⟩]

def objRows3 : List ObjRow := [
  ⟨0x4100, 0x41FF, 1, 1, .uint 2, .rwp⟩,
  ⟨0x4100, 0x41FF, 2, 2, .uint 2, .rwp⟩,
  ⟨0x4100, 0x41FF, 3, 3, .uint 2, .rwp⟩,
  ⟨0x4100, 0x41FF, 4, 4, .uint 2, .rwp⟩,
  ⟨0x4100, 0x41FF, 5, 5, .uint 2, .rwp⟩,
  ⟨0x4100, 0x41FF, 6, 6, .uint 2, .rwp⟩,
  ⟨0x4100, 0x41FF, 7, 7, .uint 2, .rwp⟩,
  ⟨0x4100, 0x41FF, 8, 8, .uint 2, .rwp⟩,
  ⟨0x4100, 0x41FF, 9, 9, .uint 2, .rwp⟩,
  ⟨0x4100, 0x41FF, 10, 10, .uint 2, .rwp⟩,
  ⟨0x4100, 0x41FF, 11, 11, .uint 2, .rwp⟩,
  ⟨0x4100, 0x41FF, 12, 12, .uint 1, .rwp⟩,
  ⟨0x4100, 0x41FF, 13, 13, .uint 4, .rwp⟩,
  ⟨0x4200, 0x420E, 0, 0, .uint 1, .ro⟩,
  ⟨0x4200, 0x420E, 1, 8, .uint 4, .rwp⟩,
  ⟨0x4210, 0x4210, 0, 0, .uint 2, .rw⟩,
  ⟨0x4211, 0x4211, 0, 0, .octets, .rwp⟩,
  ⟨0x4212, 0x4212, 0, 0, .octets, .ro⟩,
  ⟨0x4300, 0x4300, 0, 0, .uint 2, .rw⟩,
  ⟨0x4301, 0x4301, 0, 0, .octets, .rwp⟩,
  ⟨0x4302, 0x4302, 1, 1, .uint 4, .ro⟩,
  ⟨0x4302, 0x4302, 2, 2, .uint 4, .ro⟩,
  ⟨0x4302, 0x4302, 3, 3, .uint 4, .ro⟩,
  ⟨0x4302, 0x4302, 4, 4, .uint 4, .ro⟩,
  ⟨0x4302, 0x4302, 5, 5, .uint 8, .ro⟩,
  ⟨0x4302, 0x4302, 6, 6, .uint 2, .ro⟩,
  ⟨0x4302, 0x4302, 7, 7, .uint 4, .ro⟩,
  ⟨0x4400, 0x4400, 0, 0, .uint 1, .ro⟩,
  ⟨0x4401, 0x4401, 0, 0, .uint 4, .ro⟩,
  ⟨0x4402, 0x4402, 0, 0, .uint 4, .wo⟩,
  ⟨0x4403, 0x4403, 0, 0, .uint 1, .ro⟩,
  ⟨0x4410, 0x4410, 0, 0, .uint 2, .rw⟩,
  ⟨0x4411, 0x4411, 1, 1, .octets, .rw⟩,
  ⟨0x4411, 0x4411, 2, 2, .octets, .ro⟩,
  ⟨0x4412, 0x4412, 0, 0, .uint 2, .rw⟩,
  ⟨0x4413, 0x4413, 1, 1, .octets, .rw⟩,
  ⟨0x4413, 0x4413, 2, 2, .octets, .ro⟩,
  ⟨0x4414, 0x4414, 0, 0, .uint 2, .rw⟩,
  ⟨0x4415, 0x4415, 1, 1, .octets, .rw⟩,
  ⟨0x4415, 0x4415, 2, 2, .octets, .ro⟩,
  ⟨0x4416, 0x4416, 0, 0, .uint 8, .ro⟩,
  ⟨0x4420, 0x4420, 0, 0, .octets, .wo⟩,
  ⟨0x4421, 0x4421, 0, 0, .uint 4, .ro⟩,
  ⟨0x4422, 0x4422, 0, 0, .octets, .wo⟩,
  ⟨0x4423, 0x4423, 0, 0, .uint 4, .ro⟩]

def objRows4 : List ObjRow := [
  ⟨0x4424, 0x4424, 0, 0, .uint 4, .ro⟩,
  ⟨0x4425, 0x4425, 0, 0, .uint 4, .ro⟩,
  ⟨0x4430, 0x4430, 0, 0, .sint 4, .rwp⟩,
  ⟨0x4431, 0x4431, 0, 0, .sint 4, .rwp⟩,
  ⟨0x4432, 0x4432, 0, 0, .sint 2, .rwp⟩,
  ⟨0x4433, 0x4433, 0, 0, .sint 4, .rwp⟩,
  ⟨0x4434, 0x4434, 0, 0, .octets, .rwp⟩,
  ⟨0x4440, 0x4440, 0, 0, .uint 1, .ro⟩,
  ⟨0x4441, 0x4441, 0, 0, .uint 2, .ro⟩,
  ⟨0x4442, 0x4442, 0, 0, .uint 4, .ro⟩,
  ⟨0x4443, 0x4443, 0, 0, .uint 4, .ro⟩,
  ⟨0x4444, 0x4444, 0, 0, .uint 4, .ro⟩,
  ⟨0x4445, 0x4445, 0, 0, .uint 4, .ro⟩,
  ⟨0x4446, 0x4446, 0, 0, .uint 4, .ro⟩,
  ⟨0x4447, 0x4447, 0, 0, .uint 4, .ro⟩,
  ⟨0x4448, 0x4448, 0, 0, .uint 4, .ro⟩,
  ⟨0x4449, 0x4449, 0, 0, .uint 4, .ro⟩,
  ⟨0x4450, 0x4450, 0, 15, .octets, .ro⟩,
  ⟨0x5000, 0x5000, 0, 3, .bool, .rwp⟩,
  ⟨0x5001, 0x5001, 0, 3, .uint 1, .rwp⟩,
  ⟨0x5002, 0x5002, 0, 3, .uint 1, .rwp⟩,
  ⟨0x5003, 0x5003, 0, 3, .uint 1, .rwp⟩,
  ⟨0x5004, 0x5004, 0, 3, .uint 1, .rwp⟩,
  ⟨0x5005, 0x5005, 0, 3, .octets, .rwp⟩,
  ⟨0x5006, 0x5006, 0, 3, .uint 2, .rwp⟩,
  ⟨0x5008, 0x5008, 0, 0, .uint 2, .rwp⟩,
  ⟨0x5009, 0x5009, 0, 0, .uint 1, .rwp⟩,
  ⟨0x500A, 0x500A, 0, 0, .uint 1, .rwp⟩,
  ⟨0x500B, 0x500B, 0, 0, .uint 1, .rwp⟩,
  ⟨0x500C, 0x500C, 0, 0, .bool, .rw⟩,
  ⟨0x500D, 0x500D, 0, 0, .uint 4, .ro⟩,
  ⟨0x5010, 0x5010, 0, 0, .uint 2, .rw⟩,
  ⟨0x5011, 0x5011, 1, 1, .uint 4, .rw⟩,
  ⟨0x5011, 0x5011, 2, 2, .uint 4, .ro⟩,
  ⟨0x5012, 0x5012, 0, 3, .uint 1, .wo⟩,
  ⟨0x5013, 0x5013, 0, 3, .uint 2, .ro⟩,
  ⟨0x5020, 0x5020, 0, 0, .uint 2, .rw⟩,
  ⟨0x5021, 0x5021, 0, 0, .octets, .ro⟩,
  ⟨0x5022, 0x5022, 0, 0, .octets, .rwp⟩,
  ⟨0x5023, 0x5023, 0, 0, .octets, .ro⟩,
  ⟨0x5024, 0x5024, 0, 0, .bool, .wo⟩,
  ⟨0x5030, 0x5030, 0, 3, .octets, .ro⟩,
  ⟨0x5400, 0x5400, 0, 1, .bool, .rwp⟩,
  ⟨0x5401, 0x5401, 0, 1, .uint 1, .rwp⟩,
  ⟨0x5402, 0x5402, 0, 1, .uint 1, .rwp⟩]

def objRows5 : List ObjRow := [
  ⟨0x5403, 0x5403, 0, 1, .uint 1, .rwp⟩,
  ⟨0x5404, 0x5404, 0, 0, .bool, .rwp⟩,
  ⟨0x5405, 0x5405, 0, 0, .uint 1, .rwp⟩,
  ⟨0x5406, 0x5406, 0, 0, .bool, .rw⟩,
  ⟨0x5408, 0x5408, 0, 1, .octets, .ro⟩,
  ⟨0x5410, 0x5410, 0, 0, .uint 2, .rw⟩,
  ⟨0x5411, 0x5411, 0, 0, .uint 4, .ro⟩,
  ⟨0x5412, 0x5412, 0, 1, .uint 1, .ro⟩,
  ⟨0x5800, 0x5800, 0, 15, .bool, .rwp⟩,
  ⟨0x5801, 0x5801, 0, 15, .uint 2, .rwp⟩,
  ⟨0x5802, 0x5802, 0, 15, .uint 1, .rwp⟩,
  ⟨0x5803, 0x5803, 0, 15, .bool, .rwp⟩,
  ⟨0x5804, 0x5804, 0, 15, .bool, .rwp⟩,
  ⟨0x5805, 0x5805, 0, 15, .sint 2, .rwp⟩,
  ⟨0x5806, 0x5806, 0, 15, .octets, .rwp⟩,
  ⟨0x5807, 0x5807, 0, 15, .sint 2, .rwp⟩,
  ⟨0x5808, 0x5808, 0, 15, .bool, .wo⟩,
  ⟨0x5809, 0x5809, 0, 15, .uint 2, .ro⟩,
  ⟨0x580A, 0x580A, 0, 15, .octets, .ro⟩,
  ⟨0x5810, 0x5810, 0, 0, .uint 2, .rw⟩,
  ⟨0x5811, 0x5811, 0, 0, .octets, .ro⟩,
  ⟨0x6000, 0x6000, 0, 0, .bool, .rwp⟩,
  ⟨0x6001, 0x6001, 0, 5, .bool, .rwp⟩,
  ⟨0x6002, 0x6002, 0, 21, .f32, .rwp⟩,
  ⟨0x6003, 0x6003, 0, 17, .bool, .rwp⟩,
  ⟨0x6004, 0x6004, 0, 17, .bool, .rwp⟩,
  ⟨0x6005, 0x6005, 0, 21, .uint 4, .ro⟩,
  ⟨0x6006, 0x6006, 0, 21, .uint 4, .rwp⟩,
  ⟨0x6007, 0x6007, 0, 17, .sint 2, .rwp⟩,
  ⟨0x6008, 0x6008, 0, 0, .uint 2, .rwp⟩,
  ⟨0x6009, 0x6009, 0, 0, .uint 1, .wo⟩,
  ⟨0x600A, 0x600A, 0, 0, .uint 2, .rwp⟩,
  ⟨0x6010, 0x6010, 0, 0, .uint 1, .rw⟩,
  ⟨0x6011, 0x6011, 0, 0, .octets, .ro⟩,
  ⟨0x6020, 0x6020, 0, 5, .octets, .ro⟩,
  ⟨0x6021, 0x6021, 0, 5, .octets, .ro⟩,
  ⟨0x6022, 0x6022, 0, 5, .uint 8, .ro⟩,
  ⟨0x6030, 0x6030, 0, 7, .octets, .rwp⟩,
  ⟨0x6031, 0x6031, 0, 7, .uint 4, .ro⟩,
  ⟨0x6040, 0x6040, 0, 0, .uint 1, .wo⟩,
  ⟨0x6041, 0x6041, 0, 0, .octets, .ro⟩,
  ⟨0x6050, 0x6050, 0, 0, .uint 2, .rwp⟩,
  ⟨0x6051, 0x6051, 0, 0, .uint 4, .rw⟩,
  ⟨0x6052, 0x6052, 0, 0, .octets, .ro⟩,
  ⟨0x6053, 0x6053, 0, 0, .uint 4, .ro⟩]

def objRows6 : List ObjRow := [
  ⟨0x6060, 0x6060, 0, 0, .bool, .rwp⟩,
  ⟨0x6061, 0x6061, 0, 2, .uint 1, .rwp⟩,
  ⟨0x6062, 0x6062, 0, 0, .uint 4, .rwp⟩,
  ⟨0x6063, 0x6063, 0, 0, .uint 2, .rw⟩,
  ⟨0x6064, 0x6064, 0, 0, .octets, .ro⟩,
  ⟨0x6065, 0x6065, 0, 0, .bool, .wo⟩,
  ⟨0x6070, 0x6070, 0, 0, .uint 4, .ro⟩,
  ⟨0x6071, 0x6071, 0, 0, .uint 4, .ro⟩,
  ⟨0x6400, 0x6400, 0, 1, .bool, .rwp⟩,
  ⟨0x6401, 0x6401, 0, 0, .uint 1, .rwp⟩,
  ⟨0x6402, 0x6402, 0, 0, .bool, .rwp⟩,
  ⟨0x6403, 0x6403, 0, 0, .uint 1, .ro⟩,
  ⟨0x6404, 0x6404, 0, 0, .uint 4, .ro⟩,
  ⟨0x6405, 0x6405, 0, 2, .uint 2, .rwp⟩,
  ⟨0x6406, 0x6406, 0, 2, .bool, .rwp⟩,
  ⟨0x6407, 0x6407, 0, 0, .octets, .rwp⟩,
  ⟨0x6408, 0x6408, 0, 2, .bool, .rwp⟩,
  ⟨0x6409, 0x6409, 0, 2, .bool, .rwp⟩,
  ⟨0x640A, 0x640A, 0, 2, .octets, .rwp⟩,
  ⟨0x640B, 0x640B, 0, 2, .uint 2, .rwp⟩,
  ⟨0x640C, 0x640C, 0, 1, .bool, .rwp⟩,
  ⟨0x6410, 0x6410, 0, 1, .bool, .rwp⟩,
  ⟨0x6411, 0x6411, 0, 1, .octets, .rwp⟩,
  ⟨0x6412, 0x6412, 0, 1, .bool, .wo⟩,
  ⟨0x6413, 0x6413, 0, 1, .octets, .ro⟩,
  ⟨0x6414, 0x6414, 0, 1, .uint 1, .ro⟩,
  ⟨0x6418, 0x6418, 0, 7, .octets, .rwp⟩,
  ⟨0x6420, 0x6420, 0, 2, .octets, .ro⟩,
  ⟨0x6430, 0x6430, 0, 0, .bool, .rwp⟩,
  ⟨0x7000, 0x7000, 0, 15, .octets, .ro⟩,
  ⟨0x7001, 0x7001, 0, 0, .octets, .wo1⟩,
  ⟨0x7002, 0x7002, 0, 0, .octets, .ro⟩,
  ⟨0x7003, 0x7003, 0, 0, .octets, .ro⟩,
  ⟨0x7004, 0x7004, 0, 0, .octets, .rw⟩,
  ⟨0x7010, 0x7010, 0, 0, .octets, .wo⟩,
  ⟨0x7011, 0x7011, 0, 0, .uint 4, .ro⟩,
  ⟨0x7012, 0x7012, 0, 0, .bool, .wo⟩,
  ⟨0x7013, 0x7013, 0, 0, .uint 1, .wo⟩,
  ⟨0x7018, 0x7018, 0, 0, .bool, .wo⟩,
  ⟨0x7019, 0x7019, 0, 0, .uint 4, .rwp⟩,
  ⟨0x701A, 0x701A, 0, 0, .uint 2, .rwp⟩,
  ⟨0x701B, 0x701B, 0, 0, .octets, .ro⟩,
  ⟨0x701C, 0x701C, 0, 0, .bool, .wo⟩,
  ⟨0x7020, 0x7020, 0, 0, .octets, .wo⟩,
  ⟨0x7021, 0x7021, 0, 0, .octets, .ro⟩]

def objRows7 : List ObjRow := [
  ⟨0x7030, 0x7030, 0, 0, .octets, .ro⟩,
  ⟨0x7031, 0x7031, 0, 0, .uint 2, .wo⟩,
  ⟨0x7032, 0x7032, 0, 0, .uint 1, .rwp⟩,
  ⟨0x7033, 0x7033, 0, 0, .uint 1, .rwp⟩,
  ⟨0x7034, 0x7034, 0, 0, .bool, .rwp⟩,
  ⟨0x7035, 0x7035, 0, 0, .uint 4, .ro⟩,
  ⟨0x7040, 0x7040, 0, 0, .uint 4, .ro⟩,
  ⟨0x7041, 0x7041, 0, 0, .uint 4, .ro⟩,
  ⟨0x7042, 0x7042, 0, 0, .uint 4, .ro⟩,
  ⟨0x7400, 0x7400, 0, 1, .octets, .ro⟩,
  ⟨0x7401, 0x7401, 0, 0, .octets, .wo⟩,
  ⟨0x7402, 0x7402, 0, 0, .octets, .wo⟩,
  ⟨0x7403, 0x7403, 0, 0, .bool, .wo⟩,
  ⟨0x7404, 0x7404, 0, 0, .octets, .ro⟩,
  ⟨0x7405, 0x7405, 0, 0, .octets, .ro⟩,
  ⟨0x7406, 0x7406, 0, 0, .octets, .wo⟩,
  ⟨0x7407, 0x7407, 0, 0, .bool, .rwp⟩,
  ⟨0x7410, 0x7410, 0, 0, .octets, .wo⟩,
  ⟨0x7411, 0x7411, 0, 0, .octets, .ro⟩,
  ⟨0x7412, 0x7412, 0, 0, .uint 2, .rwp⟩,
  ⟨0x7413, 0x7413, 0, 0, .uint 4, .rwp⟩,
  ⟨0x7414, 0x7414, 0, 0, .bool, .wo⟩,
  ⟨0x7415, 0x7415, 0, 0, .bool, .wo⟩,
  ⟨0x7416, 0x7416, 0, 0, .uint 4, .ro⟩,
  ⟨0x7420, 0x7420, 0, 7, .octets, .ro⟩,
  ⟨0x7421, 0x7421, 0, 0, .octets, .wo⟩,
  ⟨0x7422, 0x7422, 0, 0, .octets, .ro⟩,
  ⟨0x7423, 0x7423, 0, 0, .octets, .wo⟩,
  ⟨0x7424, 0x7424, 0, 0, .uint 2, .ro⟩,
  ⟨0x7430, 0x7430, 0, 0, .uint 4, .ro⟩,
  ⟨0x7800, 0x7800, 0, 0, .octets, .ro⟩,
  ⟨0x7801, 0x7801, 0, 0, .uint 4, .wo⟩,
  ⟨0x7802, 0x7802, 0, 0, .uint 4, .rw⟩,
  ⟨0x7803, 0x7803, 0, 0, .octets, .ro⟩,
  ⟨0x7804, 0x7804, 0, 0, .uint 1, .rw⟩,
  ⟨0x7805, 0x7805, 0, 0, .octets, .ro⟩,
  ⟨0x7806, 0x7806, 0, 0, .uint 4, .rwp⟩,
  ⟨0x7810, 0x7810, 0, 0, .octets, .wo⟩,
  ⟨0x7811, 0x7811, 0, 0, .octets, .ro⟩,
  ⟨0x7812, 0x7812, 0, 0, .octets, .ro⟩,
  ⟨0x7813, 0x7813, 0, 0, .octets, .ro⟩,
  ⟨0x7814, 0x7814, 0, 0, .uint 2, .rwp⟩,
  ⟨0x7815, 0x7815, 0, 0, .uint 2, .rwp⟩,
  ⟨0x7816, 0x7816, 0, 0, .uint 4, .ro⟩,
  ⟨0x7820, 0x7820, 0, 0, .uint 2, .wo⟩]

def objRows8 : List ObjRow := [
  ⟨0x7821, 0x7821, 0, 0, .uint 1, .ro⟩,
  ⟨0x7C00, 0x7C00, 0, 0, .octets, .ro⟩,
  ⟨0x7C01, 0x7C01, 0, 0, .uint 1, .rwp⟩,
  ⟨0x7C02, 0x7C02, 0, 0, .uint 2, .rwp⟩,
  ⟨0x7C03, 0x7C03, 0, 0, .octets, .ro⟩,
  ⟨0x7C04, 0x7C04, 0, 0, .uint 4, .ro⟩,
  ⟨0x7C05, 0x7C05, 0, 0, .bool, .ro⟩,
  ⟨0x7C06, 0x7C06, 0, 0, .uint 4, .ro⟩,
  ⟨0x7C07, 0x7C07, 0, 0, .uint 4, .ro⟩,
  ⟨0x7C10, 0x7C10, 0, 0, .uint 2, .wo⟩]

/-- The object tables of the chapters, in index order. -/
def objRows : List ObjRow := objRows0 ++ objRows1 ++ objRows2 ++ objRows3 ++ objRows4 ++ objRows5 ++ objRows6 ++ objRows7 ++ objRows8

/-- The row of an object's sub-index; none where the index or the sub-index is unassigned (R24). -/
def objRow (idx sub : Nat) : Option ObjRow :=
  objRows.find? fun r => decide (r.lo ≤ idx ∧ idx ≤ r.hi ∧ r.subLo ≤ sub ∧ sub ≤ r.subHi)

/-! ## Encodings (R544) -/

/-- The lengths a value of an octet-string object may have. -/
def octetsOk (idx : Nat) (b : List Byte) : Bool :=
  let n := b.length
  let fixed : List (Nat × Nat) := [(0x1101, 17), (0x1102, 16), (0x110E, 16), (0x1209, 16), (0x20C7, 4),
    (0x20CC, 4), (0x4211, 52), (0x4301, 32), (0x4411, 8), (0x4415, 32), (0x4420, 32), (0x4422, 64),
    (0x4434, 256), (0x5005, 17), (0x5022, 5), (0x5806, 8), (0x6030, 8), (0x6407, 8), (0x640A, 4),
    (0x6418, 20), (0x7001, 97), (0x7020, 20), (0x7401, 260), (0x7406, 96), (0x7410, 16), (0x7421, 4),
    (0x7423, 8), (0x7810, 4)]
  match fixed.find? fun x => decide (x.1 = idx) with
  | some x => decide (n = x.2)
  | none =>
    if idx = 0x4413 then decide (16 ≤ n ∧ n ≤ 256 ∧ n % 16 = 0)
    else if idx = 0x6411 then decide (16 ≤ n ∧ n % 4 = 0)
    else if idx = 0x7004 then decide (n ≤ 1024)
    else if idx = 0x7010 then decide (0x6B ≤ n)
    else if idx = 0x7402 then decide (5 ≤ n ∧ n ≤ 1028)
    else if idx = 0x1210 then decide (20 ≤ n)
    else true

/-- R544: the octets are a value of the type. -/
def typeOk (r : ObjRow) (idx : Nat) (b : List Byte) : Bool :=
  let v := leNat b
  match r.ty with
  | .bool => decide (b.length = 1 ∧ v ≤ 1)
  | .uint n => decide (b.length = n)
  | .sint n => decide (b.length = n)
  | .f32 => decide (b.length = 4 ∧ v / 2 ^ 23 % 256 ≠ 255)
  | .cstamp => decide (b.length = 8 ∧ v / 2 ^ 58 % 32 = 0)
  | .epref => decide (b.length = 8 ∧ v < 2 ^ 34)
  | .text => decide (b.length ≤ 64)
  | .octets => octetsOk idx b

/-- The number a value stands for. -/
def objInt (r : ObjRow) (b : List Byte) : Int :=
  match r.ty with
  | .sint n => signed (8 * n) (leNat b)
  | _ => leNat b

/-! ## Ranges on receipt (R114, R115, R154, R199, R242, R334, R365, R400, R442, R492, R533, R579, R647, R673, R699, R727) -/

/-- The stated range of a numeric object. -/
def objRanges : List (Nat × Int × Int) := [
  (0x1100, 0, 1), (0x1103, 1024, 65535), (0x1104, 10, 3600), (0x1109, 1, 1), (0x1200, 0, 16383),
  (0x1201, 1, 2 ^ 64 - 1), (0x1208, 0, 16383),
  (0x2002, 0, 2), (0x2003, 20, 64), (0x2004, 4, 64), (0x2041, 0, 2 ^ 33 - 1), (0x20C1, 0, 127),
  (0x20C2, 0, 1), (0x20C3, 0, 1), (0x20C8, 10001, 1000000000), (0x20CA, 1, 65535), (0x20CB, 1, 3600),
  (0x2103, 0, 1), (0x2105, 600, 30000), (0x3001, 4, 64),
  (0x4000, 200, 255), (0x4002, 1, 255), (0x4003, 1, 32768), (0x4010, 10, 3600), (0x4013, 1, 60),
  (0x4300, 0, 1023), (0x4410, 0, 4095), (0x4414, 0, 16383),
  (0x4430, -90000000, 90000000), (0x4431, -180000000, 180000000), (0x4433, -64800, 64800),
  (0x5001, 0, 3), (0x5002, 1, 6), (0x5003, 0, 20), (0x5004, 4, 16), (0x5006, 1, 1000),
  (0x5008, 128, 512), (0x5009, 0, 160), (0x500A, 0, 7), (0x500B, 1, 7), (0x5010, 0, 2047),
  (0x5401, 0, 1), (0x5402, 0, 3), (0x5403, 0, 60), (0x5405, 0, 7), (0x5410, 0, 511),
  (0x5801, 0, 512), (0x5802, 8, 16), (0x5810, 0, 8191)] ++ [
  (0x6006, 0x00800000, 0x02000000), (0x6009, 0, 21), (0x600A, 1, 3000), (0x6010, 0, 21),
  (0x6040, 0, 21), (0x6061, 0, 17), (0x6062, 100, 1000000), (0x6063, 0, 252),
  (0x6401, 0, 1), (0x6405, 0, 4094),
  (0x7019, 600, 604800), (0x701A, 0, 3650), (0x7032, 0, 0x1F), (0x7033, 0, 0x0F),
  (0x7412, 1, 720), (0x7413, 60, 86400),
  (0x7802, 0, 262143), (0x7806, 1024, 262143), (0x7814, 0, 720), (0x7815, 256, 65535),
  (0x7C01, 0, 1), (0x7C02, 2000, 3000)]

/-- An F32 ratio lies from 0.001 to 1,000,000 (object 0x6002). -/
def ratioOk (v : Nat) : Bool :=
  decide (v / 2 ^ 31 = 0 ∧ 2 ^ 149 ≤ f32Scaled v * 1000 ∧ f32Scaled v ≤ 1000000 * 2 ^ 149)

/-- R242: the used entries of an offset-change table rise in TAI. -/
def offsetsRise (b : List Byte) : Bool :=
  let ts := ((List.range 16).map fun i => leAt b (16 * i) 8).filter fun t => decide (t ≠ 0)
  (ts.zip (ts.drop 1)).all fun x => decide (x.1 < x.2)

/-- The range of an octet-string object. -/
def octetsRange (idx : Nat) (b : List Byte) : Bool :=
  let o := fun (k : Nat) => leAt b k 1
  if idx = 0x1101 then decide (1 ≤ o 16 ∧ o 16 ≤ 128)
  else if idx = 0x20C7 then
    ([0, 1, 3] : List Nat).all (fun k => decide (-4 ≤ signed 8 (o k) ∧ signed 8 (o k) ≤ 4)) &&
      decide (2 ≤ o 2 ∧ o 2 ≤ 10)
  else if idx = 0x4434 then offsetsRise b
  else if idx = 0x5022 then decide (1 ≤ o 0 ∧ o 0 ≤ 64 ∧ 1 ≤ o 1 ∧ o 1 ≤ 16)
  else if idx = 0x5005 then decide (1 ≤ o 0 ∧ o 0 ≤ 16)
  else if idx = 0x6030 then
    decide (o 0 ≤ 1 ∧ o 1 ≤ 5 ∧ o 2 ≤ 3 ∧ o 3 ≤ 4 ∧ 1 ≤ leAt b 4 3 ∧ leAt b 4 3 ≤ 100000 ∧
      1 ≤ o 7 ∧ o 7 ≤ 100)
  else if idx = 0x6407 then (List.range 8).all fun k => decide (o k ≤ 7)
  else if idx = 0x640A then decide (leAt b 2 2 < leAt b 0 2 ∧ leAt b 0 2 ≤ 500)
  else if idx = 0x6411 then decide (1 ≤ o 12 ∧ o 12 ≤ 64 ∧ b.length = 16 + 4 * o 12)
  else true

/-- A value lies in the range its object states. -/
def rangeOk (r : ObjRow) (idx : Nat) (b : List Byte) : Bool :=
  let v := objInt r b
  let n := leNat b
  if r.ty = .octets then octetsRange idx b
  else match objRanges.find? fun x => decide (x.1 = idx) with
    | some x => decide (x.2.1 ≤ v ∧ v ≤ x.2.2)
    | none =>
      if idx = 0x2006 then decide (n = 50 ∨ n = 60)
      else if idx = 0x4210 then decide (n % 256 ≠ 255)
      else if idx = 0x6002 then ratioOk n
      else if idx = 0x6050 then ([60, 300, 600, 900, 1800, 3600] : List Nat).contains n
      else if idx = 0x7013 then ([4, 5, 6, 7, 8, 10, 13] : List Nat).contains n
      else true

/-! ## Default values -/

/-- The default channels of radios 0 to 3 (object 0x5005). -/
def channelDefault (part : Part) (r : Nat) : Nat :=
  match part with
  | .e8 => ([2, 10, 18, 26] : List Nat).getD r 0
  | .u9 => ([8, 24, 40, 56] : List Nat).getD r 0

/-- Defaults other than 0 of numeric objects, by index. -/
def objDefaults : List (Nat × Nat) := [
  (0x1103, 47820), (0x1104, 300), (0x1108, 1), (0x2003, 24), (0x2004, 16), (0x2006, 50),
  (0x2011, 100000), (0x2044, 1), (0x2046, 1000), (0x20C0, 1), (0x20C5, 255), (0x20C6, 255),
  (0x20C8, 1000000), (0x20CA, 1000), (0x20CB, 60), (0x2102, 1), (0x2105, 3000),
  (0x3001, 16), (0x3002, 1), (0x4000, 200), (0x4001, 1), (0x4002, 16), (0x4003, 64), (0x4010, 60),
  (0x4011, 2000), (0x4013, 3), (0x4432, 37),
  (0x5000, 1), (0x5002, 2), (0x5003, 14), (0x5004, 4), (0x5008, 256), (0x5009, 20), (0x500A, 3),
  (0x500B, 7), (0x5400, 1), (0x5405, 3), (0x5802, 16), (0x5803, 1), (0x5804, 1), (0x5805, 400),
  (0x5807, 1360), (0x6000, 1), (0x6002, ratioDefault), (0x6006, 16777216), (0x6008, 24),
  (0x600A, 50), (0x6050, 900), (0x6062, 1000), (0x6400, 1), (0x6406, 1), (0x6408, 1),
  (0x640B, 65535), (0x6430, 1), (0x7019, 3600), (0x7032, 0x1F), (0x7412, 24), (0x7413, 300),
  (0x7806, 258048), (0x7814, 24), (0x7815, 4096), (0x7C02, 2500)]

/-- R576 to R727: the value the factory book gives a persistent object, as a number. -/
def defaultNat (part : Part) (idx sub : Nat) : Nat :=
  if idx = 0x5001 then (sub + 1) % 4
  else if idx = 0x5006 then (match part with
    | .e8 => 100
    | .u9 => 1000)
  else if idx = 0x5401 then (match part with
    | .e8 => 0
    | .u9 => 1)
  else if idx = 0x6061 then sub
  else if 0x4100 ≤ idx ∧ idx ≤ 0x41FF then Profile.factory.sub sub
  else if 0x4200 ≤ idx ∧ idx ≤ 0x420E then
    let p := curveFactory.getD (sub - 1) (0, 0)
    p.2 * 2 ^ 16 + p.1
  else ((objDefaults.find? fun x => decide (x.1 = idx)).map Prod.snd).getD 0

/-- The same for octet strings. -/
def defaultOct (part : Part) (idx sub : Nat) : List Byte :=
  let zeros := fun (n : Nat) => List.replicate n (0 : Byte)
  if idx = 0x1101 then zeros 17
  else if idx = 0x20C7 then [0, 1, 3, 0]
  else if idx = 0x20CC then leBytes 2 179 ++ leBytes 2 77
  else if idx = 0x4211 then zeros 52
  else if idx = 0x4301 then zeros 32
  else if idx = 0x4434 then zeros 256
  else if idx = 0x5005 then leBytes 1 1 ++ leBytes 1 (channelDefault part sub) ++ zeros 15
  else if idx = 0x5022 then zeros 5
  else if idx = 0x5806 then zeros 8
  else if idx = 0x6030 then
    leBytes 1 0 ++ leBytes 1 (sub % 6) ++ leBytes 1 3 ++ leBytes 1 (if sub < 6 then 0 else 1) ++
      leBytes 3 10000 ++ leBytes 1 5
  else if idx = 0x6407 then [0, 1, 2, 3, 4, 5, 6, 7]
  else if idx = 0x640A then leBytes 2 448 ++ leBytes 2 256
  else if idx = 0x6411 then zeros 8 ++ leBytes 4 1000000 ++ leBytes 4 1 ++ leBytes 4 0xFF0F4240
  else if idx = 0x6418 then zeros 20
  else zeros 16

/-- The octets of a number as the type of a row encodes it. -/
def OTy.encode (t : OTy) (v : Nat) : List Byte :=
  match t with
  | .bool => leBytes 1 v
  | .uint n => leBytes n v
  | .sint n => leBytes n v
  | .f32 => leBytes 4 v
  | .cstamp => leBytes 8 v
  | .epref => leBytes 8 v
  | .text => []
  | .octets => []

/-- The factory value of a persistent object as its octets. -/
def objDefault (part : Part) (r : ObjRow) (idx sub : Nat) : List Byte :=
  if r.ty = .octets then defaultOct part idx sub else r.ty.encode (defaultNat part idx sub)

/-- The row is of a persistent object. -/
def ObjRow.persists (r : ObjRow) : Bool := decide (r.acc = .rwp)

/-- The pointer object through which an object is reached. -/
def pointerOf (idx : Nat) : Option Nat :=
  if idx = 0x1209 then some 0x1208
  else if idx = 0x4211 ∨ idx = 0x4212 then some 0x4210
  else if idx = 0x4301 ∨ idx = 0x4302 then some 0x4300
  else if idx = 0x4411 then some 0x4410
  else if idx = 0x4413 then some 0x4412
  else if idx = 0x4415 ∨ idx = 0x4416 then some 0x4414
  else if idx = 0x5011 then some 0x5010
  else if idx = 0x5021 ∨ idx = 0x5022 ∨ idx = 0x5023 ∨ idx = 0x5024 ∨ idx = 0x7424 then some 0x5020
  else if idx = 0x5411 then some 0x5410
  else if idx = 0x5811 then some 0x5810
  else if idx = 0x6011 then some 0x6010
  else if idx = 0x6052 then some 0x6051
  else if idx = 0x6064 then some 0x6063
  else if idx = 0x7803 then some 0x7802
  else if idx = 0x7805 then some 0x7804
  else none

end Sys2Proof.Machine
end

