-- ==== Sys2Proof/Machine/Objects.lean ====
section
/-! DEFINITION. The values of the object dictionary as they stand: the registers and stores that objects
show, and what a read of an object returns (R545, and the object tables R113, R153, R198, R241, R333,
R364, R399, R441, R491, R531, R576-R578, R646, R672, R698, R726). -/

namespace Sys2Proof.Machine

/-! ## Objects that are register fields -/

/-- The register field that an object is, for the die that holds the stage and the sub-index; a die's
register is set on both dies. -/
def objFields0 : List (Nat × (DieId → Nat → Fld)) := [
  (0x2001, fun _ _ => CYC_STATUS.state), (0x2002, fun _ _ => CYC_CTRL.ref_sel),
  (0x2003, fun _ _ => CYC_CTRL.zc_timeout), (0x2004, fun _ _ => CYC_CTRL.hyst),
  (0x2005, fun _ _ => CYC_ZC_OFFSET.offset), (0x2008, fun _ _ => CYC_GHOST_EVENTS.count),
  (0x2009, fun _ _ => CYC_GHOST_CYCLES.count), (0x2011, fun _ _ => CYC_MAP_ERR_LIMIT.limit),
  (0x2020, fun _ _ => CYC_OPTIME.optime), (0x2021, fun _ _ => CYC_PWRCYC.count),
  (0x2042, fun _ _ => GHL_RTC_STATUS.time_lost), (0x2043, fun _ _ => GHL_RTC_TRIM.trim),
  (0x2044, fun _ _ => GHL_RTC_COMP.enable),
  (0x3001, fun d _ => EPS_CTRL.wb_max_age d), (0x3002, fun d _ => EPS_CTRL.auto_remap d),
  (0x3003, fun d _ => EPS_STAGE_REFUSED.count d), (0x3004, fun d k => EPS_SPARE_B.free d k),
  (0x3005, fun d _ => EPS_ECC_CORR.count d), (0x3006, fun d _ => EPS_ECC_UNCORR.count d),
  (0x3007, fun d _ => EPS_ECC_REPAIRED.count d),
  (0x4000, fun d _ => CUE_CTRL.overrun_limit d),
  (0x4009, fun d _ => CUE_OVERRUNS.count d), (0x400A, fun d _ => CUE_EMITS.count d),
  (0x400B, fun d _ => CUE_EVENTS_CARRIED.count d), (0x400C, fun d _ => CUE_FS_DROPPED.count d),
  (0x400D, fun d _ => CUE_FS_LATE.count d), (0x4014, fun d k => CUE_BAL_U.watts d k),
  (0x4442, fun d _ => CUE_EXECUTED.count d), (0x4443, fun d _ => CUE_LATE.count d),
  (0x4444, fun d _ => CUE_EXPIRED.count d), (0x4445, fun d _ => CUE_DEFERRED.count d),
  (0x4446, fun d _ => CUE_UNARMED.count d), (0x4447, fun d _ => CUE_TRACK_DROPS.count d),
  (0x4448, fun d _ => CUE_OVR_REFUSED.count d), (0x4449, fun d _ => CUE_AUTH_FAIL.count d)]

def objFields1 : List (Nat × (DieId → Nat → Fld)) := [
  (0x5001, fun _ r => RAD_CTRL.leave_to r), (0x5002, fun _ r => RAD_PHY.mode r),
  (0x5003, fun _ r => RAD_PHY.power r), (0x5004, fun _ r => RAD_PHY.preamble r),
  (0x5006, fun _ r => RAD_DUTY.limit r), (0x5008, fun _ r => RAD_GUARD.guard r),
  (0x5009, fun _ r => RAD_CAP.margin r), (0x500A, fun _ r => RAD_RETRY.limit r),
  (0x500C, fun _ r => RAD_CTRL.join_open r),
  (0x5401, fun _ p => PLC_PHY.band p), (0x5402, fun _ p => PLC_PHY.mod p),
  (0x5403, fun _ p => PLC_PHY.atten p), (0x5405, fun _ p => PLC_RETRY.limit p),
  (0x5406, fun _ p => PLC_CTRL.join_open p), (0x5412, fun _ p => PLC_STATUS.plan_ver p),
  (0x5800, fun _ n => FLC_CTRL.enable n), (0x5801, fun _ n => FLC_CTRL.devices n),
  (0x5803, fun _ n => FLC_CTRL.smooth n), (0x5804, fun _ n => FLC_CTRL.align n),
  (0x5805, fun _ n => FLC_TREF.tref n), (0x5807, fun _ n => FLC_OTEMP.threshold n),
  (0x6000, fun _ _ => MTR_CTRL.enable),
  (0x6007, fun _ i => MTR_PHASE.corr i), (0x6008, fun _ _ => MTR_CAL_AUTO.hours),
  (0x6053, fun _ _ => MTR_HIST_SEQ.seq), (0x6071, fun _ _ => MTR_OVERRANGE.count),
  (0x2102, fun d _ => TWN_CTRL.comeback_en d), (0x2105, fun d _ => TWN_CTRL.resync_limit d),
  (0x2106, fun d _ => TWN_MATCH_RUN.run d), (0x2108, fun d _ => TWN_HANDOVERS.count d),
  (0x210A, fun d _ => TWN_MISMATCHES.count d), (0x210B, fun d _ => TWN_DISPUTES.count d),
  (0x210D, fun d _ => TWN_PROVISIONAL.count d), (0x210E, fun d _ => TWN_REPLAY_LOST.count d)]

def objFields2 : List (Nat × (DieId → Nat → Fld)) := [
  (0x6400, fun _ e => ETH_CTRL.enable e), (0x6401, fun _ _ => ETH_BKP.preferred 0),
  (0x6402, fun _ _ => ETH_BKP.revertive 0), (0x6404, fun _ _ => ETH_FAILOVERS.count 0),
  (0x6405, fun _ e => ETH_VLAN.vid e), (0x6406, fun _ e => ETH_CTRL.accept_untagged e),
  (0x6408, fun _ e => ETH_CTRL.pause_send e), (0x6409, fun _ e => ETH_CTRL.pause_honour e),
  (0x640B, fun _ e => ETH_PAUSE.quanta e), (0x640C, fun _ e => ETH_CTRL.listen e),
  (0x6410, fun _ e => ETH_GCL_CTRL.enable e), (0x6430, fun _ _ => ETH_CTRL.enable 2),
  (0x20C0, fun _ _ => PTP_CTRL.enable), (0x20C2, fun _ _ => PTP_CTRL.p2p),
  (0x20C3, fun _ _ => PTP_CTRL.transport), (0x20C4, fun _ _ => PTP_CTRL.tt_capable),
  (0x20C8, fun _ _ => PTP_JUMP.ns), (0x20CA, fun _ _ => PTP_LOCK.lock),
  (0x20CB, fun _ _ => PTP_LOCK.holdover), (0x20D0, fun _ _ => PTP_STATUS.port_state),
  (0x20D1, fun _ _ => PTP_STATUS.valid), (0x20D3, fun _ _ => PTP_FREQ.ppb),
  (0x20D4, fun _ _ => PTP_REFUSED.count), (0x20D5, fun _ _ => PTP_STEPS.count),
  (0x7042, fun d _ => KEY_REMASKS.count d), (0x7040, fun d _ => KEY_OPS.count d),
  (0x7816, fun d _ => TST_SPARE_FAIL.failed d),
  (0x7C01, fun _ _ => GHL_BACKUP_CFG.kind), (0x7C02, fun _ _ => GHL_BACKUP_CFG.low_mv),
  (0x7C06, fun _ _ => GHL_RESETS.count), (0x7C07, fun _ _ => GHL_BACKUP_SECONDS.seconds)]

def objField (idx : Nat) : Option (DieId → Nat → Fld) :=
  ((objFields0 ++ objFields1 ++ objFields2).find? fun x => decide (x.1 = idx)).map Prod.snd

/-- The field of an object as a number of the row's type: a signed field keeps its sign. -/
def State.fieldNum (s : State) (f : Fld) (t : OTy) : Nat :=
  match t with
  | .sint n => pattern (8 * n) (s.getS f)
  | _ => s.get f

/-! ## Numeric objects that other state shows -/

/-- R113: the measured frequency in Hz as an F32 value, from CYC_PERIOD in 1/256 tick. -/
def freqF32 (period : Nat) : Nat :=
  let num := 25000000 * 256
  let q := openQuotN 113 (num * 2 ^ 18) period
  if period = 0 then 0
  else if 2 ^ 23 ≤ q ∧ q < 2 ^ 24 then 131 * 2 ^ 23 + q
  else
    let q2 := openQuotN 113 (num * 2 ^ 17) period
    if 2 ^ 23 ≤ q2 ∧ q2 < 2 ^ 24 then 132 * 2 ^ 23 + q2 else Config.fit 113 period

/-- A die-side counter kept by the die that holds the stage, summed over both dies. -/
def State.bothDies (s : State) (f : DieId → Fld) : Nat := s.get (f .a) + s.get (f .b)

/-- R574: the counts of the last send. -/
def State.lastSend (s : State) : CompanySend :=
  s.company.send.getD { counter := 0, waits := [], sent := 0, ok := 0, refused := 0, lapsed := 0, cycle := 0 }

/-- The image in the run slot that a die runs. -/
def Green.runSlot (g : Green) : ImageSlot := if g.running = 0 then g.run0 else g.run1

/-- R236: endpoints whose blackout is confirmed. -/
def Die.blackConfirmed (d : Die) : Nat := (d.cues.blackConf.filter fun x => decide (x.2 = 2)).length

/-- R198: the next occurrence of an active schedule entry as TAI; 0 where it has none (log entry 81). -/
def CueArea.nextTai (c : CueArea) (j : Nat) : Nat :=
  let x := c.activeBank.schedAt j
  if x.kind = 2 then (if (c.occAt j).done = some x.when_ then 0 else x.when_)
  else if 3 ≤ x.kind then (c.occAt j).tai.getD 0
  else 0

/-- Objects from 0x1000 to 0x2FFF. -/
def State.objNum1 (s : State) (idx sub p : Nat) : Nat :=
  let d := s.stageDie
  if idx = 0x1006 then (s.green (DieId.ofNum sub)).runSlot.version
  else if idx = 0x1007 then (match DieId.ofNum sub with
    | .a => s.sideA.format
    | .b => s.sideB.format)
  else if idx = 0x1010 then (s.green d).runSlot.dictionary
  else if idx = 0x1105 then s.sessions.length
  else if idx = 0x1213 then s.company.senders.length
  else if idx = 0x2000 then s.containerNow
  else if idx = 0x2006 then (if s.flag CYC_CTRL.nominal_60 then 60 else 50)
  else if idx = 0x2007 then freqF32 (s.get CYC_PERIOD.period)
  else if idx = 0x2010 then s.get CYC_TAI_P0_HI.tai_hi * 2 ^ 32 + s.get CYC_TAI_P0_LO.tai_lo
  else if idx = 0x2012 then pattern 32 s.clk.mapErrMax
  else if idx = 0x2013 then s.clk.expired
  else if idx = 0x2040 then s.rtc.count
  else if idx = 0x20D2 then s.get PTP_LAST_HI.last_hi * 2 ^ 32 + s.get PTP_LAST_LO.last_lo
  else if idx = 0x20D6 then s.get PTP_PEND_HI.pend_hi * 2 ^ 32 + s.get PTP_PEND_LO.pend_lo
  else if idx = 0x20D7 then
    min (s.get (ETH_TXTS_STATUS.overflows 0) + s.get (ETH_TXTS_STATUS.overflows 1)) (2 ^ 32 - 1)
  else if idx = 0x20D9 then Config.objOpen idx 0 % 2 ^ 16
  else if idx = 0x2100 then (match s.holder with
    | some h => h.num
    | none => 0xFF)
  else if idx = 0x2101 then s.roleOf (DieId.ofNum sub)
  else if idx = 0x210F then (match d with
    | .a => s.sideA.resyncs
    | .b => s.sideB.resyncs)
  else if idx = 0x2110 then s.get (TWN_STATUS.lanes d) + 4 * s.get (TWN_STATUS.link_up d)
  else if isPointer idx then p
  else s.obj idx sub

/-- Objects from 0x3000 to 0x4FFF. -/
def State.objNum2 (s : State) (idx sub p : Nat) : Nat :=
  let d := s.stageDie
  let die := s.die d
  let c := die.cues
  let a := Tbl.get Agg.zero die.agg p
  if idx = 0x3000 then die.actives.length
  else if idx = 0x4008 then min die.passMax (2 ^ 32 - 1)
  else if idx = 0x3008 then die.phys sub
  else if idx = 0x3009 then (unitList.filter fun u => decide (die.phys u ≠ resetPhys u)).length
  else if idx = 0x300A then die.damaged.length
  else if idx = 0x4015 then
    bitOf (s.get (CUE_BAL_STATUS.alarm d)) sub + 2 * bitOf (s.get (CUE_BAL_STATUS.incomplete d)) sub
  else if 0x4100 ≤ idx ∧ idx ≤ 0x41FF then (s.profile (idx - 0x4100)).sub sub
  else if 0x4200 ≤ idx ∧ idx ≤ 0x420E then
    if sub = 0 then 8
    else
      let q := (s.curve (idx - 0x4200)).getD (sub - 1) (0, 0)
      q.2 * 2 ^ 16 + q.1
  else if idx = 0x4302 then
    [0, a.active, a.lit, a.faulted, a.presence, a.levels,
      if a.active = 0 then 0 else a.levels / a.active, a.power].getD sub 0
  else if idx = 0x4400 then c.active
  else if idx = 0x4401 then c.activeBank.seq
  else if idx = 0x4403 then b2n c.syncBusy + 2 * b2n die.swapWaits
  else if idx = 0x4416 then c.nextTai p
  else if idx = 0x4421 then c.goExec
  else if idx = 0x4423 then c.blackCounter
  else if idx = 0x4424 then die.blackouts
  else if idx = 0x4425 then die.blackConfirmed
  else if idx = 0x4440 then c.armed
  else if idx = 0x4441 then c.pendingGo.length
  else if isPointer idx then p
  else s.obj idx sub

/-- Objects from 0x5000 to 0x6FFF. -/
def State.objNum3 (s : State) (idx sub p : Nat) : Nat :=
  if idx = 0x5000 then b2n (s.flag (RAD_CTRL.enable sub) && !s.flag (RAD_CTRL.leaving sub))
  else if idx = 0x500D then (s.nodes.filter fun x => x.2.joined).length
  else if idx = 0x5011 then
    let x := s.radio (p / 512)
    if sub = 1 then Tbl.get 0 x.inactive (p % 512) else Tbl.get 0 x.active (p % 512)
  else if idx = 0x5013 then
    s.get (RAD_STATUS.act_ver sub) * 2 ^ 8 + s.get (RAD_STATUS.inact_ver sub)
  else if idx = 0x5400 then b2n (s.flag (PLC_CTRL.enable sub) && !s.flag (PLC_CTRL.leaving sub))
  else if idx = 0x5411 then Tbl.get 0 (s.plc (p / 256)).plan (p % 256)
  else if idx = 0x5802 then s.get (FLC_CTRL.pwm_bits sub) + 8
  else if idx = 0x5809 then s.get (FLC_COUNT.valid sub) * 2 ^ 15 + s.get (FLC_COUNT.devices sub)
  else if idx = 0x6001 then bitOf (s.get MTR_CTRL.feeder_en) sub
  else if idx = 0x6003 then bitOf (s.get MTR_MODE.absolute) sub
  else if idx = 0x6004 then bitOf (s.get MTR_ROGO.rogowski) sub
  else if idx = 0x6005 then leNat (Config.factory 0x6005 sub)
  else if idx = 0x6022 then s.meter.total sub 3 0
  else if idx = 0x6031 then Tbl.get 0 s.meter.lost sub
  else if idx = 0x6403 then (match s.activePort with
    | some e => e
    | none => 0xFF)
  else if idx = 0x6414 then s.get (ETH_GCL_STATUS.pending sub) + 2 * s.get (ETH_GCL_CTRL.error sub)
  else if isPointer idx then p
  else s.obj idx sub

/-- Objects from 0x7000 to 0x7FFF. -/
def State.objNum4 (s : State) (idx sub p : Nat) : Nat :=
  let d := s.stageDie
  if idx = 0x7032 then s.keys.enabled
  else if idx = 0x7033 then s.keys.polarity
  else if idx = 0x7034 then b2n s.keys.lapseCounts
  else if idx = 0x7035 then s.keys.total
  else if idx = 0x7041 then s.bothDies fun d => KEY_ABORTS.count d
  else if idx = 0x7416 then (s.green d).rejected
  else if idx = 0x7424 then (s.node p).progress
  else if idx = 0x7430 then (s.green .a).fallbacks + (s.green .b).fallbacks
  else if idx = 0x7821 then b2n s.offline + 2 * b2n s.tap.out
  else if isPointer idx then p
  else s.obj idx sub

/-- The number an object holds, read through a pointer value. -/
def State.objNum (s : State) (r : ObjRow) (idx sub p : Nat) : Nat :=
  match objField idx with
  | some f => s.fieldNum (f s.stageDie sub) r.ty
  | none =>
    if idx < 0x3000 then s.objNum1 idx sub p
    else if idx < 0x5000 then s.objNum2 idx sub p
    else if idx < 0x7000 then s.objNum3 idx sub p
    else s.objNum4 idx sub p

/-! ## Octet strings and texts -/

def zeroOctets (n : Nat) : List Byte := List.replicate n 0

/-- A value padded with zeros to a length. -/
def padTo (n : Nat) (b : List Byte) : List Byte := b ++ zeroOctets (n - b.length)

/-- A gate list as object 0x6411 lays it out. -/
def gateBytes (base cyc len : Nat) (entry : Nat → Nat) : List Byte :=
  leBytes 8 base ++ leBytes 4 cyc ++ leBytes 1 len ++ zeroOctets 3 ++
    (List.range len).flatMap fun k => leBytes 4 (entry k)

/-- A callboard record of the main log; zeros at or above the fill. -/
def Board.recordAt (b : Board) (n : Nat) : List Byte :=
  if n < b.fill then (b.at_ n).bytes else zeroOctets 64

/-- R562: the sequence of a prompt copy; 0 where it is not valid. -/
def Die.bookSeq (d : Die) (k : Nat) : Nat :=
  match (d.books[k]?).join with
  | some b => b.seq
  | none => 0

/-- The newest valid sequence. -/
def Die.newestSeq (d : Die) : Nat := max (d.bookSeq 0) (d.bookSeq 1)

/-- Octet strings from 0x1000 to 0x4FFF.  A read of object 0x4413 returns up to 16 entries, of either bank (log
entry 127). -/
def State.objOct1 (s : State) (idx sub p : Nat) : List Byte :=
  let d := s.stageDie
  let die := s.die d
  let c := die.cues
  let k := c.activeBank
  let q := c.inactiveBank
  let t := s.twin.last
  if idx = 0x1041 then
    leBytes 4 die.newestSeq ++ leBytes 4 (die.bookSeq 0) ++ leBytes 4 (die.bookSeq 1)
  else if idx = 0x1209 then padTo 16 (Tbl.get [] s.directory p)
  else if idx = 0x1211 then
    let x := s.lastSend
    leBytes 4 x.counter ++ leBytes 2 x.sent ++ leBytes 2 x.ok ++ leBytes 2 x.refused ++
      leBytes 2 x.lapsed ++ zeroOctets 4
  else if idx = 0x1212 then padTo 24 s.company.received
  else if idx = 0x20D8 then leBytes 8 (Config.objOpen idx 0)
  else if idx = 0x2109 then
    leBytes 8 t.1 ++ leBytes 1 t.2.1 ++ leBytes 1 t.2.2.1 ++ leBytes 1 t.2.2.2.1 ++ zeroOctets 1 ++
      leBytes 4 t.2.2.2.2
  else if idx = 0x210C then
    leBytes 1 (s.get (TWN_ARB_LAST.unit d)) ++ leBytes 1 (s.get (TWN_ARB_LAST.result d)) ++
      zeroOctets 2 ++ leBytes 4 s.twin.arbCycle
  else if idx = 0x4211 ∨ idx = 0x4212 then
    let g := Tbl.get Group.empty die.groups (groupKey (p / 256) (p % 256))
    if idx = 0x4211 then leBytes 1 g.count ++ zeroOctets 3 ++ g.members.flatMap (leBytes 4)
    else leBytes 1 g.count ++ leBytes 1 (b2n g.latch) ++ leBytes 2 g.mask ++ leBytes 4 g.lastRise ++
      leBytes 4 g.rises
  else if idx = 0x4301 then
    padTo 32 ((Tbl.get [] s.aggDefs p).flatMap fun r => leBytes 4 r.1 ++ leBytes 4 r.2)
  else if idx = 0x4411 then ((if sub = 1 then q else k).header p).bytes
  else if idx = 0x4413 then
    let b := if sub = 1 then q else k
    (List.range (min 16 (65536 - p))).flatMap fun i => (b.entry (p + i)).bytes
  else if idx = 0x4415 then ((if sub = 1 then q else k).schedAt p).bytes
  else if idx = 0x4450 then
    match c.armAt sub with
    | some a =>
      leBytes 4 a.id ++ leBytes 8 (a.cue.stamp.getD 0) ++
        leBytes 2 (if a.cue.op = 1 then a.cue.target else Config.objOpen idx 0) ++
        leBytes 2 (Config.objOpen idx 1)
    | none => zeroOctets 16
  else s.oct idx sub

/-- R333: the node state of object 0x5021. -/
def Node.stateBytes (nd : Node) : List Byte :=
  leBytes 8 nd.eui ++ leBytes 1 nd.transport ++ leBytes 1 nd.depth ++ leBytes 2 nd.parent ++
    leBytes 1 (b2n nd.joined + 2 * b2n nd.sleepy + 4 * b2n nd.longPre + 8 * b2n nd.repeated) ++
    leBytes 2 (pattern 16 nd.offset) ++ leBytes 4 nd.lastHeard ++ zeroOctets 5

def Node.countBytes (nd : Node) : List Byte :=
  leBytes 4 nd.retries ++ leBytes 2 nd.drops ++ leBytes 2 nd.duplicates ++ leBytes 2 nd.missedRdv ++
    leBytes 2 nd.missEntries ++ leBytes 2 nd.beaconLoss ++ leBytes 2 nd.repairs

/-- Octet strings from 0x5000 to 0x6FFF. -/
def State.objOct2 (s : State) (idx sub p : Nat) : List Byte :=
  let nd := s.node p
  if idx = 0x5005 then
    leBytes 1 (s.get (RAD_PHY.hop_len sub) + 1) ++
      (List.range 16).flatMap fun i => leBytes 1 (s.channel sub i)
  else if idx = 0x5021 then nd.stateBytes
  else if idx = 0x5022 then padTo 5 nd.sleep
  else if idx = 0x5023 then nd.countBytes
  else if idx = 0x5030 then s.wordsAt (.rad sub) 0x40 12
  else if idx = 0x5408 then s.wordsAt (.plc sub) 0x40 10
  else if idx = 0x5806 then (List.range 4).flatMap fun k => leBytes 2 (s.get (FLC_SLOPE.slope sub k))
  else if idx = 0x580A then s.wordsAt (.flc sub) 0x28 7
  else if idx = 0x5811 then
    let v := (s.chain (p / 512)).dev (p % 512)
    leBytes 4 (b2n v.valid * 2 ^ 31 + b2n v.checkError * 2 ^ 30 + v.word) ++
      (List.range 4).flatMap (fun k => leBytes 2 (v.sent.getD k 0)) ++ leBytes 4 v.cycle
  else if idx = 0x6011 then (s.resultSelect p).wordsAt .mtr 0x14 8
  else if idx = 0x6020 then
    (List.range 20).flatMap fun k => leBytes 8 (s.meter.total sub (k / 5) (k % 5))
  else if idx = 0x6021 then (List.range 20).flatMap fun k => leBytes 4 (s.meter.window (20 * sub + k))
  else if idx = 0x6030 then
    leBytes 1 (s.get (MTR_PULSE_CFG.enable sub)) ++ leBytes 1 (s.get (MTR_PULSE_CFG.feeder sub)) ++
      leBytes 1 (s.get (MTR_PULSE_CFG.phase sub)) ++ leBytes 1 (s.get (MTR_PULSE_CFG.quantity sub)) ++
      leBytes 3 (s.get (MTR_PULSE_CFG.constant sub)) ++ leBytes 1 (s.get (MTR_PULSE_TIM.width sub))
  else if idx = 0x6041 then
    leBytes 1 (s.get MTR_HARM_STATUS.input) ++
      leBytes 1 (s.get MTR_HARM_STATUS.valid + 2 * s.get MTR_HARM_STATUS.aborted) ++ zeroOctets 2 ++
      leBytes 4 (s.get MTR_HARM_FUND.rms) ++ leBytes 2 (s.get MTR_HARM_THD.thd) ++ zeroOctets 2 ++
      (List.range 30).flatMap fun k => leBytes 2 (s.get (MTR_HARM.amp k))
  else if idx = 0x6052 then padTo 64 (Tbl.get [] (s.die s.stageDie).history p)
  else if idx = 0x6064 then
    if p = 0 then s.theft.header else padTo 16 (Tbl.get [] s.theft.records (p - 1))
  else if idx = 0x6407 then
    (List.range 8).flatMap fun c => leBytes 1 (s.get (ETH_PCP_MAP.pcp 0) / 8 ^ c % 8)
  else if idx = 0x640A then
    leBytes 2 (s.get (ETH_RX_WM.high sub)) ++ leBytes 2 (s.get (ETH_RX_WM.low sub))
  else if idx = 0x6411 then
    gateBytes (s.get (ETH_GCL_BASE_HI.base_hi sub) * 2 ^ 32 + s.get (ETH_GCL_BASE_LO.base_lo sub))
      (s.get (ETH_GCL_CYCLE.ns sub)) (s.get (ETH_GCL_LEN.length sub))
      fun k => s.get (ETH_GCL_ADMIN.gates sub k) * 2 ^ 24 + s.get (ETH_GCL_ADMIN.interval sub k)
  else if idx = 0x6413 then
    gateBytes (s.get (ETH_GCL_OPER_BASE_HI.base_hi sub) * 2 ^ 32 +
        s.get (ETH_GCL_OPER_BASE_LO.base_lo sub))
      (s.get (ETH_GCL_OPER_CYCLE.ns sub)) (s.get (ETH_GCL_STATUS.oper_len sub))
      fun k => s.get (ETH_GCL_OPER.entry sub k)
  else if idx = 0x6418 then
    let w := Tbl.get (0, 0) (s.eth 0).wake sub
    leBytes 16 w.1 ++ leBytes 2 w.2 ++ leBytes 1 (bitOf (s.get (ETH_WAKE_CTRL.enable 0)) sub) ++
      zeroOctets 1
  else if idx = 0x6420 then (List.range 26).flatMap fun k => leBytes 8 (Tbl.get 0 (s.eth sub).counts k)
  else s.oct idx sub

/-- The round a campaign is in: the one its slowest transport in service works on. -/
def State.campaignRound (s : State) : Nat :=
  let c := s.campaign
  let n := (s.nodeSlot c.slot).blocks
  let ds := ((List.range 6).filter s.inService).map fun t => Tbl.get 0 c.done t
  match ds with
  | [] => 0
  | x :: l => if c.rounds = 0 ∨ n = 0 then 0 else min c.rounds ((l.foldl min x) / n + 1)

/-- R667: the nodes that report the campaign's slot complete. -/
def State.nodesComplete (s : State) : Nat :=
  (s.nodes.filter fun x =>
    decide (x.2.progress / 4096 = s.campaign.slot + 1 ∧ bitOf x.2.progress 11 = 1)).length

/-- Octet strings from 0x7000 to 0x7FFF. -/
def State.objOct3 (s : State) (idx sub p : Nat) : List Byte :=
  let d := s.stageDie
  let g := s.green d
  let k := s.keys
  let b := (s.die d).board
  let a := s.activation
  if idx = 0x7000 then s.slotBytes sub
  else if idx = 0x7003 then padTo 97 s.managementKey
  else if idx = 0x701B then
    leBytes 1 s.link.currentGen ++ leBytes 1 s.link.previousGen ++ zeroOctets 2 ++
      leBytes 8 (s.segUse.getD 0 * 1000000000)
  else if idx = 0x7021 then padTo 184 (s.oct idx 0)
  else if idx = 0x7030 then
    leBytes 1 k.latched ++ leBytes 1 k.present ++ leBytes 2 k.events ++ leBytes 8 k.firstTick ++
      zeroOctets 4
  else if idx = 0x7400 then
    let h := s.green (DieId.ofNum sub)
    leBytes 4 h.run0.version ++ leBytes 4 h.run1.version ++ leBytes 1 h.running ++ zeroOctets 1 ++
      leBytes 2 h.minimum
  else if idx = 0x7404 then
    let x := g.slot g.target
    leBytes 1 g.target ++ leBytes 1 x.state ++ leBytes 1 g.failed ++ zeroOctets 1 ++
      leBytes 4 x.body.length ++ leBytes 4 x.version
  else if idx = 0x7405 then padTo 256 g.stage.head
  else if idx = 0x7411 then
    leBytes 1 a.state ++ zeroOctets 3 ++ leBytes 4 a.version ++ leBytes 8 a.tai ++ leBytes 8 a.stamp
  else if idx = 0x7420 then
    let x := g.slot (1 + sub)
    leBytes 1 x.state ++ zeroOctets 3 ++ leBytes 4 x.version ++ leBytes 4 x.type ++ leBytes 4 x.length
  else if idx = 0x7422 then
    leBytes 1 s.campaign.slot ++ leBytes 1 s.campaignRound ++ zeroOctets 2 ++ leBytes 4 s.campaign.sent ++
      leBytes 4 s.nodesComplete
  else if idx = 0x7800 then
    leBytes 4 b.fill ++ leBytes 4 b.next ++ leBytes 4 b.lost ++ leBytes 2 b.clears ++
      leBytes 1 (b2n b.full) ++ zeroOctets 1
  else if idx = 0x7803 then b.recordAt p
  else if idx = 0x7805 then b.aged p
  else if idx = 0x7811 then
    padTo 34 (leBytes 1 (match s.tests.running with
        | some (t, _) => t
        | none => 0) ++ leBytes 1 s.tests.queue.length ++
      s.tests.queue.flatMap fun x => leBytes 1 x.1 ++ leBytes 1 x.2)
  else if idx = 0x7812 then
    leBytes 1 (s.get (TST_LAST.test d)) ++ leBytes 1 (s.get (TST_LAST.inst d)) ++
      leBytes 1 (s.get (TST_LAST.result d)) ++ zeroOctets 1 ++
      leBytes 4 (s.get (TST_LAST_DETAIL.detail d)) ++ leBytes 4 (s.get (TST_LAST_CYCLE.cycle d))
  else if idx = 0x7813 then leBytes 4 (s.get (TST_PASSES.count d)) ++ leBytes 4 (s.get (TST_FAILS.count d))
  else if idx = 0x7C00 then
    leBytes 2 (s.get MCTL_VIN.mv) ++ leBytes 2 (s.get GHL_SUPPLY.vstby) ++
      leBytes 2 (s.get GHL_SUPPLY.vbat) ++
      leBytes 1 (s.get MCTL_STATUS.vin_low + 2 * s.get MCTL_STATUS.vin_high +
        4 * s.get GHL_SUPPLY.backup_low + 8 * s.get GHL_SUPPLY.charging) ++ zeroOctets 5
  else if idx = 0x7C03 then
    leBytes 1 (s.get MCTL_STATUS.cause) ++ leBytes 1 (s.get MCTL_STATUS.stage_choice) ++
      leBytes 1 (s.get MCTL_STATUS.step) ++ zeroOctets 1 ++ leBytes 2 (s.get MCTL_START_TIME.ms) ++
      zeroOctets 2 ++ leBytes 4 (s.obj 0x7C04 0) ++ leBytes 8 (s.obj 0x7C03 0)
  else s.oct idx sub

/-- The octets of an object's value through a pointer value (R544). -/
def State.objValue (s : State) (r : ObjRow) (idx sub p : Nat) : List Byte :=
  if idx < 0x1006 ∨ idx = 0x7002 then Config.factory idx sub
  else match r.ty with
    | .octets =>
      if idx = 0x20CC then leBytes 2 (s.get PTP_GAIN.kp) ++ leBytes 2 (s.get PTP_GAIN.ki)
      else if idx < 0x5000 then s.objOct1 idx sub p
      else if idx < 0x7000 then s.objOct2 idx sub p
      else s.objOct3 idx sub p
    | t => t.encode (s.objNum r idx sub p)

end Sys2Proof.Machine
end

