-- ==== Sys2Proof/Machine/Writes.lean ====
section
/-! DEFINITION. Writes of objects as they are applied at a cycle boundary: settings, the actions that
objects request, and the prompt books (R546-R550, R557-R562, R761, and the rules each object names). -/

namespace Sys2Proof.Machine

/-! ## Settings -/

/-- The fields a write of an object's field sets: one object may set every radio, both ports, or both
dies. -/
def objTargets (f : DieId → Nat → Fld) (idx sub : Nat) : List Fld :=
  if idx = 0x5008 ∨ idx = 0x5009 ∨ idx = 0x500A ∨ idx = 0x500C then (List.range 4).map (f .a)
  else if idx = 0x5405 ∨ idx = 0x5406 then (List.range 2).map (f .a)
  else [f .a sub, f .b sub]

def State.setAll (s : State) (fs : List Fld) (v : Nat) : State := fs.foldl (fun s f => s.set f v) s

/-- The same bit of a bitmap field. -/
def State.setFieldBit (s : State) (f : Fld) (k v : Nat) : State :=
  s.set f (putBit (s.get f) k (decide (v = 1)))

/-- R404: the gain of an input from its factory and installation gains. -/
def State.setGain (s : State) (i : Nat) : State :=
  s.set (MTR_GAIN.gain i)
    (fit 404 32 (openQuotN 404 (leNat (Config.factory 0x6005 i) * s.obj 0x6006 i) (2 ^ 24)))

/-- R405: a setting of an input has changed at this boundary. -/
def State.meterChanging (s : State) (i : Nat) : State :=
  { s with meter := { s.meter with changing := i :: s.meter.changing } }

/-- R393: the devices or the resolution of a chain change (R387). -/
def State.setChainField (s : State) (n : Nat) (f : Fld) (v : Nat) : State :=
  if s.get f = v then s else (s.set f v).chainConfigure n

/-- R506, object 0x6411: the administrative gate list of a backbone port. -/
def State.setGateList (s : State) (e : Nat) (b : List Byte) : State :=
  let base := leAt b 0 8
  let s := (s.set (ETH_GCL_BASE_LO.base_lo e) base).set (ETH_GCL_BASE_HI.base_hi e) (base / 2 ^ 32)
  let s := (s.set (ETH_GCL_CYCLE.ns e) (leAt b 8 4)).set (ETH_GCL_LEN.length e) (leAt b 12 1)
  (List.range (leAt b 12 1)).foldl (fun s k =>
    (s.set (ETH_GCL_ADMIN.gates e k) (leAt b (19 + 4 * k) 1)).set (ETH_GCL_ADMIN.interval e k)
      (leAt b (16 + 4 * k) 3)) s

/-- R512, object 0x6418: wake filter `f` of both backbone ports. -/
def State.setWake (s : State) (f : Nat) (b : List Byte) : State :=
  let w := (leAt b 0 16, leAt b 16 2)
  let one := fun (s : State) (e : Nat) =>
    let x := s.eth e
    (s.setEth e { x with wake := Tbl.put (0, 0) x.wake f w }).setFieldBit (ETH_WAKE_CTRL.enable e) f
      (b2n (decide (leAt b 18 1 ≠ 0)))
  one (one s 0) 1

/-- The transports, chains and ports that objects 0x5000, 0x5400, 0x5800, 0x6000, 0x6400 and 0x6430 put
in service or take out of it, as blocks of R266. -/
def serviceBlock (idx sub : Nat) : Option Nat :=
  if idx = 0x5000 then some sub
  else if idx = 0x5400 then some (4 + sub)
  else if idx = 0x5800 then some (8 + sub)
  else if idx = 0x6000 then some 24
  else if idx = 0x6400 then some (25 + sub)
  else if idx = 0x6430 then some 27
  else none

/-- R266, R269, R327, R359: a block is put in service or leaves it; a radio that may not be enabled is
refused (R286, R288). -/
def State.setService (s : State) (k : Nat) (on : Bool) : State × Nat :=
  if on then
    if k < 4 ∧ s.flag (RAD_CTRL.enable k) then
      let x := s.radio k
      (((s.setRadio k { x with leaveBy := none }).set (RAD_CTRL.leave k) 0).set (RAD_CTRL.leaving k) 0, stOK)
    else if 4 ≤ k ∧ k < 6 ∧ s.flag (PLC_CTRL.enable (k - 4)) then
      let x := s.plc (k - 4)
      (((s.setPlc (k - 4) { x with leaveBy := none }).set (PLC_CTRL.leave (k - 4)) 0).set
        (PLC_CTRL.leaving (k - 4)) 0, stOK)
    else if k < 4 ∧ s.radioReady k = false then (s, stRange)
    else (s.blockOn k, stOK)
  else if k < 4 then (s.radioLeave k, stOK)
  else if k < 6 then (s.plcLeave (k - 4), stOK)
  else (s.blockOff k, stOK)

/-- Settings of the clock, the sweep, the transports and the backbone that are neither a register field
nor kept as they are; none for any other object. -/
def State.applySetting1 (s : State) (idx sub ptr : Nat) (b : List Byte) : Option (State × Nat) :=
  let v := leNat b
  let ok := fun (s : State) => some (s, stOK)
  if idx = 0x1209 then
    ok { s with directory := Tbl.put [] s.directory ptr (if v = 0 then [] else b) }
  else if idx = 0x2006 then ok (s.set CYC_CTRL.nominal_60 (if v = 60 then 1 else 0)).acquirePeriod
  else if 0x4100 ≤ idx ∧ idx ≤ 0x41FF then some (s.writeProfile (idx - 0x4100) sub v)
  else if 0x4200 ≤ idx ∧ idx ≤ 0x420E then some (s.writeCurve (idx - 0x4200) (sub - 1) v)
  else if idx = 0x4301 then some (s.writeAgg ptr b)
  else if idx = 0x5005 then
    let n := leAt b 0 1
    let top := channelTop s.part (s.get (RAD_PHY.mode sub))
    if ((b.drop 1).take n).all (fun c => decide (c.toNat ≤ top)) then
      let s := s.set (RAD_PHY.hop_len sub) (n - 1)
      ok ((List.range 4).foldl (fun s k => s.set (RAD_CHAN.chan sub k) (leAt b (1 + 4 * k) 4)) s)
    else some (s, stRange)
  else if idx = 0x5011 then
    ok (s.putSlot (ptr / 512) (ptr % 512) v)
  else if idx = 0x5022 then
    let nd := s.node ptr
    let s := s.setNode ptr { nd with sleep := b }
    ok (if nd.joined then s.queueFrame ptr 11 (leBytes 1 3 ++ b) else s)
  else if idx = 0x5801 then ok (s.setChainField sub (FLC_CTRL.devices sub) v)
  else if idx = 0x5802 then ok (s.setChainField sub (FLC_CTRL.pwm_bits sub) (v - 8))
  else if idx = 0x5806 then
    ok ((List.range 4).foldl (fun s k => s.set (FLC_SLOPE.slope sub k) (leAt b (2 * k) 2)) s)
  else if idx = 0x6407 then
    let w := (List.range 8).foldl (fun t c => t + leAt b c 1 * 8 ^ c) 0
    ok (s.setAll ((List.range 3).map ETH_PCP_MAP.pcp) w)
  else if idx = 0x640A then
    ok ((s.set (ETH_RX_WM.high sub) (leAt b 0 2)).set (ETH_RX_WM.low sub) (leAt b 2 2))
  else if idx = 0x6411 then
    if (s.eth sub).changeAt.isSome then some (s, stRange) else ok (s.setGateList sub b)
  else if idx = 0x6418 then ok (s.setWake sub b)
  else if idx = 0x20C0 then
    ok (if v = 1 then s.set PTP_CTRL.enable 1 else (s.set PTP_CTRL.enable 0).ptpDisable)
  else if idx = 0x20CC then ok ((s.set PTP_GAIN.kp (leAt b 0 2)).set PTP_GAIN.ki (leAt b 2 2))
  else none

/-- R442: the inputs the theft watch selects after one of them is written. -/
def State.theftInputs (s : State) (sub v : Nat) : List Nat :=
  (List.range 3).map fun k => if k = sub then v else s.obj 0x6061 k

/-- Settings of metering, and of the ghost light; none for any other object. -/
def State.applySetting2 (s : State) (idx sub : Nat) (b : List Byte) : Option (State × Nat) :=
  let v := leNat b
  let ok := fun (s : State) => some (s, stOK)
  if idx = 0x6001 then ok (s.setFieldBit MTR_CTRL.feeder_en sub v)
  else if idx = 0x6002 then ok ((s.setObj idx sub v).meterChanging sub)
  else if idx = 0x6003 then ok ((s.setFieldBit MTR_MODE.absolute sub v).meterChanging sub)
  else if idx = 0x6004 then
    if (List.range 3).any fun k => decide (s.obj 0x6061 k = sub) then some (s, stRange)
    else ok ((s.setFieldBit MTR_ROGO.rogowski sub v).meterChanging sub)
  else if idx = 0x6006 then ok (((s.setObj idx sub v).setGain sub).meterChanging sub)
  else if idx = 0x6007 then ok ((s.set (MTR_PHASE.corr sub) v).meterChanging sub)
  else if idx = 0x6030 then
    let s := ((s.set (MTR_PULSE_CFG.enable sub) (leAt b 0 1)).set (MTR_PULSE_CFG.feeder sub)
      (leAt b 1 1)).set (MTR_PULSE_CFG.phase sub) (leAt b 2 1)
    ok (((s.set (MTR_PULSE_CFG.quantity sub) (leAt b 3 1)).set (MTR_PULSE_CFG.constant sub)
      (leAt b 4 3)).set (MTR_PULSE_TIM.width sub) (leAt b 7 1))
  else if idx = 0x6060 then ok ((s.setObj idx sub v).set GHL_THEFT_CFG.enable v)
  else if idx = 0x6061 then
    let l := s.theftInputs sub v
    if bitOf (s.get MTR_ROGO.rogowski) v = 1 ∨ ¬ l.Nodup then some (s, stRange)
    else
      let f := if sub = 0 then GHL_THEFT_CFG.in0 else if sub = 1 then GHL_THEFT_CFG.in1
        else GHL_THEFT_CFG.in2
      ok ((s.setObj idx sub v).set f v)
  else if idx = 0x6062 then ok ((s.setObj idx sub v).set GHL_THEFT_THR.ma v)
  else if idx = 0x7032 then ok { s with keys := { s.keys with enabled := v } }
  else if idx = 0x7033 then ok { s with keys := { s.keys with polarity := v } }
  else if idx = 0x7034 then ok { s with keys := { s.keys with lapseCounts := decide (v = 1) } }
  else none

/-- A setting takes its value; the status tells a refusal by a rule on other values.  `boot`: the books
are being applied, before any block is in service. -/
def State.applySetting (s : State) (r : ObjRow) (boot : Bool) (idx sub ptr : Nat) (b : List Byte) :
    State × Nat :=
  let v := leNat b
  let busyRadio := (decide (idx = 0x5002 ∨ idx = 0x5004 ∨ idx = 0x5005) && s.flag (RAD_CTRL.enable sub))
  let busyPlc := (decide (idx = 0x5401 ∨ idx = 0x5402) && s.flag (PLC_CTRL.enable sub))
  let busyPtp := (decide (idx = 0x20C2 ∨ idx = 0x20C3) && s.flag PTP_CTRL.enable)
  if boot = false ∧ (busyRadio ∨ busyPlc ∨ busyPtp) then (s, stRange)
  else match serviceBlock idx sub with
    | some k => s.setService k (decide (v = 1))
    | none =>
      match s.applySetting1 idx sub ptr b with
      | some x => x
      | none =>
        match s.applySetting2 idx sub b with
        | some x => x
        | none =>
          match objField idx with
          | some f => (s.setAll (objTargets f idx sub) v, stOK)
          | none =>
            if r.ty = .octets then (s.setOct idx sub b, stOK) else (s.setObj idx sub v, stOK)

/-! ## Books (R557-R562) -/

/-- The persistent objects reached directly: index, sub-index and row, in ascending order. -/
def directRows : List (Nat × Nat × ObjRow) :=
  (objRows.filter fun r => r.persists && decide (pointerOf r.lo = none)).flatMap fun r =>
    (List.range (r.hi + 1 - r.lo)).flatMap fun i =>
      (List.range (r.subHi + 1 - r.subLo)).map fun k => (r.lo + i, r.subLo + k, r)

/-- A book entry: index, sub-index, pointer and value. -/
abbrev Entry := Nat × Nat × Nat × List Byte

/-- The pointer of an entry for an object reached directly. -/
def noPointer : Nat := 0xFFFFFFFF

/-- Entries as a book holds them (R558); the first argument bounds them. -/
def cutEntries : Nat → List Byte → List Entry
  | 0, _ => []
  | n + 1, b =>
    let len := leAt b 8 2
    if b.length < 10 + len then []
    else (leAt b 0 2, leAt b 2 1, leAt b 4 4, (b.drop 10).take len) :: cutEntries n (b.drop (10 + len))

/-- R558, R562: the entries of a factory book that is valid: its kind, format and CRC. -/
def factoryEntries (b : List Byte) : List Entry :=
  let es := (b.drop 32).take (leAt b 0x0C 4)
  if 32 ≤ b.length ∧ leAt b 0 1 = 1 ∧ leAt b 1 1 = 1 ∧ crc32 (b.take 0x1C ++ es) = leAt b 0x1C 4 then
    cutEntries (leAt b 8 4) es
  else []

/-- R650: the factory-book section of an image that carries one. -/
def ImageSlot.section_ (x : ImageSlot) : List Byte :=
  if x.header ≠ [] ∧ bitOf x.flags 1 = 1 then
    (x.octets.drop (leAt x.header 0x3C 4)).take (leAt x.header 0x40 4)
  else []

/-- R658: the entries of the factory-book section of the image that the serving die runs; what they do not
name has the value of the delivered factory book (log entry 123). -/
def State.sectionEntries (s : State) : List Entry :=
  let g := s.green s.stageDie
  let b := (if g.running = 0 then g.run0 else g.run1).section_
  if b = [] then [] else factoryEntries b

/-- R658: the factory value of an object reached directly. -/
def State.factoryValue (s : State) (r : ObjRow) (idx sub : Nat) : List Byte :=
  match s.sectionEntries.find? fun e => decide (e.1 = idx ∧ e.2.1 = sub ∧ e.2.2.1 = noPointer) with
  | some e => e.2.2.2
  | none => objDefault s.part r idx sub

/-- Entries come in ascending order of index, sub-index and pointer. -/
def entryBefore (x y : Entry) : Bool :=
  let k := fun (e : Entry) => (e.1 * 2 ^ 8 + e.2.1) * 2 ^ 32 + e.2.2.1
  decide (k x ≤ k y)

/-- The pointer values under which a persistent object holds other than its factory value. -/
def State.pointedEntries (s : State) : List Entry :=
  let die := s.die s.stageDie
  let group := fun (x : Nat × Group) => (0x4211, 0, x.1, s.objOct1 0x4211 0 x.1)
  let gs := (die.groups.map group).filter fun e => decide (e.2.2.2 ≠ zeroOctets 52)
  let as := s.aggDefs.map fun x => (0x4301, 0, x.1, s.objOct1 0x4301 0 x.1)
  let ns := (s.nodes.map fun x => (0x5022, 0, x.1, padTo 5 x.2.sleep)).filter
    fun e => decide (e.2.2.2 ≠ zeroOctets 5)
  let ds := s.directory.map fun x => (0x1209, 0, x.1, padTo 16 x.2)
  let held : List Entry := gs ++ as ++ ns ++ ds
  let fact := s.sectionEntries.filter fun e => decide (e.2.2.1 ≠ noPointer)
  let key := fun (e : Entry) => (e.1, e.2.1, e.2.2.1)
  let gone := fact.filter fun (e : Entry) => !held.any fun (x : Entry) => decide (key x = key e)
  (held.filter fun (e : Entry) => !fact.contains e) ++
    gone.map fun (e : Entry) => (e.1, e.2.1, e.2.2.1, zeroOctets e.2.2.2.length)

/-- R559: every persistent value in force that differs from the factory book. -/
def State.bookEntries (s : State) : List Entry :=
  let direct := directRows.filterMap fun x =>
    let v := s.objValue x.2.2 x.1 x.2.1 0
    if v = s.factoryValue x.2.2 x.1 x.2.1 then none else some (x.1, x.2.1, noPointer, v)
  (direct ++ s.pointedEntries).mergeSort entryBefore

/-- The newest valid copy of a die. -/
def Die.newestBook (d : Die) : Option Book :=
  match (d.books[0]?).join, (d.books[1]?).join with
  | some a, some b => if a.seq < b.seq then some b else some a
  | some a, none => some a
  | none, o => o

/-- Object 0x1043: persistent values that differ from the newest copy, or from the factory book where no
copy is valid. -/
def State.uncommitted (s : State) : Nat :=
  let now := s.bookEntries
  let saved := match (s.die s.stageDie).newestBook with
    | some b => b.entries
    | none => []
  let key := fun (e : Entry) => (e.1, e.2.1, e.2.2.1)
  (now.filter fun e => !saved.contains e).length +
    (saved.filter fun e => !now.any fun x => decide (key x = key e)).length

/-- R559: the copy a commit writes: an invalid one, else the older. -/
def Die.commitTarget (d : Die) : Nat :=
  match (d.books[0]?).join, (d.books[1]?).join with
  | none, _ => 0
  | _, none => 1
  | some a, some b => if a.seq < b.seq then 0 else 1

/-- R559: the book of a commit made now. -/
def State.commitBook (s : State) : Book :=
  { seq := ((s.die s.stageDie).newestSeq + 1) % 2 ^ 32, entries := s.bookEntries }

/-- R559: a commit begins at its boundary; the status is none while it runs. -/
def State.commitStart (s : State) (v : Nat) (who : Option (Nat × Nat × Nat)) : State × Option Nat :=
  let die := s.die s.stageDie
  if s.committing.isSome then (s, some stBusy)
  else if v ≠ die.newestSeq then (s, some stRange)
  else
    let books := die.books.set die.commitTarget none
    let s := { s.setDie s.stageDie { die with books := books } with committing := some (s.commitBook, who) }
    (s.mirror (.books books die.everSeq), none)

/-- PROMPT_COMMIT_END (R559): the copy is written and the response follows. -/
def execPromptCommitEnd (s : State) : Host.Outcome State Fault Refusal :=
  match s.committing with
  | none => .next s
  | some (b, who) =>
    let die := s.die s.stageDie
    let books := die.books.set die.commitTarget (some b)
    let s := (s.setDie s.stageDie { die with books := books, everSeq := b.seq }).mirror (.books books b.seq)
    .next ({ s with committing := none }.settleItem who stOK)

/-- R561: both copies are invalidated. -/
def State.eraseBooks (s : State) (v : Nat) : State × Nat :=
  let die := s.die s.stageDie
  if v ≠ die.newestSeq then (s, stRange)
  else if s.committing.isSome then (s, stBusy)
  else ((s.setDie s.stageDie { die with books := [none, none] }).mirror (.books [none, none] die.everSeq), stOK)

/-- R562: an entry of a prompt copy is applied, or skipped; the entries skipped come with the state. -/
def State.applyEntry (x : State × List Entry) (e : Entry) : State × List Entry :=
  let (idx, sub, ptr, b) := e
  match objRow idx sub with
  | none => (x.1, x.2 ++ [e])
  | some r =>
    if r.persists = false ∨ (pointerOf idx).isNone ≠ decide (ptr = noPointer) ∨ typeOk r idx b = false ∨
        rangeOk r idx b = false then (x.1, x.2 ++ [e])
    else
      let (s, st) :=
        if idx = 0x4211 then
          let d := x.1.stageDie
          let (v, st) := (x.1.die d).writeGroup ptr b
          (x.1.setDie d v, st)
        else x.1.applySetting r true idx sub ptr b
      (s, if st = stOK then x.2 else x.2 ++ [e])

/-- R562, R658: the factory values of every persistent object. -/
def State.applyFactory (s : State) : State :=
  let value := s.factoryValue
  let d := s.stageDie
  let die := s.die d
  let s := s.setDie d { die with groups := [] }
  let s := { s with
    profiles := [], curves := [], aggDefs := [], directory := [],
    nodes := s.nodes.map fun x => (x.1, { x.2 with sleep := [] }) }
  let pages := fun (e : Entry) => decide (e.2.2.1 ≠ noPointer ∨ (0x4100 ≤ e.1 ∧ e.1 ≤ 0x420E))
  let s := directRows.foldl (fun (s : State) (x : Nat × Nat × ObjRow) =>
    if (0x4100 ≤ x.1 ∧ x.1 ≤ 0x420E) ∨ (serviceBlock x.1 x.2.1).isSome then s
    else (s.applySetting x.2.2 true x.1 x.2.1 0 (value x.2.2 x.1 x.2.1)).1) s
  ((s.sectionEntries.filter pages).foldl State.applyEntry (s, [])).1

/-- R562: the blocks that the factory book, with the entries given, puts in service. -/
def State.applyServices (s : State) (es : List Entry) : State :=
  (directRows.filter fun x => (serviceBlock x.1 x.2.1).isSome).foldl (fun s x =>
    let given := es.find? fun e => decide (e.1 = x.1 ∧ e.2.1 = x.2.1)
    let b := match given with
      | some e => e.2.2.2
      | none => s.factoryValue x.2.2 x.1 x.2.1
    if leNat b = 1 then (s.setService ((serviceBlock x.1 x.2.1).getD 0) true).1 else s) s

/-- R562: at a start the factory book and then the newest valid prompt copy are applied. -/
def State.applyBooks (s : State) : State :=
  let d := s.stageDie
  let s := s.applyFactory
  let book := (s.die d).newestBook
  let es := match book with
    | some b => b.entries
    | none => []
  let cfg := es.filter fun e => (serviceBlock e.1 e.2.1).isNone
  let (s, skipped) := cfg.foldl State.applyEntry (s, [])
  let s := (s.applyServices es).setObj 0x1044 0 skipped.length
  let src := cbSource (originDie d) cbOBJ 0
  let s := match skipped with
    | [] => s
    | e :: _ => s.post .management src 0x0062
        (leBytes 2 e.1 ++ leBytes 1 e.2.1 ++ leBytes 5 0 ++ leBytes 4 skipped.length)
  let ever := (s.die d).everSeq
  s.postIf (book.isNone && decide (ever ≠ 0)) .management src 0x0063 (leBytes 4 ever ++ leBytes 4 0)

end Sys2Proof.Machine
end

