-- ==== Sys2Proof/Machine/Intake.lean ====
section
/-! DEFINITION. Requests of the object protocol as they are received: sessions, messages, duplicates,
reads, writes checked and staged for the boundary, and the endpoint service (R128, R129, R534-R556). -/

namespace Sys2Proof.Machine

/-! ## Sessions -/

/-- The session that stands for company commands that come by multicast or from the module itself. -/
def sessionCompany : Nat := 33

/-- Some die serves the object protocol: the stage holder, or the server of offline mode (log entry
78). -/
def State.serving (s : State) : Bool := s.holder.isSome || s.tests.server.isSome

/-- A session is open; the host port's is always (R534). -/
def State.sessionOpen (s : State) (n : Nat) : Bool := decide (n = 0) || s.sessions.any fun x => decide (x.1 = n)

def State.sessionAt (s : State) (n : Nat) : Option Session := (s.sessions.find? fun x => x.1 = n).map Prod.snd

/-- R652: the session is one of the service port. -/
def State.onService (s : State) (n : Nat) : Bool :=
  match s.sessionAt n with
  | some x => x.service
  | none => false

/-- R538: a record of a session restarts its idle time. -/
def State.touch (s : State) (n : Nat) : State :=
  { s with sessions := s.sessions.map fun x => if x.1 = n then (x.1, { x.2 with last := s.now }) else x }

/-- The numbers of the places of R535: 31 of the backbone and one of the service port. -/
def placesOf (service : Bool) : List Nat :=
  if service then [32] else (List.range 31).map (· + 1)

/-- R535, R564, R623: a handshake with credentials on a transport may open a session. -/
def State.handshakeOk (s : State) (service commissioning : Bool) : Bool :=
  let joined := decide (s.joinState = 2)
  let managed := s.slotValid 5 && s.slotValid 6
  if service then commissioning || (joined && managed) else !commissioning && joined && managed

/-- SESSION_OPEN (R535, R564, R623): a handshake opens the lowest free place of its transport, is
refused, or is left unanswered and counted when none is free. -/
def execSessionOpen (service commissioning : Bool) (s : State) : Host.Outcome State Fault Refusal :=
  if s.serving = false then .next s
  else match (placesOf service).find? fun n => !s.sessionOpen n with
    | none => .next (s.objSat 0x110F)
    | some n =>
      if s.handshakeOk service commissioning = false then .next s
      else
        let x : Session := { service := service, commissioning := commissioning, last := s.now }
        let s := { s with sessions := Tbl.insert s.sessions n x }.dropPointers fun k => decide (k ≠ n)
        .next (match s.holder with
          | none => s
          | some d => { s with continuity := s.continuity ++ [(d.other, .sessions s.sessions)] })

/-- SESSION_IDLE_TIMEOUT (R538): sessions without a record for the time of object 0x1104 close. -/
def execSessionIdleTimeout (s : State) : Host.Outcome State Fault Refusal :=
  .next (s.closeSessions fun _ x => decide (x.last + s.obj 0x1104 0 * 25000000 ≤ s.now))

/-- SESSION_PEER_CLOSE (R538). -/
def execSessionPeerClose (n : Fin 33) (s : State) : Host.Outcome State Fault Refusal :=
  .next (s.closeSessions fun k _ => decide (k = n.val))

/-! ## Pointers (R200) -/

def pointerKey (session idx : Nat) : Nat := session * 65536 + idx

/-- The value of a pointer object in a session. -/
def State.pointer (s : State) (session idx : Nat) : Nat := Tbl.get 0 s.pointers (pointerKey session idx)

/-- The writes that wait for the boundary. -/
def State.waitingWrites (s : State) : List Mgmt := (s.die s.stageDie).staged

/-- The pointer value in force when a write received now will be applied: the session's pointer after its
writes that wait (log entry 82). -/
def State.pointerAhead (s : State) (session idx : Nat) : Nat :=
  s.waitingWrites.foldl (fun p w =>
    if w.target = 1 ∧ w.code = idx ∧ w.session = session then leNat w.value else p) (s.pointer session idx)

/-! ## Staging -/

/-- R128, R129: a management-plane write joins the staging buffer and the journal, or is refused with the
busy status and counted; stage_full is raised at the refusal (log entry 125). -/
def State.stageWrite (s : State) (w : Mgmt) : State × Nat :=
  let d := s.stageDie
  let die := s.die d
  if 16384 ≤ die.staged.length then
    ((s.addSat (EPS_STAGE_REFUSED.count d) 1).raise (EPS_INT_STATUS.stage_full d), stBusy)
  else ((s.setDie d { die with staged := die.staged ++ [w] }).journalMgmt w, stOK)

/-! ## Checks on receipt (R546, R550, R539, R629, R652, R672, R683, R713) -/

/-- The session has the right to write an object. -/
def State.mayWrite (s : State) (session idx : Nat) : Bool :=
  if session = 0 then
    decide (s.obj 0x1108 0 = 1) && !decide (0x7000 ≤ idx ∧ idx ≤ 0x77FF) && decide (idx ≠ 0x7801) &&
      decide (idx ≠ 0x7C10)
  else if 0x7401 ≤ idx ∧ idx ≤ 0x7403 then s.onService session
  else true

/-- R550: a WO1 object that has been written, or an RWL object whose lock is set. -/
def State.lockedObject (s : State) (idx : Nat) : Bool :=
  if idx = 0x1200 then decide (s.obj 0x1200 0 ≠ 0xFFFF)
  else if idx = 0x1201 then decide (s.obj 0x1201 0 ≠ 0)
  else if idx = 0x7001 then decide (s.oct 0x7001 0 ≠ [])
  else if idx = 0x1108 then decide (s.obj 0x1109 0 = 1)
  else false

/-- R214: a bank swap is pending. -/
def State.swapAhead (s : State) : Bool := (s.die s.stageDie).swapWaits

/-- R235: the counter of a blackout command exceeds those accepted before it. -/
def State.blackoutFresh (s : State) (b : List Byte) : Bool :=
  s.waitingWrites.all fun w => !decide (w.target = 1 ∧ w.code = 0x4422) ||
    decide (leAt w.value 32 4 < leAt b 32 4)

/-- R574: a company send is in progress: answers are awaited. -/
def State.sending (s : State) : Bool :=
  match s.company.send with
  | some x => decide (x.waits ≠ [])
  | none => false

/-- The conditions that a request states for its acceptance on receipt. -/
def State.requestStatus (s : State) (idx : Nat) (b : List Byte) : Nat :=
  let v := leNat b
  let c := s.cues s.stageDie
  if idx = 0x1040 ∨ idx = 0x1042 then
    if v ≠ (s.die s.stageDie).newestSeq then stRange
    else if s.committing.isSome then stBusy else stOK
  else if idx = 0x1204 then
    if v = s.moduleNumber ∧ s.joinState = 2 then stOK else stState
  else if idx = 0x1210 then
    if s.slotValid 7 = false then stRights else if s.sending then stBusy else stOK
  else if idx = 0x4402 then
    if c.syncBusy ∨ s.swapAhead then stBusy
    else if v ≠ c.inactiveBank.seq then stRange else stOK
  else if idx = 0x4411 ∨ idx = 0x4413 ∨ idx = 0x4415 then
    if c.syncBusy ∨ s.swapAhead then stBusy else stOK
  else if idx = 0x4422 then
    if s.blackoutOk s.stageDie b ∧ s.blackoutFresh b then stOK else stRange
  else if idx = 0x7032 ∨ idx = 0x7033 ∨ idx = 0x7034 then
    if s.keys.latched ≠ 0 then stState else stOK
  else stOK

/-- The status of a write on receipt (R546; the order of the checks is log entry 83). -/
def State.writeStatus (s : State) (session idx sub : Nat) (b : List Byte) : Nat :=
  match objRow idx sub with
  | none => stNoObject
  | some r =>
    if r.acc = .ro then stAccess
    else if s.mayWrite session idx = false then stRights
    else if s.lockedObject idx then stLocked
    else if typeOk r idx b = false then stType
    else if rangeOk r idx b = false then stRange
    else s.requestStatus idx b

/-- What a refusal on receipt does beside its status (R214, R235). -/
def State.refusedWrite (s : State) (idx st : Nat) : State :=
  let d := s.stageDie
  if idx = 0x4402 ∧ st ≠ stNoObject then s.raise (CUE_TBL_INT_STATUS.swap_refused d)
  else if idx = 0x4422 ∧ st = stRange then s.authFail d
  else s

/-- R649, R652: the writes that act when they are received (log entry 69). -/
def State.actNow (s : State) (idx : Nat) (b : List Byte) : Option (State × Nat) :=
  if idx = 0x7401 then some (s.stageBegin b)
  else if idx = 0x7402 then some (s.stageBlock b)
  else if idx = 0x7403 then some (if leNat b = 1 then s.stageEnd else (s, stOK))
  else if idx = 0x7406 then some (s.endorse b)
  else none

/-- An object write is received: refused, carried out at once, or staged; the status is none while it
waits. -/
def State.takeWrite (s : State) (session : Nat) (who : Option (Nat × Nat × Nat)) (idx sub : Nat)
    (b : List Byte) : State × Option Nat :=
  let st := s.writeStatus session idx sub b
  if st ≠ stOK then (s.refusedWrite idx st, some st)
  else match s.actNow idx b with
    | some (s, st) => (s, some st)
    | none =>
      let ptr := match pointerOf idx with
        | some p => s.pointerAhead session p
        | none => 0
      let w : Mgmt := { target := 1, code := idx, sub := sub, ptr := ptr, value := b, who := who }
      let (s, st) := s.stageWrite w
      if st = stOK then (s, none) else (s.refusedWrite idx st, some st)

/-- R148, R546, R554: the status of an endpoint write on receipt. -/
def epStatus (code : Nat) (b : List Byte) : Nat :=
  match epField code with
  | none => stNoObject
  | some (size, acc) =>
    if acc = 0 then stAccess
    else if b.length ≠ size ∨ (code = 0x31 ∧ 1 < leNat b) then stType
    else stOK

/-- An endpoint write is received; the host-port session needs its write rights (R539). -/
def State.takeEp (s : State) (who : Option (Nat × Nat × Nat)) (e code : Nat) (b : List Byte) :
    State × Option Nat :=
  let form := epStatus code b
  let host := decide (who.map Prod.fst = some 0 ∧ s.obj 0x1108 0 ≠ 1)
  let st := if host && decide (form ≠ stNoObject ∧ form ≠ stAccess) then stRights else form
  if st ≠ stOK then (s, some st)
  else
    let (s, st) := s.stageWrite { target := 0, code := code, sub := e, ptr := 0, value := b, who := who }
    (s, if st = stOK then none else some st)

/-! ## Messages (R540-R543) -/

/-- Items cut from a body by a parser of one item, none where one is malformed. -/
def cutItems {α : Type} (one : List Byte → Option (α × List Byte)) : Nat → List Byte → Option (List α)
  | 0, _ => some []
  | n + 1, b =>
    match one b with
    | none => none
    | some (x, rest) => (cutItems one n rest).map (x :: ·)

/-- A READ item: index and sub-index. -/
def readItem (b : List Byte) : Option ((Nat × Nat) × List Byte) :=
  if b.length < 4 ∨ leAt b 3 1 ≠ 0 then none else some ((leAt b 0 2, leAt b 2 1), b.drop 4)

/-- A WRITE item: index, sub-index and value. -/
def writeItem (b : List Byte) : Option ((Nat × Nat × List Byte) × List Byte) :=
  let n := leAt b 4 2
  if b.length < 6 + n ∨ b.length < 6 ∨ leAt b 3 1 ≠ 0 then none
  else some ((leAt b 0 2, leAt b 2 1, (b.drop 6).take n), b.drop (6 + n))

/-- An EP_WRITE item: endpoint, field code and value. -/
def epItem (b : List Byte) : Option ((Nat × Nat × List Byte) × List Byte) :=
  let n := leAt b 6 2
  if b.length < 8 + n ∨ b.length < 8 ∨ leAt b 5 1 ≠ 0 ∨ 2 ^ 20 ≤ leAt b 0 4 then none
  else some ((leAt b 0 4, leAt b 4 1, (b.drop 8).take n), b.drop (8 + n))

/-- The items of a body that begins with a count from 1 to `most` and three reserved octets. -/
def countedItems {α : Type} (one : List Byte → Option (α × List Byte)) (most : Nat) (b : List Byte) :
    Option (List α) :=
  let n := leAt b 0 1
  if b.length < 4 ∨ n < 1 ∨ most < n ∨ leAt b 1 3 ≠ 0 then none else cutItems one n (b.drop 4)

def msgType (m : List Byte) : Nat := leAt m 1 1
def msgId (m : List Byte) : Nat := leAt m 2 4

/-- R540, R542: the header of a request is in form. -/
def headerForm (m : List Byte) : Bool :=
  decide (12 ≤ m.length ∧ m.length ≤ 1152 ∧ leAt m 0 1 = 1 ∧ leAt m 8 2 + 12 = m.length ∧
    leAt m 7 1 / 8 = 0 ∧ leAt m 10 2 = 0)

/-- A response that is not remembered: a malformed or a refused request. -/
def State.replyOnly (s : State) (session request : Nat) (b : List Byte) : State :=
  let r : Reply := { session := session, request := request, kept := false, after := 0, mirrors := 0, body := b }
  { s with replies := s.replies ++ [r] }.releaseHeld

/-- R542: a malformed request is counted, and answered when its type and identifier can be read. -/
def State.malformed (s : State) (session : Nat) (m : List Byte) : State :=
  let s := s.objSat 0x110C
  if m.length < 6 ∨ 0x80 ≤ msgType m then s
  else s.replyOnly session (msgId m) (respBytes (msgType m) (msgId m) stMalformed 0 [])

/-- R551: what is still remembered at the present cycle. -/
def State.stillRemembered (s : State) : List Remembered :=
  s.remembered.filter fun m => decide (s.clk.cycle ≤ m.cycle + 64) || m.response.isNone

/-- R551: a repeated request: its stored response is sent again, or it is discarded. -/
def State.repeated (s : State) (session : Nat) (m : Remembered) : State :=
  let s := s.objSat 0x1107
  match m.response with
  | none => s
  | some b =>
    let again := b.set 7 (BitVec.ofNat 8 (leAt b 7 1 + 2))
    if session = 0 then s.replyOnly 0 m.request again else s.emit (.message session again)

/-- A new request joins the memory of its session. -/
def State.remember (s : State) (session request : Nat) : State :=
  { s with remembered := s.remembered ++
      [{ session := session, request := request, cycle := s.clk.cycle, response := none }] }

/-! ## Reads -/

/-- R545: one item of a READ: its status and value. -/
def State.readObject (s : State) (session idx sub : Nat) : Nat × List Byte :=
  match objRow idx sub with
  | none => (stNoObject, [])
  | some r =>
    if r.acc = .wo then (stAccess, [])
    else
      let p := if isPointer idx then idx else (pointerOf idx).getD 0
      (stOK, if idx = 0x1043 then leBytes 4 s.uncommitted else s.objValue r idx sub (s.pointer session p))

/-- R545, R543: a READ is answered item by item, or refused when its response would be too large. -/
def State.serveRead (s : State) (session request : Nat) (items : List (Nat × Nat)) : State :=
  let got := items.map fun x => (x, s.readObject session x.1 x.2)
  let one := fun (x : (Nat × Nat) × Nat × List Byte) =>
    leBytes 2 x.1.1 ++ leBytes 1 x.1.2 ++ leBytes 1 x.2.1 ++ leBytes 2 x.2.2.length ++ x.2.2
  let body := leBytes 1 items.length ++ leBytes 3 0 ++ got.flatMap one
  if 1140 < body.length then s.respond session request 0 (respBytes 1 request stTooLarge 0 (leBytes 4 0))
  else
    let s := got.foldl (fun s x => s.countStatus session x.1.1 x.1.2 x.2.1) s
    s.respond session request 0 (respBytes 1 request stOK 0 body)

/-- R553: the endpoints an EP_READ serves: those before the first whose cold record is damaged. -/
def Die.epServe (d : Die) (first code : Nat) : Nat → List (List Byte)
  | 0 => []
  | n + 1 =>
    let e := first % 2 ^ 20
    if epCold code ∧ Tbl.get false d.damaged e then []
    else d.epValue e code :: d.epServe (first + 1) code n

/-- R553: an EP_READ is answered; a refusal returns no values (log entry 109). -/
def State.serveEpRead (s : State) (session request first count code : Nat) : State :=
  let refuse := fun (s : State) (size st : Nat) => s.respond session request 0
    (respBytes 3 request st 0 (leBytes 4 first ++ leBytes 2 0 ++ leBytes 2 size))
  match epField code with
  | none => refuse (s.countStatus session code 0 stNoObject) 0 stNoObject
  | some (size, acc) =>
    if acc = 2 then refuse (s.countStatus session code 0 stAccess) size stAccess
    else
      let vs := (s.die s.stageDie).epServe first code count
      let body := leBytes 4 first ++ leBytes 2 vs.length ++ leBytes 2 size ++ vs.flatten
      if 1140 < body.length then refuse s size stTooLarge
      else
        let st := if vs.length < count then stDamaged else stOK
        s.respond session request 0 (respBytes 3 request st 0 body)

/-! ## Writes -/

/-- The items of a request have been taken: it is answered when the status of each is known, and is in
progress otherwise (R546). -/
def State.takenAll (s : State) (session request type : Nat) (items : List (List Byte × Option Nat)) : State :=
  if items.all fun x => x.2.isSome then
    s.respond session request (s.journal.seq - 1) (respBytes type request stOK 0 (itemsBody items))
  else
    let q : Progress := { session := session, request := request, type := type, items := items }
    { s with progress := s.progress ++ [q] }

/-- The status of an item that is known on receipt is counted (R555, R556). -/
def State.countTaken (s : State) (session idx sub : Nat) (st : Option Nat) : State :=
  match st with
  | some c => s.countStatus session idx sub c
  | none => s

/-- R546, R547: the items of a WRITE, from place `n` on. -/
def State.takeItems (session request : Nat) :
    List (Nat × Nat × List Byte) → Nat → State → State × List (List Byte × Option Nat)
  | [], _, s => (s, [])
  | (idx, sub, b) :: rest, n, s =>
    let (s, st) := s.takeWrite session (some (session, request, n)) idx sub b
    let s := s.countTaken session idx sub st
    let (s, l) := State.takeItems session request rest (n + 1) s
    (s, (leBytes 2 idx ++ leBytes 1 sub, st) :: l)

/-- R554: the items of an EP_WRITE. -/
def State.takeEps (session request : Nat) :
    List (Nat × Nat × List Byte) → Nat → State → State × List (List Byte × Option Nat)
  | [], _, s => (s, [])
  | (e, code, b) :: rest, n, s =>
    let (s, st) := s.takeEp (some (session, request, n)) e code b
    let s := s.countTaken session code e st
    let (s, l) := State.takeEps session request rest (n + 1) s
    (s, (leBytes 4 e ++ leBytes 1 code, st) :: l)

def State.serveWrite (s : State) (session request : Nat) (items : List (Nat × Nat × List Byte)) : State :=
  let (s, l) := State.takeItems session request items 0 s
  s.takenAll session request 2 l

def State.serveEpWrite (s : State) (session request : Nat) (items : List (Nat × Nat × List Byte)) : State :=
  let (s, l) := State.takeEps session request items 0 s
  s.takenAll session request 4 l

/-! ## The requests -/

/-- What a message asks for, once it is in form. -/
inductive Request where
  | read (items : List (Nat × Nat))
  | write (items : List (Nat × Nat × List Byte))
  | epRead (first count code : Nat)
  | epWrite (items : List (Nat × Nat × List Byte))
  | company (body : List Byte)
  deriving DecidableEq, Repr

/-- R541, R542: the request of a message; none where it is malformed. -/
def requestOf (m : List Byte) : Option Request :=
  let b := m.drop 12
  let t := msgType m
  if headerForm m = false then none
  else if t = 1 then (countedItems readItem 16 b).map .read
  else if t = 2 then (countedItems writeItem 16 b).map .write
  else if t = 3 then
    let n := leAt b 4 2
    if b.length ≠ 8 ∨ 2 ^ 20 ≤ leAt b 0 4 ∨ n < 1 ∨ 256 < n ∨ leAt b 7 1 ≠ 0 then none
    else some (.epRead (leAt b 0 4) n (leAt b 6 1))
  else if t = 4 then (countedItems epItem 32 b).map .epWrite
  else if t = 5 then some (.company b)
  else none

/-- R551, R552: a request in form is served unless it repeats one or the memory of its session is
full. -/
def State.admitRequest (s : State) (session : Nat) (m : List Byte) (serve : State → State) : State :=
  let id := msgId m
  let s := { s with remembered := s.stillRemembered }
  match s.remembered.find? fun x => decide (x.session = session ∧ x.request = id) with
  | some x => s.repeated session x
  | none =>
    if 1024 ≤ (s.remembered.filter fun x => decide (x.session = session)).length then
      (s.countBusy stBusy).replyOnly session id (respBytes (msgType m) id stBusy 0 [])
    else serve (s.remember session id)

/-- A message is received in an open session by a die that serves; `mine` picks the requests of one
command, and a malformed message is every command's. -/
def State.receiveMessage (s : State) (session : Nat) (m : List Byte)
    (mine : Request → Option (State → State)) : State :=
  if s.serving = false ∨ s.sessionOpen session = false then s
  else match requestOf m with
    | none => (s.touch session).malformed session m
    | some q =>
      match mine q with
      | none => s
      | some serve => (s.touch session).admitRequest session m serve

/-- READ (R545). -/
def execRead (session : Fin 33) (m : List Byte) (s : State) : Host.Outcome State Fault Refusal :=
  .next (s.receiveMessage session.val m fun q =>
    match q with
    | .read l => some fun s => s.serveRead session.val (msgId m) l
    | _ => none)

/-- WRITE (R546). -/
def execWrite (session : Fin 33) (m : List Byte) (s : State) : Host.Outcome State Fault Refusal :=
  .next (s.receiveMessage session.val m fun q =>
    match q with
    | .write l => some fun s => s.serveWrite session.val (msgId m) l
    | _ => none)

/-- EP_READ (R553). -/
def execEpRead (session : Fin 33) (m : List Byte) (s : State) : Host.Outcome State Fault Refusal :=
  .next (s.receiveMessage session.val m fun q =>
    match q with
    | .epRead e n c => some fun s => s.serveEpRead session.val (msgId m) e n c
    | _ => none)

/-- EP_WRITE (R554). -/
def execEpWrite (session : Fin 33) (m : List Byte) (s : State) : Host.Outcome State Fault Refusal :=
  .next (s.receiveMessage session.val m fun q =>
    match q with
    | .epWrite l => some fun s => s.serveEpWrite session.val (msgId m) l
    | _ => none)

/-- A write of one object as a request of its own (R546): the message of a session that holds this one
item. -/
def State.objectWrite (s : State) (session request idx sub : Nat) (b : List Byte) : State :=
  if s.serving = false ∨ s.sessionOpen session = false then s
  else
    let m := leBytes 1 1 ++ leBytes 1 2 ++ leBytes 4 request ++ leBytes 2 0 ++ leBytes 2 (10 + b.length) ++
      leBytes 2 0
    (s.touch session).admitRequest session m fun s => s.serveWrite session request [(idx, sub, b)]

end Sys2Proof.Machine
end

