-- ==== Sys2Proof/Machine/Actions.lean ====
section
/-! DEFINITION. What the objects that request something do when their write is applied, company commands
received and sent, joining and leaving a company, and the staged writes at a boundary (R546, R564-R574,
R761). -/

namespace Sys2Proof.Machine

/-! ## Company commands (R569-R574) -/

/-- A company command as received: its fields, whether its targets name the module, the octets its tag
covers, and the tag. -/
structure CompanyMsg where
  cmd : Command
  addressed : Bool
  signed_ : List Byte
  tag : List Byte
  deriving DecidableEq, Repr

/-- The targets of a command name module `own`. -/
def targetsName (kind own : Nat) (b : List Byte) : Bool :=
  if kind = 0 then true
  else if kind = 1 then decide (leAt b 0 2 ≤ own ∧ own ≤ leAt b 2 2)
  else (List.range (b.length / 2)).any fun i => decide (leAt b (2 * i) 2 = own)

/-- The octets of an action's data, given what follows the targets. -/
def actionLength (action : Nat) (b : List Byte) : Nat :=
  if action = 1 then 32 else if action = 2 then 6 + leAt b 4 2 else 16

/-- R569, R542: the octets of a command before its tag, cut into its parts; none where they are malformed. -/
def companyParts (b : List Byte) : Option (List Byte × List Byte) :=
  let kind := leAt b 16 1
  let n := leAt b 18 2
  let tl := if kind = 1 then 4 else if kind = 2 then 2 * n else 0
  let rest := b.drop (20 + tl)
  let action := leAt b 17 1
  let al := actionLength action rest
  if b.length ≠ 20 + tl + al ∨ 2 < kind ∨ action < 1 ∨ 3 < action ∨ leAt b 2 2 ≠ 0 ∨
      leAt b 1 1 / 64 % 2 = 1 ∨ (kind = 2 ∧ (n < 1 ∨ 256 < n)) ∨ (kind ≠ 2 ∧ n ≠ 0) ∨
      (action = 2 ∧ leAt rest 3 1 ≠ 0) then none
  else some ((b.drop 20).take tl, rest)

/-- R569: a command with its tag; none where it is malformed. -/
def State.companyMsg (s : State) (b : List Byte) : Option CompanyMsg :=
  let body := b.take (b.length - 16)
  (companyParts body).map fun x =>
    let c : Command := ⟨leAt b 0 2, leAt b 4 4, leAt b 8 8, leAt b 17 1, x.2⟩
    ⟨c, targetsName (leAt b 16 1) s.moduleNumber x.1, body, b.drop (b.length - 16)⟩

/-- R569: the tag of a command under the company command key. -/
def State.companyTag (s : State) (b : List Byte) : List Byte := (hmac384 (s.workKey 7) b).take 16

/-- A TAI instant lies more than `n` of the module's own cycles before the instant `now` (R93, R572). -/
def State.behind (s : State) (now t n : Nat) : Bool :=
  decide (n * s.get CYC_MAP_PERIOD.period < (now - t) * 16)

/-- The stamp of the next boundary. -/
def State.nextBoundary (s : State) : Nat := stampOf (s.clk.cycle + 1) 0

/-- Object 0x1212: the last command received, its result and the stamp of its execution. -/
def State.companyShow (s : State) (c : Command) (result stamp : Nat) : State :=
  let shown := leBytes 2 c.sender ++ leBytes 1 c.action ++ leBytes 1 result ++ leBytes 4 c.counter ++
    leBytes 8 c.at_ ++ leBytes 8 stamp
  { s with company := { s.company with received := shown } }

/-- R571: the go entry of action 1 with the command's TAI. -/
def companyGo (c : Command) : List Byte :=
  let f := leAt c.data 5 1
  let w := if c.at_ = 0 then 0 else 2
  (c.data.take 5) ++ leBytes 1 (f / 64 * 64 + w * 16 + f % 16) ++ (c.data.drop 6).take 2 ++
    leBytes 8 c.at_ ++ c.data.drop 16

/-- R571: what an action's own checks say on receipt. -/
def State.actionStatus (s : State) (c : Command) : Nat :=
  if c.action = 1 then
    let x := GoEntry.ofBytes (companyGo c)
    if x.ok (leNat ((companyGo c).drop 28)) ∧ x.op ≠ 4 ∧ x.op ≠ 5 then stOK else stRange
  else if c.action = 2 then
    s.writeStatus sessionCompany (leAt c.data 0 2) (leAt c.data 2 1) (c.data.drop 6)
  else stOK

/-- R571, R659: a command is carried out: its write is staged for the next boundary, or its activation
asked for. -/
def State.companyRun (s : State) (c : Command) : State × Nat :=
  if c.action = 1 then
    s.stageWrite { target := 1, code := 0x4420, sub := 0, ptr := 0, value := companyGo c, who := none }
  else if c.action = 2 then
    let (s, st) := s.takeWrite sessionCompany none (leAt c.data 0 2) (leAt c.data 2 1) (c.data.drop 6)
    (s, st.getD stOK)
  else s.activate_ (leAt c.data 0 4) (some (leAt c.data 4 4)) c.at_

/-- R572: a command waits for its TAI: only an object write does; a go and an activation carry theirs. -/
def State.companyWaits (s : State) (c : Command) : Bool :=
  decide (c.action = 2 ∧ c.at_ ≠ 0) && (!s.mapValid || decide (s.tai ≤ c.at_))

/-- R572: a command whose TAI passed more than 64 cycles before the instant `now`. -/
def State.companyExpired (s : State) (now : Nat) (c : Command) : Bool :=
  decide (c.at_ ≠ 0) && s.mapValid && s.behind now c.at_ 64

/-- R93, R572: a command carried out after its TAI is marked late. -/
def State.markLate (s : State) (late : Bool) : State :=
  if late then { s with company := { s.company with late := s.company.late + 1 } } else s

/-- R572: a command that is carried out late. -/
def State.companyLate (s : State) (c : Command) : Bool :=
  decide (c.at_ ≠ 0) && s.mapValid && decide (c.at_ < s.tai)

/-- R570: the counter of a command is the last accepted from its sender. -/
def Company.accept (x : Company) (c : Command) : Company :=
  { x with senders := Tbl.put 0 x.senders c.sender (c.counter + 1) }

/-- R570-R572: the checks of a command, and what it does: the state and its status; none where the module
is not addressed. -/
def State.companyTake (s : State) (m : CompanyMsg) : State × Option Nat :=
  let c := m.cmd
  let last := Tbl.get 0 s.company.senders c.sender
  if m.addressed = false then (s, none)
  else if s.joinState ≠ 2 then (s, some stState)
  else if s.slotValid 7 = false ∨ m.tag ≠ s.companyTag m.signed_ ∨ c.counter < last then (s, some stAuth)
  else if last = 0 ∧ 64 ≤ s.company.senders.length then (s, some stBusy)
  else if s.companyExpired s.tai c then (s, some stExpired)
  else
    let st := s.actionStatus c
    if st ≠ stOK then (s, some st)
    else
      let s := { s with company := s.company.accept c }
      if s.companyWaits c then
        ({ s with company := { s.company with held := s.company.held ++ [c] } }, some stOK)
      else
        let (s, st) := (s.markLate (s.companyLate c)).companyRun c
        (s, some st)

/-- The stamp object 0x1212 shows for a command accepted now, with the ghost flag of the moment (R69); log
entry 84 on those that run later. -/
def State.companyStamp (s : State) (c : Command) (st : Nat) : Nat :=
  if st ≠ stOK then 0
  else if c.action = 1 then Config.objOpen 0x1212 c.counter % 2 ^ 58
  else if s.companyWaits c then 0
  else s.nextBoundary + s.ghostBit

/-- A command is received: it is shown, and a refusal counted. -/
def State.companyReceive (s : State) (m : CompanyMsg) : State × Option Nat :=
  match s.companyTake m with
  | (s, none) => (s, none)
  | (s, some st) =>
    let s := s.companyShow m.cmd st (s.companyStamp m.cmd st)
    (if st = stOK then s else s.objSat 0x1215, some st)

/-- R573: a company command in a session is answered with the result of its checks. -/
def State.serveCompany (s : State) (session request : Nat) (b : List Byte) : State :=
  match s.companyMsg b with
  | none => (s.objSat 0x110C).respond session request 0 (respBytes 5 request stMalformed 0 [])
  | some m =>
    let late := s.companyLate m.cmd
    match s.companyReceive m with
    | (s, none) => s
    | (s, some st) =>
      let s := s.countBusy st
      s.respond session request (s.journal.seq - 1)
        (respBytes 5 request st (if late ∧ st = stOK then 4 else 0) [])

/-- COMPANY (R570, R573): a command in a session, or by multicast (`session` none), which is never
answered. -/
def execCompany (session : Option (Fin 33)) (m : List Byte) (s : State) : Host.Outcome State Fault Refusal :=
  match session with
  | some n =>
    .next (s.receiveMessage n.val m fun q =>
      match q with
      | .company b => some fun s => s.serveCompany n.val (msgId m) b
      | _ => none)
  | none =>
    if s.serving = false then .next s
    else match requestOf m with
      | some (.company b) =>
        match s.companyMsg b with
        | some x => .next (s.companyReceive x).1
        | none => .next (s.objSat 0x110C)
      | _ => .next s

/-- R571, R572: at a boundary the object writes held for their TAI whose time has come are staged; one that
this boundary is a cycle or more behind is marked late, and one more than 64 cycles late expires (R93). -/
def State.companyDue (s : State) : State :=
  let due := fun (c : Command) => s.mapValid && decide (c.at_ ≤ s.taiP0)
  let go := s.company.held.filter due
  let s := { s with company := { s.company with held := s.company.held.filter fun c => !due c } }
  go.foldl (fun s c =>
    if s.companyExpired s.taiP0 c then
      let s := { s with clk := { s.clk with expired := s.clk.expired + 1 } }
      s.post .management (cbSource (originDie s.stageDie) cbCYC 0) 0x0012
        (leBytes 8 c.at_ ++ leBytes 4 c.counter)
    else
      let late := decide (s.get CYC_MAP_PERIOD.period ≤ (s.taiP0 - c.at_) * 16)
      let (s, st) := (s.markLate late).companyRun c
      if leAt s.company.received 0 2 = c.sender ∧ leAt s.company.received 4 4 = c.counter then
        s.companyShow c st (stampOf s.clk.cycle 0 + s.ghostBit)
      else s) s

/-! ### Sending (R574) -/

/-- The modules a command goes to: those its targets name that the directory knows, but for the module
itself. -/
def State.sendTargets (s : State) (kind : Nat) (t : List Byte) : List Nat :=
  ((s.directory.filter fun x => targetsName kind x.1 t).map Prod.fst).filter
    fun n => decide (n ≠ s.moduleNumber)

/-- R574: the command of a body is signed, carried out where it names the module, and sent. -/
def State.companySend (s : State) (b : List Byte) : State × Nat :=
  if s.slotValid 7 = false then (s, stRights)
  else if s.sending then (s, stBusy)
  else
    let n := s.company.counter + 1
    let body := leBytes 2 s.moduleNumber ++ leBytes 2 0 ++ leBytes 4 n ++ b.drop 8
    match companyParts body with
    | none => (s, stType)
    | some (t, _) =>
      let signed_ := body ++ s.companyTag body
      let targets := s.sendTargets (leAt b 16 1) t
      let x : CompanySend :=
        { counter := n, waits := targets, sent := targets.length, ok := 0, refused := 0, lapsed := 0,
          cycle := s.clk.cycle }
      let s := { s with company := { s.company with counter := n, send := some x } }
      let s := match s.companyMsg signed_ with
        | some m => (s.companyReceive m).1
        | none => s
      let s := s.emits (targets.map fun k => Out.company (some k) signed_)
      (if leNat (s.oct 0x110E 0) = 0 then s else s.emit (.company none signed_), stOK)

/-- A company-level wait of the last send ends. -/
def State.sendAnswered (s : State) (n : Nat) (f : CompanySend → CompanySend) : State :=
  match s.company.send with
  | none => s
  | some x =>
    if x.waits.contains n then
      { s with company := { s.company with send := some (f { x with waits := x.waits.erase n }) } }
    else s

/-- COMPANY_RESPONSE (R574): the answer of a target module. -/
def execCompanyResponse (target : BitVec 14) (status : BitVec 8) (s : State) :
    Host.Outcome State Fault Refusal :=
  .next (s.sendAnswered target.toNat fun x =>
    if status = 0 then { x with ok := x.ok + 1 } else { x with refused := x.refused + 1 })

/-! ## Joining and leaving (R564-R566) -/

/-- R565: the state becomes NUMBERED once the number and the identifier are written. -/
def State.numbered (s : State) : State :=
  if s.joinState = 0 ∧ s.obj 0x1200 0 ≠ 0xFFFF ∧ s.obj 0x1201 0 ≠ 0 then s.setObj 0x1202 0 1 else s

/-- R565: the move to JOINED. -/
def State.joinCompany (s : State) : State × Nat :=
  if s.joinState = 1 ∧ s.slotValid 3 then
    let s := (s.setObj 0x1202 0 2).closeSessions fun _ x => x.commissioning
    (s.joinKeys, stOK)
  else (s, stState)

/-- R566: the write that begins to leave. -/
def State.leaveCompany (s : State) (v : Nat) : State × Nat :=
  if v = s.moduleNumber ∧ s.joinState = 2 then (s.setObj 0x1202 0 3, stOK) else (s, stState)

/-- R566, R632: at the boundary after, the module leaves its company. -/
def State.leftCompany (s : State) : State :=
  if s.joinState = 3 then
    let s := (s.keyDecommission.closeSessions fun _ _ => true).setObj 0x1200 0 0xFFFF
    let s := (s.setObj 0x1201 0 0).setObj 0x1202 0 0
    { s with directory := [] }
  else s

/-! ## Requests as they are applied -/

/-- R761: an action that only TRUE requests. -/
def onTrue (v : Nat) (s : State) (act : State × Nat) : State × Option Nat :=
  if v = 1 then (act.1, some act.2) else (s, some stOK)

/-- A yes or no answer as a status. -/
def yesNo (no : Nat) (x : State × Bool) : State × Nat := (x.1, if x.2 then stOK else no)

/-- R300: a swap request through object 0x5012. -/
def State.swapObject (s : State) (r v : Nat) : State × Nat :=
  let before := (s.radio r).swapBy
  let s' := s.swapRequest r v
  (s', if before.isNone && (s'.radio r).swapBy.isSome then stOK else stRange)

/-- R334: object 0x5024 for the node at the pointer. -/
def State.leaveObject (s : State) (n : Nat) : State × Nat :=
  let nd := s.node n
  if nd.joined then
    (s.nodeLeaves n, stOK)
  else (s, stRange)

/-- R713: the value that restarts the module. -/
def State.restartObject (s : State) (v : Nat) : State × Nat :=
  if v = s.moduleNumber then ({ s with power := { s.power with restartAsked := true } }, stOK)
  else (s, stRange)

/-- Requests of objects below 0x5000; none for any other object. -/
def State.applyAction1 (s : State) (w : Mgmt) : Option (State × Option Nat) :=
  let v := leNat w.value
  let at_ := fun (x : State × Nat) => some (x.1, some x.2)
  if w.code = 0x1040 then some (s.commitStart v w.who)
  else if w.code = 0x1042 then at_ (s.eraseBooks v)
  else if w.code = 0x1200 then
    if s.lockedObject 0x1200 then at_ (s, stLocked) else at_ ((s.setObj 0x1200 0 v).numbered, stOK)
  else if w.code = 0x1201 then
    if s.lockedObject 0x1201 then at_ (s, stLocked) else at_ ((s.setObj 0x1201 0 v).numbered, stOK)
  else if w.code = 0x1203 then some (onTrue v s s.joinCompany)
  else if w.code = 0x1204 then at_ (s.leaveCompany v)
  else if w.code = 0x1210 then at_ (s.companySend w.value)
  else if w.code = 0x1214 then
    some (onTrue v s ({ s with company := { s.company with senders := [] } }, stOK))
  else if w.code = 0x1108 then
    if s.lockedObject 0x1108 then at_ (s, stLocked) else at_ (s.setObj 0x1108 0 v, stOK)
  else if w.code = 0x2041 then at_ (s.rtcCommit v, stOK)
  else if w.code = 0x20C9 then some (onTrue v s (yesNo stRange s.ptpAuthorise))
  else if w.code = 0x2103 then at_ (yesNo stRange (s.handOver (DieId.ofNum v)))
  else if w.code = 0x2104 then some (onTrue v s (yesNo stRange (s.selfTest (DieId.ofNum w.sub))))
  else none

/-- Requests of objects from 0x5000 on; none for any other object. -/
def State.applyAction2 (s : State) (w : Mgmt) : Option (State × Option Nat) :=
  let v := leNat w.value
  let at_ := fun (x : State × Nat) => some (x.1, some x.2)
  if w.code = 0x5012 then at_ (s.swapObject w.sub v)
  else if w.code = 0x5024 then some (onTrue v s (s.leaveObject w.ptr))
  else if w.code = 0x5808 then some (onTrue v s (s.set (FLC_CTRL.count w.sub) 1, stOK))
  else if w.code = 0x6009 then at_ (yesNo stRange (s.calRequest v))
  else if w.code = 0x6040 then at_ (yesNo stBusy (s.harmRequest v))
  else if w.code = 0x6065 then some (onTrue v s (yesNo stBusy s.theftClear))
  else if w.code = 0x6412 then some (onTrue v s (yesNo stRange (s.gclRequest w.sub)))
  else if w.code = 0x7001 then
    if s.lockedObject 0x7001 then at_ (s, stLocked) else at_ (s.setOct 0x7001 0 w.value, stOK)
  else if w.code = 0x7004 then at_ (s.managementCert w.value)
  else if w.code = 0x7010 then at_ (s.keyImport w.value)
  else if w.code = 0x7012 then some (onTrue v s s.generateBranch)
  else if w.code = 0x7013 then at_ (s.keyInvalidate v, stOK)
  else if w.code = 0x7018 then some (onTrue v s s.segmentChange)
  else if w.code = 0x701C then some (onTrue v s s.renewSegment)
  else if w.code = 0x7020 then some (s.attest w.value w.who)
  else if w.code = 0x7031 then at_ (s.tamperClear v)
  else if w.code = 0x7410 then at_ (s.activate_ (leAt w.value 0 4) none (leAt w.value 8 8))
  else if w.code = 0x7414 then some (onTrue v s s.rejectImage)
  else if w.code = 0x7415 then some (onTrue v s s.acceptImage)
  else if w.code = 0x7421 then at_ (s.campaignStart w.value)
  else if w.code = 0x7423 then at_ (s.nodeActivate w.value)
  else if w.code = 0x7801 then at_ (s.clearBoard v)
  else if w.code = 0x7810 then at_ (s.testRequest w.value)
  else if w.code = 0x7820 then at_ (s.offlineWrite v)
  else if w.code = 0x7C10 then at_ (s.restartObject v)
  else none

/-- A pointer or a setting takes its value. -/
def State.applyValue (s : State) (w : Mgmt) : State × Nat :=
  if isPointer w.code then
    ({ s with pointers := Tbl.put 0 s.pointers (pointerKey w.session w.code) (leNat w.value) }, stOK)
  else match objRow w.code w.sub with
    | some r => s.applySetting r false w.code w.sub w.ptr w.value
    | none => (s, stNoObject)

/-- A staged write of an object is applied for the module by die `d`; the status is none where it is
answered later. -/
def State.applyObject (s : State) (d : DieId) (w : Mgmt) : State × Option Nat :=
  match (s.die d).applyObj w with
  | some (v, st) => (s.setDie d v, some st)
  | none =>
    match s.applyAction1 w with
    | some x => x
    | none =>
      match s.applyAction2 w with
      | some x => x
      | none =>
        let (s, st) := s.applyValue w
        (s, some st)

/-- One staged write is applied, with its answer: the state, and the endpoint whose kind or binding it
changed. -/
def State.applyOne (d : DieId) (x : State × List Nat) (w : Mgmt) : State × List Nat :=
  if w.target = 0 then
    let (s, st, ch) := x.1.applyEp d w
    (s.answer w st, match ch with
      | some e => e :: x.2
      | none => x.2)
  else
    let (s, st) := x.1.applyObject d w
    (match st with
      | some c => s.answer w c
      | none => s, x.2)

/-- R128, R546: the staged writes are applied in journal order by the die that serves; the endpoints whose
kind or binding changed come with the state. -/
def State.applyStaged (s : State) (d : DieId) : State × List Nat :=
  let l := (s.die d).staged
  let s := s.setDie d { s.die d with staged := [] }
  l.foldl (State.applyOne d) (s, [])

end Sys2Proof.Machine
end

