-- ==== Sys2Proof/Machine/Power.lean ====
section
/-! DEFINITION. The input supply, the power-fail sequence, the resets of the module and of its dies, and
the ghost light's supply (R700-R706, R713-R720). -/

namespace Sys2Proof.Machine

/-! ## Resets -/

/-- The cue area of a stack after a reset of its die: what stands in MRAM stays (R201).  An entry that had
been taken up as a cue and not executed is taken up again, or caught up by R237. -/
def CueArea.restart (c : CueArea) : CueArea :=
  let open_ := fun (j : Nat) => c.queue.any fun q => decide (q.src = .sched j)
  let occ := c.occ.map fun x =>
    (x.1, { x.2 with tai := none, day := 0, lastDay := none, done := if open_ x.1 then none else x.2.done })
  { c with queue := [], occ := occ.filter fun x => decide (x.2 ≠ Occ.none_), swapPending := false,
           catchUp := none, cancelsIgnored := 0 }

/-- A die after a reset: its stack, and which of its units failed. -/
def Die.restart (d : Die) : Die :=
  let m := d.endMoves
  { Die.delivered with
    image := d.image, cold := d.cold, stats := d.stats, damaged := d.damaged, moved := m.moved,
    otherMoved := d.otherMoved, failed := d.failed, retired := d.retired, corrected := d.corrected,
    cues := d.cues.restart, saves := d.saves, commits := d.commits, history := d.history,
    board := d.board, alone := d.alone, green := d.green, books := d.books, everSeq := d.everSeq }

/-- The keys of the register file between two addresses. -/
def Tbl.keepRegs (t : Tbl Nat) (lo hi : Nat) (from_ : Tbl Nat) : Tbl Nat :=
  Tbl.splice t (lo * 8) (hi * 8) from_

/-- Registers that a reset loads from a store that outlives it: the history ring, the row maps, the slot
tables and the measured offsets (R20). -/
def keptRegs : List Fld :=
  MTR_HIST_SEQ.seq :: ((List.range 4).map RAD_STATUS.act_ver ++ (List.range 4).map RAD_STATUS.inact_ver ++
    (List.range 22).map MTR_OFFSET.offset ++ (List.range 4).map (EPS_SPARE_B.free .a) ++
    (List.range 4).map (EPS_SPARE_B.free .b))

/-- R278, R280: a die's own queues and arbiters after its reset; its transfers into queues of the module are
abandoned. -/
def State.dieQueues (s : State) (d : DieId) : State :=
  let own := fun (size : Nat) (k : Nat) => decide (k / size = d.num)
  let open_ := (s.arbs.filter fun x => own 256 x.1).filterMap fun x => x.2.bind fun a => a.holder
  let s := open_.foldl State.rewind s
  { s with
    queues := s.queues.filter fun x => !own 65536 x.1
    arbs := s.arbs.filter fun x => !own 256 x.1
    waiters := s.waiters.filter fun w => !decide (w.die = d ∧ queueLevel w.item.src < 4)
    expiring := s.expiring.filter fun x => !decide (x.1 = d ∧ x.2.1 < 4)
    unitTmo := s.unitTmo.filter fun x => !own 512 x.1 }

/-- A die's registers after a reset: the saved values, and the state of the link (R280). -/
def State.dieRegs (s : State) (d : DieId) : State :=
  let spare := (List.range 4).map fun k => (EPS_SPARE_B.free d k, s.get (EPS_SPARE_B.free d k))
  let link := [(TWN_STATUS.link_up d, s.get (TWN_STATUS.link_up d)),
    (TWN_STATUS.lanes d, s.get (TWN_STATUS.lanes d)), (TWN_STATUS.role d, s.get (TWN_STATUS.role d))]
  let s := { s with regs := Tbl.keepRegs s.regs d.space (d.space + 2 ^ 30) resetRegs }
  let s := (spare ++ link).foldl (fun s x => s.set x.1 x.2) s
  { s with regs := Tbl.putAll 0 s.regs ((s.die d).saves.map fun x => (d.space * 8 + x.1, x.2 - 1)) }

/-- Objects without a register that outlive a reset: the company numbers and the join state, and the
energy gaps. -/
def keptObjs : List (Nat × Nat) := [(0x1200, 0), (0x1201, 0), (0x1202, 0), (0x6070, 0)]

/-- Octet-string objects that outlive a reset: the company record and the management certificate. -/
def keptOcts : List (Nat × Nat) := [(0x7001, 0), (0x7004, 0)]

/-- R20: the fields with reset "load" whose factory value differs between the parts: the duty limit and the
channels of the radios (R289, R290), and the band of the powerline ports (R338). -/
def State.partLoads (s : State) : State :=
  match s.part with
  | .e8 => s
  | .u9 =>
    let radio := fun (s : State) (r : Nat) =>
      (s.set (RAD_DUTY.limit r) (defaultNat s.part 0x5006 r)).set (RAD_CHAN.chan r 0) (channelDefault s.part r)
    let port := fun (s : State) (p : Nat) => s.set (PLC_PHY.band p) (defaultNat s.part 0x5401 p)
    ([0, 1] : List Nat).foldl port (([0, 1, 2, 3] : List Nat).foldl radio s)

/-- R704: the Apron and the dies are in reset; what stands in MRAM or in the ghost light stays. -/
def State.resetModule (s : State) : State :=
  let r := State.reset
  let ghl := Tbl.dropRange s.regs (0xC0030070 * 8) (0xC0030078 * 8)
  let regs := Tbl.keepRegs resetRegs 0xC0030000 0xC0034000 ghl
  let regs := Tbl.putAll 0 regs (keptRegs.map fun f => (f.key, s.get f))
  let objs := keptObjs.foldl (fun t x => Tbl.put 0 t (objKey x.1 x.2) (s.obj x.1 x.2)) r.objs
  let octs := keptOcts.foldl (fun t x => Tbl.put [] t (objKey x.1 x.2) (s.oct x.1 x.2)) r.octs
  let counter := s.counterSaved + 4096
  let p := s.power
  let dieA := s.dieA.restart
  let dieB := s.dieB.restart
  let sideOf := fun (k : Side) => { Side.start with format := k.format }
  State.partLoads { r with
    pending := s.pending, now := s.now, part := s.part, out := s.out, free := s.free, regs := regs,
    objs := objs, octs := octs, rtc := { s.rtc with shadowHost := none, shadowA := none, shadowB := none },
    dieA := dieA, dieB := dieB, sideA := sideOf s.sideA, sideB := sideOf s.sideB, nodes := s.nodes,
    radios := s.radios.map fun x => (x.1, { RadioState.empty with
      active := x.2.active, inactive := x.2.inactive, gen := x.2.gen, gens := x.2.gens }),
    plcs := s.plcs.map fun x => (x.1, { PlcState.empty with
      plan := x.2.plan, gen := x.2.gen, gens := x.2.gens }),
    frameCounter := counter, counterSaved := counter, keys := { s.keys with ops := [], remaskWaits := false },
    segUse := s.segUse, segNew := s.segNew, theft := s.theft,
    company := { Company.start with senders := s.company.senders, counter := s.company.counter },
    activation := s.activation,
    power := { Power.off with
      ghost := p.ghost, backup := p.backup, backupTicks := p.backupTicks, events := p.events,
      chargeFrom := p.chargeFrom, posts := p.posts } }

/-! ## The start (R700, R707 steps 1 and 2) -/

/-- The factory values of registers that no object shows (log entry 85), and the MAC addresses. -/
def State.identity (s : State) : State :=
  let mac := fun (s : State) (e : Nat) =>
    let v := beNat (Config.factory 0x1005 (e / 2))
    (s.set (ETH_MAC_LO.mac_lo e) v).set (ETH_MAC_HI.mac_hi e) (v / 2 ^ 32)
  let lat := fun (s : State) (e : Nat) =>
    let w := Config.factoryWord (ETH_TS_LAT.tx_lat e).addr
    (s.set (ETH_TS_LAT.tx_lat e) (w / 65536)).set (ETH_TS_LAT.rx_lat e) w
  ([0, 1] : List Nat).foldl lat (([0, 1, 2] : List Nat).foldl mac s)

/-- R715: the ghost light leaves reset, with the factory curve of its crystal; it runs on the backup when
that is the better source. -/
def State.ghostLeaves (s : State) (onBackup : Bool) : State :=
  let s := (List.range 33).foldl (fun s k =>
    s.set (GHL_RTC_CURVE.dev k) (Config.factoryWord (GHL_RTC_CURVE.dev k).addr)) s
  let s := s.set GHL_RTC_TRIM.trim (Config.factoryWord GHL_RTC_TRIM.trim.addr)
  let s := { s with power := { s.power with ghost := true, backup := onBackup } }
  s.raiseIf onBackup GHL_SUPPLY.ran_backup

/-- R707 step 2: the Apron is released, metering samples, the cycle clock is in ACQUIRE without counting,
and both dies are released. -/
def State.startModule (s : State) (cause : Nat) (testEn : Bool) : State :=
  let s := if s.power.ghost then s else s.ghostLeaves false
  let s := ((s.set MCTL_STATUS.cause cause).set MCTL_STATUS.step 2).identity
  let s := (s.set MTR_CTRL.enable 1).set MTR_CTRL.drained 0
  let p := s.nominalPeriod
  let s := { s.set CYC_PERIOD.period p with
    clk := { s.clk with
      cycleStart := s.now, cycleFrac := 0, cycleLen := p, rateAt := s.now * 256, ratePhase := 0 }
    meter := { s.meter with
      running := true, feeders := s.get MTR_CTRL.feeder_en, histFrom := s.now, calFrom := s.now }
    power := { s.power with on := true, startedAt := s.now, testEn := testEn } }
  s.govern

/-- SUPPLY_GOOD (R700): the module starts; the land TEST_EN is as given (R691). -/
def execSupplyGood (testEn : Bool) (s : State) : Host.Outcome State Fault Refusal :=
  .next (if s.power.on then s else s.startModule 1 testEn)

/-- VIN_MONITOR (R702): a measurement of the input, in mV. -/
def execVinMonitor (mv : BitVec 16) (s : State) : Host.Outcome State Fault Refusal :=
  if s.power.on = false then .next s
  else
    let low := decide (mv.toNat < 18000)
    let high := decide (36000 < mv.toNat)
    let s := s.set MCTL_VIN.mv mv.toNat
    let s := s.raiseIf (low && !s.flag MCTL_STATUS.vin_low) MCTL_INT_STATUS.vin_low
    let s := s.raiseIf (high && !s.flag MCTL_STATUS.vin_high) MCTL_INT_STATUS.vin_high
    let good := decide (16000 ≤ mv.toNat ∧ s.power.failedAt = none)
    .next (((s.set MCTL_STATUS.vin_low (b2n low)).set MCTL_STATUS.vin_high (b2n high)).set
      MCTL_STATUS.supply_good (b2n good))

/-! ## The power-fail sequence (R701, R703, R704, R706) -/

/-- R703 step 1: the frames on the air or on the line are abandoned. -/
def State.loadShed (s : State) : State :=
  { s with radios := s.radios.map fun x => (x.1, { x.2 with flight := none })
           plcs := s.plcs.map fun x => (x.1, { x.2 with groups := [] }) }

/-- R703, R713: the sequence begins: the final snapshot of metering, and the final commit (R420). -/
def State.failSequence (s : State) (m : MeterIn) (restart : Bool) : State :=
  let s := s.meterClose m
  let s := { s with
    meter := { s.meter with running := false }
    power := { s.power with failedAt := some s.now, restart := restart } }
  let s := if s.power.loaded then s.commitNow s.clk.cycle s.containerNow true else s
  let s := (s.raise MCTL_INT_STATUS.pfail).set MCTL_STATUS.pfail 1
  if restart then s else s.loadShed.set MCTL_STATUS.supply_good 0

/-- POWER_FAIL (R701): the input has stayed below 16 V for 50 µs; what the front end measured since the last
boundary comes with it. -/
def execPowerFail (m : MeterIn) (s : State) : Host.Outcome State Fault Refusal :=
  if s.power.on ∧ s.power.failedAt = none then .next (s.failSequence m false)
  else .next s

/-- R141: the first `n` dirty hot records, in unit order and then slot order, go to their images. -/
def Die.flush (d : Die) (n : Nat) : Die :=
  (d.dirty.take n).foldl (fun d x =>
    { d with image := Tbl.put Hot.delivered d.image x.1 (d.hotOf x.1), dirty := Tbl.put 0 d.dirty x.1 0 }) d

/-- R706: the power-fail note. -/
def State.pfailNote (s : State) (ms : Nat) (a b short : Bool) : State :=
  if s.power.ghost then
    let s := ((s.set GHL_PFAIL_NOTE.valid 1).set GHL_PFAIL_NOTE.flush_a (b2n a)).set GHL_PFAIL_NOTE.flush_b
      (b2n b)
    ((s.set GHL_PFAIL_NOTE.hold_short (b2n short)).set GHL_PFAIL_NOTE.early
      (b2n (!s.power.loaded))).set GHL_PFAIL_NOTE.ms (min ms 65535)
  else s

/-- MODULE_RESET (R704, R706, R713): both dies have ended their flush, or the input has fallen below 12 V;
the records each die had flushed by then are given.  A commanded restart goes on from step 2. -/
def execModuleReset (below12 : Bool) (flushedA flushedB : Nat) (s : State) :
    Host.Outcome State Fault Refusal :=
  match s.power.failedAt with
  | none => .next s
  | some t =>
    let doneA := decide (s.dieA.dirty.length ≤ flushedA)
    let doneB := decide (s.dieB.dirty.length ≤ flushedB)
    let low := below12 && !s.power.restart
    if !(low || (doneA && doneB)) then .next s
    else
      let restart := s.power.restart
      let testEn := s.power.testEn
      let s := { s with dieA := s.dieA.flush flushedA, dieB := s.dieB.flush flushedB }
      let s := s.pfailNote ((s.now - t) / 25000) doneA doneB (low && decide (s.now - t < 500000))
      let s := s.resetModule
      .next (if restart then s.startModule 2 testEn else s)

/-! ## The ghost light's supply (R714-R720) -/

/-- R725: a power event of the ghost light is raised at once, or at the next start. -/
def State.ghostEvent (s : State) (bit : Nat) (f : Fld) : State :=
  if s.power.on then s.raise f
  else { s with power := { s.power with events := setBit s.power.events bit } }

/-- R714: the backup is the better source. -/
def backupBetter (vstby vbat : Nat) : Bool := decide (vstby < vbat ∨ vstby < 2700)

/-- BACKUP_SWITCH (R714, R432): the ghost light switches to the backup. -/
def execBackupSwitch (vstby vbat : BitVec 13) (s : State) : Host.Outcome State Fault Refusal :=
  if s.power.ghost = false ∨ s.power.backup ∨ backupBetter vstby.toNat vbat.toNat = false then .next s
  else
    let s := { s with power := { s.power with backup := true } }
    let s := (s.addSat GHL_SWITCHES.count 1).set GHL_SUPPLY.ran_backup 1
    let s := (s.set GHL_SUPPLY.charging 0).ghostEvent 3 GHL_PWR_INT_STATUS.switched
    .next s.theftStart

/-- STANDBY_RETURN (R714, R433): the ghost light switches back to the standby rail. -/
def execStandbyReturn (vstby vbat : BitVec 13) (s : State) : Host.Outcome State Fault Refusal :=
  if s.power.ghost ∧ s.power.backup ∧ vbat.toNat + 100 ≤ vstby.toNat ∧ 2800 ≤ vstby.toNat then
    .next { s with power := { s.power with backup := false } }.theftStop
  else .next s

/-- GHOST_LIGHT_RESET (R715, R719): the ghost light's own supply has stayed below 1.9 V for 10 µs. -/
def execGhostLightReset (s : State) : Host.Outcome State Fault Refusal :=
  if s.power.ghost = false then .next s
  else
    let resets := min (s.get GHL_RESETS.count + 1) (2 ^ 32 - 1)
    let apron := Tbl.range s.regs (0xC0030070 * 8) (0xC0030078 * 8)
    let regs := Tbl.keepRegs s.regs 0xC0030000 0xC0034000 resetRegs
    let s := { s with regs := Tbl.putAll 0 regs apron }
    let s := s.set GHL_RESETS.count resets
    let slots := s.keys.slots.map fun x => (x.1, { x.2 with value := [], mask := [] })
    let s := { s with
      rtc := RtcState.reset
      theft := s.theft.clearMinute
      keys := { s.keys with
        slots := slots.filter fun x => decide (x.2 ≠ KeySlot.empty)
        inputs := [], present := 0, mesh := 0 }
      power := { s.power with ghost := false, backup := false, backupTicks := 0, chargeFrom := 0 } }
    .next (s.ghostEvent 1 GHL_PWR_INT_STATUS.watch_lapsed)

/-- GHOST_LIGHT_LEAVES_RESET (R715, R103): its supply has risen above 2.0 V. -/
def execGhostLightLeavesReset (vstby vbat : BitVec 13) (s : State) : Host.Outcome State Fault Refusal :=
  if s.power.ghost = false ∧ (2000 < vstby.toNat ∨ 2000 < vbat.toNat) then
    .next (s.ghostLeaves (backupBetter vstby.toNat vbat.toNat))
  else .next s

/-- VBAT_MEASURE (R717, R718): the measurements of every 8 s, in mV. -/
def execVbatMeasure (vstby vbat : BitVec 13) (s : State) : Host.Outcome State Fault Refusal :=
  if s.power.ghost = false then .next s
  else
    let low := decide (vbat.toNat < s.get GHL_BACKUP_CFG.low_mv)
    let fell := low && !s.flag GHL_SUPPLY.backup_low
    let charge := s.flag GHL_BACKUP_CFG.kind && !s.power.backup && decide (vbat.toNat < 3000)
    let from_ := if charge && !s.flag GHL_SUPPLY.charging then s.now else s.power.chargeFrom
    let s := { s with power := { s.power with chargeFrom := from_ } }
    let s := (s.set GHL_SUPPLY.vstby vstby.toNat).set GHL_SUPPLY.vbat vbat.toNat
    let s := (s.set GHL_SUPPLY.backup_low (b2n low)).set GHL_SUPPLY.charging (b2n charge)
    .next (if fell then s.ghostEvent 0 GHL_PWR_INT_STATUS.backup_low else s)

/-- CHARGE_FAULT (R717): a supercapacitor has not reached 2.8 V after 1 h of charging. -/
def execChargeFault (s : State) : Host.Outcome State Fault Refusal :=
  if s.power.ghost ∧ s.flag GHL_SUPPLY.charging ∧ s.get GHL_SUPPLY.vbat < 2800 ∧
      s.power.chargeFrom + 3600 * 25000000 ≤ s.now then
    .next (s.ghostEvent 2 GHL_PWR_INT_STATUS.charge_fault)
  else .next s

end Sys2Proof.Machine
end

