-- ==== Sys2Proof/Machine/Start.lean ====
section
/-! DEFINITION. The start of the module and of its dies (R142, R194, R422, R472, R619, R639, R656, R707-R712),
and the end of tests (R687). -/

namespace Sys2Proof.Machine

/-- A start-up step is reached. -/
def State.step_ (s : State) (n : Nat) : State := s.set MCTL_STATUS.step (max (s.get MCTL_STATUS.step) n)

/-- Ticks since supply-good. -/
def State.sinceStart (s : State) : Nat := s.now - s.power.startedAt

def State.booted (s : State) (d : DieId) : Bool := s.power.booted.getD d.num false

/-! ## Booting (R656) -/

/-- R656: a run slot passes its check; `sound` says that its copy in MRAM reads as it was written. -/
def Green.bootable (g : Green) (slot : Nat) (sound : Bool) : Bool :=
  decide ((if slot = 0 then g.run0 else g.run1).state = 2) && sound

/-- R656: the slot a die boots, and whether that is a fallback; none when neither slot passes. -/
def Green.bootSlot (g : Green) (sound0 sound1 : Bool) : Option (Nat × Bool) :=
  let ok := fun k => g.bootable k (if k = 0 then sound0 else sound1)
  let other := 1 - g.boot
  if ok g.boot then some (g.boot, false)
  else if ok other ∧ g.minimum ≤ (if other = 0 then g.run0 else g.run1).security then some (other, true)
  else none

/-- DIE_BOOT (R656, R711): a released die checks and boots its run slot.  A die that restarts while the
module runs goes on to full self-test; at a start of the module it stays in BOOT until its first health
word. -/
def execDieBoot (d : DieId) (sound0 sound1 : Bool) (s : State) : Host.Outcome State Fault Refusal :=
  if s.power.on = false ∨ s.roleOf d ≠ roBOOT ∨ s.booted d then .next s
  else
    let s := (((s.setDie d (s.die d).restart).dieRegs d).dieQueues d).sendMap d
    let g := s.green d
    let s := { s with power := { s.power with booted := s.power.booted.set d.num true } }
    let s := (if s.booted d.other then s.step_ 3 else s).relayKeys d
    match g.bootSlot sound0 sound1 with
    | none => .next (s.setRole d roUNFIT)
    | some (k, back) =>
      let g := { g with running := k, boot := k, fallbacks := min (g.fallbacks + b2n back) (2 ^ 32 - 1) }
      let s := (s.setGreen d g).setSide d { Side.start with
        format := (if k = 0 then g.run0 else g.run1).journal, resyncs := (s.side d).resyncs,
        restarts := (s.side d).restarts }
      let s := s.writeRoutes d
      let s := s.raiseIf back (GRN_INT_STATUS.boot_fallback d)
      let s := s.postIf back .management (cbSource (originDie d) cbGRN 0) 0x0080 (leBytes 1 k ++ leBytes 7 0)
      .next (if s.get MCTL_STATUS.stage_choice = 0 then s else s.setRole d roTEST)

/-! ## Loading the counters (R85, R96, R422, R712, R720, R725) -/

/-- R422: the later of two commit records, their ghost flags aside (R68); a final one stands before another of
its stamp. -/
def laterCommit (a b : Option Commit) : Option Commit :=
  match a, b with
  | some x, some y =>
    let u := x.stamp % 2 ^ 58
    let v := y.stamp % 2 ^ 58
    if u < v ∨ (u = v ∧ y.final) then some y else some x
  | some x, none => some x
  | none, y => y

/-- R422: the latest valid record of the dies that booted; `bad` names the slots whose CRC does not match. -/
def State.latestCommit (s : State) (bad : List (DieId × Fin 2)) : Option Commit :=
  let at_ := fun (d : DieId) (k : Fin 2) =>
    if s.booted d = false ∨ s.roleOf d = roUNFIT ∨ bad.contains (d, k) then none
    else (s.die d).commitAt k.val
  [at_ .a 0, at_ .a 1, at_ .b 0, at_ .b 1].foldl laterCommit none

/-- R422, R712: the totals, residues and pulses of the record join what was measured since the release of
the Apron. -/
def MeterState.load (m : MeterState) (c : Commit) : MeterState :=
  let add := fun (t : MeterState) (k : Nat) =>
    t.addEnergy k (Tbl.get 0 m.totals k * 2 ^ 32 + Tbl.get 0 m.residues k)
  let m' := (List.range 90).foldl add { m with totals := c.totals, residues := c.residues }
  { m' with pulses := (List.range 8).foldl (fun t n =>
      Tbl.put 0 t n (Tbl.get 0 c.pulses n + Tbl.get 0 m.pulses n)) [] }

/-- R422: an energy gap is marked, signalled and recorded with the stamp of the loaded record. -/
def State.energyGap (s : State) (stamp : Nat) : State :=
  let s := (s.set MTR_STATUS.energy_gap 1).raise MTR_INT_STATUS.energy_gap
  let s := (s.objSat 0x6070).post .management (cbSource originApron cbMTR 0) 0x0050 (leBytes 8 stamp)
  { s with meter := { s.meter with gap := true, histGap := true } }

/-- R706, R720, R725, R111: what the ghost light kept for this start is signalled. -/
def State.ghostNews (s : State) : State :=
  let ev := s.power.events
  let s := { s with power := { s.power with events := 0 } }
  let s := (s.raiseIf (decide (bitOf ev 0 = 1)) GHL_PWR_INT_STATUS.backup_low).raiseIf
    (decide (bitOf ev 1 = 1)) GHL_PWR_INT_STATUS.watch_lapsed
  let s := (s.raiseIf (decide (bitOf ev 2 = 1)) GHL_PWR_INT_STATUS.charge_fault).raiseIf
    (decide (bitOf ev 3 = 1)) GHL_PWR_INT_STATUS.switched
  let valid := s.flag GHL_PFAIL_NOTE.valid
  let s := s.raiseIf (valid && s.flag GHL_PFAIL_NOTE.hold_short) MCTL_INT_STATUS.hold_short
  let s := s.raiseIf (valid && !(s.flag GHL_PFAIL_NOTE.flush_a && s.flag GHL_PFAIL_NOTE.flush_b))
    MCTL_INT_STATUS.flush_short
  let s := s.raiseIf (s.flag GHL_RTC_STATUS.time_lost) GHL_RTC_INT_STATUS.time_lost
  s.setObj 0x7C04 0 (s.wordAt .ghl 0x108)

/-- COUNTER_LOAD (R422, R85): step 4, once both dies have booted or step 3 has run out. -/
def execCounterLoad (bad : List (DieId × Fin 2)) (s : State) : Host.Outcome State Fault Refusal :=
  if s.power.on = false ∨ s.power.loaded ∨ s.power.failedAt.isSome ∨
      ((s.booted .a && s.booted .b) = false ∧ s.sinceStart < 250 * 25000) then .next s
  else
    let rec_ := s.latestCommit bad
    let early := s.flag GHL_PFAIL_NOTE.valid && s.flag GHL_PFAIL_NOTE.early
    let c := rec_.getD { Commit.delivered with final := false }
    let saved := stampCycle c.stamp
    let s := (s.set CYC_OPTIME.optime c.optime).addSat CYC_OPTIME.optime (s.get CYC_OPTIME.optime)
    let s := s.set CYC_PWRCYC.count (min (c.pwrcyc + 1) (2 ^ 24 - 1))
    let backlog := fun (s : State) (n : Nat) =>
      s.addSat (MTR_PULSE_TIM.backlog n) (Tbl.get 0 c.backlogs n)
    let s := (List.range 8).foldl backlog { s with
      meter := s.meter.load c
      clk := { s.clk with cycle := saved + 2 }
      power := { s.power with loaded := true, savedCycle := saved } }
    let s := (s.step_ 4).set MTR_STATUS.final_loaded (b2n c.final)
    let s := (s.raise CYC_INT_STATUS.cycle_gap).post .control (cbSource originApron cbCYC 0) 0x0010
      (leBytes 8 saved)
    let s := if c.final ∧ ¬ early then s else s.energyGap c.stamp
    .next s.ghostNews.theftAtStart

/-! ## Self-test and the choice of the stage (R709-R711) -/

/-- R639, R641, R619: the tamper step and the unseal of a start. -/
def State.unsealStep (s : State) : State :=
  let lapsed := s.flag GHL_SUPPLY.lapsed
  let s := (s.setObj 0x7C05 0 (b2n lapsed)).tamperStep
  let s := if lapsed then (s.watchLapsed).set GHL_SUPPLY.lapsed 0 else s
  s.unseal

/-- START_SELF_TEST (R707 step 5, R709): a booted die runs its start-up self-test and sends its first health
word; a region without a spare for a failed unit is a failure (R50). -/
def execStartSelfTest (d : DieId) (pass : Bool) (s : State) : Host.Outcome State Fault Refusal :=
  if s.power.loaded = false ∨ s.booted d = false ∨ s.roleOf d ≠ roBOOT ∨
      s.power.words.getD d.num none ≠ none then .next s
  else
    let s := if s.power.words.getD d.other.num none = none then s.unsealStep else s
    let ok := pass && !s.lacksSpare d
    let s := { s with power := { s.power with words := s.power.words.set d.num (some ok) } }
    .next (s.step_ 5)

/-- R621: the stage holder's key engine loads the table of the Apron's link security. -/
def State.loadLink (s : State) : State :=
  let nodes := (s.nodes.filter fun x => x.2.joined).map fun x => (x.1, s.nodeKey x.2.eui x.1)
  { s with link := { current := s.workKey 10, currentGen := (s.slot 10).gen, previous := s.workKey 11,
                     previousGen := (s.slot 11).gen, nodes := Tbl.putAll [] [] nodes } }

/-- R707 steps 6 and 7: a die is chosen, and applies the books. -/
def State.chooseDie (s : State) (d : DieId) : State :=
  let s := { s with power := { s.power with chosen := some d, restored := false } }
  let s := (s.set MCTL_STATUS.stage_choice (1 + d.num)).loadLink
  (s.applyBooks).step_ 7

/-- R710, R711: a die that failed its start-up self-test runs full self-test. -/
def State.failedToTest (s : State) (d : DieId) : State :=
  if s.power.words.getD d.num none = some false ∧ s.roleOf d = roBOOT then s.setRole d roTEST else s

/-- STAGE_CHOICE (R709, R710). -/
def execStageChoice (s : State) : Host.Outcome State Fault Refusal :=
  let a := s.power.words.getD 0 none
  let b := s.power.words.getD 1 none
  let late := decide (800 * 25000 ≤ s.sinceStart)
  if s.power.loaded = false ∨ s.get MCTL_STATUS.stage_choice ≠ 0 then .next s
  else if a = some true then .next ((s.step_ 6).chooseDie .a)
  else if (a = some false ∨ late) ∧ b = some true then .next ((s.step_ 6).chooseDie .b)
  else if late ∨ (a = some false ∧ b = some false) then
    let s := ((s.step_ 6).set MCTL_STATUS.stage_choice 3).raise MCTL_INT_STATUS.no_stage
    .next (both (fun d s => s.failedToTest d) s)
  else .next s

/-! ## Restoring hot state (R142, R194, R203) -/

/-- R142, R194, R203: a die's units load their hot records and scene levels, and rebuild their tables. -/
def Die.hotRestore (d : Die) (cycle : Nat) : Die :=
  let hot := d.image.map fun x =>
    (x.1, if d.active x.1 then { x.2 with fadeCtrl := setBit x.2.fadeCtrl 7 } else x.2)
  let more := d.actives.filter fun e => !(d.image.any fun x => decide (x.1 = e))
  let fresh := { Hot.delivered with fadeCtrl := setBit Hot.delivered.fadeCtrl 7 }
  let hot := Tbl.putAll Hot.delivered hot (more.map fun e => (e, fresh))
  let groups := Tbl.mapVal Group.empty (fun _ g => { g with latch := false, mask := 0 }) d.groups
  let d := { d with
    hot := hot, groups := groups, scene := d.cues.standing, daylight := [], preLights := [], flight := [],
    heldLights := [], emission := [], exactEmission := [], exact := [], events := [], dirty := [],
    period := Tbl.putAll 0 [] (d.actives.map fun e => (e, cycle))
    cues := { d.cues with catchUp := some d.cues.savedTai } }
  d.actives.foldl (fun d e => match (d.coldOf e).daylightPair with
    | some p => d.daylightUse (unitOf e) p
    | none => d) d

/-- HOT_RESTORE (R707 step 8): the chosen die restores its hot state. -/
def execHotRestore (s : State) : Host.Outcome State Fault Refusal :=
  match s.power.chosen with
  | some d =>
    if s.power.restored then .next s
    else
      let s := s.setDie d ((s.die d).hotRestore s.clk.cycle)
      .next ({ s with power := { s.power with restored := true } }.step_ 8)
  | none => .next s

/-! ## The end of a test (R472, R473, R687) -/

/-- TEST_END (R473, R687): full self-test of a die ends with a result, or the running test of the queue
ends once its result is known.  With no die on the stage and none chosen, the first die that passes is
chosen (R472). -/
def execTestEnd (full : Option (DieId × Bool)) (s : State) : Host.Outcome State Fault Refusal :=
  match full with
  | none =>
    match s.testResult with
    | some r => .next (s.testEnd r)
    | none => .next s
  | some (d, pass) =>
    if s.roleOf d ≠ roTEST ∨ s.power.chosen = some d then .next s
    else
      let takes := decide (s.holder = none ∧ s.power.chosen = none ∧ s.offline = false)
      let t := s.fullTestEnd d pass
      if takes ∧ t.roleOf d = roRESYNC then .next ((t.setRole d roTEST).chooseDie d)
      else .next t

end Sys2Proof.Machine
end

