-- ==== Sys2Proof/Machine/Windows.lean ====
section
/-! DEFINITION. What the read-only windows of a die's MRAM and hot SRAM show, where the manual lays the
octets out (R42, R118, R131-R134, R159, R201-R208, R648, R678). -/

namespace Sys2Proof.Machine

/-! ## Records -/

/-- R160: a rule profile with its derived steps (R161). -/
def Profile.bytes (p : Profile) : List Byte :=
  leBytes 2 p.minLevel ++ leBytes 2 p.maxLevel ++ leBytes 2 p.presenceLevel ++ leBytes 2 p.holdTime ++
  leBytes 2 p.riseTime ++ leBytes 2 p.fallTime ++ leBytes 2 p.deadband ++ leBytes 2 p.fsOutLevel ++
  leBytes 2 p.fsDecayTime ++ leBytes 2 p.dlMin ++ leBytes 2 p.refreshPeriod ++ leBytes 2 p.flags ++
  leBytes 2 p.riseStep ++ leBytes 2 p.fallStep ++ leBytes 4 p.fsStep ++ leBytes 4 p.nameHash ++
  zeroOctets 28

/-- R164: a sensor-group entry. -/
def Group.bytes (g : Group) : List Byte :=
  leBytes 1 g.count ++ leBytes 1 (b2n g.latch) ++ leBytes 2 g.mask ++ leBytes 4 g.lastRise ++
    leBytes 4 g.rises ++ g.members.flatMap (leBytes 4) ++ zeroOctets 4

/-- R168: a daylight table entry. -/
def Daylight.bytes (x : Daylight) : List Byte :=
  leBytes 4 (x.sensor + b2n (decide (0 < x.users)) * 2 ^ 31) ++ leBytes 2 x.ref ++ leBytes 2 x.lux ++
    leBytes 2 x.factor ++ leBytes 2 x.users ++ zeroOctets 4

/-- R132: the sweep extract of a cold record. -/
def Cold.extract (c : Cold) : Nat :=
  c.daylightRef * 2 ^ 48 + (if c.derate = 0xFF then 0xF else c.derate % 16) * 2 ^ 44 +
    c.linkCount % 8 * 2 ^ 41 + b2n (decide (c.daylightEp < 2 ^ 31)) * 2 ^ 40 + c.daylightEp % 2 ^ 20

/-- Eight entries of a bitmap, from entry `s`. -/
def bitsAt (p : Nat → Bool) (s : Nat) : Byte :=
  BitVec.ofNat 8 ((List.range 8).foldl (fun w i => if p (s + i) then w + 2 ^ i else w) 0)

/-! ## The hot SRAM window (R42, R131, R159) -/

/-- R175: an entry of a unit's pending store, in the order in which its messages came (log entry 94); a free
place is shown by the manual's words no way. -/
def Die.pendingEntry (d : Die) (u i : Nat) : List Byte :=
  match (d.preLights.filter fun m => decide (unitOf m.ep = u))[i]? with
  | some m => leBytes 4 m.cycle ++ leBytes 4 (slotOf m.ep * 16 + m.level * 65536)
  | none => []

/-- R159: an octet of the tables from 0x3_0000 on; none where the manual does not lay it out, or leaves it
to the unit's queues and scratch. -/
def Die.tableOctet (d : Die) (u off : Nat) : Option Byte :=
  let e := u * 4096
  if off < 0x32000 then (leBytes 2 (Tbl.get 0 d.scene (e + (off - 0x30000) / 2)))[off % 2]?
  else if off < 0x32800 then
    let s := e + 2 * (off - 0x32000)
    some (BitVec.ofNat 8 (d.kindOf s % 16 + d.kindOf (s + 1) % 16 * 16))
  else if off < 0x32A00 then some (bitsAt (Tbl.get false d.exact) (e + 8 * (off - 0x32800)))
  else if off < 0x32C00 then some (bitsAt (Tbl.get false d.emission) (e + 8 * (off - 0x32A00)))
  else if off < 0x33000 then
    (Tbl.get Daylight.free d.daylight (dayKey u ((off - 0x32C00) / 16))).bytes[off % 16]?
  else if 0x33400 ≤ off ∧ off < 0x35400 then
    (d.pendingEntry u ((off - 0x33400) / 8))[off % 8]?
  else if 0x35400 ≤ off ∧ off < 0x35600 then
    some (bitsAt (Tbl.get false d.exactEmission) (e + 8 * (off - 0x35400)))
  else none

/-- An octet of a physical unit's SRAM: every unit holds the profiles (R160); a unit that holds no logical unit
has no other contents the manual gives. -/
def State.sramOctet (s : State) (d : DieId) (k : Nat) : Option Byte :=
  let die := s.die d
  let off := k % 0x40000
  if 0x20000 ≤ off ∧ off < 0x24000 then (die.profile ((off - 0x20000) / 64)).bytes[off % 64]?
  else match (List.range 256).find? fun u => decide (die.phys u = k / 0x40000) with
  | none => none
  | some u =>
    if off < 0x20000 then (die.hotOf (u * 4096 + off / 32)).bytes[off % 32]?
    else if off < 0x28000 then (die.groupOf u ((off - 0x24000) / 64)).bytes[off % 64]?
    else if off < 0x30000 then
      (leBytes 8 (die.coldOf (u * 4096 + (off - 0x28000) / 8)).extract)[off % 8]?
    else die.tableOctet u off

/-! ## The MRAM window (R133) -/

/-- R201: the area address of an offset in the part of an area that bank k holds. -/
def striped (k o : Nat) : Nat := o / 256 * 1024 + k * 256 + o % 256

/-- R202: an octet of a cue bank. -/
def CueBank.octet (b : CueBank) (o : Nat) : Option Byte :=
  if o < 4 then (leBytes 4 b.seq)[o]?
  else if 0x4000 ≤ o ∧ o < 0xC000 then (b.header ((o - 0x4000) / 8)).bytes[o % 8]?
  else if 0x10000 ≤ o ∧ o < 0x110000 then (b.entry ((o - 0x10000) / 16)).bytes[o % 16]?
  else if 0x110000 ≤ o ∧ o < 0x190000 then (b.schedAt ((o - 0x110000) / 32)).bytes[o % 32]?
  else none

/-- R201: an octet of the cue area; none where the manual gives no layout. -/
def CueArea.octet (c : CueArea) (a : Nat) : Option Byte :=
  if a < 0x400000 then c.bank0.octet a
  else if a < 0x800000 then c.bank1.octet (a - 0x400000)
  else if a < 0xA00000 then (leBytes 2 (Tbl.get 0 c.standing ((a - 0x800000) / 2)))[a % 2]?
  else if 0xE00000 ≤ a ∧ a < 0xE04000 then
    let k := (a - 0xE00000) / 32
    let l := if k / 256 = c.goBank then c.goActive else c.goInactive
    (l[k % 256]?).bind fun x => x.bytes[a % 32]?
  else if 0xE04000 ≤ a ∧ a < 0xE0C000 then
    (c.pendingGo[(a - 0xE04000) / 32]?).bind fun q =>
      (c.goListed.find? fun x => decide (q.src = .go x.seq)).bind fun x => x.bytes[a % 32]?
  else if 0xE0C000 ≤ a ∧ a < 0xE2C000 then
    (leBytes 8 (Tbl.get 0 c.lastExec ((a - 0xE0C000) / 8)))[a % 8]?
  else none

/-- R418, R423: an octet of the metering history area: the commit slots and the ring of interval records, in which a
record stands at the place of its sequence (log entry 94). -/
def Die.historyOctet (d : Die) (a : Nat) : Option Byte :=
  if a < 0x10000 then
    if a % 0x8000 < 0x800 then (d.commitAt (a / 0x8000)).bind fun c => c.bytes[a % 0x8000]? else none
  else
    (d.history.find? fun x => decide (x.1 % 261120 = (a - 0x10000) / 64)).bind fun x => x.2[a % 64]?

/-- R650: an octet of a slot: the header of 256 octets, then the body received. -/
def ImageSlot.octet (x : ImageSlot) (k : Nat) : Option Byte :=
  if k < 256 then x.header[k]?
  else
    let v := Tbl.get 0 x.body (k - 256)
    if v = 0 then none else some (BitVec.ofNat 8 (v - 1))

/-- R648: an octet of the greenroom area: what a slot holds. -/
def Green.octet (g : Green) (a : Nat) : Option Byte :=
  if a < 0x600000 then g.run0.octet a
  else if a < 0xC00000 then g.run1.octet (a - 0x600000)
  else if a < 0x1200000 then g.stage.octet (a - 0xC00000)
  else if a < 0x1E00000 then
    let n := (a - 0x1200000) / 0x180000
    (g.slot (1 + n)).octet ((a - 0x1200000) % 0x180000)
  else none

/-- An octet of the MRAM of a die, at an offset of its window; none where the manual does not lay it
out. -/
def Die.mramOctet (d : Die) (off : Nat) : Option Byte :=
  let k := off / 0x4000000
  let o := off % 0x4000000
  if o < 0x2000000 then
    let e := k * 2 ^ 18 + o / 128
    if o % 128 < 32 then (d.imageOf e).bytes[o % 128]?
    else ((d.coldOf e).bytes ++ (d.statsOf e).bytes)[o % 128 - 32]?
  else if o < 0x2800000 then d.cues.octet (striped k (o - 0x2000000))
  else if o < 0x3000000 then d.green.octet (striped k (o - 0x2800000))
  else if o < 0x3400000 then
    let a := striped k (o - 0x3000000)
    if 0xFFC000 ≤ a then
      let r := Tbl.get CbRec.empty d.board.window ((a - 0xFFC000) / 64 % 256)
      if r = CbRec.empty then none else r.bytes[a % 64]?
    else none
  else if o < 0x3800000 then d.historyOctet (striped k (o - 0x3400000))
  else if o < 0x3C00000 then
    let n := (o - 0x3800000) / 64 * 4 + k
    if n < d.board.fill then (d.board.recordAt n)[o % 64]? else none
  else none

/-- A word of a window; octets the manual does not lay out are free (log entry 94). -/
def State.windowWord (s : State) (f : Nat → Option Byte) (off : Nat) : State × Nat :=
  let one := fun (i : Nat) => ((f (off + i)).map BitVec.toNat).getD (s.freeVal / 256 ^ i % 256)
  let v := one 0 + one 1 * 256 + one 2 * 65536 + one 3 * 16777216
  (if (List.range 4).all fun i => (f (off + i)).isSome then s else s.draw, v)

end Sys2Proof.Machine
end

