-- ==== Sys2Proof/Machine/Bus.lean ====
section
/-! DEFINITION. The access ports: where an address leads, reads and writes of registers by their access
codes, the checks that make a write a violation, and host-port transactions (R17-R22, R580-R600, R604,
R605). -/

namespace Sys2Proof.Machine

/-! ## Addresses (R586-R590) -/

/-- The status codes of the host port (R583). -/
def hcOK : Nat := 0
def hcVIOLATION : Nat := 1
def hcSTALLNONE : Nat := 2
def hcSTALLTAKEN : Nat := 3
def hcNOTARGET : Nat := 4
def hcDATAERROR : Nat := 5
def hcMALFORMED : Nat := 6

/-- Where an access leads. -/
inductive Place where
  /-- The die addressed is in BOOT or UNFIT, or none holds the stage. -/
  | noTarget
  | unmapped
  | mram (d : DieId) (off : Nat)
  | sram (d : DieId) (off : Nat)
  /-- An offset of a window's violation registers: the window's base, and the offset in it. -/
  | viol (window off : Nat)
  | reg (b : Block) (off : Nat)
  deriving DecidableEq, Repr

/-- The block of a window, and the offset in the block. -/
def blockAt (window off : Nat) : Option (Block × Nat) :=
  let d := DieId.ofNum (window / 2 ^ 30 - 1)
  match windowBlock window with
  | none => none
  | some (_, k, i) =>
    if k = cbICU then some (.icu d, off) else if k = cbCUE then some (.cue d, off)
    else if k = cbEPS then some (.eps d, off) else if k = cbQCM then some (.qcm d, off)
    else if k = cbTWN then some (.twn d, off) else if k = cbKEY then some (.key d, off)
    else if k = cbGRN then some (.grn d, off) else if k = cbCBD then some (.cbd d, off)
    else if k = cbTST then some (.tst d, off) else if k = cbMCTL then some (.mctl, off)
    else if k = cbHPT then some (.hpt, off) else if k = cbCYC then some (.cyc, off)
    else if k = cbGHL then some (.ghl, off) else if k = cbRAD then some (.rad i, off)
    else if k = cbPLC then some (.plc i, off)
    else if k = cbFLC then some (.flc (i + off / 0x400), off % 0x400)
    else if k = cbMTR then some (.mtr, off) else if k = cbETH then some (.eth i, off)
    else if k = cbPTP then some (.ptp, off) else none

/-- R526: the offsets that a port of the backbone has; every other block has all its registers. -/
def Block.has (b : Block) (off : Nat) : Bool :=
  match b with
  | .eth 0 => true
  | .eth 1 => !decide (off = 0x30 ∨ off = 0x34)
  | .eth _ => !decide (off = 0x2C ∨ off = 0x30 ∨ off = 0x34 ∨ (0x100 ≤ off ∧ off < 0x80D) ∨
      (0x900 ≤ off ∧ off < 0x921))
  | _ => true

/-- The register of a block at an offset, where the block has it. -/
def Block.register (b : Block) (off : Nat) : Option RegDesc := if b.has off then b.regAt off else none

/-- The die whose space an address lies in. -/
def spaceDie (t : Nat) : Option DieId :=
  if t / 2 ^ 30 = 1 then some .a else if t / 2 ^ 30 = 2 then some .b else none

/-- R588-R590: where a resolved address leads, an alias offset taken to its base. -/
def placeAt (t : Nat) : Place :=
  let w := t / 0x4000 * 0x4000
  let r := t % 0x1000
  let window := fun (_ : Unit) =>
    match windowBlock w with
    | none => Place.unmapped
    | some _ =>
      if r = 0xFF0 ∨ r = 0xFF4 ∨ r = 0xFF8 then .viol w r
      else match blockAt w r with
        | some (b, o) => .reg b o
        | none => .unmapped
  match spaceDie t with
  | none => window ()
  | some d =>
    let off := t % 2 ^ 30
    if off < 0x10000000 then window ()
    else if off < 0x20000000 then .mram d (off - 0x10000000)
    else if off < 0x24800000 then .sram d (off - 0x20000000) else .unmapped

/-- R583: the place of a resolved address, while its die may be reached. -/
def State.place (s : State) (t : Nat) : Place :=
  match spaceDie t with
  | some d => if s.roleOf d = roBOOT ∨ s.roleOf d = roUNFIT then .noTarget else placeAt t
  | none => placeAt t

/-- R586, R587: an address resolved: space 0b00 is the die the transaction is bound to. -/
def busAddr (bound : Option DieId) (addr : Nat) : Option Nat :=
  if addr < 2 ^ 30 then bound.map fun d => d.space + addr else some addr

/-- R590: the alias of a resolved address in a window: 1 set, 2 clear, 3 toggle. -/
def aliasOf (t : Nat) : Nat := t % 0x4000 / 0x1000

/-! ## 64-bit values (R593, R594) -/

/-- The offsets of the low words of a block's 64-bit values that are read; the RTC has a freeze of its own
(R99). -/
def Block.lows : Block → List Nat
  | .cue _ => [0x8, 0x44, 0x814]
  | .cyc => [0x8, 0x38]
  | .mtr => [0x44]
  | .twn _ => [0x14]
  | .eth _ => [0x8, 0x24, 0x10C, 0x11C, 0x808]
  | .ptp => [0x8, 0x10, 0x18, 0x38, 0x40]
  | .key _ => [0x8]
  | .grn _ => [0x18]
  | .ghl => [0xC]
  | _ => []

/-- The low words that a write commits. -/
def Block.writeLows : Block → List Nat
  | .eth _ => [0x24, 0x10C]
  | .ptp => [0x10]
  | .ghl => [0xC]
  | _ => []

/-- A port's shadow of the pair whose low word lies at an address. -/
def State.shadowAt (s : State) (p : Port) (low : Nat) : Option Nat :=
  match Tbl.get 0 s.portShadows (holdKey p low) with
  | 0 => none
  | v + 1 => some v

def State.setShadow (s : State) (p : Port) (low v : Nat) : State :=
  { s with portShadows := Tbl.put 0 s.portShadows (holdKey p low) v }

/-! ## Reads (R19, R593, R604) -/

/-- R19: the RC fields of a register clear with its read. -/
def State.clearRC (s : State) (addr : Nat) (r : RegDesc) : State :=
  r.fields.foldl (fun s f => if f.acc = .rc then s.set ⟨addr, f.lo, f.hi + 1 - f.lo⟩ 0 else s) s

/-- R282: the high-water mark of the selected queue clears with its read. -/
def State.clearHwm (s : State) (d : DieId) : State :=
  let q := s.get (QCM_Q_SEL.queue d)
  if queueNamed q then s.setQueue (queueKey d q) { s.queue (queueKey d q) with hwm := 0 } else s

/-- A read of a register by a port: the state after it and the word. -/
def State.readReg (s : State) (p : Port) (b : Block) (r : RegDesc) (off : Nat) : State × Nat :=
  let addr := b.base + off
  let v := s.wordAt b off
  let plain := fun (_ : Unit) =>
    if b.lows.contains off then (s.setShadow p addr (1 + s.wordAt b (off + 4)), v)
    else if 4 ≤ off ∧ b.lows.contains (off - 4) then
      match s.shadowAt p (addr - 4) with
      | some h => (s.setShadow p (addr - 4) 0, h)
      | none => (s, v)
    else (s.clearRC addr r, v)
  match b with
  | .icu d => if 0x800 ≤ off ∧ (off - 0x800) % 16 = 0 then s.icuClaim d ((off - 0x800) / 16) else plain ()
  | .ghl =>
    if off = 0 then (s.rtcFreeze p, s.rtcLo) else if off = 4 then (s.rtcRelease p, s.rtcHi p)
    else if off = 8 then (s, match s.rtc.shadow p with
      | some f => f.status
      | none => v)
    else plain ()
  | .eth e =>
    if off = 0x804 then
      let s := s.txtsRead e
      (s, s.wordAt b off)
    else plain ()
  | .rad r => if off = 0x34 then (s.slotNext r, v) else plain ()
  | .plc q => if off = 0x14 then (s.planNext q, v) else plain ()
  | .qcm d => if off = 0x110 then (s.clearHwm d, v) else plain ()
  | _ => plain ()

/-- R597: a violating read. -/
def State.badRead (s : State) (a : Access) (kind : Nat) : State × Nat × Nat := (s.violate a kind, hcVIOLATION, 0)

/-- A word read at a resolved address: the state, the code of R583 and the word.  `bad`: a word of the
window could not be corrected. -/
def State.readAt (s : State) (a : Access) (bad : Bool) : State × Nat × Nat :=
  let fail := fun (code : Nat) =>
    (if a.port = .host then s.hostFailed a.addr code else s, code, 0)
  match s.place a.target with
  | .noTarget => fail hcNOTARGET
  | .unmapped => s.badRead a (if a.alias_ then vkAliasRead else vkUnoccupied)
  | .mram d off =>
    if bad then fail hcDATAERROR
    else
      let (t, v) := s.windowWord (s.die d).mramOctet off
      (t, hcOK, v)
  | .sram d off =>
    if bad then fail hcDATAERROR
    else
      let (t, v) := s.windowWord (s.sramOctet d) off
      (t, hcOK, v)
  | .viol w off =>
    if a.alias_ then s.badRead a vkAliasRead
    else
      let v := if off = 0xFF0 then s.get (VIOL_ADDR.addr w) else if off = 0xFF8 then s.get (VIOL_COUNT.count w)
        else s.get (VIOL_INFO.valid w) * 2 ^ 31 + s.get (VIOL_INFO.requester w) * 2 ^ 28 +
          s.get (VIOL_INFO.kind w) * 2 ^ 24 + s.get (VIOL_INFO.write w) * 2 ^ 23 +
          s.get (VIOL_INFO.alias_ w) * 2 ^ 22
      (s, hcOK, v)
  | .reg b off =>
    if a.alias_ then s.badRead a vkAliasRead
    else match b, b.register off with
      | _, none => s.badRead a vkUnoccupied
      | .icu d, some r =>
        if a.port = .host ∧ (off = 0x800 ∨ off = 0x810 ∨ off = 0x820 ∨ off = 0x830) then s.badRead a vkRule
        else
          let (t, v) := s.readReg a.port (.icu d) r off
          (t, hcOK, v)
      | b, some r =>
        let (t, v) := s.readReg a.port b r off
        (t, hcOK, v)

/-! ## Writes: the checks (R19, R591, R592, R597-R599, and the blocks' own rules) -/

/-- A kind of violation where a condition holds. -/
def kindIf (c : Bool) (kind : Nat) : Option Nat := if c then some kind else none

/-- The first kind of several. -/
def firstKind : List (Option Nat) → Option Nat
  | [] => none
  | some k :: _ => some k
  | none :: t => firstKind t

/-- A value lies outside a range. -/
def outside (lo hi v : Nat) : Bool := decide (v < lo ∨ hi < v)

/-- Writes to blocks of a die that are violations: the kind. -/
def State.dieWriteKind (s : State) (a : Access) (b : Block) (off w : Nat) : Option Nat :=
  match b with
  | .icu _ =>
    kindIf (decide (a.port = .host) && [0x804, 0x814, 0x824, 0x834].contains off) vkRule
  | .eps d =>
    if off = 0 then
      firstKind [kindIf (outside 4 0x40 (w / 256 % 256)) vkRange,
        kindIf (decide (w % 2 = 0) && !s.flag (TST_MODE.offline d)) vkRule]
    else none
  | .cue _ => kindIf (decide (off = 0) && outside 0xC8 0xFF (w % 256)) vkRange
  | .qcm _ =>
    if off = 0 then kindIf (decide (w / 256 % 256 = 0)) vkRange
    else if 0x10 ≤ off ∧ off ≤ 0x24 then kindIf (decide (2 ^ 30 ≤ a.addr)) vkSpace
    else if off = 0x200 then kindIf (arbRow (w % 256)).isNone vkRule
    else none
  | .twn _ =>
    if off = 8 then
      let c := w % 256
      firstKind [kindIf (decide (c ≠ 1 ∧ c ≠ 2)) vkRange,
        kindIf (decide (c = 1) && decide (2 ^ 30 ≤ a.addr)) vkSpace,
        kindIf (decide (c = 2) && decide (a.addr < 2 ^ 30)) vkSpace]
    else none
  | _ => none

/-- The same for the radios, powerline ports and chains. -/
def State.lineWriteKind (s : State) (b : Block) (off w : Nat) : Option Nat :=
  match b with
  | .rad r =>
    let on := s.flag (RAD_CTRL.enable r)
    let fixed := fun (f : Fld) => decide (w / 2 ^ f.lo % f.size = s.get f)
    if off = 0 then kindIf (decide (w % 2 = 1) && !on && !s.radioReady r) vkRule
    else if off = 4 then
      firstKind [kindIf (outside 4 16 (w / 2 ^ 16 % 256)) vkRange, kindIf (outside 0 20 (w / 256 % 32)) vkRange,
        kindIf (on && !(fixed (RAD_PHY.mode r) && fixed (RAD_PHY.preamble r) && fixed (RAD_PHY.hop_len r)))
          vkRule]
    else if off = 8 then kindIf (outside 128 512 (w % 512)) vkRange
    else if 0x10 ≤ off ∧ off < 0x20 then kindIf on vkRule
    else if off = 0x20 then kindIf (outside 1 1000 (w % 65536)) vkRange
    else if off = 0x24 then kindIf (outside 0 160 (w % 256)) vkRange
    else none
  | .plc p =>
    let on := s.flag (PLC_CTRL.enable p)
    if off = 4 then
      firstKind [kindIf (outside 0 60 (w / 256 % 64)) vkRange,
        kindIf (on && decide (w % 2 ≠ s.get (PLC_PHY.band p) ∨ w / 16 % 4 ≠ s.get (PLC_PHY.mod p))) vkRule]
    else none
  | .flc _ =>
    if off = 0 then
      firstKind [kindIf (outside 0 512 (w / 2 ^ 16 % 1024)) vkRange, kindIf (outside 0 8 (w / 256 % 16)) vkRange]
    else none
  | _ => none

/-- The same for the other blocks of the Apron. -/
def State.apronWriteKind (s : State) (a : Access) (b : Block) (off w : Nat) : Option Nat :=
  match b with
  | .hpt =>
    let busy := s.flag HPT_MSG_STAT.busy
    if off = 0x20 then firstKind [kindIf busy vkRule, kindIf (outside 12 1152 (w % 2048)) vkRange]
    else kindIf (busy && decide (0x400 ≤ off ∧ off < 0x880)) vkRule
  | .cyc =>
    if off = 0 then
      firstKind [kindIf (outside 0x14 0x40 (w / 2 ^ 16 % 256)) vkRange,
        kindIf (outside 4 0x40 (w / 256 % 256)) vkRange, kindIf (decide (w / 4 % 4 = 3)) vkRange]
    else none
  | .ghl => kindIf (decide (off = 0x104) && outside 2000 3000 (w % 8192)) vkRange
  | .mtr =>
    if 0x400 ≤ off ∧ off < 0x440 then
      if off % 8 = 0 then
        firstKind [kindIf (outside 1 100000 (w % 131072)) vkRange, kindIf (outside 0 5 (w / 2 ^ 24 % 8)) vkRange,
          kindIf (outside 0 4 (w / 2 ^ 19 % 8)) vkRange]
      else kindIf (outside 1 100 (w % 128)) vkRange
    else if off = 0x500 ∨ off = 0x600 then kindIf (decide (2 ^ 31 ≤ w) && outside 0 21 (w % 32)) vkRange
    else none
  | .eth e =>
    if off = 0x10 then kindIf (decide (w % 4096 = 4095)) vkRange
    else if off = 0x18 then
      kindIf (decide (w / 2 ^ 16 % 1024 ≤ w % 1024) || decide (500 < w / 2 ^ 16 % 1024)) vkRange
    else if off = 0x108 ∨ off = 0x10C ∨ off = 0x110 ∨ off = 0x114 ∨ (0x400 ≤ off ∧ off < 0x500) then
      kindIf (s.eth e).changeAt.isSome vkRule
    else none
  | .ptp =>
    if off = 0 then
      kindIf (s.flag PTP_CTRL.enable && decide (w / 4 % 2 ≠ s.get PTP_CTRL.p2p ∨
        w / 8 % 2 ≠ s.get PTP_CTRL.transport)) vkRule
    else if off = 0x10 ∨ off = 0x14 then kindIf (decide (a.port = .host)) vkRule
    else if off = 0x28 then kindIf (outside 10001 1000000000 w) vkRange
    else if off = 0x2C then
      firstKind [kindIf (outside 1 3600 (w / 2 ^ 16)) vkRange, kindIf (decide (w % 65536 = 0)) vkRange]
    else none
  | _ => none

/-- The kind of violation that a write of a value to a register is, by the rules of its block. -/
def State.writeKind (s : State) (a : Access) (b : Block) (off w : Nat) : Option Nat :=
  firstKind [s.dieWriteKind a b off w, s.lineWriteKind b off w, s.apronWriteKind a b off w]

/-! ## Writes: the effects -/

/-- R19: a write stores by the access codes of the fields. -/
def State.store (s : State) (addr : Nat) (r : RegDesc) (w : Nat) : State :=
  r.fields.foldl (fun s f =>
    let x : Fld := ⟨addr, f.lo, f.hi + 1 - f.lo⟩
    let v := w / 2 ^ f.lo % x.size
    match f.acc with
    | .rw | .wo1 | .rwl => s.set x v
    | .w1c => s.set x (s.get x - (s.get x &&& v))
    | .w1s => s.set x (s.get x ||| v)
    | .ro | .wo | .rc => s) s

/-- A field takes its bits of a written word. -/
def State.field (s : State) (f : Fld) (w : Nat) : State := s.set f (w / 2 ^ f.lo)

/-- ICU: pending and enable bits, and completions (R602, R605). -/
def State.icuWrite (s : State) (d : DieId) (off w : Nat) : Option State :=
  let i := off % 0x20 / 4
  let m := if i = 0 then w - w % 2 else w
  let clear := fun (f : Fld) => s.set f (s.get f - (s.get f &&& m))
  if 0x80 ≤ off ∧ off < 0xA0 then some (s.set (ICU_PEND.pend d i) (s.get (ICU_PEND.pend d i) ||| m))
  else if 0xA0 ≤ off ∧ off < 0xC0 then some (clear (ICU_PEND.pend d i))
  else if 0xC0 ≤ off ∧ off < 0xE0 then some (s.set (ICU_EN.en d i) (s.get (ICU_EN.en d i) ||| m))
  else if 0xE0 ≤ off ∧ off < 0x100 then some (clear (ICU_EN.en d i))
  else if 0x800 ≤ off ∧ (off - 0x800) % 16 = 4 then some (s.icuComplete d ((off - 0x800) / 16) (w % 512))
  else none

/-- QCM: timeouts, flushes and the selected arbiter (R248, R260, R276). -/
def State.qcmWrite (s : State) (d : DieId) (off w : Nat) : Option (Except Nat State) :=
  if 0x10 ≤ off ∧ off ≤ 0x24 then some (s.timeoutTake d ((off - 0x10) / 4) w)
  else if off = 0x114 then some (if w % 2 = 1 then s.flushTake d else .ok s)
  else if off = 0x204 ∨ off = 0x208 then some (s.arbWrite d (decide (off = 0x204)) w)
  else if off = 0x214 then
    if 40 < s.get (QCM_ARB_SEL.arb d) ∧ s.holder ≠ some d then some (.error vkSpace)
    else match s.arb d (s.get (QCM_ARB_SEL.arb d)) with
    | some (_, x) =>
      some (.ok (s.setArb d (s.get (QCM_ARB_SEL.arb d)) { x with flags := x.flags - (x.flags &&& (w % 65536)) }))
    | none => some (.ok s)
  else none

/-- CYC_CTRL (R109): its fields, and the period that follows a new nominal frequency in ACQUIRE (R72). -/
def State.cycWrite (s : State) (w : Nat) : State :=
  let s := ((s.field CYC_CTRL.zc_timeout w).field CYC_CTRL.hyst w).field CYC_CTRL.ref_sel w
  ((s.field CYC_CTRL.nominal_60 w).field CYC_CTRL.force_ghost w).acquirePeriod

/-- TWN_CMD (R482, R483): a request that is refused is counted. -/
def State.twnCommand (s : State) (d : DieId) (code : Nat) : State :=
  let (t, ok) := if code = 1 then s.handOver d.other else s.selfTest d
  if ok then t else s.addSat (TWN_CMD_REFUSED.count d) 1

/-- An enable bit of a control register is written. -/
def State.putEnable (s : State) (k : Nat) (on : Bool) : State := if on then s.blockOn k else s.blockOff k

/-- RAD, PLC and FLC: service, planned leaves, the slot banks and count frames. -/
def State.lineWrite (s : State) (b : Block) (off w : Nat) : Option (Except Nat State) :=
  let on := decide (w % 2 = 1)
  match b with
  | .rad r =>
    if off = 0 then
      let s := (s.field (RAD_CTRL.leave_to r) w).field (RAD_CTRL.join_open r) w
      let s := s.putEnable r on
      some (.ok (if w / 32 % 2 = 1 then s.radioLeave r else s))
    else if off = 0x34 then some (s.slotWrite r w)
    else if off = 0x38 then some (.ok (s.swapRequest r (w % 256)))
    else none
  | .plc p =>
    if off = 0 then
      let s := (s.field (PLC_CTRL.join_open p) w).putEnable (4 + p) on
      some (.ok (if w / 8 % 2 = 1 then s.plcLeave p else s))
    else none
  | .flc n =>
    if off = 0 then
      let s := (s.field (FLC_CTRL.smooth n) w).field (FLC_CTRL.align n) w
      let s := s.setChainField n (FLC_CTRL.devices n) (w / 2 ^ 16 % 1024)
      let s := (s.setChainField n (FLC_CTRL.pwm_bits n) (w / 256 % 16)).putEnable (8 + n) on
      some (.ok (if w / 16 % 2 = 1 then s.set (FLC_CTRL.count n) 1 else s))
    else none
  | _ => none

/-- R405: the inputs whose bit of a setting changes are marked, and the setting takes its bits. -/
def State.inputBits (s : State) (f : Fld) (w : Nat) : State :=
  let old := s.get f
  ((List.range 18).foldl (fun s i => if bitOf old i = bitOf w i then s else s.meterChanging i) s).field f w

/-- MTR: service, modes, selections and requests. -/
def State.mtrWrite (s : State) (off w : Nat) : Option (Except Nat State) :=
  if off = 0 then some (.ok ((s.field MTR_CTRL.feeder_en w).putEnable 24 (decide (w % 2 = 1))))
  else if off = 8 then some (.ok (s.inputBits MTR_MODE.absolute w))
  else if off = 0xC then some (.ok (s.inputBits MTR_ROGO.rogowski w))
  else if off = 0x10 then some (s.resSelWrite w)
  else if off = 0x40 then some (s.totSelWrite w)
  else if off = 0x500 then some (.ok (if 2 ^ 31 ≤ w then (s.harmRequest (w % 32)).1 else s))
  else if off = 0x600 then some (.ok (if 2 ^ 31 ≤ w then (s.calRequest (w % 32)).1 else s))
  else none

/-- The selected wake filter of a backbone port takes part of its mask, or its check value. -/
def State.wakeWrite (s : State) (e off w : Nat) : State :=
  let x := s.eth e
  let f := s.get (ETH_WAKE_SEL.filter e)
  let k := Tbl.get (0, 0) x.wake f
  let j := (off - 0x910) / 4
  let k := if off = 0x920 then (k.1, w % 65536)
    else (k.1 - k.1 / 2 ^ (32 * j) % 2 ^ 32 * 2 ^ (32 * j) + w * 2 ^ (32 * j), k.2)
  s.setEth e { x with wake := Tbl.put (0, 0) x.wake f k }

/-- ETH: service, failover, PHY accesses, gate lists and wake filters. -/
def State.ethWrite (s : State) (p : Port) (e off w : Nat) : Option (Except Nat State) :=
  let held := fun (k : Nat) => s.held p (ethBase e + k)
  if off = 0 then
    let s := ((s.field (ETH_CTRL.listen e) w).field (ETH_CTRL.pause_honour e) w).field (ETH_CTRL.pause_send e) w
    some (.ok ((s.field (ETH_CTRL.accept_untagged e) w).putEnable (25 + e) (decide (w % 2 = 1))))
  else if off = 0x30 then
    let s := (s.field (ETH_BKP.revertive e) w).field (ETH_BKP.preferred e) w
    some (.ok (if w / 16 % 2 = 1 then s.failoverForce else s))
  else if off = 0x40 then some (s.mdioWrite e w)
  else if off = 0x100 then
    let s := s.field (ETH_GCL_CTRL.enable e) w
    some (.ok (if w / 2 % 2 = 1 then (s.gclRequest e).1 else s))
  else if off = 0x28 ∨ off = 0x110 then some (.ok (s.hold p (ethBase e + off) w))
  else if off = 0x24 then
    some (.ok (((s.set (ETH_MC_HASH_LO.hash_lo e) w).set (ETH_MC_HASH_HI.hash_hi e) (held 0x28)).hold p
      (ethBase e + 0x28) 0))
  else if off = 0x10C then
    some (.ok (((s.set (ETH_GCL_BASE_LO.base_lo e) w).set (ETH_GCL_BASE_HI.base_hi e) (held 0x110)).hold p
      (ethBase e + 0x110) 0))
  else if 0x910 ≤ off ∧ off ≤ 0x920 then some (.ok (s.wakeWrite e off w))
  else none

/-- PTP: the enable and the measured offset. -/
def State.ptpWrite (s : State) (p : Port) (off w : Nat) : Option State :=
  if off = 0 then
    let s := ((s.field PTP_CTRL.tt_capable w).field PTP_CTRL.transport w).field PTP_CTRL.p2p w
    some (if w % 2 = 1 then s.set PTP_CTRL.enable 1
      else if s.flag PTP_CTRL.enable then (s.set PTP_CTRL.enable 0).ptpDisable else s)
  else if off = 0x14 then some (s.hold p 0xC0090014 w)
  else if off = 0x10 then
    some ((s.ptpTake (signed 64 (s.held p 0xC0090014 * 2 ^ 32 + w))).hold p 0xC0090014 0)
  else none

/-- The octets of the request buffer (R600). -/
def State.requestOctets (s : State) (n : Nat) : List Byte :=
  ((List.range 288).flatMap fun w => leBytes 4 (s.get (HPT_MSG_REQ.data w))).take n

/-- Any request of a session is served (R541). -/
def State.serveAny (s : State) (session : Nat) (m : List Byte) : State :=
  let id := msgId m
  s.receiveMessage session m fun q =>
    match q with
    | .read l => some fun s => s.serveRead session id l
    | .write l => some fun s => s.serveWrite session id l
    | .epRead e n c => some fun s => s.serveEpRead session id e n c
    | .epWrite l => some fun s => s.serveEpWrite session id l
    | .company b => some fun s => s.serveCompany session id b

/-- R600: a doorbell: busy is set, ready clears, and the request reaches the object protocol in the
host-port session.  The window takes none while it is out of service (log entry 96). -/
def State.doorbell (s : State) (n : Nat) : State :=
  if s.flag HPT_CTRL.msg_en then
    ((s.set HPT_MSG_STAT.busy 1).set HPT_MSG_STAT.ready 0).serveAny 0 (s.requestOctets n)
  else s

/-- The effect of a write that is more than a store; none for a plain register. -/
def State.special (s : State) (p : Port) (b : Block) (off w : Nat) : Option (Except Nat State) :=
  match b with
  | .icu d => (s.icuWrite d off w).map .ok
  | .eps d => if off = 0x50 then some (.ok (s.remapCommand d w)) else none
  | .qcm d => s.qcmWrite d off w
  | .cyc => if off = 0 then some (.ok (s.cycWrite w)) else none
  | .twn d => if off = 8 then some (.ok (s.twnCommand d (w % 256))) else none
  | .hpt => if off = 0x20 then some (.ok (s.doorbell (w % 2048))) else none
  | .ghl =>
    if off = 0xC then some (.ok ((s.rtcCommit (s.held p 0xC0030010 * 2 ^ 32 + w)).hold p 0xC0030010 0))
    else if off = 0x10 then some (.ok (s.hold p 0xC0030010 (w % 2)))
    else none
  | .mtr => s.mtrWrite off w
  | .eth e => s.ethWrite p e off w
  | .ptp => (s.ptpWrite p off w).map .ok
  | b => s.lineWrite b off w

/-! ## Writes (R19, R591, R592) -/

/-- The bits of a register that are RW. -/
def RegDesc.rwMask (r : RegDesc) : Nat :=
  r.fields.foldl (fun m f => if f.acc = .rw then m + (2 ^ (f.hi + 1) - 2 ^ f.lo) else m) 0

/-- R591: an old value OR, AND-NOT or XOR a written one. -/
def aliasWord (k old w : Nat) : Nat :=
  if k = 1 then old ||| w else if k = 2 then old - (old &&& w) else old ^^^ w

/-- R19: a register that a plain write reaches. -/
def RegDesc.writable (r : RegDesc) : Bool :=
  r.fields.any fun f => decide (f.acc = .rw ∨ f.acc = .wo ∨ f.acc = .w1c ∨ f.acc = .w1s)

/-- A write to a register of a block, at alias `k`: the state after it, or the kind of violation it is. -/
def State.writeReg (s : State) (a : Access) (b : Block) (r : RegDesc) (off k w : Nat) : Except Nat State :=
  let m := r.rwMask
  if k ≠ 0 ∧ m = 0 then .error vkAliasWrite
  else if r.writable = false then .error vkReadOnly
  else
    let w := if k = 0 then w else aliasWord k (s.wordAt b off &&& m) w &&& m
    match s.writeKind a b off w with
    | some kind => .error kind
    | none =>
      let s := if endsLine (b.base + off) then both State.latchLines s else s
      (s.special a.port b off w).getD (.ok (s.store (b.base + off) r w))

/-- A write to a window's violation registers: only the valid bit takes one. -/
def State.violWrite (s : State) (w off k v : Nat) : Except Nat State :=
  if k ≠ 0 then .error vkAliasWrite
  else if off = 0xFF4 then .ok (if 2 ^ 31 ≤ v then s.set (VIOL_INFO.valid w) 0 else s)
  else .error vkReadOnly

/-- R598: the host-port writes that object 0x1108 does not lock. -/
def lockExempt (b : Block) (off : Nat) : Bool :=
  match b with
  | .hpt => decide (off = 0x20 ∨ (0x400 ≤ off ∧ off < 0x880))
  | .icu _ => decide (off = 0x844 ∨ off = 0x854)
  | _ => false

/-- R598: a write that is locked. -/
def State.locked (s : State) (a : Access) (pl : Place) : Bool :=
  s.hostLocked a && (match pl with
    | .reg b off => a.alias_ || !lockExempt b off
    | _ => true)

/-- A word written at a resolved address: the state and the code of R583. -/
def State.writeAt (s : State) (a : Access) (v : Nat) : State × Nat :=
  let pl := s.place a.target
  let bad := fun (kind : Nat) => (s.violate a kind, hcVIOLATION)
  let done := fun (r : Except Nat State) =>
    match r with
    | .ok t => (t, hcOK)
    | .error kind => bad kind
  let k := aliasOf a.target
  match pl with
  | .noTarget => (if a.port = .host then s.hostFailed a.addr hcNOTARGET else s, hcNOTARGET)
  | pl =>
    if s.locked a pl then bad vkHostLock
    else match pl with
      | .noTarget | .unmapped => bad vkUnoccupied
      | .mram _ _ | .sram _ _ => bad vkWindow
      | .viol w off => done (s.violWrite w off k v)
      | .reg b off =>
        match b.register off with
        | none => bad vkUnoccupied
        | some r => done (s.writeReg a b r off k v)

/-! ## Accesses of a port -/

/-- An access as it is resolved; none in space 0b00 while no die holds the stage. -/
def accessOf (p : Port) (bound : Option DieId) (addr : Nat) (write : Bool) : Option Access :=
  (busAddr bound addr).map fun t =>
    { port := p, addr := addr, target := t, write := write,
      alias_ := decide (aliasOf t ≠ 0) && (match spaceDie t with
        | some _ => decide (t % 2 ^ 30 < 0x10000000)
        | none => true) }

/-- A word of space 0b00 has no target (R587). -/
def State.noTarget (s : State) (p : Port) (addr : Nat) : State :=
  if p = .host then s.hostFailed addr hcNOTARGET else s

/-- A word read by a port bound to a die. -/
def State.readWord (s : State) (p : Port) (bound : Option DieId) (addr : Nat) (bad : Bool) :
    State × Nat × Nat :=
  match accessOf p bound addr false with
  | none => (s.noTarget p addr, hcNOTARGET, 0)
  | some a => s.readAt a bad

/-- A word written by a port bound to a die. -/
def State.writeWord (s : State) (p : Port) (bound : Option DieId) (addr v : Nat) : State × Nat :=
  match accessOf p bound addr true with
  | none => (s.noTarget p addr, hcNOTARGET)
  | some a => s.writeAt a v

/-- The register an address names in its base window, as space 0b00 stands now. -/
def State.namedReg (s : State) (addr : Nat) : Option (Block × RegDesc × Nat) :=
  match busAddr s.holder addr with
  | none => none
  | some t =>
    if aliasOf t ≠ 0 then none
    else match s.place t with
      | .reg b off => (b.register off).map fun r => (b, r, off)
      | _ => none

/-- One read by a port, and what it returns. -/
def State.portRead (s : State) (p : Port) (addr : Nat) : State :=
  let (t, code, v) := s.readWord p s.holder addr false
  t.emit (if code = hcOK then .regRead p addr (BitVec.ofNat 32 v) else .refused p addr code)

/-- One write by a port. -/
def State.portWrite (s : State) (p : Port) (addr v : Nat) : State :=
  let (t, code) := s.writeWord p s.holder addr v
  if code = hcOK then t else t.emit (.refused p addr code)

/-- A command of one access runs on the registers it is for, while the module is out of reset. -/
def State.onReg (s : State) (addr : Nat) (isFor : Block → RegDesc → Nat → Bool) (act : State → State) : State :=
  if s.power.on = false then s
  else match s.namedReg addr with
    | some (b, r, off) => if isFor b r off then act s else s
    | none => s

/-- LOW_WORD_READ (R593): a read of the low word of a 64-bit value copies the high word to the port's
shadow. -/
def execLowWordRead (p : Port) (addr : Word) (s : State) : Host.Outcome State Fault Refusal :=
  .next (s.onReg addr.toNat (fun b _ off => b.lows.contains off || (decide (b = .ghl) && decide (off = 0)))
    fun s => s.portRead p addr.toNat)

/-- HIGH_WORD_READ (R593): the shadow is returned and released, or the live word. -/
def execHighWordRead (p : Port) (addr : Word) (s : State) : Host.Outcome State Fault Refusal :=
  .next (s.onReg addr.toNat (fun b _ off => decide (4 ≤ off) && (b.lows.contains (off - 4) ||
    (decide (b = .ghl) && decide (off = 4)))) fun s => s.portRead p addr.toNat)

/-- HIGH_WORD_WRITE (R594): the high word is held for the port. -/
def execHighWordWrite (p : Port) (addr v : Word) (s : State) : Host.Outcome State Fault Refusal :=
  .next (s.onReg addr.toNat (fun b _ off => decide (4 ≤ off) && b.writeLows.contains (off - 4))
    fun s => s.portWrite p addr.toNat v.toNat)

/-- LOW_WORD_WRITE (R594): the write commits both words, and the holding register clears. -/
def execLowWordWrite (p : Port) (addr v : Word) (s : State) : Host.Outcome State Fault Refusal :=
  .next (s.onReg addr.toNat (fun b _ off => b.writeLows.contains off)
    fun s => s.portWrite p addr.toNat v.toNat)

/-- READ_CLEAR (R19): an RC register returns its value and clears. -/
def execReadClear (p : Port) (addr : Word) (s : State) : Host.Outcome State Fault Refusal :=
  .next (s.onReg addr.toNat (fun _ r _ => r.fields.any fun f => decide (f.acc = .rc))
    fun s => s.portRead p addr.toNat)

/-- REGISTER_WRITE (R19, R21, R591): a write acts by the access codes of the register, at its base or at
an alias offset, or is a violation. -/
def execRegisterWrite (p : Port) (addr v : Word) (s : State) : Host.Outcome State Fault Refusal :=
  .next (if s.power.on then s.portWrite p addr.toNat v.toNat else s)

/-- ICU_CLAIM (R604). -/
def execIcuClaim (p : Port) (d : DieId) (t : Fin 6) (s : State) : Host.Outcome State Fault Refusal :=
  .next (if s.power.on then s.portRead p (d.space + 0x800 + 16 * t.val) else s)

/-- ICU_COMPLETE (R605). -/
def execIcuComplete (p : Port) (d : DieId) (t : Fin 6) (v : Word) (s : State) :
    Host.Outcome State Fault Refusal :=
  .next (if s.power.on then s.portWrite p (d.space + 0x804 + 16 * t.val) v.toNat else s)

/-- ICU_PEND_SET (R602). -/
def execIcuPendSet (p : Port) (d : DieId) (i : Fin 8) (v : Word) (s : State) :
    Host.Outcome State Fault Refusal :=
  .next (if s.power.on then s.portWrite p (d.space + 0x80 + 4 * i.val) v.toNat else s)

/-- ICU_PEND_CLEAR (R602). -/
def execIcuPendClear (p : Port) (d : DieId) (i : Fin 8) (v : Word) (s : State) :
    Host.Outcome State Fault Refusal :=
  .next (if s.power.on then s.portWrite p (d.space + 0xA0 + 4 * i.val) v.toNat else s)

/-- MSG_DOORBELL (R600). -/
def execMsgDoorbell (p : Port) (v : Word) (s : State) : Host.Outcome State Fault Refusal :=
  .next (if s.power.on then s.portWrite p 0xC0010020 v.toNat else s)

/-- A response is placed in HPT_MSG_RSP (R600). -/
def State.placeResponse (s : State) (b : List Byte) : State :=
  let s := (List.range ((b.length + 3) / 4)).foldl (fun s w => s.set (HPT_MSG_RSP.data w) (leAt b (4 * w) 4)) s
  (((s.set HPT_MSG_STAT.rsp_len b.length).set HPT_MSG_STAT.busy 0).set HPT_MSG_STAT.ready 1).raise
    HPT_INT_STATUS.msg_ready

/-- MSG_RESPONSE (R600, R458, R552): the oldest response to the host port whose packets and mirror writes
are acknowledged is placed. -/
def execMsgResponse (s : State) : Host.Outcome State Fault Refusal :=
  match s.replies.find? fun r => decide (r.session = 0) && s.acked r.after && s.mirrored r with
  | some r => .next (({ s with replies := s.replies.erase r }.replySent r).placeResponse r.body)
  | none => .next s

/-! ## Host-port transactions (R580-R585, R596) -/

/-- The words of a burst read so far, with the code and index of a failed one. -/
structure Burst where
  state : State
  words : List Word
  failed : Option (Nat × Nat)

/-- Word `k` of a read burst; nothing once a word has failed. -/
def Burst.read (x : Burst) (bound : Option DieId) (addr : Nat) (bad : List (Fin 64)) (k : Nat) : Burst :=
  match x.failed with
  | some _ => { x with words := x.words ++ [0] }
  | none =>
    let (t, code, v) := x.state.readWord .host bound (addr + 4 * k) (bad.any fun i => decide (i.val = k))
    { state := t, words := x.words ++ [BitVec.ofNat 32 v], failed := if code = hcOK then none else some (code, k) }

/-- Word `k` of a write burst. -/
def Burst.write (x : Burst) (bound : Option DieId) (addr : Nat) (v : Word) (k : Nat) : Burst :=
  match x.failed with
  | some _ => x
  | none =>
    let (t, code) := x.state.writeWord .host bound (addr + 4 * k) v.toNat
    { x with state := t, failed := if code = hcOK then none else some (code, k) }

def State.burst (s : State) : Burst := { state := s, words := [], failed := none }

/-- The first n words of a read. -/
def State.readBurst (s : State) (addr n : Nat) (bad : List (Fin 64)) : Burst :=
  (List.range n).foldl (fun x k => x.read s.holder addr bad k) s.burst

/-- The words of a write, in address order. -/
def State.writeBurst (s : State) (addr : Nat) (data : List Word) : Burst :=
  data.zipIdx.foldl (fun x v => x.write s.holder addr v.1 v.2) s.burst

/-- The die that served a space-0b00 transaction. -/
def State.servedBy (s : State) (addr : Nat) : Option DieId := if addr < 2 ^ 30 then s.holder else none

/-- The status phase of a transaction (R581, R584). -/
def Burst.finish (x : Burst) (die : Option DieId) : State :=
  let f := x.failed.getD (hcOK, 0)
  x.state.emit (.host x.words f.1 f.2 die)

/-- HPT_STALL_MAX: the longest time HREADY was low. -/
def State.heldLow (s : State) (t : Nat) : State := s.set HPT_STALL_MAX.time (max (s.get HPT_STALL_MAX.time) t)

/-- R583, R584: a malformed transaction performs no word. -/
def State.malformedBus (s : State) (addr n : Nat) (die : Option DieId) : State :=
  (s.hostFailed addr hcMALFORMED).emit (.host (List.replicate n 0) hcMALFORMED 0 die)

/-- HOST_READ (R581-R584, R587): a burst of n + 1 words; `known`: its op is 0b00, else it is 0b10 or 0b11;
the longest time HREADY was low in 10 ns; and the words of the windows that could not be corrected. -/
def execHostRead (known : Bool) (addr : Word) (n : Fin 64) (held : Fin 401) (bad : List (Fin 64)) (s : State) :
    Host.Outcome State Fault Refusal :=
  let die := s.servedBy addr.toNat
  if s.power.on = false then .next s
  else if known = false ∨ addr.toNat % 4 ≠ 0 then .next (s.malformedBus addr.toNat 0 die)
  else .next (((s.heldLow held.val).readBurst addr.toNat (n.val + 1) bad).finish die)

/-- The words a write transaction carries: 1 to 64. -/
def burstData (data : List Word) : List Word := if data = [] then [0] else data.take 64

/-- HOST_WRITE (R581-R584, R587, R594). -/
def execHostWrite (addr : Word) (data : List Word) (held : Fin 401) (s : State) :
    Host.Outcome State Fault Refusal :=
  let die := s.servedBy addr.toNat
  if s.power.on = false then .next s
  else if addr.toNat % 4 ≠ 0 then .next (s.malformedBus addr.toNat 0 die)
  else .next (((s.heldLow held.val).writeBurst addr.toNat (burstData data)).finish die)

/-- The words of a transaction that are completed: of a read their number, of a write their values. -/
def State.completed (s : State) (write : Bool) (addr n : Nat) (data : List Word) : Burst :=
  if write then s.writeBurst addr (data.take 64) else s.readBurst addr n []

/-- HOST_ABORT (R585): completed words stand; `n` of a read, or those of `data`. -/
def execHostAbort (write : Bool) (addr : Word) (n : Fin 65) (data : List Word) (s : State) :
    Host.Outcome State Fault Refusal :=
  if s.power.on = false then .next s
  else
    let t := if addr.toNat % 4 ≠ 0 then s else (s.completed write addr.toNat n.val data).state
    .next ((t.addSat HPT_ABORTS.count 1).raise HPT_INT_STATUS.error)

/-- R596: a target that lies beyond a crossing. -/
def crossesTo (bound : Option DieId) (addr : Nat) : Bool :=
  match busAddr bound addr with
  | none => false
  | some t => (spaceDie t).isSome || decide (t / 0x4000 = 0xC0030000 / 0x4000 ∧ 0x100 ≤ t % 0x1000)

/-- STALL_CAP (R583, R596): the access to word `n` of a transaction, whose earlier words are those of
`data` in a write, has held HREADY low for 4 µs; `last` is the word written, and `taken` says whether the
target took it. -/
def execStallCap (write taken : Bool) (addr : Word) (n : Fin 64) (data : List Word) (last : Word) (s : State) :
    Host.Outcome State Fault Refusal :=
  let die := s.servedBy addr.toNat
  if s.power.on = false then .next s
  else if addr.toNat % 4 ≠ 0 then .next (s.malformedBus addr.toNat 0 die)
  else
    let k := if write then (data.take n.val).length else n.val
    let w := addr.toNat + 4 * k
    if crossesTo s.holder w = false then .next s
    else
      let x := s.completed write addr.toNat k (data.take n.val)
      match x.failed with
      | some _ => .next (x.finish die)
      | none =>
        let got := if taken = false then (x.state, hcOK)
          else if write then x.state.writeWord .host s.holder w last.toNat
          else
            let r := x.state.readWord .host s.holder w false
            (r.1, r.2.1)
        let code := if taken then hcSTALLTAKEN else hcSTALLNONE
        let t := if got.2 = hcOK then got.1.hostFailed w code else got.1
        let t := (t.addSat HPT_STALLS.count 1).heldLow 400
        .next (({ x with state := t, words := if write then [] else x.words ++ [0], failed := some (code, k) }).finish die)

end Sys2Proof.Machine
end

