-- ==== Sys2Proof/Machine/Timeouts.lean ====
section
/-! DEFINITION. The expiry of a level's timeout (R259, R261-R265, R574). -/

namespace Sys2Proof.Machine

/-- R261: a waiter waits in an instance of a level: a unit, cluster or region, a die, the module or the
company. -/
def Waiter.waitsIn (w : Waiter) (d : DieId) (level inst : Nat) : Bool :=
  let q := w.item.src.val
  decide (queueLevel q = level) && (decide (4 ≤ level) || decide (w.die = d)) &&
    (decide (3 ≤ level) || decide (queueInst q = inst))

/-- R259, R261: the age of a waiter has reached its level's timeout. -/
def State.aged (s : State) (d : DieId) (level tick cycle : Nat) : Bool :=
  let t := s.get (tmoFld (s.qcmDie d (decide (level < 4))) level)
  if level < 4 then decide (t ≤ (s.now - tick) * 40) else decide (cycle + t ≤ s.clk.cycle)

/-- R45, R262: it reaches it at the clock edge of the present tick. -/
def State.onEdge (s : State) (d : DieId) (level tick cycle : Nat) : Bool :=
  let t := s.get (tmoFld (s.qcmDie d (decide (level < 4))) level)
  if level < 4 then decide ((s.now - tick) * 40 < t + 40)
  else decide (cycle + t = s.clk.cycle ∧ s.clk.cycleStart = s.now)

/-- R255, R276: the level and instance in which requester `i` of a die's arbiter `a` waits for its grant; the
transports' arbiters serve items that wait for their schedule (R258). -/
def arbInstance (a i : Nat) : Option (Nat × Nat) :=
  if a ≤ 31 then (if i ≤ 8 then some (0, 9 * a + i) else some (2, a / 8))
  else if a ≤ 35 then
    (if i ≤ 7 then some (1, 8 * (a - 32) + i) else if i = 8 then some (2, a - 32) else some (3, 0))
  else if a ≤ 39 then some (2, a - 36)
  else if a = 40 then some (3, 0)
  else none

/-- The requesters that wait for a grant in an instance of a level: arbiter, requester, tick and cycle. -/
def State.arbWaits (s : State) (d : DieId) (level inst : Nat) : List (Nat × Nat × Nat × Nat) :=
  (s.arbs.filter fun e => decide (e.1 / 256 = d.num)).flatMap fun e =>
    match e.2 with
    | some x => (x.waits.filter fun w =>
        match arbInstance (e.1 % 256) w.1 with
        | some (l, i) => decide (l = level ∧ (3 ≤ l ∨ i = inst))
        | none => false).map fun w => (e.1 % 256, w)
    | none => []

/-- The one of them that has waited longest. -/
def oldestArb : List (Nat × Nat × Nat × Nat) → Option (Nat × Nat × Nat × Nat)
  | [] => none
  | w :: rest =>
    match oldestArb rest with
    | some v => if v.2.2.1 < w.2.2.1 then some v else some w
    | none => some w

/-- R261: the oldest waiter of an instance: a packet that lacks credits, or a requester not yet granted. -/
def State.oldest (s : State) (d : DieId) (level inst : Nat) :
    Option (Waiter ⊕ (Nat × Nat × Nat × Nat)) :=
  match s.waiters.find? (fun w => w.waitsIn d level inst), oldestArb (s.arbWaits d level inst) with
  | some w, some v => if v.2.2.1 < w.tick then some (.inr v) else some (.inl w)
  | some w, none => some (.inl w)
  | none, some v => some (.inr v)
  | none, none => none

/-- When it began to wait: its tick and cycle. -/
def waitSince : Waiter ⊕ (Nat × Nat × Nat × Nat) → Nat × Nat
  | .inl w => (w.tick, w.cycle)
  | .inr v => v.2.2

/-- The timeout interrupt of a level. -/
def tmoIrq (d : DieId) : Nat → Fld
  | 0 => QCM_INT_STATUS.tmo_unit d
  | 1 => QCM_INT_STATUS.tmo_cluster d
  | 2 => QCM_INT_STATUS.tmo_region d
  | 3 => QCM_INT_STATUS.tmo_die d
  | 4 => QCM_INT_STATUS.tmo_module d
  | _ => QCM_INT_STATUS.tmo_company d

/-- R261: a discard by a timeout is counted, kept as the last drop, signalled and posted. -/
def State.tmoDrop (s : State) (d : DieId) (level q : Nat) : State :=
  let e := s.qcmDie d (decide (level < 4))
  let s := ((s.addSat (QCM_TMO_DROPS_L.count e level) 1).lastDrop e q 1).raise (tmoIrq e level)
  s.post (if queuePlane q = 0 then .control else if queuePlane q = 1 then .data else .management)
    (cbSource (originDie e) cbQCM 0) 0x0030 (leBytes 1 level ++ leBytes 1 0 ++ leBytes 2 q)

/-- R263: a request of the object protocol that was discarded is answered with a timeout error; the packet
holds the message from its first octet (log entry 98). -/
def State.objectTimeout (s : State) (session request : Nat) (words : List (BitVec 64)) : State :=
  match s.progress.find? fun q => decide (q.session = session ∧ q.request = request) with
  | some q =>
    (List.range q.items.length).foldl (fun s i =>
      match (q.items.getD i ([], none)).2 with
      | some _ => s
      | none => s.settleItem (some (session, request, i)) 8) s
  | none =>
    let type := (words.headD 0).toNat / 256 % 256
    s.respond session request 0 (respBytes type request 8 0 [])

/-- R263: the requester of a discarded request at a unit, cluster or region receives an error response: one
word that the manual does not give, in the word reserved for it; a requester that still waited for that word
has none to receive it in (log entry 116). -/
def State.errorResponse (s : State) (d : DieId) (x : Send) : State :=
  let q := responseQueue x.src
  let y : Send := { src := x.dst, dst := BitVec.toFin (BitVec.ofNat 16 q), ring := 0,
                    words := [BitVec.ofNat 64 s.freeVal], kind := .other, counts := true }
  (s.deliver d y).draw

/-- R261, R263: the reservation that a discarded item held returns, or takes the error response. -/
def State.reservationBack (s : State) (w : Waiter) (level : Nat) : State :=
  if w.reserved = false then s
  else if level ≤ 2 then s.errorResponse w.die w.item
  else s.unclaim w.die w.item.src w.item.dst

/-- R264: the discard of a control-plane item changes the digest of the die that discarded it: of the unit
that it waited in, or of one the manual does not name (log entry 116). -/
def State.digestLost (s : State) (d : DieId) (level inst plane : Nat) : State :=
  if 3 < level ∨ plane ≠ 0 then s
  else
    let die := s.die d
    let here := unitList.find? fun u => decide (level = 0 ∧ die.phys u = inst)
    let u := here.getD (s.freeVal % 256)
    let old := Tbl.get 0 die.digest u
    let new := 1 + (old + s.draw.freeVal % (2 ^ 64 - 1)) % 2 ^ 64
    s.draw.draw.setDie d { die with digest := Tbl.put 0 die.digest u new }

/-- R263, R264: what the discard of an item costs beside it. -/
def State.itemLost (s : State) (d : DieId) (x : Send) : State :=
  match x.kind with
  | .other => s
  | .followSpot => s.addSat (CUE_FS_DROPPED.count d) 1
  | .callboard => s.intakeDrop d
  | .object session request => s.objectTimeout session request x.words

/-- The identifier of the company's queue (R281): management requests. -/
def companyQueue : Nat := 5 * 2 ^ 13 + 2 * 2 ^ 11

/-- R574: the oldest answer that the last send awaits has reached the company timeout. -/
def State.sendLapse (s : State) (d : DieId) : State :=
  match s.company.send with
  | some x =>
    match x.waits with
    | _ :: rest =>
      if s.aged d 5 0 x.cycle then
        let x := { x with waits := rest, lapsed := x.lapsed + 1 }
        { s with company := { s.company with send := some x } }.tmoDrop d 5 companyQueue
      else s
    | [] => s
  | none => s

/-- The queue identifier of the item of a requester that was not granted: its level and instance; of its
plane and class the manual says what the requesters of a bank port say (log entry 116). -/
def State.requesterQueue (s : State) (a i level inst : Nat) : Nat :=
  let plane := if 36 ≤ a ∧ a ≤ 39 ∧ i ≤ 2 then i else s.freeVal % 3
  let cls := s.freeVal / 3 % 2
  level * 2 ^ 13 + plane * 2 ^ 11 + cls * 2 ^ 9 + (if level = 3 then 4 else inst)

/-- R261, R263-R265: the oldest waiter of an instance is discarded whole. -/
def State.discardWaiter (s : State) (d : DieId) (level inst : Nat) :
    Waiter ⊕ (Nat × Nat × Nat × Nat) → State
  | .inl w =>
    let s := ({ s with waiters := s.waiters.erase w }.reservationBack w level).tmoDrop d level w.item.src.val
    let s := (s.itemLost d w.item).digestLost d level inst (queuePlane w.item.src.val)
    (if level = 0 then s.strike d inst else s).serve
  | .inr (a, i, _, _) =>
    let q := s.requesterQueue a i level inst
    let s := match s.arb d a with
      | some (_, x) => s.setArb d a { x with waits := x.waits.filter fun w => decide (w.1 ≠ i) }
      | none => s
    let s := (s.draw.tmoDrop d level q).digestLost d level inst (queuePlane q)
    if level = 0 then s.strike d inst else s

/-- What expires in an instance of a level: its oldest waiter, or the oldest awaited answer of the company. -/
def State.expires (s : State) (d : DieId) (level inst : Nat) : Option (Nat × Nat) :=
  match s.oldest d level inst with
  | some w => some (waitSince w)
  | none =>
    match level, s.company.send with
    | 5, some x => if x.waits = [] then none else some (0, x.cycle)
    | _, _ => none

/-- R261: a level's timeout expires in an instance, if its oldest waiter still waits and has reached it. -/
def State.expire (s : State) (d : DieId) (level inst : Nat) : State :=
  match s.oldest d level inst with
  | some w =>
    if s.aged d level (waitSince w).1 (waitSince w).2 then s.discardWaiter d level inst w else s
  | none => if level = 5 then s.sendLapse d else s

/-- LEVEL_TIMEOUT (R261-R265): the timeout of a level expires in an instance once its oldest waiter has
reached it.  An expiry of this very clock edge waits for the end of the edge, so that a credit or a grant of
the same edge comes first (R262). -/
def execLevelTimeout (d : DieId) (level : Fin 6) (inst : Fin 512) (s : State) :
    Host.Outcome State Fault Refusal :=
  match s.expires d level.val inst.val with
  | some (tick, cycle) =>
    if s.aged d level.val tick cycle = false then .next s
    else if s.onEdge d level.val tick cycle then
      .next { s with expiring := s.expiring ++ [(d, level.val, inst.val)] }
    else .next (s.expire d level.val inst.val)
  | none => .next s

/-- R45, R262: at the end of a clock edge the timeouts that expire at it are handled, the inner level first. -/
def State.endEdge (s : State) : State :=
  let at_ := fun (l : Nat) => s.expiring.filter fun x => decide (x.2.1 = l)
  let all := ([0, 1, 2, 3, 4, 5] : List Nat).flatMap at_
  all.foldl (fun s x => s.expire x.1 x.2.1 x.2.2) { s with expiring := [] }

end Sys2Proof.Machine
end

