-- ==== Sys2Proof/Machine/Boundary.lean ====
section
/-! DEFINITION. The phase-0 boundary: the turn of each die, the commit marker at the understudy, the output
gate, joining, activation, the enabling of the outputs, and CYCLE_BOUNDARY (R65, R67, R128, R155,
R456-R461, R464, R472-R483, R660-R665, R690, R707, R711, R713). -/

namespace Sys2Proof.Machine

/-! ## The turn of a die (R155, R459) -/

/-- A die closes the cycle it is in: what the last mark left to apply, and its digests. -/
def State.closeTurn (s : State) (d : DieId) : State :=
  let c := s.dieCycle d
  let s := s.atCycle c fun s =>
    let ins := (s.die d).ready
    let s := s.setDie d { s.die d with ready := [] }
    match (s.side d).mark with
    | some e => s.epochOpen d e ins
    | none => s.setDie d (ins.foldl (Die.applyIn c) (s.die d))
  s.atCycle (c + 1) fun s => s.closeDie d

/-- Steps 1 to 6 of R155 in the running cycle, with the moves of units before them. -/
def State.openTurn (s : State) (d : DieId) : State :=
  let held := decide (s.holder = some d)
  let s := s.setDie d (s.die d).takeParts
  let s := if held then s.holderMoves d else s
  if held ∧ s.holder ≠ some d then s
  else
    let s := s.setDie d ((s.die d).applyPlaced s.clk.cycle)
    let (s, changed) := if held then s.applyStaged d else s.applyShadow d
    s.openDie d changed

/-- R459: a die that follows the journal closes the cycle it is in and runs steps 1 to 6 of the next. -/
def State.shadowTurn (s : State) (d : DieId) : State :=
  let c := s.dieCycle d
  (s.closeTurn d).atCycle (c + 1) fun s => s.openTurn d

/-! ## The closing packet at the understudy (R456-R461) -/

/-- R457, R459, R461: a closing packet commits the cycle the die is in, and the pass of the next begins; or
it confirms a cycle closed provisionally.  A failed check ends the role of an understudy (log entry 100 on
a die that has just taken the stage). -/
def State.commitClose (s : State) (d : DieId) (k0 : Side) (cycle packets crc : Nat) : State :=
  let own := Nat.xor k0.crc crc32Ones
  let done := if cycle = s.dieCycle d then some (s.die d).done
    else (k0.lapses.find? fun x => decide (x.1 = cycle)).map Prod.snd
  let good := match done with
    | some t => decide (k0.packets = packets ∧ own = crc) &&
        unitList.all fun u => (s.die d).isMoving u || decide (Tbl.get 0 t u = Tbl.get 0 k0.totals u)
    | none => false
  if good = false ∧ s.holder ≠ some d then s.leave d roRESYNC
  else
    let k := s.side d
    let k := { k with packets := 0, crc := crc32Ones, totals := [],
                      lapses := k.lapses.filter fun x => decide (x.1 ≠ cycle) }
    let s := s.setSide d k
    let s := (s.set (TWN_COMMIT_LO.cycle_lo d) cycle).set (TWN_COMMIT_HI.cycle_hi d) (cycle / 2 ^ 32)
    let s := if k.lapses = [] then
        (s.setSide d { s.side d with run := 0 }).set (TWN_STATUS.provisional d) 0 else s
    let late := decide (cycle < s.dieCycle d)
    let s := if good then s.setDie d { s.die d with emission := [], exactEmission := [] } else s
    if late ∨ (s.holder = some d ∧ k.waiting = false) then s
    else
      let s := s.shadowTurn d
      s.setSide d { s.side d with waiting := decide (cycle + 1 < s.clk.cycle) }

/-- COMMIT_CLOSE (R456, R457, R461). -/
def execCommitClose (s : State) : Host.Outcome State Fault Refusal :=
  match s.journal.link with
  | p :: _ =>
    let k0 := s.side p.toDie
    .next (s.take (fun r => match r with
      | .commitClose _ _ _ _ _ _ _ _ => true
      | _ => false) fun s d r => match r with
      | .commitClose _ cycle packets crc _ _ _ _ => s.commitClose d k0 cycle packets crc
      | _ => s)
  | [] => .next s

/-- CLOSING_WAIT_EXPIRY (R459-R461): the wait ends without the closing packet, and the understudy, or a die
that has just taken the stage, runs the cycle provisionally; after 4 such cycles in a row an understudy
leaves its role. -/
def State.waitExpiry (s : State) (d : DieId) : State :=
  let k := s.side d
  if k.waiting = false ∨ (s.roleOf d ≠ roUNDERSTUDY ∧ s.holder ≠ some d) then s
  else if 4 ≤ k.run ∧ s.holder ≠ some d then s.leave d roRESYNC
  else
    let s := s.goProvisional d
    let k := s.side d
    let lapse := (s.dieCycle d, (s.die d).done)
    (s.setSide d { k with waiting := false, lapses := k.lapses ++ [lapse] }).shadowTurn d

def execClosingWaitExpiry (d : DieId) (s : State) : Host.Outcome State Fault Refusal :=
  .next (s.waitExpiry d)

/-! ## The gate (R444, R447, R472-R477) -/

/-- CYCLE_SAVE (R85, R96, R419): the commit record of the closed cycle; none follows the final one of a failing
supply (R703). -/
def State.cycleSave (s : State) : State :=
  if s.power.failedAt = none then s.commitNow (s.clk.cycle - 1) s.containerNow false else s

/-- What of the continuity between the dies ends as the gate changes side: disputes, with their clones to
be released, and the requests that the change answers. -/
def Twin.settleAll (t : Twin) : Twin :=
  { t with disputes := [], clones := t.clones ++ t.disputes.filterMap (fun x => x.clones), planned := none,
           blamed := false, blameAfter := none, release := none, silent := 0 }

/-- R444, R447, R475, R606: the gate opens to die `d`, after `f` held the stage. -/
def State.switchTo (s : State) (d f : DieId) (cause replayed : Nat) : State :=
  let n := s.clk.cycle
  let s := { s with
    holder := some d
    twin := { s.twin.settleAll with last := (s.containerNow, cause, f.num, d.num, replayed) } }
  let s := (s.setRole d roSTAGE).set (TWN_STATUS.provisional d) 0
  let k := s.side d
  let s := s.setSide d { k with tested := false, toTest := false, lapses := [], run := 0 }
  let regs := fun e (s : State) =>
    let s := (s.addWrap (TWN_HANDOVERS.count e) 1).set (TWN_HO_CYCLE.cycle e) n
    ((s.set (TWN_HO_CAUSE.cause e) cause).set (TWN_HO_CAUSE.to_die e) d.num).set (TWN_REPLAYED.count e) replayed
  ((both regs s).raise (TWN_INT_STATUS.took_stage d)).icuRelease d

/-- R48, R465: units of a former stage holder that wait for a move are excluded, and move. -/
def State.excludeWaiting (s : State) (d : DieId) : State :=
  let s := (s.die d).waiting.foldl (fun s x => s.exclude d x.1 true) s
  s.shadowMoves d

/-- R473: after a planned handover the former stage holder is the understudy, and runs the new cycle in
shadow. -/
def State.becomeUnderstudy (s : State) (h : DieId) : State :=
  let k := s.side h
  let s := s.setRole h roUNDERSTUDY
  let s := s.setSide h { Side.start with
    format := k.format, resyncs := k.resyncs, restarts := k.restarts, expect := s.journal.seq,
    input := s.twin.input }
  let s := s.setDie h { s.die h with sessionCopy := s.sessions, requestCopy := s.remembered }
  (s.excludeWaiting h).openTurn h

/-- R474: a planned handover from die `h` at the boundary that closes its cycle.  The new stage holder waits
for the marker. -/
def State.planned (s : State) (h : DieId) (cause : Nat) : State :=
  let d := h.other
  let s := s.commitMarker h true
  let s := s.switchTo d h cause 0
  let s := (s.raise (TWN_INT_STATUS.gave_stage h)).raiseIf (decide (cause = 9)) (TWN_INT_STATUS.comeback d)
  let s := s.setDie d { s.die d with moves := (s.die d).moves.filter fun m => m.remap }
  let s := s.setSide d { s.side d with waiting := true }
  let s := if cause = 10 then s.activationMade s.containerNow else s
  if cause = 11 ∨ (s.activation.state = 4 ∧ s.activation.die = some h) then
    (s.setRole h roUNDERSTUDY).activationReject cause
  else s.becomeUnderstudy h

/-- INPUT_REPLAY, REPLAY_LOST (R475, R476): inputs after the highest sequence that the new stage holder has
are re-delivered, those of the last 4 cycles; the rest is lost.  The state and the number replayed. -/
def State.replayInputs (s : State) (d : DieId) : State × Nat :=
  let n := s.clk.cycle
  let has := (s.side d).input
  let again := s.twin.replay.filter fun x => decide (has < x.2.1 ∧ n ≤ x.1 + 4)
  let lost := s.twin.input - has - again.length
  let s := { s with
    inputs := again.map (fun x => x.2.2) ++ s.inputs
    twin := { s.twin with input := has, replay := s.twin.replay.filter fun x => decide (x.2.1 ≤ has) } }
  if lost = 0 then (s, again.length)
  else
    let count := fun e (s : State) => s.addSat (TWN_REPLAY_LOST.count e) lost
    (((both count s).raise (TWN_INT_STATUS.replay_lost d)).twinPost d 0x0041 (leBytes 4 lost ++ leBytes 4 0),
      again.length)

/-- R475: the requests that the failed stage holder was serving end with it; the new one remembers what was
mirrored to it. -/
def State.serveAnew (s : State) (d : DieId) : State :=
  let open_ := fun (n : Nat) => decide (n = 0 ∨ n = 33) || (s.die d).sessionCopy.any fun x => decide (x.1 = n)
  { s.dropPointers open_ with
    sessions := (s.die d).sessionCopy, remembered := (s.die d).requestCopy, replies := [], progress := []
    committing := none
    mirrors := s.mirrors.filter fun x => decide (x.1 ≠ d)
    continuity := s.continuity.filter fun x => decide (x.1 ≠ d) }

/-- TAKEOVER (R472, R475): die `d` takes the stage that `f` released with an unplanned cause. -/
def State.takeOver (s : State) (f : DieId) (cause : Nat) : State :=
  let d := f.other
  let s := s.closeTurn d
  let (s, replayed) := s.replayInputs d
  let s := (s.switchTo d f cause replayed).serveAnew d
  let s := { s with journal := { Journal.start with seq := (s.side d).expect } }
  let s := s.setSide d { s.side d with waiting := false }
  let s := (s.restoreMoves d).clearExcluded d
  let s := s.setDie d { s.die d with moves := [] }
  let s := s.balanceRestart
  let a := s.activation
  let s := if a.die = some d ∧ (a.state = 2 ∨ a.state = 3) then s.activationMade s.containerNow else s
  let s := if a.die = some f ∧ a.state = 4 then s.activationReject cause else s
  s.cycleSave.openTurn d

/-- R472, R690: a release without a fit understudy: the gate stays closed. -/
def State.gateShut (s : State) (f : DieId) (cause : Nat) : State :=
  let s := { s with power := { s.power with savedCycle := s.clk.cycle - 2 } }
  if s.activation.die = some f ∧ s.activation.state = 4 then s.activationReject cause else s

/-! ## Why a stage holder hands over (R465, R480, R482, R661, R664) -/

/-- R480: die A reclaims the stage. -/
def State.comebackDue (s : State) : Bool :=
  decide (s.holder = some .b ∧ s.obj 0x2102 0 = 1 ∧ s.activation.state ≠ 4 ∧
    1024 ≤ s.get (TWN_MATCH_RUN.run .b)) && (s.side .a).tested && s.plannedOk

/-- The cause of a planned handover at this boundary. -/
def State.planCause (s : State) : Option Nat :=
  match s.holder with
  | none => none
  | some h =>
    if s.twin.blamed ∧ s.plannedOk then some 7
    else match s.twin.planned with
      | some c => if s.fitDie h.other then some c else none
      | none =>
        if s.activationDue ∧ s.activationReady ∧ s.plannedOk then some 10
        else if s.comebackDue then some 9 else none

/-- R481, R483: the understudy leaves for full self-test.  Probation keeps the former stage holder in its
role (log entry 101). -/
def State.leaveForTest (s : State) (o : DieId) : State :=
  let k := s.side o
  let idle := decide (o = .a ∧ s.obj 0x2102 0 = 1 ∧ k.tested = false ∧ s.activation.state ≠ 4 ∧
    64 ≤ s.get (TWN_MATCH_RUN.run o)) && !s.anyExcluded o
  if s.roleOf o = roUNDERSTUDY ∧ (k.toTest ∨ idle) then
    let s := s.leave o roTEST
    s.setSide o { s.side o with tested := false }
  else s

/-! ## A boundary without a change of side -/

/-- R144, R467: what the stage holder sends after its marker for units that move or resync on the other
die. -/
def State.sendParts (s : State) (h : DieId) : State :=
  let o := h.other
  let own := s.die h
  let f := fun (m : Moving) =>
    if m.remap = false then { m with part := some (own.unitPart m.unit true) }
    else if m.wait = 2 then { m with wait := 1 }
    else if m.wait = 1 then { m with wait := 0, part := some (own.unitPart m.unit false) }
    else m
  if s.roleOf o = roUNDERSTUDY then s.setDie o { s.die o with moves := (s.die o).moves.map f } else s

/-- R478 steps 3 to 5: the joining die installs the working stores as they stood after the commit, and
buffers the journal from there. -/
def State.adopt (s : State) (h : DieId) : State :=
  let o := h.other
  let k := s.side o
  let die := { (s.die o).adopt (s.die h) with sessionCopy := s.sessions, requestCopy := s.remembered }
  let s := s.setDie o die
  let s := s.setSide o { Side.start with
    format := k.format, tested := k.tested, resyncs := k.resyncs, restarts := k.restarts,
    expect := s.journal.seq, input := s.twin.input }
  let mine := fun (p : Packet) => decide (p.toDie ≠ o)
  let s := { s with journal := { s.journal with link := s.journal.link.filter mine } }
  (s.set (TWN_RESYNC.stage o) 3).openTurn o

/-- RESYNC_JOIN (R478 step 6): the joining die has applied all it buffered. -/
def State.joinNow (o : DieId) (s : State) : State :=
  let empty := decide (s.journal.link.filter (fun p => decide (p.toDie = o)) = [])
  if s.roleOf o = roRESYNC ∧ s.get (TWN_RESYNC.stage o) = 3 ∧ empty ∧ s.holder = some o.other ∧
      s.dieCycle o + 1 = s.clk.cycle then
    let s := (s.setRole o roUNDERSTUDY).set (TWN_RESYNC.stage o) 4
    let s := s.setSide o { s.side o with resyncs := (s.side o).resyncs + 1 }
    (s.raise (TWN_INT_STATUS.resync_done o)).sendSlots o
  else s

/-- The cycles of a resynchronisation are counted (R479). -/
def State.countResync (o : DieId) (s : State) : State :=
  let st := s.get (TWN_RESYNC.stage o)
  if 1 ≤ st ∧ st ≤ 3 then s.addSat (TWN_RESYNC.cycles o) 1 else s

/-- The stage holder `h` keeps the stage: its marker, what goes with it to the other die, and its pass. -/
def State.stay (s : State) (h : DieId) : State :=
  let o := h.other
  let s := s.leaveForTest o
  let s := s.activationPrepare
  let s := (s.commitMarker h false).sendParts h
  let s := if s.roleOf o = roUNDERSTUDY then s.setSide o { s.side o with waiting := true } else s
  let s := if s.roleOf o = roRESYNC ∧ s.get (TWN_RESYNC.stage o) = 2 then s.adopt h else s
  s.openTurn h

/-- The boundary of the gate. -/
def State.gate (s : State) : State :=
  match s.twin.release with
  | some (f, cause) =>
    let s := { s with twin := { s.twin with release := none } }
    if s.holder = none ∧ s.fitDie f.other then s.takeOver f cause else s.cycleSave.gateShut f cause
  | none =>
    match s.holder with
    | none => s.cycleSave
    | some h =>
      let cause := s.planCause
      let s := { s with twin := { s.twin with planned := if s.activation.rejecting then some 11 else none } }
      let s := s.cycleSave
      let s := if s.activationDue ∧ cause ≠ some 10 then s.activationMiss else s
      match cause with
      | some c => if s.fitDie h.other then s.planned h c else s.stay h
      | none => s.stay h

/-! ## Disputes (R464, R466) -/

/-- CLONE_CREATE (R464): a unit in dispute is cloned into the spare of its physical cluster, where that is
free on both dies. -/
def State.cloneUnit (s : State) (x : Dispute) : State :=
  if x.tried ∨ x.settled then s
  else
    let at_ := fun (d : DieId) => spareAt ((s.die d).phys x.unit / 9)
    let free := !s.spareTaken .a (at_ .a) && !s.spareTaken .b (at_ .b)
    let y := { x with tried := true, clones := if free then some (at_ .a, at_ .b) else none }
    { s with twin := { s.twin with
      disputes := s.twin.disputes.map fun z => if z.unit = x.unit then y else z } }

/-- Disputes that are settled close, clones are released, and new disputes get theirs. -/
def State.turnDisputes (s : State) : State :=
  let s := { s with twin := { s.twin with
    clones := [], disputes := s.twin.disputes.filter fun x => !x.settled } }
  s.twin.disputes.foldl State.cloneUnit s

/-! ## Starting and stopping (R237, R690, R707, R711) -/

/-- R711: a die that is still in BOOT after its first health word goes on by what that said, once the
outputs are enabled. -/
def State.leaveBoot (d : DieId) (s : State) : State :=
  if s.roleOf d ≠ roBOOT ∨ s.booted d = false ∨ s.flag MCTL_STATUS.outputs_en = false then s
  else match s.power.words.getD d.num none with
    | some true => s.setRole d roRESYNC
    | some false => s.setRole d roTEST
    | none => s

/-- OUTPUTS_ENABLE (R707 step 9, R87, R472): the gate opens to the chosen die, which catches up; at a start
of the module the outputs are enabled. -/
def State.outputsOn (s : State) : State :=
  match s.power.chosen with
  | none => s
  | some d =>
    if s.power.restored = false ∨ s.holder ≠ none ∨ s.power.failedAt ≠ none ∨ s.offline then s
    else
      let n := s.clk.cycle
      let s := { s with
        holder := some d
        power := { s.power with chosen := none, restored := false }
        journal := { Journal.start with seq := s.journal.seq }
        twin := s.twin.settleAll }
      let s := ((s.setRole d roSTAGE).raise (TWN_INT_STATUS.took_stage d)).icuRelease d
      let s := s.setSide d { s.side d with tested := false, toTest := false, waiting := false }
      let s := s.setDie d { s.die d with closedCycle := n - 1 }
      let s := if s.flag MCTL_STATUS.outputs_en then s
        else
          let s := (s.step_ 9).set MCTL_STATUS.outputs_en 1
          let s := s.set MCTL_START_TIME.ms (min (s.sinceStart / 25000) 65535)
          let s := if s.get CYC_STATUS.state = stACQUIRE then s.enterGhost else s
          (s.raise MCTL_INT_STATUS.outputs_enabled).setObj 0x7C03 0 s.containerNow
      (s.catchUp d true).openTurn d

/-- R690: in offline mode no die runs the sweep; the die that serves requests applies the staged writes. -/
def State.offlineWork (s : State) : State :=
  match s.tests.server with
  | some d => (s.applyStaged d).1
  | none => s

/-! ## Probation (R665) -/

/-- R665: the old-image die has left its role during probation. -/
def State.probationTurn (s : State) : State :=
  let a := s.activation
  match a.die with
  | none => s
  | some d =>
    if a.state ≠ 4 ∨ s.holder ≠ some d then s
    else if s.roleOf d.other = roUNDERSTUDY then { s with activation := { a with seated := true } }
    else if a.seated then s.activationAccept else s

/-! ## The boundary -/

/-- What the transports do at a boundary: slot tables, plans and grants (R300, R301, R346). -/
def State.transportTurn (s : State) (b : BoundaryIn) : State :=
  let s := (List.range 4).foldl (State.radioBoundary b.delivered) s
  let s := (List.range 2).foldl State.plcBoundary s
  let s := b.plans.foldl State.newPlan s
  b.grants.foldl State.scheduleGrant s

/-- The dies at a boundary from step 4 of a start on. -/
def State.dieWork (s : State) : State :=
  let s := match s.holder with
    | some h => s.closeDie h
    | none => s
  let s := both State.joinNow (both State.countResync s)
  let s := s.leftCompany
  let s := if s.holder.isSome ∨ s.offline then s.companyDue else s
  let s := s.applyTimeouts
  if s.tests.offlineAsked then
    s.cycleSave.enterOffline.offlineWork
  else if s.offline then s.cycleSave.offlineWork
  else
    let s := s.gate.turnDisputes
    (both State.leaveBoot s.outputsOn).probationTurn

/-- The boundary of a module out of reset. -/
def State.boundary (s : State) (b : BoundaryIn) : State :=
  let s := if s.power.failedAt = none then s.meterClose b.meter else s
  if s.power.loaded = false then
    let t := s.clockBoundary b.skews
    { t with clk := { t.clk with cycle := s.clk.cycle } }
  else
    let s := both (fun d s => s.wbCheck d) (both (fun d s => s.waitExpiry d) s)
    let s := (s.clockBoundary b.skews).dieWork
    s.transportTurn b

/-- CYCLE_BOUNDARY (R65-R67, R74, R713): the running cycle has had its length, and the next begins; before
that there is no boundary.  A restart that was asked for begins here. -/
def execCycleBoundary (b : BoundaryIn) (s : State) : Host.Outcome State Fault Refusal :=
  if s.power.on = false ∨ s.cycleDone = false then .next s
  else if s.power.restartAsked ∧ s.power.failedAt = none then
    .next ({ s with power := { s.power with restartAsked := false } }.failSequence b.meter true)
  else .next (s.boundary b)

end Sys2Proof.Machine
end

