-- ==== Sys2Proof/Machine/Operands.lean ====
section
/-! DEFINITION. The operands of a request that more than one way brings: an object written in a session, or a
register written by a port (R429, R430, R482, R483). -/

namespace Sys2Proof.Machine

/-- A request that an object and a register both take: the write of the object, or of the register. -/
def State.requestBy (s : State) (via : Via) (idx sub : Nat) (b : List Byte) (addr v : Nat) : State :=
  match via with
  | .object session request => s.objectWrite session.val request.toNat idx sub b
  | .register p => if s.power.on = false then s else s.portWrite p addr v

end Sys2Proof.Machine
end

