-- ==== Sys2Proof/Machine/Requests.lean ====
section
/-! DEFINITION. Requests that come as a write of one object, or also of a register (R214-R219, R235, R429,
R430, R436, R482, R483, R522, R559-R577, R625-R642, R652-R668, R683-R690, R713).  Each is received, checked
and answered as a WRITE of its object (R546). -/

namespace Sys2Proof.Machine

/-- HARMONIC_REQUEST (R429): object 0x6040, or MTR_HARM_REQ with go set. -/
def execHarmonicRequest (via : Via) (input : BitVec 8) (s : State) : Host.Outcome State Fault Refusal :=
  .next (s.requestBy via 0x6040 0 (leBytes 1 input.toNat) 0xC0070500 (2 ^ 31 + input.toNat))

/-- CALIBRATION_REQUEST (R430): object 0x6009, or MTR_CAL_REQ with go set. -/
def execCalibrationRequest (via : Via) (input : BitVec 8) (s : State) : Host.Outcome State Fault Refusal :=
  .next (s.requestBy via 0x6009 0 (leBytes 1 input.toNat) 0xC0070600 (2 ^ 31 + input.toNat))

/-- HAND_OVER_COMMAND (R482): object 0x2103 names the die, or code 1 to TWN_CMD through the space 0b00. -/
def execHandOverCommand (via : Via) (die : BitVec 8) (s : State) : Host.Outcome State Fault Refusal :=
  .next (s.requestBy via 0x2103 0 (leBytes 1 die.toNat) 0x00040008 1)

/-- SELF_TEST_COMMAND (R483): TRUE to object 0x2104, or code 2 to TWN_CMD through the die's own space. -/
def execSelfTestCommand (via : Via) (d : DieId) (s : State) : Host.Outcome State Fault Refusal :=
  .next (s.requestBy via 0x2104 d.num (leBytes 1 1) (TWN_CMD.code d).addr 2)

/-- BANK_SWAP_REQUEST (R214): a write of the object Bank swap. -/
def execBankSwapRequest (session : Fin 33) (request : BitVec 32) (v : BitVec 32) (s : State) :
    Host.Outcome State Fault Refusal :=
  .next (s.objectWrite session.val request.toNat 0x4402 0 (leBytes 4 v.toNat))

/-- GO_COMMAND (R217, R219): a write of the object Go command. -/
def execGoCommand (session : Fin 33) (request : BitVec 32) (b : List Byte) (s : State) :
    Host.Outcome State Fault Refusal :=
  .next (s.objectWrite session.val request.toNat 0x4420 0 b)

/-- BLACKOUT_COMMAND (R235): a write of the object Blackout command. -/
def execBlackoutCommand (session : Fin 33) (request : BitVec 32) (b : List Byte) (s : State) :
    Host.Outcome State Fault Refusal :=
  .next (s.objectWrite session.val request.toNat 0x4422 0 b)

/-- THEFT_LOG_CLEAR (R436): a write of TRUE to object 0x6065. -/
def execTheftLogClear (session : Fin 33) (request : BitVec 32) (s : State) :
    Host.Outcome State Fault Refusal :=
  .next (s.objectWrite session.val request.toNat 0x6065 0 (leBytes 1 1))

/-- ACCEPT_PENDING_STEP (R522): a write of TRUE to object 0x20C9. -/
def execAcceptPendingStep (session : Fin 33) (request : BitVec 32) (s : State) :
    Host.Outcome State Fault Refusal :=
  .next (s.objectWrite session.val request.toNat 0x20C9 0 (leBytes 1 1))

/-- COMMIT_PROMPT_BOOK (R559): a write of the object Commit prompt book. -/
def execCommitPromptBook (session : Fin 33) (request : BitVec 32) (v : BitVec 32) (s : State) :
    Host.Outcome State Fault Refusal :=
  .next (s.objectWrite session.val request.toNat 0x1040 0 (leBytes 4 v.toNat))

/-- ERASE_PROMPT_BOOK (R561): a write of the object Erase prompt book. -/
def execErasePromptBook (session : Fin 33) (request : BitVec 32) (v : BitVec 32) (s : State) :
    Host.Outcome State Fault Refusal :=
  .next (s.objectWrite session.val request.toNat 0x1042 0 (leBytes 4 v.toNat))

/-- JOIN (R565): a write of TRUE to object 0x1203. -/
def execJoin (session : Fin 33) (request : BitVec 32) (s : State) : Host.Outcome State Fault Refusal :=
  .next (s.objectWrite session.val request.toNat 0x1203 0 (leBytes 1 1))

/-- DECOMMISSION (R566): a write of object 0x1204. -/
def execDecommission (session : Fin 33) (request : BitVec 32) (v : BitVec 16) (s : State) :
    Host.Outcome State Fault Refusal :=
  .next (s.objectWrite session.val request.toNat 0x1204 0 (leBytes 2 v.toNat))

/-- COMPANY_COMMAND_SEND (R574): a write of object 0x1210. -/
def execCompanyCommandSend (session : Fin 33) (request : BitVec 32) (b : List Byte) (s : State) :
    Host.Outcome State Fault Refusal :=
  .next (s.objectWrite session.val request.toNat 0x1210 0 b)

/-- CLEAR_SENDERS (R570): a write of TRUE to object 0x1214. -/
def execClearSenders (session : Fin 33) (request : BitVec 32) (s : State) :
    Host.Outcome State Fault Refusal :=
  .next (s.objectWrite session.val request.toNat 0x1214 0 (leBytes 1 1))

/-- HOST_PORT_LOCK (R577): a write of TRUE to object 0x1109. -/
def execHostPortLock (session : Fin 33) (request : BitVec 32) (s : State) :
    Host.Outcome State Fault Refusal :=
  .next (s.objectWrite session.val request.toNat 0x1109 0 (leBytes 1 1))

/-- KEY_IMPORT (R625): a write of object 0x7010. -/
def execKeyImport (session : Fin 33) (request : BitVec 32) (b : List Byte) (s : State) :
    Host.Outcome State Fault Refusal :=
  .next (s.objectWrite session.val request.toNat 0x7010 0 b)

/-- GENERATE_MANAGEMENT_BRANCH (R627): a write of TRUE to object 0x7012. -/
def execGenerateManagementBranch (session : Fin 33) (request : BitVec 32) (s : State) :
    Host.Outcome State Fault Refusal :=
  .next (s.objectWrite session.val request.toNat 0x7012 0 (leBytes 1 1))

/-- MANAGEMENT_CERTIFICATE (R628): a write of object 0x7004. -/
def execManagementCertificate (session : Fin 33) (request : BitVec 32) (b : List Byte) (s : State) :
    Host.Outcome State Fault Refusal :=
  .next (s.objectWrite session.val request.toNat 0x7004 0 b)

/-- ATTESTATION_REQUEST (R630): a write of object 0x7020. -/
def execAttestationRequest (session : Fin 33) (request : BitVec 32) (b : List Byte) (s : State) :
    Host.Outcome State Fault Refusal :=
  .next (s.objectWrite session.val request.toNat 0x7020 0 b)

/-- SEGMENT_KEY_CHANGE (R631): a write of TRUE to object 0x7018. -/
def execSegmentKeyChange (session : Fin 33) (request : BitVec 32) (s : State) :
    Host.Outcome State Fault Refusal :=
  .next (s.objectWrite session.val request.toNat 0x7018 0 (leBytes 1 1))

/-- RENEW_SEGMENT_BRANCH (R633): a write of TRUE to object 0x701C. -/
def execRenewSegmentBranch (session : Fin 33) (request : BitVec 32) (s : State) :
    Host.Outcome State Fault Refusal :=
  .next (s.objectWrite session.val request.toNat 0x701C 0 (leBytes 1 1))

/-- TAMPER_ACKNOWLEDGE (R642): a write of object 0x7031. -/
def execTamperAcknowledge (session : Fin 33) (request : BitVec 32) (v : BitVec 16) (s : State) :
    Host.Outcome State Fault Refusal :=
  .next (s.objectWrite session.val request.toNat 0x7031 0 (leBytes 2 v.toNat))

/-- STAGE_BEGIN (R652): a write of the object Stage begin. -/
def execStageBegin (session : Fin 33) (request : BitVec 32) (b : List Byte) (s : State) :
    Host.Outcome State Fault Refusal :=
  .next (s.objectWrite session.val request.toNat 0x7401 0 b)

/-- STAGE_BLOCK (R652): a write of the object Stage block. -/
def execStageBlock (session : Fin 33) (request : BitVec 32) (b : List Byte) (s : State) :
    Host.Outcome State Fault Refusal :=
  .next (s.objectWrite session.val request.toNat 0x7402 0 b)

/-- STAGE_END (R653): a write of TRUE to the object Stage end. -/
def execStageEnd (session : Fin 33) (request : BitVec 32) (s : State) : Host.Outcome State Fault Refusal :=
  .next (s.objectWrite session.val request.toNat 0x7403 0 (leBytes 1 1))

/-- ENDORSEMENT (R655): a write of object 0x7406. -/
def execEndorsement (session : Fin 33) (request : BitVec 32) (b : List Byte) (s : State) :
    Host.Outcome State Fault Refusal :=
  .next (s.objectWrite session.val request.toNat 0x7406 0 b)

/-- ACTIVATE (R659): a write of object 0x7410. -/
def execActivate (session : Fin 33) (request : BitVec 32) (b : List Byte) (s : State) :
    Host.Outcome State Fault Refusal :=
  .next (s.objectWrite session.val request.toNat 0x7410 0 b)

/-- REJECT_IMAGE (R664): a write of TRUE to object 0x7414. -/
def execRejectImage (session : Fin 33) (request : BitVec 32) (s : State) : Host.Outcome State Fault Refusal :=
  .next (s.objectWrite session.val request.toNat 0x7414 0 (leBytes 1 1))

/-- ACCEPT_IMAGE (R665): a write of TRUE to object 0x7415. -/
def execAcceptImage (session : Fin 33) (request : BitVec 32) (s : State) : Host.Outcome State Fault Refusal :=
  .next (s.objectWrite session.val request.toNat 0x7415 0 (leBytes 1 1))

/-- NODE_CAMPAIGN (R666): a write of object 0x7421. -/
def execNodeCampaign (session : Fin 33) (request : BitVec 32) (b : List Byte) (s : State) :
    Host.Outcome State Fault Refusal :=
  .next (s.objectWrite session.val request.toNat 0x7421 0 b)

/-- NODE_IMAGE_ACTIVATE (R668): a write of object 0x7423. -/
def execNodeImageActivate (session : Fin 33) (request : BitVec 32) (b : List Byte) (s : State) :
    Host.Outcome State Fault Refusal :=
  .next (s.objectWrite session.val request.toNat 0x7423 0 b)

/-- CLEAR_CALLBOARD (R683): a write of object 0x7801. -/
def execClearCallboard (session : Fin 33) (request : BitVec 32) (v : BitVec 32) (s : State) :
    Host.Outcome State Fault Refusal :=
  .next (s.objectWrite session.val request.toNat 0x7801 0 (leBytes 4 v.toNat))

/-- TEST_REQUEST (R687): a write of object 0x7810. -/
def execTestRequest (session : Fin 33) (request : BitVec 32) (b : List Byte) (s : State) :
    Host.Outcome State Fault Refusal :=
  .next (s.objectWrite session.val request.toNat 0x7810 0 b)

/-- OFFLINE_MODE (R690): a write of object 0x7820. -/
def execOfflineMode (session : Fin 33) (request : BitVec 32) (v : BitVec 16) (s : State) :
    Host.Outcome State Fault Refusal :=
  .next (s.objectWrite session.val request.toNat 0x7820 0 (leBytes 2 v.toNat))

/-- RESTART (R713): a write of object 0x7C10. -/
def execRestart (session : Fin 33) (request : BitVec 32) (v : BitVec 16) (s : State) :
    Host.Outcome State Fault Refusal :=
  .next (s.objectWrite session.val request.toNat 0x7C10 0 (leBytes 2 v.toNat))

end Sys2Proof.Machine
end

