-- ==== Sys2Proof/Machine/Dispatch.lean ====
section
/-! DEFINITION. Every command of the table and the one meaning it has. -/

namespace Sys2Proof.Machine

def exec (i : Instr) (s : State) : Host.Outcome State Fault Refusal :=
  match i with
  | .crossingDetected tickHalf before after low peak => Sys2Proof.Machine.execCrossingDetected tickHalf before after low peak s
  | .crossingTimeout => Sys2Proof.Machine.execCrossingTimeout s
  | .cycleBoundary b => Sys2Proof.Machine.execCycleBoundary b s
  | .optimeTick => Sys2Proof.Machine.execOptimeTick s
  | .rtcTick => Sys2Proof.Machine.execRtcTick s
  | .rtcLoRead p => Sys2Proof.Machine.execRtcLoRead p s
  | .rtcHiRead p => Sys2Proof.Machine.execRtcHiRead p s
  | .rtcSetHiWrite p v => Sys2Proof.Machine.execRtcSetHiWrite p v s
  | .rtcSetCommit p v => Sys2Proof.Machine.execRtcSetCommit p v s
  | .rtcSetApply => Sys2Proof.Machine.execRtcSetApply s
  | .rtcSetFromTai => Sys2Proof.Machine.execRtcSetFromTai s
  | .rtcCompensation celsius => Sys2Proof.Machine.execRtcCompensation celsius s
  | .dataPlaneInput => Sys2Proof.Machine.execDataPlaneInput s
  | .reportPeriodExpiry e => Sys2Proof.Machine.execReportPeriodExpiry e s
  | .writeBehind d e => Sys2Proof.Machine.execWriteBehind d e s
  | .backgroundStatisticsPass d => Sys2Proof.Machine.execBackgroundStatisticsPass d s
  | .scrubPass d bank row word bits => Sys2Proof.Machine.execScrubPass d bank row word bits s
  | .mramUncorrectable d bank row word sound => Sys2Proof.Machine.execMramUncorrectable d bank row word sound s
  | .unitFailure d u loss => Sys2Proof.Machine.execUnitFailure d u loss s
  | .remapSnapshotInstall d => Sys2Proof.Machine.execRemapSnapshotInstall d s
  | .remapCommand d w => Sys2Proof.Machine.execRemapCommand d w s
  | .followSpotReceive d => Sys2Proof.Machine.execFollowSpotReceive d s
  | .eventEvaluation d u => Sys2Proof.Machine.execEventEvaluation d u s
  | .eventCutoff => Sys2Proof.Machine.execEventCutoff s
  | .sweepOverrun d => Sys2Proof.Machine.execSweepOverrun d s
  | .emissionHandoff d e => Sys2Proof.Machine.execEmissionHandoff d e s
  | .aggregateDeadline d ready => Sys2Proof.Machine.execAggregateDeadline d ready s
  | .balanceCheck => Sys2Proof.Machine.execBalanceCheck s
  | .bankSwapRequest session request v => Sys2Proof.Machine.execBankSwapRequest session request v s
  | .bankSyncEnd => Sys2Proof.Machine.execBankSyncEnd s
  | .goCommand session request b => Sys2Proof.Machine.execGoCommand session request b s
  | .blackoutCommand session request b => Sys2Proof.Machine.execBlackoutCommand session request b s
  | .queuePacketSend d x => Sys2Proof.Machine.execQueuePacketSend d x s
  | .creditReturn d q => Sys2Proof.Machine.execCreditReturn d q s
  | .levelTimeout d level inst => Sys2Proof.Machine.execLevelTimeout d level inst s
  | .queueFlush p d => Sys2Proof.Machine.execQueueFlush p d s
  | .blockDisable b => Sys2Proof.Machine.execBlockDisable b s
  | .drained b => Sys2Proof.Machine.execDrained b s
  | .drainTimeout b => Sys2Proof.Machine.execDrainTimeout b s
  | .blockEnable p b => Sys2Proof.Machine.execBlockEnable p b s
  | .arbWindowBoundary d a clocks => Sys2Proof.Machine.execArbWindowBoundary d a clocks s
  | .arbGrant d a clocks requests emergency t => Sys2Proof.Machine.execArbGrant d a clocks requests emergency t s
  | .arbPreempt d a clocks j => Sys2Proof.Machine.execArbPreempt d a clocks j s
  | .arbEmergency d a clocks t => Sys2Proof.Machine.execArbEmergency d a clocks t s
  | .arbCutoff d a clocks => Sys2Proof.Machine.execArbCutoff d a clocks s
  | .arbWithdraw d a clocks who requests emergency t => Sys2Proof.Machine.execArbWithdraw d a clocks who requests emergency t s
  | .timeoutWrite p space level w => Sys2Proof.Machine.execTimeoutWrite p space level w s
  | .radioSlotStart r j => Sys2Proof.Machine.execRadioSlotStart r j s
  | .radioBadFrame r f => Sys2Proof.Machine.execRadioBadFrame r f s
  | .report r f => Sys2Proof.Machine.execReport r f s
  | .acknowledgement r f => Sys2Proof.Machine.execAcknowledgement r f s
  | .grantRequest r f gs => Sys2Proof.Machine.execGrantRequest r f gs s
  | .repairRequest r f => Sys2Proof.Machine.execRepairRequest r f s
  | .rehomeRequest r f gs => Sys2Proof.Machine.execRehomeRequest r f gs s
  | .joinRequest r f eui gs => Sys2Proof.Machine.execJoinRequest r f eui gs s
  | .ackMissing r => Sys2Proof.Machine.execAckMissing r s
  | .slotTableSwap r version => Sys2Proof.Machine.execSlotTableSwap r version s
  | .slotDataAccess p r w => Sys2Proof.Machine.execSlotDataAccess p r w s
  | .radioLeave r => Sys2Proof.Machine.execRadioLeave r s
  | .radioLeaveEnd r => Sys2Proof.Machine.execRadioLeaveEnd r s
  | .radioFailure r => Sys2Proof.Machine.execRadioFailure r s
  | .nodeLeave n => Sys2Proof.Machine.execNodeLeave n s
  | .plcWindowStart p w => Sys2Proof.Machine.execPlcWindowStart p w s
  | .plcReport p f => Sys2Proof.Machine.execPlcReport p f s
  | .plcGrantRequest p f gs => Sys2Proof.Machine.execPlcGrantRequest p f gs s
  | .plcJoinRequest p f eui gs => Sys2Proof.Machine.execPlcJoinRequest p f eui gs s
  | .plcReplyMissing p n => Sys2Proof.Machine.execPlcReplyMissing p n s
  | .plcLeave p => Sys2Proof.Machine.execPlcLeave p s
  | .plcLineFault p => Sys2Proof.Machine.execPlcLineFault p s
  | .planDataRead q p => Sys2Proof.Machine.execPlanDataRead q p s
  | .chainFrameStart n => Sys2Proof.Machine.execChainFrameStart n s
  | .chainReturnEnd n r => Sys2Proof.Machine.execChainReturnEnd n r s
  | .chainLatch n => Sys2Proof.Machine.execChainLatch n s
  | .latchMissing n => Sys2Proof.Machine.execLatchMissing n s
  | .chainCountRequest n => Sys2Proof.Machine.execChainCountRequest n s
  | .meterResultsReady => Sys2Proof.Machine.execMeterResultsReady s
  | .historyIntervalEnd => Sys2Proof.Machine.execHistoryIntervalEnd s
  | .pulseOutput n => Sys2Proof.Machine.execPulseOutput n s
  | .harmonicRequest via input => Sys2Proof.Machine.execHarmonicRequest via input s
  | .harmonicDone fundamental thd amps => Sys2Proof.Machine.execHarmonicDone fundamental thd amps s
  | .calibrationRequest via input => Sys2Proof.Machine.execCalibrationRequest via input s
  | .calibrationAuto => Sys2Proof.Machine.execCalibrationAuto s
  | .theftSecond a b c => Sys2Proof.Machine.execTheftSecond a b c s
  | .theftMinute => Sys2Proof.Machine.execTheftMinute s
  | .theftLogClear session request => Sys2Proof.Machine.execTheftLogClear session request s
  | .resultSelect p w => Sys2Proof.Machine.execResultSelect p w s
  | .totalSelect p w => Sys2Proof.Machine.execTotalSelect p w s
  | .healthDeadline a b bad => Sys2Proof.Machine.execHealthDeadline a b bad s
  | .dataWriteRecord => Sys2Proof.Machine.execDataWriteRecord s
  | .managementWriteRecord => Sys2Proof.Machine.execManagementWriteRecord s
  | .cueFixRecord => Sys2Proof.Machine.execCueFixRecord s
  | .scheduleOccurrenceRecord => Sys2Proof.Machine.execScheduleOccurrenceRecord s
  | .meteringRecord => Sys2Proof.Machine.execMeteringRecord s
  | .commitTotalsRecord => Sys2Proof.Machine.execCommitTotalsRecord s
  | .commitClose => Sys2Proof.Machine.execCommitClose s
  | .reservedRecord d => Sys2Proof.Machine.execReservedRecord d s
  | .epochMark e => Sys2Proof.Machine.execEpochMark e s
  | .journalAck => Sys2Proof.Machine.execJournalAck s
  | .mirrorWrite => Sys2Proof.Machine.execMirrorWrite s
  | .closingWaitExpiry d => Sys2Proof.Machine.execClosingWaitExpiry d s
  | .unitResyncInstall d u => Sys2Proof.Machine.execUnitResyncInstall d u s
  | .stageRelease cause => Sys2Proof.Machine.execStageRelease cause s
  | .resyncRequest d => Sys2Proof.Machine.execResyncRequest d s
  | .resyncCopyDone d => Sys2Proof.Machine.execResyncCopyDone d s
  | .resyncRestart d => Sys2Proof.Machine.execResyncRestart d s
  | .handOverCommand via die => Sys2Proof.Machine.execHandOverCommand via die s
  | .selfTestCommand via d => Sys2Proof.Machine.execSelfTestCommand via d s
  | .linkPacketError d again => Sys2Proof.Machine.execLinkPacketError d again s
  | .laneFailure lane => Sys2Proof.Machine.execLaneFailure lane s
  | .linkDown => Sys2Proof.Machine.execLinkDown s
  | .linkRetrain lanes => Sys2Proof.Machine.execLinkRetrain lanes s
  | .ethFrameReceive e octets symbol taken => Sys2Proof.Machine.execEthFrameReceive e octets symbol taken s
  | .pauseRefresh e taken => Sys2Proof.Machine.execPauseRefresh e taken s
  | .pauseReceive e quanta => Sys2Proof.Machine.execPauseReceive e quanta s
  | .pauseExpiry e => Sys2Proof.Machine.execPauseExpiry e s
  | .ethFrameTransmit e handed => Sys2Proof.Machine.execEthFrameTransmit e handed s
  | .txtsRead p e => Sys2Proof.Machine.execTxtsRead p e s
  | .linkFailure e partly => Sys2Proof.Machine.execLinkFailure e partly s
  | .failoverForce => Sys2Proof.Machine.execFailoverForce s
  | .failback => Sys2Proof.Machine.execFailback s
  | .gclChangeRequest e => Sys2Proof.Machine.execGclChangeRequest e s
  | .gclChange e => Sys2Proof.Machine.execGclChange e s
  | .gclEntryEnd e => Sys2Proof.Machine.execGclEntryEnd e s
  | .mdioCommand p e w => Sys2Proof.Machine.execMdioCommand p e w s
  | .mdioDone e data => Sys2Proof.Machine.execMdioDone e data s
  | .ptpOffsetWrite o => Sys2Proof.Machine.execPtpOffsetWrite o s
  | .ptpHoldoverExpiry => Sys2Proof.Machine.execPtpHoldoverExpiry s
  | .acceptPendingStep session request => Sys2Proof.Machine.execAcceptPendingStep session request s
  | .sessionOpen service commissioning => Sys2Proof.Machine.execSessionOpen service commissioning s
  | .sessionIdleTimeout => Sys2Proof.Machine.execSessionIdleTimeout s
  | .read session m => Sys2Proof.Machine.execRead session m s
  | .write session m => Sys2Proof.Machine.execWrite session m s
  | .epRead session m => Sys2Proof.Machine.execEpRead session m s
  | .epWrite session m => Sys2Proof.Machine.execEpWrite session m s
  | .company session m => Sys2Proof.Machine.execCompany session m s
  | .commitPromptBook session request v => Sys2Proof.Machine.execCommitPromptBook session request v s
  | .promptCommitEnd => Sys2Proof.Machine.execPromptCommitEnd s
  | .erasePromptBook session request v => Sys2Proof.Machine.execErasePromptBook session request v s
  | .join session request => Sys2Proof.Machine.execJoin session request s
  | .decommission session request v => Sys2Proof.Machine.execDecommission session request v s
  | .companyCommandSend session request b => Sys2Proof.Machine.execCompanyCommandSend session request b s
  | .clearSenders session request => Sys2Proof.Machine.execClearSenders session request s
  | .hostPortLock session request => Sys2Proof.Machine.execHostPortLock session request s
  | .hostRead known addr n held bad => Sys2Proof.Machine.execHostRead known addr n held bad s
  | .hostWrite addr data held => Sys2Proof.Machine.execHostWrite addr data held s
  | .hostAbort write addr n data => Sys2Proof.Machine.execHostAbort write addr n data s
  | .stallCap write taken addr n data last => Sys2Proof.Machine.execStallCap write taken addr n data last s
  | .lowWordRead p addr => Sys2Proof.Machine.execLowWordRead p addr s
  | .highWordRead p addr => Sys2Proof.Machine.execHighWordRead p addr s
  | .highWordWrite p addr v => Sys2Proof.Machine.execHighWordWrite p addr v s
  | .lowWordWrite p addr v => Sys2Proof.Machine.execLowWordWrite p addr v s
  | .readClear p addr => Sys2Proof.Machine.execReadClear p addr s
  | .registerWrite p addr v => Sys2Proof.Machine.execRegisterWrite p addr v s
  | .msgDoorbell p v => Sys2Proof.Machine.execMsgDoorbell p v s
  | .msgResponse => Sys2Proof.Machine.execMsgResponse s
  | .interruptPending d => Sys2Proof.Machine.execInterruptPending d s
  | .icuClaim p d t => Sys2Proof.Machine.execIcuClaim p d t s
  | .icuComplete p d t v => Sys2Proof.Machine.execIcuComplete p d t v s
  | .icuPendSet p d k v => Sys2Proof.Machine.execIcuPendSet p d k v s
  | .icuPendClear p d k v => Sys2Proof.Machine.execIcuPendClear p d k v s
  | .keyInvalidate c => Sys2Proof.Machine.execKeyInvalidate c s
  | .tamperSample open_ mesh => Sys2Proof.Machine.execTamperSample open_ mesh s
  | .keyRemask => Sys2Proof.Machine.execKeyRemask s
  | .keyImport session request b => Sys2Proof.Machine.execKeyImport session request b s
  | .generateManagementBranch session request => Sys2Proof.Machine.execGenerateManagementBranch session request s
  | .managementCertificate session request b => Sys2Proof.Machine.execManagementCertificate session request b s
  | .attestationRequest session request b => Sys2Proof.Machine.execAttestationRequest session request b s
  | .attestationReady => Sys2Proof.Machine.execAttestationReady s
  | .segmentKeyChange session request => Sys2Proof.Machine.execSegmentKeyChange session request s
  | .segmentKeyPeriod => Sys2Proof.Machine.execSegmentKeyPeriod s
  | .segmentKeyUse => Sys2Proof.Machine.execSegmentKeyUse s
  | .segmentKeyRetire => Sys2Proof.Machine.execSegmentKeyRetire s
  | .renewSegmentBranch session request => Sys2Proof.Machine.execRenewSegmentBranch session request s
  | .tamperAcknowledge session request v => Sys2Proof.Machine.execTamperAcknowledge session request v s
  | .stageBegin session request b => Sys2Proof.Machine.execStageBegin session request b s
  | .stageBlock session request b => Sys2Proof.Machine.execStageBlock session request b s
  | .stageEnd session request => Sys2Proof.Machine.execStageEnd session request s
  | .endorsement session request b => Sys2Proof.Machine.execEndorsement session request b s
  | .activate session request b => Sys2Proof.Machine.execActivate session request b s
  | .probationExpiry => Sys2Proof.Machine.execProbationExpiry s
  | .rejectImage session request => Sys2Proof.Machine.execRejectImage session request s
  | .acceptImage session request => Sys2Proof.Machine.execAcceptImage session request s
  | .nodeCampaign session request b => Sys2Proof.Machine.execNodeCampaign session request b s
  | .campaignDone => Sys2Proof.Machine.execCampaignDone s
  | .nodeImageActivate session request b => Sys2Proof.Machine.execNodeImageActivate session request b s
  | .dieBoot d sound0 sound1 => Sys2Proof.Machine.execDieBoot d sound0 sound1 s
  | .callboardPost => Sys2Proof.Machine.execCallboardPost s
  | .clearCallboard session request v => Sys2Proof.Machine.execClearCallboard session request v s
  | .testRequest session request b => Sys2Proof.Machine.execTestRequest session request b s
  | .dieFullSelfTest d => Sys2Proof.Machine.execDieFullSelfTest d s
  | .spareUnitTest c a b => Sys2Proof.Machine.execSpareUnitTest c a b s
  | .mramScrubTest bank found pass => Sys2Proof.Machine.execMramScrubTest bank found pass s
  | .radioCalibration r pass => Sys2Proof.Machine.execRadioCalibration r pass s
  | .plcLineMeasurement p pass => Sys2Proof.Machine.execPlcLineMeasurement p pass s
  | .chainCountTest n => Sys2Proof.Machine.execChainCountTest n s
  | .offsetCalibrationTest k => Sys2Proof.Machine.execOffsetCalibrationTest k s
  | .cableDiagnostic e pass => Sys2Proof.Machine.execCableDiagnostic e pass s
  | .falsiaLaneTest pass => Sys2Proof.Machine.execFalsiaLaneTest pass s
  | .phyLoopback e pass => Sys2Proof.Machine.execPhyLoopback e pass s
  | .testEnd full => Sys2Proof.Machine.execTestEnd full s
  | .testPeriodic radio bad => Sys2Proof.Machine.execTestPeriodic radio bad s
  | .offlineMode session request v => Sys2Proof.Machine.execOfflineMode session request v s
  | .tapRelease => Sys2Proof.Machine.execTapRelease s
  | .supplyGood testEn => Sys2Proof.Machine.execSupplyGood testEn s
  | .powerFail m => Sys2Proof.Machine.execPowerFail m s
  | .moduleReset below12 flushedA flushedB => Sys2Proof.Machine.execModuleReset below12 flushedA flushedB s
  | .counterLoad bad => Sys2Proof.Machine.execCounterLoad bad s
  | .startSelfTest d pass => Sys2Proof.Machine.execStartSelfTest d pass s
  | .stageChoice => Sys2Proof.Machine.execStageChoice s
  | .hotRestore => Sys2Proof.Machine.execHotRestore s
  | .restart session request v => Sys2Proof.Machine.execRestart session request v s
  | .backupSwitch vstby vbat => Sys2Proof.Machine.execBackupSwitch vstby vbat s
  | .standbyReturn vstby vbat => Sys2Proof.Machine.execStandbyReturn vstby vbat s
  | .ghostLightReset => Sys2Proof.Machine.execGhostLightReset s
  | .vbatMeasure vstby vbat => Sys2Proof.Machine.execVbatMeasure vstby vbat s
  | .chargeFault => Sys2Proof.Machine.execChargeFault s
  | .vinMonitor mv => Sys2Proof.Machine.execVinMonitor mv s
  | .lockstepMismatch d => Sys2Proof.Machine.execLockstepMismatch d s
  | .watchdogExpiry d => Sys2Proof.Machine.execWatchdogExpiry d s
  | .crossbarFault d => Sys2Proof.Machine.execCrossbarFault d s
  | .continuityMessage => Sys2Proof.Machine.execContinuityMessage s
  | .ethLinkUp e fast => Sys2Proof.Machine.execEthLinkUp e fast s
  | .sessionPeerClose n => Sys2Proof.Machine.execSessionPeerClose n s
  | .companyResponse target status => Sys2Proof.Machine.execCompanyResponse target status s
  | .ghostLightLeavesReset vstby vbat => Sys2Proof.Machine.execGhostLightLeavesReset vstby vbat s
  | .voltageInputPresence input peak => Sys2Proof.Machine.execVoltageInputPresence input peak s
  | .announceReceiptTimeout st => Sys2Proof.Machine.execAnnounceReceiptTimeout st s
  | .tapClockEdge rising tms tdi => Sys2Proof.Machine.execTapClockEdge rising tms tdi s

end Sys2Proof.Machine
end

