-- ==== Sys2Proof/Machine/Step.lean ====
section
/-! DEFINITION. One step of the module: the command at the front of the queue, or a tick. -/

namespace Sys2Proof.Machine

/-- A tick of the 25 MHz reference (log entry 1): the timeouts of this edge are handled (R45), time passes and
the PTP clock advances (R516). -/
def State.tick (s : State) : State := { s.endEdge.ptpTick with now := s.now + 1 }

/-- The command at the front of the queue acts with the queue's rest; with an empty queue a tick passes. -/
def step (s : State) : Host.Outcome State Fault Refusal :=
  match s.pending with
  | [] => .next s.tick
  | c :: rest => exec c { s with pending := rest }

/-- The state with the command that a word spells at the front of its queue; unchanged where it spells
none. -/
def State.withFetchWord (s : State) (nbits w : Nat) : State :=
  match decodeTableWord nbits w with
  | some c => { s with pending := c :: s.pending }
  | none => s

end Sys2Proof.Machine
end

