-- ==== Sys2Proof/Safety.lean ====
section
/-! DEFINITION. What a sound state is, in the terms the statements use: the invariant that every step keeps,
and the frames of commands that change registers alone. -/

namespace Sys2Proof.Machine

/-- R307: the module's frame counter lies at or above the value it was last saved at, and less than 4,096
uses above it. -/
def CounterOk (counter saved : Nat) : Prop := saved ≤ counter ∧ counter < saved + 4096

/-- The invariant: the register file and the object values are in their one canonical form, and the frame
counter stands within 4,096 uses of its saved value (R307). -/
def Inv (s : State) : Prop :=
  Tbl.wf 0 s.regs = true ∧ Tbl.wf 0 s.objs = true ∧ Tbl.wf [] s.octs = true ∧
    CounterOk s.frameCounter s.counterSaved

/-- A safe step: it answers a next state, and keeps the invariant. -/
def SafeStep (s : State) : Prop := ∃ t, step s = .next t ∧ (Inv s → Inv t)

/-- The commands that touch the cycle counter: a boundary ends the cycle (R65), the fourth crossing of the
acquisition ends it (R86), a start loads the counter (R85), and a reset clears it (R704). -/
def turnsCycle : Instr → Bool
  | .crossingDetected _ _ _ _ _ => true
  | .cycleBoundary _ => true
  | .counterLoad _ => true
  | .moduleReset _ _ _ => true
  | _ => false

/-- From `s` to `t` no register field changes but those named, and nothing but registers changes. -/
def OnlyRegs (fs : List Fld) (s t : State) : Prop :=
  (∀ f : Fld, f.key ∉ fs.map Fld.key → t.get f = s.get f) ∧ { t with regs := s.regs } = s

/-- From `s` to `t` no register field changes but those named. -/
def RegsBut (fs : List Fld) (s t : State) : Prop := ∀ f : Fld, f.key ∉ fs.map Fld.key → t.get f = s.get f

/-- R546: the object that a request command writes: its session and request identifier, the index and
sub-index of the object, and the value.  None for a command that is no such request. -/
def requestObject : Instr → Option (Nat × Nat × Nat × Nat × List Byte)
  | .bankSwapRequest n r v => some (n.val, r.toNat, 0x4402, 0, leBytes 4 v.toNat)
  | .goCommand n r b => some (n.val, r.toNat, 0x4420, 0, b)
  | .blackoutCommand n r b => some (n.val, r.toNat, 0x4422, 0, b)
  | .theftLogClear n r => some (n.val, r.toNat, 0x6065, 0, leBytes 1 1)
  | .acceptPendingStep n r => some (n.val, r.toNat, 0x20C9, 0, leBytes 1 1)
  | .commitPromptBook n r v => some (n.val, r.toNat, 0x1040, 0, leBytes 4 v.toNat)
  | .erasePromptBook n r v => some (n.val, r.toNat, 0x1042, 0, leBytes 4 v.toNat)
  | .join n r => some (n.val, r.toNat, 0x1203, 0, leBytes 1 1)
  | .decommission n r v => some (n.val, r.toNat, 0x1204, 0, leBytes 2 v.toNat)
  | .companyCommandSend n r b => some (n.val, r.toNat, 0x1210, 0, b)
  | .clearSenders n r => some (n.val, r.toNat, 0x1214, 0, leBytes 1 1)
  | .hostPortLock n r => some (n.val, r.toNat, 0x1109, 0, leBytes 1 1)
  | .keyImport n r b => some (n.val, r.toNat, 0x7010, 0, b)
  | .generateManagementBranch n r => some (n.val, r.toNat, 0x7012, 0, leBytes 1 1)
  | .managementCertificate n r b => some (n.val, r.toNat, 0x7004, 0, b)
  | .attestationRequest n r b => some (n.val, r.toNat, 0x7020, 0, b)
  | .segmentKeyChange n r => some (n.val, r.toNat, 0x7018, 0, leBytes 1 1)
  | .renewSegmentBranch n r => some (n.val, r.toNat, 0x701C, 0, leBytes 1 1)
  | .tamperAcknowledge n r v => some (n.val, r.toNat, 0x7031, 0, leBytes 2 v.toNat)
  | .activate n r b => some (n.val, r.toNat, 0x7410, 0, b)
  | .rejectImage n r => some (n.val, r.toNat, 0x7414, 0, leBytes 1 1)
  | .acceptImage n r => some (n.val, r.toNat, 0x7415, 0, leBytes 1 1)
  | .nodeCampaign n r b => some (n.val, r.toNat, 0x7421, 0, b)
  | .nodeImageActivate n r b => some (n.val, r.toNat, 0x7423, 0, b)
  | .clearCallboard n r v => some (n.val, r.toNat, 0x7801, 0, leBytes 4 v.toNat)
  | .testRequest n r b => some (n.val, r.toNat, 0x7810, 0, b)
  | .offlineMode n r v => some (n.val, r.toNat, 0x7820, 0, leBytes 2 v.toNat)
  | .restart n r v => some (n.val, r.toNat, 0x7C10, 0, leBytes 2 v.toNat)
  | .harmonicRequest (.object n r) i => some (n.val, r.toNat, 0x6040, 0, leBytes 1 i.toNat)
  | .calibrationRequest (.object n r) i => some (n.val, r.toNat, 0x6009, 0, leBytes 1 i.toNat)
  | .handOverCommand (.object n r) i => some (n.val, r.toNat, 0x2103, 0, leBytes 1 i.toNat)
  | .selfTestCommand (.object n r) d => some (n.val, r.toNat, 0x2104, d.num, leBytes 1 1)
  | _ => none

/-- R534, R551: a request comes in an open session of a module that serves the object protocol, repeats none
that is still remembered, and finds room in its session's memory. -/
def Fresh (s : State) (session request : Nat) : Prop :=
  s.serving = true ∧ s.sessionOpen session = true ∧
    (∀ x ∈ s.stillRemembered, ¬ (x.session = session ∧ x.request = request)) ∧
    (s.stillRemembered.filter fun x => decide (x.session = session)).length < 1024

/-- R128, R546, R551: a request to write an object is taken: it is new in its session, its object accepts the
value, and the staging buffer has room. -/
def TakesWrite (s : State) (session request idx sub : Nat) (b : List Byte) : Prop :=
  Fresh s session request ∧ s.writeStatus session idx sub b = stOK ∧ (s.die s.stageDie).staged.length < 16384

/-- R128, R546: from `s` to `t` the write of an object joins the staging buffer with its session and request
identifier, to be applied at the boundary, and its answer is in progress; no register, object value or endpoint
changes before. -/
def WriteStaged (session request idx sub : Nat) (b : List Byte) (s t : State) : Prop :=
  t.stageDie = s.stageDie ∧
  (∃ ptr, (t.die t.stageDie).staged = (s.die s.stageDie).staged ++
    [{ target := 1, code := idx, sub := sub, ptr := ptr, value := b, who := some (session, request, 0) }]) ∧
  t.progress = s.progress ++
    [{ session := session, request := request, type := 2, items := [(leBytes 2 idx ++ leBytes 1 sub, none)] }] ∧
  t.regs = s.regs ∧ t.objs = s.objs ∧ t.octs = s.octs ∧ t.out = s.out ∧
  (t.die s.stageDie).hot = (s.die s.stageDie).hot ∧ (t.die s.stageDie).cues = (s.die s.stageDie).cues

/-- R287, R303, R305, R307, R313: radio `r`, in service, receives a frame of type `kind` in form, with header `h`,
that opens as `body` under a key of its sender, which is joined and uses no counter again. -/
def HearsFrame (s : State) (r : Fin 4) (kind : Nat) (f : RxFrame) (h : RxHead) (body : List Byte) : Prop :=
  s.get (RAD_CTRL.enable r) = 1 ∧ s.radioHeadOf r f = some h ∧ h.toModule = true ∧ h.kind = kind ∧ h.key ≠ 2 ∧
  (s.node h.src).joined = true ∧
  (s.node h.src).counterOk (s.counterOf h.key h.src h.counter h.auth h.sealed_) h.counter = true ∧
  s.openFrame h.key h.src (s.node h.src).eui h.counter h.auth h.sealed_ = some body

/-- The same on powerline port `p`, whose nodes use the node key alone (R348, R352). -/
def HearsOnLine (s : State) (p : Fin 2) (kind : Nat) (f : RxFrame) (h : RxHead) (body : List Byte) : Prop :=
  s.get (PLC_CTRL.enable p) = 1 ∧ s.plcHeadOf p f = some h ∧ h.toModule = true ∧ h.kind = kind ∧ h.key = 0 ∧
  (s.node h.src).joined = true ∧ (s.node h.src).counterOk 0 h.counter = true ∧
  s.openFrame 0 h.src (s.node h.src).eui h.counter h.auth h.sealed_ = some body

/-- R301, R302, R347: in `t` node `n` belongs to a transport and holds at most 8 grants of a version there, in form,
each one that the scheduler chose or an up grant that it added; and the grant frame waits for the node. -/
def Granted (t : State) (n transport version : Nat) (gs : List NodeGrant) : Prop :=
  (t.node n).transport = transport ∧ (t.node n).version = version ∧ (t.node n).grants.length ≤ 8 ∧
  (∀ g ∈ (t.node n).grants, grantOk g = true ∧ (g ∈ gs ∨ g.use_ = 0)) ∧
  (∃ x ∈ t.txQueue transport, x.kind = 6 ∧ x.dest = some n)

/-- R319, R358: in `t` the node with an EUI-64 has joined a transport under an address, toward a parent: its key is
in the link table, and its join response waits. -/
def Joined (s t : State) (a eui transport parent : Nat) : Prop :=
  (t.node a).joined = true ∧ (t.node a).eui = eui ∧ (t.node a).parent = parent ∧
  (t.node a).transport = transport ∧ Tbl.get [] t.link.nodes a = s.nodeKey eui a ∧
  (∃ x ∈ t.txQueue transport, x.kind = 9 ∧ x.tag = a)

/-- R449, R456: from `s` to `t` die `d` has taken the packet at the head of the journal, the only one on its way: it
joins the cycle's count, and no register, no other die and no endpoint record changes. -/
def TakesPacket (s t : State) (d : DieId) (p : Packet) : Prop :=
  t.journal.link = [] ∧ (t.side d).expect = p.seq + 1 ∧ (t.side d).packets = (s.side d).packets + 1 ∧
  t.regs = s.regs ∧ t.die d.other = s.die d.other ∧ (t.die d).hot = (s.die d).hot

/-- R47, R470: from `s` to `t` the stage holder `d` has released the stage with an unplanned cause: no die holds it,
journaling stops, nothing held back is handed off, the cause is shown on both dies, the die goes into full self-test,
and an understudy runs provisionally. -/
def StageLost (s t : State) (d : DieId) (cause : Nat) : Prop :=
  t.holder = none ∧ t.journal.stopped = true ∧ t.twin.held = [] ∧
  t.twin.release = some (d, cause) ∧ t.get (TWN_HO_CAUSE.cause .a) = cause ∧
  t.get (TWN_HO_CAUSE.cause .b) = cause ∧ t.roleOf d = roTEST ∧ t.get (TWN_STATUS.fit d) = 0 ∧
  t.get (TWN_INT_STATUS.gave_stage d) = 1 ∧ t.posts.length = s.posts.length + 1 ∧
  (s.roleOf d.other = roUNDERSTUDY → t.get (TWN_STATUS.provisional d.other) = 1 ∧
    t.roleOf d.other = roUNDERSTUDY)

/-- R485: from `s` to `t` the Falsia link has gone down: the loss is counted, signalled and posted on both dies, the
mirror writes on it are lost, and the understudy enters RESYNC. -/
def LinkLost (s t : State) : Prop :=
  t.twin.resends = 0 ∧ t.twin.downAt = s.clk.cycle ∧ t.mirrors = [] ∧
  t.holder = s.holder ∧ ∀ d : DieId, t.get (TWN_STATUS.link_up d) = 0 ∧ t.get (TWN_STATUS.lanes d) = 0 ∧
    t.get (TWN_LINK_DOWNS.count d) = min (s.get (TWN_LINK_DOWNS.count d) + 1) (2 ^ 32 - 1) ∧
    t.get (TWN_INT_STATUS.link_down d) = 1 ∧ s.posts.length + 2 ≤ t.posts.length ∧
    (s.roleOf d = roUNDERSTUDY → t.roleOf d = roRESYNC)

/-- R500, R501, R515: from `s` to `t` transmit has moved from backbone port `e` to port `o`: what waited goes there in
its order, with the module's adverts `l` behind it, the failover is counted and signalled, a force is done with, and
an enabled PTP engine restarts there in holdover. -/
def FailedOver (s t : State) (e o : Fin 2) (l : List EthFrame) : Prop :=
  t.activePort = some o.val ∧
  t.get (ETH_STATUS.active o) = 1 ∧ t.get (ETH_STATUS.active e) = 0 ∧ t.get (ETH_BKP.active_port 0) = o.val ∧
  (t.eth o).queue = (s.eth o).queue ++ (s.eth e).queue ++ l ∧ (t.eth e).queue = [] ∧
  (s.holder = none → l = []) ∧
  t.get (ETH_FAILOVERS.count 0) = min (s.get (ETH_FAILOVERS.count 0) + 1) (2 ^ 32 - 1) ∧
  t.get (ETH_INT_STATUS.failover o) = 1 ∧ t.get (ETH_BKP.force 0) = 0 ∧
  (s.get PTP_CTRL.enable = 1 → t.get PTP_STATUS.port_state = 1 ∧ t.get PTP_STATUS.holdover = 1)

/-- R458, R552: nothing holds an answer back: no understudy is fit, and no answer or hand-off waits. -/
def Unheld (s : State) : Prop :=
  s.replies = [] ∧ s.twin.held = [] ∧ ∀ d, s.holder = some d → s.get (TWN_STATUS.fit d.other) = 0

/-- R19: what a field with an access code holds after a write of `new`, where it held `old`. -/
def storedField (c : Acc) (old new size : Nat) : Nat :=
  match c with
  | .rw | .wo1 | .rwl => new
  | .w1c => (old - (old &&& new)) % size
  | .w1s => (old ||| new) % size
  | .ro | .wo | .rc => old

/-- R21, R591: the word that a write at alias offset `k` of a register stores: the written one at its base, and
at the others the old RW bits OR, AND-NOT or XOR it. -/
def aliasValue (s : State) (b : Block) (r : RegDesc) (off k v : Nat) : Nat :=
  if k = 0 then v else aliasWord k (s.wordAt b off &&& r.rwMask) v &&& r.rwMask

end Sys2Proof.Machine
end

