-- ==== Sys2Proof/Certificates/Slice0/Obligations.lean ====
section
/-! DEFINITION. The statements for the provers. -/

open Sys2Proof Sys2Proof.Machine

/-- STEP: a step with command c in front of the queue is exec of c with the queue's rest. -/
def Obligations.StepRunsFrontCommand : Prop :=
  ∀ (c : Instr) (s : State), step { s with pending := c :: s.pending } = exec c s

/-- With an empty queue a tick passes: the time and the PTP clock advance, and where no timeout expires at this clock
edge nothing else changes (the model's choice, log entry 1; R516 for the advance of the PTP clock). Of two
timeouts of one die that expire at one edge the inner level's is handled first (R45). -/
def Obligations.EmptyQueueStepIsATick : Prop :=
  ∀ s : State, s.pending = [] →
    (s.expiring = [] →
      ∃ t, step s = .next t ∧ t.now = s.now + 1 ∧ { t with now := s.now, ptp := s.ptp } = s ∧
        t.ptp.integral = s.ptp.integral) ∧
    (∃ t, step s = .next t ∧ t.now = s.now + 1) ∧
    (∀ (d : DieId) (l m i j : Nat), l < m → m < 6 → s.expiring = [(d, m, j), (d, l, i)] →
      ∃ t, step s = .next t ∧
        { t with ptp := s.ptp } =
          { (({ s with expiring := [] }.expire d l i).expire d m j) with now := s.now + 1, ptp := s.ptp })

/-- Every command answers a next state on every operand and in every state. -/
def Obligations.NoCommandStops : Prop := ∀ (c : Instr) (s : State), ∃ t, exec c s = .next t

/-- The state after reset meets the invariant. -/
def Obligations.ResetStateIsSound : Prop := Inv State.reset

/-- Every step from a state that meets the invariant gives a state that meets it (R307 for the frame counter). -/
def Obligations.EveryStepKeepsInvariant : Prop :=
  ∀ s t : State, Inv s → step s = .next t → Inv t

/-- R307, R704: over any number of steps, resets of the module among them, the frame counter of the module never goes
back. -/
def Obligations.FrameCounterNeverGoesBack : Prop :=
  ∀ (n : Nat) (s t : State), Inv s → Host.Core.run Sys2Proof.core n s = .next t → s.frameCounter ≤ t.frameCounter

/-- No command touches the queue, the time or the part (R2), and none takes back what was sent outward. Readings and
choices of the model: log entry 4. -/
def Obligations.CommandsKeepQueueTimeAndPart : Prop :=
  ∀ (c : Instr) (s t : State), exec c s = .next t →
    t.pending = s.pending ∧ t.now = s.now ∧ t.part = s.part ∧ ∃ l, t.out = s.out ++ l

/-- R65, R85, R86, R704: only a boundary, a crossing, the load of the counters and a reset of the module touch the
cycle counter; a crossing moves it by at most one. R65: at a phase-0 boundary of a module that has loaded its
counters the cycle counter increments by one; a module that is held in reset does nothing at it, and before the
running cycle has had its length there is none (R66, R74); a restart that was asked for begins there (R713), and
leaves the counter. -/
def Obligations.CycleCounterTurnsAtBoundaries : Prop :=
  ((∀ (c : Instr) (s t : State), turnsCycle c = false → exec c s = .next t → t.clk.cycle = s.clk.cycle) ∧
     (∀ (k : Nat) (x y low : Int) (p : Nat) (s t : State), exec (.crossingDetected k x y low p) s = .next t →
       t.clk.cycle = s.clk.cycle ∨ t.clk.cycle = s.clk.cycle + 1)) ∧
  (∀ (b : BoundaryIn) (s : State),
       (s.power.on = false ∨ s.now * 256 < s.endAt → exec (.cycleBoundary b) s = .next s) ∧
       (s.power.on = true → s.endAt ≤ s.now * 256 → s.power.loaded = true → s.power.restartAsked = false →
         ∃ t, exec (.cycleBoundary b) s = .next t ∧ t.clk.cycle = s.clk.cycle + 1) ∧
       (s.power.on = true → s.endAt ≤ s.now * 256 → s.power.restartAsked = true → s.power.failedAt = none →
         ∃ t, exec (.cycleBoundary b) s = .next t ∧ t.clk.cycle = s.clk.cycle))

/-- R64: a detected crossing that follows the previous detected one by less than half the measured period (which
CYC_PERIOD counts in 1/256 tick) is a glitch: it is discarded, counted in CYC_GLITCHES, which saturates, and
changes nothing else, so that it is no detected crossing for any other rule. Samples that make no crossing change
nothing. Log entry 6 of the model concerns it. -/
def Obligations.GlitchCrossingIsOnlyCounted : Prop :=
  ∀ (k : Nat) (x y low : Int) (p : Nat) (s : State),
    (∀ (u : Nat) (earlier : List Nat), s.power.on = true → s.detectorOn = true → s.isCrossing x y low p = true →
      s.clk.detected = u :: earlier →
      2 * 256 * (s.crossingTime k x y - (u : Int)) < (s.get CYC_PERIOD.period : Int) →
      ∃ t, exec (.crossingDetected k x y low p) s = .next t ∧
        t.get CYC_GLITCHES.count = min (s.get CYC_GLITCHES.count + 1) (2 ^ 32 - 1) ∧
        OnlyRegs [CYC_GLITCHES.count] s t) ∧
    (s.isCrossing x y low p = false → exec (.crossingDetected k x y low p) s = .next s)

/-- R73: in LOCKED a detected crossing is accepted when its interval from the previous accepted crossing lies between
378,788 and 555,556 ticks and it falls within 64 phase steps of phase 0 (1,024 sixteenths); any other is not
accepted, and the clock keeps its accepted crossing, its period and its phase error. R75, R71, R69: when no
crossing has been accepted for zc_timeout/16 measured periods, the clock enters GHOST from LOCKED and from
RELOCK: the state and the ghost flag are set, the event is counted and signalled and a record is posted; before
the timeout, and in another state, nothing changes. R95, R63: CYC_OPTIME counts while the Apron runs, and
saturates; an input whose running peak lies below 1/8 of full scale shows as absent, and the other inputs' bits
stay. Readings and choices of the model: log entry 6. -/
def Obligations.CrossingsAreAcceptedOrTimeOut : Prop :=
  (∀ (k : Nat) (x y low : Int) (p u : Nat) (s : State),
       s.power.on = true → s.detectorOn = true → s.isCrossing x y low p = true →
       s.isGlitch (s.crossingTime k x y) = false → s.get CYC_STATUS.state = stLOCKED →
       s.clk.accepted = some u →
       ((378788 ≤ ((s.crossingTime k x y).toNat : Int) - u ∧ ((s.crossingTime k x y).toNat : Int) - u ≤ 555556 ∧
           (s.phaseErr (s.crossingTime k x y).toNat).natAbs ≤ 1024) →
         ∃ t, exec (.crossingDetected k x y low p) s = .next t ∧
           t.clk.accepted = some (s.crossingTime k x y).toNat ∧
           t.getS CYC_PHASE_ERR.error = s.phaseErr (s.crossingTime k x y).toNat ∧
           t.get CYC_STATUS.state = stLOCKED ∧
           RegsBut [CYC_PERIOD.period, CYC_PHASE_ERR.error, CYC_PHASE_ERR.slew_left] s t) ∧
       (¬ (378788 ≤ ((s.crossingTime k x y).toNat : Int) - u ∧ ((s.crossingTime k x y).toNat : Int) - u ≤ 555556 ∧
           (s.phaseErr (s.crossingTime k x y).toNat).natAbs ≤ 1024) →
         ∃ t, exec (.crossingDetected k x y low p) s = .next t ∧ t.regs = s.regs ∧
           t.clk.accepted = some u ∧ t.clk.history = s.clk.history)) ∧
  (∀ (s : State) (u : Nat), s.clk.accepted = some u → s.power.on = true →
       (s.get CYC_STATUS.state ≠ stLOCKED → s.get CYC_STATUS.state ≠ stRELOCK →
         exec .crossingTimeout s = .next s) ∧
       (s.get CYC_STATUS.state = stLOCKED ∨ s.get CYC_STATUS.state = stRELOCK →
       (s.get CYC_CTRL.zc_timeout * s.get CYC_PERIOD.period ≤ 4096 * (s.now - u) →
         ∃ t, exec .crossingTimeout s = .next t ∧ t.get CYC_STATUS.state = stGHOST ∧ t.get CYC_STATUS.ghost = 1 ∧
           t.get CYC_GHOST_EVENTS.count = min (s.get CYC_GHOST_EVENTS.count + 1) (2 ^ 32 - 1) ∧
           t.get CYC_INT_STATUS.ghost_enter = 1 ∧ t.get CYC_PERIOD.period = s.get CYC_PERIOD.period ∧
           t.clk.cycle = s.clk.cycle ∧ t.posts.length = s.posts.length + 1) ∧
       (4096 * (s.now - u) < s.get CYC_CTRL.zc_timeout * s.get CYC_PERIOD.period →
         exec .crossingTimeout s = .next s))) ∧
  ((∀ s : State, s.power.on = true →
       ∃ t, exec .optimeTick s = .next t ∧
         t.get CYC_OPTIME.optime = min (s.get CYC_OPTIME.optime + 1) (2 ^ 32 - 1) ∧
         OnlyRegs [CYC_OPTIME.optime] s t) ∧
     (∀ (s : State) (i : Fin 3) (peak : Nat), s.power.on = true →
       ∃ t, exec (.voltageInputPresence i peak) s = .next t ∧
         bitOf (t.get CYC_STATUS.v_present) i = (if 8 * peak < 500000 then 0 else 1) ∧
         (∀ j : Fin 3, j ≠ i → bitOf (t.get CYC_STATUS.v_present) j = bitOf (s.get CYC_STATUS.v_present) j) ∧
         OnlyRegs [CYC_STATUS.v_present] s t))

/-- R99: a read of GHL_RTC_LO freezes the two words of the time and the status for its port alone, whatever that port
held; a read of GHL_RTC_STATUS then returns the frozen status, and a read of GHL_RTC_HI the frozen word, which
releases the freeze; without a freeze GHL_RTC_HI returns the live value. -/
def Obligations.RtcReadsAreCoherent : Prop :=
  (∀ (p : Port) (s : State), s.power.on = true →
    ∃ t, exec (.rtcLoRead p) s = .next t ∧
      t.rtc.shadow p = some ⟨s.rtc.mirror, s.rtcStatus⟩ ∧
      (∀ q, q ≠ p → t.rtc.shadow q = s.rtc.shadow q) ∧
      t.out = s.out ++ [.regRead p 0xC0030000 (BitVec.ofNat 32 s.rtc.mirror)] ∧ t.regs = s.regs ∧
      { t with rtc := s.rtc, out := s.out } = s) ∧
  (∀ (p : Port) (f : RtcShadow) (s : State), s.power.on = true → s.rtc.shadow p = some f →
    ∃ t, exec (.rtcHiRead p) s = .next t ∧ t.rtc.shadow p = none ∧
      (∀ q, q ≠ p → t.rtc.shadow q = s.rtc.shadow q) ∧
      t.out = s.out ++ [.regRead p 0xC0030004 (BitVec.ofNat 32 (f.count / 2 ^ 32))] ∧
      { t with rtc := s.rtc, out := s.out } = s) ∧
  (∀ (p : Port) (s : State), s.power.on = true → s.rtc.shadow p = none →
    ∃ t, exec (.rtcHiRead p) s = .next t ∧
      t.out = s.out ++ [.regRead p 0xC0030004 (BitVec.ofNat 32 (s.rtc.mirror / 2 ^ 32))] ∧
      { t with rtc := s.rtc, out := s.out } = s) ∧
  (∀ (f : RtcShadow) (s : State), s.power.on = true → s.rtc.shadowHost = some f →
    ∃ t, exec (.hostRead true 0xC0030008 0 0 []) s = .next t ∧ t.rtc = s.rtc ∧
      t.out = s.out ++ [.host [BitVec.ofNat 32 f.status] 0 0 none])

/-- R104: when the object says that the RTC follows TAI, the mapping is valid, and the time is lost or its seconds
differ from the TAI seconds by more than the threshold, the RTC takes the TAI seconds at the TAI second boundary
(in the tick of 40 ns in which it falls), with the sub-second field at 0; in any other case, and at any other
moment, nothing happens. Log entry 13 of the model concerns it. -/
def Obligations.RtcFollowsTai : Prop :=
  ∀ s : State,
    (s.obj 0x2045 0 = 1 → s.mapValid = true →
      (s.get GHL_RTC_STATUS.time_lost = 1 ∨
        s.obj 0x2046 0 < 1000 * (((s.tai / 1000000000 : Nat) : Int) - ((s.rtc.count / 2 ^ 15 : Nat) : Int)).natAbs) →
      s.tai % 1000000000 ≤ 40 →
      ∃ t, exec .rtcSetFromTai s = .next t ∧ t.rtc.count = s.tai / 1000000000 * 2 ^ 15 % 2 ^ 48 ∧
        t.rtc.mirror = t.rtc.count ∧ t.get GHL_RTC_STATUS.time_lost = 0 ∧
        t.get GHL_RTC_INT_STATUS.tai_set = 1 ∧ t.posts.length = s.posts.length + 1) ∧
    (s.obj 0x2045 0 ≠ 1 ∨ s.mapValid = false ∨ 40 < s.tai % 1000000000 ∨
      (s.get GHL_RTC_STATUS.time_lost = 0 ∧
        1000 * (((s.tai / 1000000000 : Nat) : Int) - ((s.rtc.count / 2 ^ 15 : Nat) : Int)).natAbs ≤ s.obj 0x2046 0) →
      exec .rtcSetFromTai s = .next s)

/-- R97, R98, R106: a tick advances the 48-bit count by one, by two where the compensation adds a tick and not at all
where it suppresses one; the mirror follows. R101, R102, R594: the high word goes to the port's holding register;
the low word commits the seconds, sets set_busy and clears the holding register; a later commit replaces the set;
at the edge the count becomes the seconds with the prescaler at 0, set_busy and time_lost clear, the interrupt is
raised and a record with the old and new seconds is posted (the record's layout is log entry 11's). R105, R106:
at a compensation the whole ticks of the accumulator, at most 127 either way, wait to be applied and the
accumulator keeps the rest (the rounding of the correction is the model's choice, see the assumption log). Log
entries 3, 12 of the model concern it. -/
def Obligations.RtcCountsIsSetAndCompensated : Prop :=
  (∀ s : State, s.power.ghost = true →
       ∃ t, exec .rtcTick s = .next t ∧ t.rtc.mirror = t.rtc.count ∧
         (s.rtc.compLeft = 0 → t.rtc.count = (s.rtc.count + 1) % 2 ^ 48 ∧ t.rtc.compLeft = 0) ∧
         (0 < s.rtc.compLeft → t.rtc.count = (s.rtc.count + 2) % 2 ^ 48 ∧ t.rtc.compLeft = s.rtc.compLeft - 1) ∧
         (s.rtc.compLeft < 0 → t.rtc.count = s.rtc.count % 2 ^ 48 ∧ t.rtc.compLeft = s.rtc.compLeft + 1) ∧
         RegsBut [GHL_BACKUP_SECONDS.seconds] s t ∧
         { t with regs := s.regs, rtc := s.rtc, power := s.power } = s) ∧
  ((∀ (p : Port) (v : Word) (s : State), s.power.on = true → p ≠ .host →
       ∃ t, exec (.rtcSetHiWrite p v) s = .next t ∧ t.held p 0xC0030010 = v.toNat % 2 ∧
         { t with holds := s.holds } = s) ∧
     (∀ (p : Port) (v : Word) (s : State), s.power.on = true → p ≠ .host →
       ∃ t, exec (.rtcSetCommit p v) s = .next t ∧
         t.rtc.setPending = some (s.held p 0xC0030010 * 2 ^ 32 + v.toNat) ∧
         t.get GHL_RTC_STATUS.set_busy = 1 ∧ t.held p 0xC0030010 = 0 ∧ t.rtc.count = s.rtc.count ∧
         RegsBut [GHL_RTC_STATUS.set_busy] s t ∧
         { t with regs := s.regs, rtc := s.rtc, holds := s.holds } = s) ∧
     (∀ (n : Nat) (s : State), s.rtc.setPending = some n →
       ∃ t, exec .rtcSetApply s = .next t ∧ t.rtc.count = n * 2 ^ 15 % 2 ^ 48 ∧ t.rtc.mirror = t.rtc.count ∧
         t.rtc.setPending = none ∧ t.get GHL_RTC_STATUS.set_busy = 0 ∧ t.get GHL_RTC_STATUS.time_lost = 0 ∧
         t.get GHL_RTC_INT_STATUS.set_applied = 1 ∧ t.posts.length = s.posts.length + 1 ∧
         RegsBut [GHL_RTC_STATUS.set_busy, GHL_RTC_STATUS.time_lost, GHL_RTC_INT_STATUS.set_applied] s t) ∧
     (∀ s : State, s.rtc.setPending = none → exec .rtcSetApply s = .next s)) ∧
  (∀ (c : Int) (s : State), s.power.ghost = true → s.get GHL_RTC_COMP.enable = 1 →
       ∃ t, exec (.rtcCompensation c) s = .next t ∧ t.rtc.compLeft.natAbs ≤ 127 ∧
         t.rtc.compAcc + 256 * t.rtc.compLeft =
           s.rtc.compAcc + openQuot 106 (-(s.curve4 c + 4 * s.getS GHL_RTC_TRIM.trim) * (262144 * 256)) (4 * 100000000) ∧
         t.rtc.count = s.rtc.count ∧ RegsBut [GHL_RTC_STATUS.temp, GHL_RTC_STATUS.comp_ppm] s t)

/-- R120: an expiry of a supervised endpoint sets no_report, increments missed and starts a new period, on each die
whose store has it due; before the period has passed nothing changes there, and no other endpoint's fault flags
change. R451, R53: the oldest input that the Apron holds goes to the stage holder: it takes the next input
sequence, is kept for a replay as the newest entry, and its writes wait at the die for the epoch mark; without an
input or without a stage holder nothing happens. Readings and choices of the model: log entry 47. -/
def Obligations.EndpointsAreSupervisedAndFed : Prop :=
  (∀ (e : Endpoint) (s : State), ∃ t, exec (.reportPeriodExpiry e) s = .next t ∧
       { t with dieA := s.dieA, dieB := s.dieB } = s ∧
       ∀ d : DieId,
         ((s.die d).supervised e.toNat = true →
           ((s.die d).coldOf e.toNat).reportPeriod ≤ s.clk.cycle - Tbl.get 0 (s.die d).period e.toNat →
           bitOf ((t.die d).hotOf e.toNat).fault faultNoReport = 1 ∧
           ((t.die d).countsOf e.toNat).missed = min (((s.die d).countsOf e.toNat).missed + 1) 0xFFFF ∧
           Tbl.get 0 (t.die d).period e.toNat = s.clk.cycle ∧
           (∀ f, f ≠ e.toNat → (t.die d).hotOf f = (s.die d).hotOf f ∧ (t.die d).countsOf f = (s.die d).countsOf f)) ∧
         (((s.die d).supervised e.toNat = false ∨
           s.clk.cycle - Tbl.get 0 (s.die d).period e.toNat < ((s.die d).coldOf e.toNat).reportPeriod) →
           t.die d = s.die d)) ∧
  ((∀ (d : DieId) (i : List DataIn) (rest : List (List DataIn)) (s : State), s.holder = some d →
       s.inputs = i :: rest → (s.side d).waiting = false →
       ∃ t, exec .dataPlaneInput s = .next t ∧ t.inputs = rest ∧ t.twin.input = s.twin.input + 1 ∧
         t.twin.replay.getLast? = some (s.clk.cycle, s.twin.input + 1, i) ∧
         (t.die d).placed = (s.die d).placed ++ (s.die d).resolveIn i ∧
         t.die d.other = s.die d.other ∧ t.regs = s.regs ∧ t.objs = s.objs) ∧
     (∀ s : State, s.inputs = [] ∨ s.holder = none → exec .dataPlaneInput s = .next s))

/-- R140, R126: a dirty record goes to its hot image and is dirty no more, its statistics are visited, and the oldest
age seen is kept; an age above wb_max_age is signalled. A visit of the background pass touches the statistics of
the active endpoints alone, and puts the running cycle into each. R136: a code word without a wrong bit changes
no count; a corrected word is counted, and a 2-bit correction retires its row to a spare row, which is one spare
row less and is signalled. -/
def Obligations.StoreIsWrittenBehindAndScrubbed : Prop :=
  ((∀ (d : DieId) (e : Endpoint) (s : State), s.get (EPS_CTRL.wb_enable d) = 1 →
       Tbl.get 0 (s.die d).dirty e.toNat ≠ 0 →
       ∃ t, exec (.writeBehind d e) s = .next t ∧
         (t.die d).imageOf e.toNat = (s.die d).hotOf e.toNat ∧ Tbl.get 0 (t.die d).dirty e.toNat = 0 ∧
         (t.die d).statsOf e.toNat = visitStats ((s.die d).statsOf e.toNat) ((s.die d).hotOf e.toNat)
           ((s.die d).countsOf e.toNat) ((s.die d).coldOf e.toNat).nominal s.period s.clk.cycle ∧
         (t.die d).hot = (s.die d).hot ∧ (t.die d).cold = (s.die d).cold ∧ t.die d.other = s.die d.other ∧
         t.get (EPS_WB_AGE_MAX.age d) =
           max (s.get (EPS_WB_AGE_MAX.age d)) ((s.die d).dirtyAge s.clk.cycle) % 2 ^ 32 ∧
         (s.get (EPS_CTRL.wb_max_age d) < (s.die d).dirtyAge s.clk.cycle →
           t.get (EPS_INT_STATUS.wb_overdue d) = 1) ∧
         RegsBut [EPS_WB_AGE_MAX.age d, EPS_INT_STATUS.wb_overdue d, EPS_STATUS.wb_overdue d] s t) ∧
     (∀ (d : DieId) (s : State), ∃ t, exec (.backgroundStatisticsPass d) s = .next t ∧
       (∀ e, (s.die d).active e = true → ((t.die d).statsOf e).cycle = s.clk.cycle % 2 ^ 32) ∧
       (∀ e, (s.die d).active e = false → (t.die d).statsOf e = (s.die d).statsOf e) ∧
       (t.setDie d { t.die d with stats := (s.die d).stats }) = s)) ∧
  (∀ (d : DieId) (bank : Fin 4) (row : Fin 65536) (word : Fin 32) (s : State),
       (∃ t, exec (.scrubPass d bank row word 0) s = .next t ∧
         t.get (EPS_SCRUB_POS.bank d) = bank.val ∧ t.get (EPS_SCRUB_POS.row d) = row.val ∧
         RegsBut [EPS_SCRUB_POS.bank d, EPS_SCRUB_POS.row d] s t ∧
         (t.die d).retired = (s.die d).retired ∧ t.die d.other = s.die d.other) ∧
       (0 < s.get (EPS_SPARE_B.free d bank) →
         ∃ t, exec (.scrubPass d bank row word 2) s = .next t ∧
           t.get (EPS_ECC_CORR.count d) = min (s.get (EPS_ECC_CORR.count d) + 1) (2 ^ 32 - 1) ∧
           t.get (EPS_SPARE_B.free d bank) = (s.get (EPS_SPARE_B.free d bank) - 1) % 1024 ∧
           t.get (EPS_INT_STATUS.row_retired d) = 1 ∧
           Tbl.get 0 (t.die d).retired (bank.val * 65536 + row.val) = 512 - s.get (EPS_SPARE_B.free d bank) + 1 ∧
           t.die d.other = s.die d.other ∧ t.holder = s.holder))

/-- R137, R138: an uncorrectable word is counted, signalled and its address kept; with a fit other die, the Falsia
link up and a good copy there it goes to a spare row and the repair is counted; otherwise the record that holds
it is damaged and its hot image is written again from the unit (here on a die without a role, which keeps it).
R143, R151: a unit that fails is marked; with auto_remap clear nothing more happens; on a die out of both roles
it goes at once to its own cluster's spare, when that is free, the move is reported, and the other die learns the
unit's place over the Falsia link (R174). A write of EPS_REMAP_CMD without go does nothing, and one with go moves
the unit in the same way. R144, R174: on a die that is not the stage holder and not waiting for the journal, a
move whose snapshot has come lands: the move is over, remap_busy clears, the end is signalled, and the other die
learns the unit's place while the Falsia link is up (here for the only move of a die with no unit waiting).
Without a move ready nothing happens. Readings and choices of the model: log entry 53. -/
def Obligations.FaultyWordsAndUnitsAreReplaced : Prop :=
  (∀ (d : DieId) (bank : Fin 4) (row : Fin 65536) (word : Fin 32) (s : State),
       (s.holder = some d.other → s.get (TWN_STATUS.link_up d) = 1 → 0 < s.get (EPS_SPARE_B.free d bank) →
         ∃ t, exec (.mramUncorrectable d bank row word true) s = .next t ∧
           t.get (EPS_ECC_UNCORR.count d) = min (s.get (EPS_ECC_UNCORR.count d) + 1) (2 ^ 32 - 1) ∧
           t.get (EPS_ECC_REPAIRED.count d) = (s.get (EPS_ECC_REPAIRED.count d) + 1) % 2 ^ 32 ∧
           t.get (EPS_INT_STATUS.ecc_uncorr d) = 1 ∧
           t.get (EPS_ECC_LAST_ADDR.addr d) = 0x10000000 + bank * 0x04000000 + row * 1024 + word * 32 ∧
           (t.die d).damaged = (s.die d).damaged ∧ t.holder = s.holder) ∧
       (∀ e, recordAt bank row word = some e → s.holder ≠ some d →
         s.roleOf d ≠ roUNDERSTUDY → s.roleOf d ≠ roRESYNC →
         ∃ t, exec (.mramUncorrectable d bank row word false) s = .next t ∧
           t.get (EPS_ECC_UNCORR.count d) = min (s.get (EPS_ECC_UNCORR.count d) + 1) (2 ^ 32 - 1) ∧
           Tbl.get false (t.die d).damaged e = true ∧ (t.die d).imageOf e = (s.die d).hotOf e ∧
           (t.die d).hot = (s.die d).hot ∧ t.posts.length = s.posts.length + 1 ∧
           RegsBut [EPS_ECC_UNCORR.count d, EPS_INT_STATUS.ecc_uncorr d, EPS_ECC_LAST_ADDR.addr d] s t)) ∧
  ((∀ (d : DieId) (u : Fin 256) (loss : UnitLoss) (s : State), s.get (EPS_CTRL.auto_remap d) = 0 →
       ∃ t, exec (.unitFailure d u loss) s = .next t ∧ Tbl.get false (t.die d).failed ((s.die d).phys u) = true ∧
         t.setDie d { t.die d with failed := (s.die d).failed } = s) ∧
     (∀ (d : DieId) (u : Fin 256) (loss : UnitLoss) (w : Word) (s : State), s.get (EPS_CTRL.auto_remap d) = 1 →
       s.holder ≠ some d → s.roleOf d ≠ roUNDERSTUDY →
       s.spareTaken d (9 * (u.val / 8) + 8) = false → (s.die d).phys u ≠ 9 * (u.val / 8) + 8 →
       ∀ c : Bool, (c = true → w.toNat / 2 ^ 31 % 2 = 1 ∧ w.toNat % 256 = u.val) →
       ∃ t, exec (if c = true then .remapCommand d w else .unitFailure d u loss) s = .next t ∧
         (t.die d).phys u = 9 * (u.val / 8) + 8 ∧ (∀ v, v ≠ u.val → (t.die d).phys v = (s.die d).phys v) ∧
         Tbl.get false (t.die d).failed ((s.die d).phys u) = true ∧
         t.get (EPS_REMAP_STATUS.unit d) = u.val ∧ t.get (EPS_REMAP_STATUS.phys d) = 9 * (u.val / 8) + 8 ∧
         t.get (EPS_REMAP_STATUS.result d) = 1 ∧ t.get (EPS_INT_STATUS.remap_done d) = 1 ∧
         RegsBut [EPS_REMAP_STATUS.unit d, EPS_REMAP_STATUS.phys d, EPS_REMAP_STATUS.result d,
           EPS_INT_STATUS.remap_done d] s t ∧
         { t.die d.other with otherMoved := (s.die d.other).otherMoved } = s.die d.other ∧
         (s.get (TWN_STATUS.link_up d) = 1 →
           physIn (t.die d.other).otherMoved u.val = 9 * (u.val / 8) + 8) ∧
         (s.get (TWN_STATUS.link_up d) ≠ 1 → t.die d.other = s.die d.other)) ∧
     (∀ (d : DieId) (w : Word) (s : State), w.toNat / 2 ^ 31 % 2 = 0 → exec (.remapCommand d w) s = .next s) ∧
     (∀ (d : DieId) (w : Word) (s : State), w.toNat / 2 ^ 31 % 2 = 1 → s.get (EPS_CTRL.auto_remap d) = 0 →
       ∃ t, exec (.remapCommand d w) s = .next t ∧
         Tbl.get false (t.die d).failed ((s.die d).phys (w.toNat % 256)) = true ∧
         t.setDie d { t.die d with failed := (s.die d).failed } = s)) ∧
  ((∀ (d : DieId) (m : Moving) (s : State), (s.die d).moves = [m] → m.remap = true → m.wait = 0 → m.unit < 256 →
       (s.die d).waiting = [] → s.holder ≠ some d → (s.side d).waiting = false →
       ∃ t, exec (.remapSnapshotInstall d) s = .next t ∧ (t.die d).moves = [] ∧
         physIn (t.die d).moved m.unit = m.phys ∧
         (s.get (TWN_STATUS.link_up d) = 1 → physIn (t.die d.other).otherMoved m.unit = m.phys) ∧
         (s.get (TWN_STATUS.link_up d) ≠ 1 → (t.die d.other).otherMoved = (s.die d.other).otherMoved) ∧
         t.get (EPS_STATUS.remap_busy d) = 0 ∧ t.get (EPS_INT_STATUS.remap_done d) = 1 ∧ t.objs = s.objs) ∧
     (∀ (d : DieId) (s : State), (s.die d).moves = [] → exec (.remapSnapshotInstall d) s = .next s))

/-- R175, R176: the oldest message in flight leaves for its unit: it raises an entry of the same endpoint and cycle
to the larger level; it joins a store that has room; it is dropped and counted where the store is full; and it is
held for a unit that is moving. R182, R184, R454: between the epoch mark and the cut-off the stage holder, or a
die that runs provisionally, takes a unit's oldest event off the queue and counts the evaluation; only what an
evaluation writes changes on the die. After the cut-off, and on any other die, none starts. Readings and choices
of the model: log entries 17, 20. -/
def Obligations.SweepMessagesAndEventsRun : Prop :=
  (∀ (d : DieId) (m : PreLight) (rest : List PreLight) (s : State), (s.die d).flight = m :: rest →
       ∃ t, exec (.followSpotReceive d) s = .next t ∧ (t.die d).flight = rest ∧
         t.die d.other = s.die d.other ∧ (t.die d).hot = (s.die d).hot ∧
         ((s.die d).isMoving (unitOf m.ep) = true → (t.die d).heldLights = (s.die d).heldLights ++ [m] ∧
           (t.die d).preLights = (s.die d).preLights) ∧
         ((s.die d).isMoving (unitOf m.ep) = false →
           ((∃ x ∈ (s.die d).preLights, x.ep = m.ep ∧ x.cycle = m.cycle) →
             (t.die d).preLights = (s.die d).preLights.map fun x =>
               if x.ep = m.ep ∧ x.cycle = m.cycle then { x with level := max x.level m.level } else x) ∧
           (¬ (∃ x ∈ (s.die d).preLights, x.ep = m.ep ∧ x.cycle = m.cycle) →
             (((s.die d).preLights.filter fun x => decide (unitOf x.ep = unitOf m.ep)).length < 1024 →
               (t.die d).preLights = (s.die d).preLights ++ [m]) ∧
             (1024 ≤ ((s.die d).preLights.filter fun x => decide (unitOf x.ep = unitOf m.ep)).length →
               (t.die d).preLights = (s.die d).preLights ∧
               t.get (CUE_FS_DROPPED.count d) =
                 min (s.get (CUE_FS_DROPPED.count d) + ((s.die d).tally.dropped + 1)) (2 ^ 32 - 1) ∧
               t.get (CUE_INT_STATUS.fs_dropped d) = 1)))) ∧
  ((∀ (d : DieId) (u : Fin 256) (x : UnitEvent) (rest : List UnitEvent) (s : State),
       (s.die d).cutoff = false → (s.side d).waiting = false → (s.side d).mark ≠ none →
       (s.holder = some d ∨ s.get (TWN_STATUS.provisional d) = 1) →
       (s.die d).resting u = false → takeUnitEvent u (s.die d).events = some (x, rest) →
       ∃ t, exec (.eventEvaluation d u) s = .next t ∧ (t.die d).events = rest ∧
         Tbl.get 0 (t.die d).done u = Tbl.get 0 (s.die d).done u + 1 ∧
         Tbl.get 0 (t.side d).started u = Tbl.get 0 (s.side d).started u + 1 ∧
         (t.die d).cold = (s.die d).cold ∧ (t.die d).scene = (s.die d).scene ∧
         (t.die d).placed = (s.die d).placed ∧ t.die d.other = s.die d.other ∧ t.objs = s.objs) ∧
     (∀ (d : DieId) (u : Fin 256) (s : State), (s.die d).cutoff = true ∨
       (s.holder ≠ some d ∧ s.get (TWN_STATUS.provisional d) = 0) → exec (.eventEvaluation d u) s = .next s) ∧
     (∀ s : State, ∃ t, exec .eventCutoff s = .next t ∧ t.dieA.cutoff = true ∧ t.dieB.cutoff = true ∧
       { t with dieA := { t.dieA with cutoff := s.dieA.cutoff },
                dieB := { t.dieB with cutoff := s.dieB.cutoff } } = s))

/-- R180, R121: the stage holder's sender clears the endpoint's emission bits and hands its device value to the level
table of its chain; the device value is 0 for level 0 and lies between the calibration bounds for any other; the
understudy hands nothing over. R186: a result that is ready becomes readable with its phase, and late says that
this was after phase 64; one that is not ready at the deadline sets late and signals it, and the previous result
stays; without a result nothing happens. R191, R192: at the first phase-0 boundary once the period has passed on
the 25 MHz reference the stage holder checks, a new period starts, and the sums of the feeders begin anew; before
that, at another phase, and without a stage holder, nothing happens. Object 0x4016 of a feeder that was metered
is its mean power in whole watts, truncated. -/
def Obligations.SweepResultsLeaveInTime : Prop :=
  ((∀ (d : DieId) (e : Endpoint) (s : State), s.holder = some d →
       Tbl.get false (s.die d).emission e.toNat = true →
       bindTransport ((s.die d).hotOf e.toNat).binding = 2 →
       ∃ t, exec (.emissionHandoff d e) s = .next t ∧
         Tbl.get false (t.die d).emission e.toNat = false ∧ Tbl.get false (t.die d).exactEmission e.toNat = false ∧
         Tbl.get 0 (t.chain (bindChain ((s.die d).hotOf e.toNat).binding)).levels
             (4 * bindPos ((s.die d).hotOf e.toNat).binding + bindChan ((s.die d).hotOf e.toNat).binding) =
           deviceValue ((s.die d).hotOf e.toNat) ((s.die d).coldOf e.toNat) ∧
         (∀ f, f ≠ e.toNat → Tbl.get false (t.die d).emission f = Tbl.get false (s.die d).emission f) ∧
         t.regs = s.regs ∧ t.die d.other = s.die d.other ∧ (t.die d).hot = (s.die d).hot) ∧
     (∀ (d : DieId) (e : Endpoint) (s : State), s.holder ≠ some d → exec (.emissionHandoff d e) s = .next s) ∧
     (∀ (h : Hot) (c : Cold), (h.current = 0 → deviceValue h c = 0) ∧
       (h.current ≠ 0 → c.minPhys ≤ c.maxPhys → c.minPhys ≤ deviceValue h c ∧ deviceValue h c ≤ c.maxPhys))) ∧
  (∀ (d : DieId) (r : Tbl Agg) (s : State), (s.die d).aggNext = some r →
       (∀ ph : Fin 1024, ∃ t, exec (.aggregateDeadline d (some ph)) s = .next t ∧ (t.die d).agg = r ∧
         (t.die d).aggNext = none ∧ t.get (CUE_AGG_STATUS.late d) = (if ph.val ≤ 64 then 0 else 1) ∧
         t.get (CUE_AGG_STATUS.ready_phase d) = ph.val ∧ t.die d.other = s.die d.other ∧
         RegsBut [CUE_AGG_STATUS.late d, CUE_AGG_STATUS.ready_phase d] s t) ∧
       (∃ t, exec (.aggregateDeadline d none) s = .next t ∧ t.get (CUE_AGG_STATUS.late d) = 1 ∧
         t.get (CUE_INT_STATUS.agg_late d) = 1 ∧
         OnlyRegs [CUE_AGG_STATUS.late d, CUE_INT_STATUS.agg_late d] s t)) ∧
  ((∀ (d : DieId) (s : State), s.holder = some d → s.phase = 0 →
       s.balanceFrom + s.obj 0x4010 0 * 25000000 ≤ s.clk.cycleStart →
       ∃ t, exec .balanceCheck s = .next t ∧ t.balanceFrom = s.clk.cycleStart ∧
         t.dieA.meterSums = [] ∧ t.dieB.meterSums = [] ∧ t.holder = s.holder ∧
         (s.get MTR_CTRL.enable = 0 → t.regs = s.regs ∧ t.objs = s.objs) ∧
         (∀ f : Fin 6, s.get MTR_CTRL.enable = 1 → s.get MTR_CTRL.feeder_en = 2 ^ f.val →
           (Tbl.get MeterSum.zero (s.die d).meterSums f).count ≠ 0 →
           t.obj 0x4016 f = pattern 32 ((Tbl.get MeterSum.zero (s.die d).meterSums f).sum.tdiv
             (10 * (Tbl.get MeterSum.zero (s.die d).meterSums f).count : Nat)))) ∧
     (∀ s : State, (s.holder = none ∨ s.phase ≠ 0 ∨
         s.clk.cycleStart < s.balanceFrom + s.obj 0x4010 0 * 25000000) →
       exec .balanceCheck s = .next s))

/-- R546, R128: a request that its object takes (the write passes its checks) and that finds room in the staging
buffer joins it with the session and request identifier, to be applied at the boundary, and its answer is in
progress; no register, object value or endpoint changes before. A request without an open session changes
nothing. The requests: BANK_SWAP_REQUEST, GO_COMMAND, BLACKOUT_COMMAND, THEFT_LOG_CLEAR, ACCEPT_PENDING_STEP,
COMMIT_PROMPT_BOOK, ERASE_PROMPT_BOOK, JOIN, DECOMMISSION, COMPANY_COMMAND_SEND, CLEAR_SENDERS, HOST_PORT_LOCK,
KEY_IMPORT, GENERATE_MANAGEMENT_BRANCH, MANAGEMENT_CERTIFICATE, ATTESTATION_REQUEST, SEGMENT_KEY_CHANGE,
RENEW_SEGMENT_BRANCH, TAMPER_ACKNOWLEDGE, ACTIVATE, REJECT_IMAGE, ACCEPT_IMAGE, NODE_CAMPAIGN,
NODE_IMAGE_ACTIVATE, CLEAR_CALLBOARD, TEST_REQUEST, OFFLINE_MODE, RESTART, HARMONIC_REQUEST in a session,
CALIBRATION_REQUEST in a session, HAND_OVER_COMMAND in a session, SELF_TEST_COMMAND in a session. R128, R214,
R219, R235, R429, R430, R436, R482, R483, R522, R546, R559, R561, R565, R566, R570, R574, R577, R625, R627, R628,
R630, R631, R633, R642, R659, R664-R666, R668, R683, R687, R690, R713: request by request: each of these
commands, when its session may write its object with the value and the staging buffer has room, answers a state
in which exactly the write of its object waits for the boundary. R128: a management-plane write that finds the
staging buffer full, 16,384 writes, is refused with status 0x05 and counted, and is not staged. R652, R653, R655:
the stage is filled when its requests are received: a begin puts the header into the stage slot of the target and
clears what was there, a block writes its octets at their offset, an end judges the image and signals it, and an
endorsement whose signature is good is kept by both dies (here with no hand-off held back for the understudy).
Readings and choices of the model: log entries 69, 83. -/
def Obligations.ObjectRequestsAreStagedOrRefused : Prop :=
  (∀ (c : Instr) (session request idx sub : Nat) (b : List Byte) (s : State),
       requestObject c = some (session, request, idx, sub, b) →
       (Fresh s session request → s.writeStatus session idx sub b = stOK →
         (s.die s.stageDie).staged.length < 16384 →
         ∃ (t : State) (ptr : Nat), exec c s = .next t ∧ t.stageDie = s.stageDie ∧
           (t.die t.stageDie).staged = (s.die s.stageDie).staged ++
             [{ target := 1, code := idx, sub := sub, ptr := ptr, value := b, who := some (session, request, 0) }] ∧
           t.progress = s.progress ++
             [{ session := session, request := request, type := 2,
                items := [(leBytes 2 idx ++ leBytes 1 sub, none)] }] ∧
           t.regs = s.regs ∧ t.objs = s.objs ∧ t.octs = s.octs ∧ t.out = s.out ∧
           (t.die s.stageDie).hot = (s.die s.stageDie).hot ∧ (t.die s.stageDie).cues = (s.die s.stageDie).cues) ∧
       (s.sessionOpen session = false → exec c s = .next s)) ∧
  (∀ (n : Fin 33) (r : BitVec 32) (s : State),
       (∀ (v : BitVec 32), TakesWrite s n r.toNat 0x4402 0 (leBytes 4 v.toNat) →
         ∃ t, exec (.bankSwapRequest n r v) s = .next t ∧ WriteStaged n r.toNat 0x4402 0 (leBytes 4 v.toNat) s t) ∧
       (∀ (b : List Byte), TakesWrite s n r.toNat 0x4420 0 b →
         ∃ t, exec (.goCommand n r b) s = .next t ∧ WriteStaged n r.toNat 0x4420 0 b s t) ∧
       (∀ (b : List Byte), TakesWrite s n r.toNat 0x4422 0 b →
         ∃ t, exec (.blackoutCommand n r b) s = .next t ∧ WriteStaged n r.toNat 0x4422 0 b s t) ∧
       (TakesWrite s n r.toNat 0x6065 0 (leBytes 1 1) →
         ∃ t, exec (.theftLogClear n r) s = .next t ∧ WriteStaged n r.toNat 0x6065 0 (leBytes 1 1) s t) ∧
       (TakesWrite s n r.toNat 0x20C9 0 (leBytes 1 1) →
         ∃ t, exec (.acceptPendingStep n r) s = .next t ∧ WriteStaged n r.toNat 0x20C9 0 (leBytes 1 1) s t) ∧
       (∀ (v : BitVec 32), TakesWrite s n r.toNat 0x1040 0 (leBytes 4 v.toNat) →
         ∃ t, exec (.commitPromptBook n r v) s = .next t ∧ WriteStaged n r.toNat 0x1040 0 (leBytes 4 v.toNat) s t) ∧
       (∀ (v : BitVec 32), TakesWrite s n r.toNat 0x1042 0 (leBytes 4 v.toNat) →
         ∃ t, exec (.erasePromptBook n r v) s = .next t ∧ WriteStaged n r.toNat 0x1042 0 (leBytes 4 v.toNat) s t) ∧
       (TakesWrite s n r.toNat 0x1203 0 (leBytes 1 1) →
         ∃ t, exec (.join n r) s = .next t ∧ WriteStaged n r.toNat 0x1203 0 (leBytes 1 1) s t) ∧
       (∀ (v : BitVec 16), TakesWrite s n r.toNat 0x1204 0 (leBytes 2 v.toNat) →
         ∃ t, exec (.decommission n r v) s = .next t ∧ WriteStaged n r.toNat 0x1204 0 (leBytes 2 v.toNat) s t) ∧
       (∀ (b : List Byte), TakesWrite s n r.toNat 0x1210 0 b →
         ∃ t, exec (.companyCommandSend n r b) s = .next t ∧ WriteStaged n r.toNat 0x1210 0 b s t) ∧
       (TakesWrite s n r.toNat 0x1214 0 (leBytes 1 1) →
         ∃ t, exec (.clearSenders n r) s = .next t ∧ WriteStaged n r.toNat 0x1214 0 (leBytes 1 1) s t) ∧
       (TakesWrite s n r.toNat 0x1109 0 (leBytes 1 1) →
         ∃ t, exec (.hostPortLock n r) s = .next t ∧ WriteStaged n r.toNat 0x1109 0 (leBytes 1 1) s t) ∧
       (∀ (b : List Byte), TakesWrite s n r.toNat 0x7010 0 b →
         ∃ t, exec (.keyImport n r b) s = .next t ∧ WriteStaged n r.toNat 0x7010 0 b s t) ∧
       (TakesWrite s n r.toNat 0x7012 0 (leBytes 1 1) →
         ∃ t, exec (.generateManagementBranch n r) s = .next t ∧ WriteStaged n r.toNat 0x7012 0 (leBytes 1 1) s t) ∧
       (∀ (b : List Byte), TakesWrite s n r.toNat 0x7004 0 b →
         ∃ t, exec (.managementCertificate n r b) s = .next t ∧ WriteStaged n r.toNat 0x7004 0 b s t) ∧
       (∀ (b : List Byte), TakesWrite s n r.toNat 0x7020 0 b →
         ∃ t, exec (.attestationRequest n r b) s = .next t ∧ WriteStaged n r.toNat 0x7020 0 b s t) ∧
       (TakesWrite s n r.toNat 0x7018 0 (leBytes 1 1) →
         ∃ t, exec (.segmentKeyChange n r) s = .next t ∧ WriteStaged n r.toNat 0x7018 0 (leBytes 1 1) s t) ∧
       (TakesWrite s n r.toNat 0x701C 0 (leBytes 1 1) →
         ∃ t, exec (.renewSegmentBranch n r) s = .next t ∧ WriteStaged n r.toNat 0x701C 0 (leBytes 1 1) s t) ∧
       (∀ (v : BitVec 16), TakesWrite s n r.toNat 0x7031 0 (leBytes 2 v.toNat) →
         ∃ t, exec (.tamperAcknowledge n r v) s = .next t ∧ WriteStaged n r.toNat 0x7031 0 (leBytes 2 v.toNat) s t) ∧
       (∀ (b : List Byte), TakesWrite s n r.toNat 0x7410 0 b →
         ∃ t, exec (.activate n r b) s = .next t ∧ WriteStaged n r.toNat 0x7410 0 b s t) ∧
       (TakesWrite s n r.toNat 0x7414 0 (leBytes 1 1) →
         ∃ t, exec (.rejectImage n r) s = .next t ∧ WriteStaged n r.toNat 0x7414 0 (leBytes 1 1) s t) ∧
       (TakesWrite s n r.toNat 0x7415 0 (leBytes 1 1) →
         ∃ t, exec (.acceptImage n r) s = .next t ∧ WriteStaged n r.toNat 0x7415 0 (leBytes 1 1) s t) ∧
       (∀ (b : List Byte), TakesWrite s n r.toNat 0x7421 0 b →
         ∃ t, exec (.nodeCampaign n r b) s = .next t ∧ WriteStaged n r.toNat 0x7421 0 b s t) ∧
       (∀ (b : List Byte), TakesWrite s n r.toNat 0x7423 0 b →
         ∃ t, exec (.nodeImageActivate n r b) s = .next t ∧ WriteStaged n r.toNat 0x7423 0 b s t) ∧
       (∀ (v : BitVec 32), TakesWrite s n r.toNat 0x7801 0 (leBytes 4 v.toNat) →
         ∃ t, exec (.clearCallboard n r v) s = .next t ∧ WriteStaged n r.toNat 0x7801 0 (leBytes 4 v.toNat) s t) ∧
       (∀ (b : List Byte), TakesWrite s n r.toNat 0x7810 0 b →
         ∃ t, exec (.testRequest n r b) s = .next t ∧ WriteStaged n r.toNat 0x7810 0 b s t) ∧
       (∀ (v : BitVec 16), TakesWrite s n r.toNat 0x7820 0 (leBytes 2 v.toNat) →
         ∃ t, exec (.offlineMode n r v) s = .next t ∧ WriteStaged n r.toNat 0x7820 0 (leBytes 2 v.toNat) s t) ∧
       (∀ (v : BitVec 16), TakesWrite s n r.toNat 0x7C10 0 (leBytes 2 v.toNat) →
         ∃ t, exec (.restart n r v) s = .next t ∧ WriteStaged n r.toNat 0x7C10 0 (leBytes 2 v.toNat) s t) ∧
       (∀ (i : BitVec 8), TakesWrite s n r.toNat 0x6040 0 (leBytes 1 i.toNat) →
         ∃ t, exec (.harmonicRequest (.object n r) i) s = .next t ∧ WriteStaged n r.toNat 0x6040 0 (leBytes 1 i.toNat) s t) ∧
       (∀ (i : BitVec 8), TakesWrite s n r.toNat 0x6009 0 (leBytes 1 i.toNat) →
         ∃ t, exec (.calibrationRequest (.object n r) i) s = .next t ∧ WriteStaged n r.toNat 0x6009 0 (leBytes 1 i.toNat) s t) ∧
       (∀ (i : BitVec 8), TakesWrite s n r.toNat 0x2103 0 (leBytes 1 i.toNat) →
         ∃ t, exec (.handOverCommand (.object n r) i) s = .next t ∧ WriteStaged n r.toNat 0x2103 0 (leBytes 1 i.toNat) s t) ∧
       (∀ (d : DieId), TakesWrite s n r.toNat 0x2104 d.num (leBytes 1 1) →
         ∃ t, exec (.selfTestCommand (.object n r) d) s = .next t ∧ WriteStaged n r.toNat 0x2104 d.num (leBytes 1 1) s t)) ∧
  (∀ (w : Mgmt) (s : State), 16384 ≤ (s.die s.stageDie).staged.length →
       ∃ t, s.stageWrite w = (t, 0x05) ∧
         t.get (EPS_STAGE_REFUSED.count s.stageDie) =
           min (s.get (EPS_STAGE_REFUSED.count s.stageDie) + 1) (2 ^ 32 - 1) ∧
         t.get (EPS_INT_STATUS.stage_full s.stageDie) = 1 ∧
         OnlyRegs [EPS_STAGE_REFUSED.count s.stageDie, EPS_INT_STATUS.stage_full s.stageDie] s t) ∧
  (∀ (n : Fin 33) (r : BitVec 32) (b : List Byte) (s : State), Fresh s n r.toNat → s.twin.held = [] →
       (s.writeStatus n 0x7401 0 b = stOK → leAt b 0 1 ≤ 8 → s.activating = false → s.campaign.on = false →
         ∃ t, exec (.stageBegin n r b) s = .next t ∧ (t.green s.stageDie).target = leAt b 0 1 ∧
           ((t.green s.stageDie).slot (leAt b 0 1)).state = 1 ∧
           ((t.green s.stageDie).slot (leAt b 0 1)).header = b.drop 4 ∧
           ((t.green s.stageDie).slot (leAt b 0 1)).body = [] ∧ t.regs = s.regs) ∧
       (s.writeStatus n 0x7402 0 b = stOK →
         ((s.green s.stageDie).slot (s.green s.stageDie).target).state = 1 →
         leAt b 0 4 + (b.drop 4).length ≤ ((s.green s.stageDie).slot (s.green s.stageDie).target).length →
         ∃ t, exec (.stageBlock n r b) s = .next t ∧
           (∀ k, k < (b.drop 4).length →
             Tbl.get 0 ((t.green s.stageDie).slot (s.green s.stageDie).target).body (leAt b 0 4 + k) =
               ((b.drop 4).getD k 0).toNat + 1) ∧
           (∀ k, k < leAt b 0 4 ∨ leAt b 0 4 + (b.drop 4).length ≤ k →
             Tbl.get 0 ((t.green s.stageDie).slot (s.green s.stageDie).target).body k =
               Tbl.get 0 ((s.green s.stageDie).slot (s.green s.stageDie).target).body k) ∧ t.regs = s.regs) ∧
       (s.writeStatus n 0x7403 0 (leBytes 1 1) = stOK →
         ((s.green s.stageDie).slot (s.green s.stageDie).target).state = 1 →
         ∃ t, exec (.stageEnd n r) s = .next t ∧ t.get (GRN_INT_STATUS.stage_end s.stageDie) = 1 ∧
           (((t.green s.stageDie).slot (s.green s.stageDie).target).state = 2 ↔ (t.green s.stageDie).failed = 0) ∧
           RegsBut [GRN_INT_STATUS.stage_end s.stageDie] s t) ∧
       (s.writeStatus n 0x7406 0 b = stOK → (s.green s.stageDie).stage.header ≠ [] → s.slotValid 13 = true →
         ecdsaVerify (s.keyValue 13) (s.green s.stageDie).stage.header b = true →
         ∃ t, exec (.endorsement n r b) s = .next t ∧ (t.green .a).endorsement = b ∧ (t.green .b).endorsement = b ∧
           t.regs = s.regs))

/-- What the requests of the company, the books, the cues and the dies do when their write is applied at the
boundary: R213, R214, R218, R235, R522, R561, R565, R566, R570, R577, R482, R483, R559. R215: when a bank sync
ends, the inactive bank of each die that was syncing is a copy of its active bank with the next sequence number;
the active bank, the registers and the rest stay. Readings and choices of the model: log entry 103. -/
def Obligations.AppliedRequestsAndBankSyncTakeEffect : Prop :=
  (∀ (d : DieId) (w : Mgmt) (s : State),
       (w.code = 0x4402 → ∃ t, s.applyObject d w = (t, some stOK) ∧ (t.die d).cues.swapPending = true ∧
         t.regs = s.regs) ∧
       (w.code = 0x4420 → (GoEntry.ofBytes w.value).ok (leNat (w.value.drop 28)) = true →
         (GoEntry.ofBytes w.value).op ≠ 4 → (GoEntry.ofBytes w.value).op ≠ 5 →
         (s.die d).cues.goInactive.length < 256 →
         (s.die d).cues.pendingGo.length + (s.die d).cues.goInactive.length < 1024 →
         ∃ t, s.applyObject d w = (t, some stOK) ∧
           (t.die d).cues.goSeq = ((s.die d).cues.goSeq + 1) % 2 ^ 32 ∧
           (t.die d).cues.goInactive = (s.die d).cues.goInactive ++
             [{ GoEntry.ofBytes w.value with seq := ((s.die d).cues.goSeq + 1) % 2 ^ 32 }] ∧ t.regs = s.regs) ∧
       (w.code = 0x4422 → (s.die d).cues.goInactive.length < 256 →
         (s.die d).cues.pendingGo.length + (s.die d).cues.goInactive.length < 1024 →
         ∃ t, s.applyObject d w = (t, some stOK) ∧ (t.die d).cues.blackCounter = leAt w.value 32 4 ∧
           (t.die d).cues.goInactive.length = (s.die d).cues.goInactive.length + 1) ∧
       (w.code = 0x20C9 → leNat w.value = 1 → s.get PTP_STATUS.jump_pending = 1 →
         ∃ t, s.applyObject d w = (t, some stOK) ∧ t.get PTP_STATUS.auth_armed = 1 ∧
           OnlyRegs [PTP_STATUS.auth_armed] s t) ∧
       (w.code = 0x1042 → leNat w.value = (s.die s.stageDie).newestSeq → s.committing = none →
         ∃ t, s.applyObject d w = (t, some stOK) ∧ (t.die s.stageDie).books = [none, none] ∧ t.regs = s.regs) ∧
       (w.code = 0x1040 → leNat w.value = (s.die s.stageDie).newestSeq → s.committing = none →
         ∃ t, s.applyObject d w = (t, none) ∧ t.committing = some (s.commitBook, w.who) ∧ t.regs = s.regs) ∧
       (w.code = 0x1203 → leNat w.value = 1 → s.joinState = 1 → s.slotValid 3 = true →
         ∃ t, s.applyObject d w = (t, some stOK) ∧ t.joinState = 2) ∧
       (w.code = 0x1204 → leNat w.value = s.moduleNumber → s.joinState = 2 →
         ∃ t, s.applyObject d w = (t, some stOK) ∧ t.joinState = 3 ∧ t.regs = s.regs) ∧
       (w.code = 0x1214 → leNat w.value = 1 →
         ∃ t, s.applyObject d w = (t, some stOK) ∧ t.company.senders = [] ∧
           { t with company := { t.company with senders := s.company.senders } } = s) ∧
       (w.code = 0x1109 → w.sub = 0 → leNat w.value = 1 →
         ∃ t, s.applyObject d w = (t, some stOK) ∧ t.obj 0x1109 0 = 1 ∧ { t with objs := s.objs } = s) ∧
       (w.code = 0x2103 → s.holder = some (DieId.ofNum (leNat w.value)).other → s.plannedOk = true →
         ∃ t, s.applyObject d w = (t, some stOK) ∧ t.twin.planned.isSome = true ∧ t.regs = s.regs) ∧
       (w.code = 0x2104 → leNat w.value = 1 → s.roleOf (DieId.ofNum w.sub) = roUNDERSTUDY →
         ∃ t, s.applyObject d w = (t, some stOK) ∧ (t.side (DieId.ofNum w.sub)).toTest = true ∧ t.regs = s.regs)) ∧
  (∀ s : State, ∃ t, exec .bankSyncEnd s = .next t ∧ t.regs = s.regs ∧ t.objs = s.objs ∧
       ∀ d : DieId, (t.cues d).active = (s.cues d).active ∧ (t.cues d).syncBusy = false ∧
         ((s.cues d).syncBusy = false → t.die d = s.die d) ∧
         ((s.cues d).syncBusy = true → (s.cues d).active < 2 →
           (t.cues d).bank (s.cues d).active = (s.cues d).activeBank ∧
           (t.cues d).bank (1 - (s.cues d).active) =
             { (s.cues d).activeBank with seq := ((s.cues d).activeBank.seq + 1) % 2 ^ 32 }) ∧
         { t.die d with cues := (s.die d).cues } = s.die d)

/-- What the requests of the metering, the keys, the greenroom, the callboard, the tests and the start do when their
write is applied at the boundary: R429, R430, R436, R628, R631, R642, R659, R664, R665, R666, R683, R687, R690,
R713. Readings and choices of the model: log entries 64, 68, 76, 77. -/
def Obligations.AppliedServiceRequestsTakeEffect : Prop :=
  ∀ (d : DieId) (w : Mgmt) (s : State),
    (w.code = 0x6040 → s.get MTR_STATUS.harm_busy = 0 →
      ∃ t, s.applyObject d w = (t, some stOK) ∧ t.get MTR_STATUS.harm_busy = 1 ∧
        t.get MTR_HARM_STATUS.valid = 0 ∧ t.meter.harm = some (leNat w.value, s.clk.cycle, 0)) ∧
    (w.code = 0x6009 → leNat w.value ≤ 21 → s.isReference (leNat w.value) = false →
      s.meter.calQueue.contains (leNat w.value) = false →
      ∃ t, s.applyObject d w = (t, some stOK) ∧ t.meter.calQueue = s.meter.calQueue ++ [leNat w.value] ∧
        t.regs = s.regs) ∧
    (w.code = 0x6065 → leNat w.value = 1 → s.theft.running = false →
      ∃ t, s.applyObject d w = (t, some stOK) ∧ t.theft = Theft.empty ∧ t.regs = s.regs) ∧
    (w.code = 0x7004 → s.slotValid 5 = true → certKey w.value = some s.managementKey →
      ∃ t, s.applyObject d w = (t, some stOK) ∧ t.oct 0x7004 0 = w.value ∧ t.regs = s.regs) ∧
    (w.code = 0x7018 → leNat w.value = 1 → s.segUse = none →
      ∃ t, s.applyObject d w = (t, some stOK) ∧ t.segUse = some (s.taiSec + s.obj 0x7019 0) ∧
        t.link.previous = s.link.current ∧ t.link.previousGen = s.link.currentGen) ∧
    (w.code = 0x7031 → leNat w.value = s.keys.events → s.keys.present = 0 →
      ∃ t, s.applyObject d w = (t, some stOK) ∧ t.keys.latched = 0 ∧ t.keys.events = 0 ∧ t.objs = s.objs) ∧
    (w.code = 0x7414 → leNat w.value = 1 → s.activation.state = 4 → ∀ e : DieId, s.activation.die = some e →
      s.fitDie e.other = true →
      ∃ t, s.applyObject d w = (t, some stOK) ∧ t.activation.rejecting = true ∧ t.twin.planned = some 11 ∧
        t.regs = s.regs) ∧
    (w.code = 0x7421 → leAt w.value 0 1 ≤ 7 → 1 ≤ leAt w.value 1 1 → leAt w.value 1 1 ≤ 16 →
      1 ≤ leAt w.value 2 1 → leAt w.value 2 1 ≤ 100 → s.campaign.on = false →
      (s.nodeSlot (leAt w.value 0 1)).state = 2 →
      ∃ t, s.applyObject d w = (t, some stOK) ∧ t.campaign.on = true ∧
        t.campaign.slot = leAt w.value 0 1 ∧ t.campaign.rounds = leAt w.value 1 1 ∧ t.regs = s.regs) ∧
    (w.code = 0x7801 → leNat w.value = (s.die s.stageDie).board.next →
      ∃ t, s.applyObject d w = (t, some stOK) ∧ (t.die s.stageDie).board.clears = (s.die s.stageDie).board.clears + 1 ∧
        (t.die s.stageDie).board.lost = 0 ∧ t.get (CBD_INT_STATUS.cleared s.stageDie) = 1) ∧
    (w.code = 0x7810 → leAt w.value 1 1 < testInstances (leAt w.value 0 1) →
      s.testRefused (leAt w.value 0 1) (leAt w.value 1 1) = false →
      s.tests.queue.contains (leAt w.value 0 1, leAt w.value 1 1) = false → s.tests.queue.length < 16 →
      ∃ t, s.applyObject d w = (t, some stOK) ∧ 
        ((leAt w.value 0 1, leAt w.value 1 1) ∈ t.tests.queue ∨
          t.tests.running = some (leAt w.value 0 1, leAt w.value 1 1))) ∧
    (w.code = 0x7820 → leNat w.value = s.moduleNumber →
      ∃ t, s.applyObject d w = (t, some stOK) ∧ t.tests.offlineAsked = true ∧ t.regs = s.regs) ∧
    (w.code = 0x7C10 → leNat w.value = s.moduleNumber →
      ∃ t, s.applyObject d w = (t, some stOK) ∧ t.power.restartAsked = true ∧ t.regs = s.regs)

/-- R51, R246, R251, R253, R254, R255, R257: between queues of one plane a producer that counts credits and holds
them, and for a request the reservation of its response, sends the packet whole: its words are debited and it
waits behind the others; without the reservation it waits; without the credits it waits where it may, holding the
reservation, and otherwise nothing happens; a packet that counts no credits and does not fit is a credit overrun:
counted, its queue kept, signalled, and discarded. Between queues of two planes, or of a packet that is none,
nothing passes. R245, R248, R251, R252, R253: the consumer reads one word of the packet it takes: the read
pointer advances and one credit returns; the last word ends the packet, and releases a response's reservation
(here with nobody waiting). With the last word a flush that waits for it takes effect: nothing waits in the queue
any more. An empty queue gives nothing. R248, R282: a flush of a management-plane queue of the die discards the
packets that wait, whose words are counted and signalled, and marks the packet being written for its end mark
(here with nobody waiting); while a packet is being read it waits for the end of that packet; a flush of a queue
of another plane outside offline mode discards nothing: it is the violation of kind 9. Readings and choices of
the model: log entries 22, 24. -/
def Obligations.PacketsMoveByCredits : Prop :=
  (∀ (d : DieId) (x : Send) (s : State),
       (packetOk x.words = false ∨ samePlane x.src x.dst = false → exec (.queuePacketSend d x) s = .next s) ∧
       (packetOk x.words = true → samePlane x.src x.dst = true →
       (x.counts = true → s.hasCredits d x = true → s.queueStopped x.dst = false →
         (queueClass x.dst = 0 → s.canReserve d x.src = true) →
         ∃ t, exec (.queuePacketSend d x) s = .next t ∧
           ((t.queue (queueKey d x.dst)).ring (sendRing x)).packets =
             ((s.queue (queueKey d x.dst)).ring (sendRing x)).packets ++ [(x.words, x.kind)] ∧
           ((t.queue (queueKey d x.dst)).ring (sendRing x)).debited =
             ((s.queue (queueKey d x.dst)).ring (sendRing x)).debited + x.words.length ∧
           ((t.queue (queueKey d x.dst)).ring (sendRing x)).wr =
             (((s.queue (queueKey d x.dst)).ring (sendRing x)).wr + x.words.length) % (2 * queueSize x.dst) ∧
           (∀ r, r ≠ sendRing x →
             (t.queue (queueKey d x.dst)).ring r = (s.queue (queueKey d x.dst)).ring r) ∧
           (queueClass x.dst = 0 → (t.queue (queueKey d (responseQueue x.src))).reserved =
             (s.queue (queueKey d (responseQueue x.src))).reserved + 1) ∧
           (queueClass x.dst ≠ 0 → ∀ k, k ≠ queueKey d x.dst → t.queue k = s.queue k) ∧
           { t with queues := s.queues } = s) ∧
       (x.counts = true → queueClass x.dst = 0 → s.canReserve d x.src = false →
         ∃ t, exec (.queuePacketSend d x) s = .next t ∧ { t with waiters := s.waiters } = s ∧
           t.waiters = s.waiters ++ [⟨d, x, s.now, s.clk.cycle, false⟩]) ∧
       (x.counts = true → s.hasCredits d x = false → queueClass x.dst ≠ 0 →
         ∃ t, exec (.queuePacketSend d x) s = .next t ∧ { t with waiters := s.waiters } = s ∧
           t.waiters = (if mayWait x.src x.dst = true ∨ travelsInward x.src x.dst = true then
             s.waiters ++ [⟨d, x, s.now, s.clk.cycle, false⟩] else s.waiters)) ∧
       (x.counts = true → s.hasCredits d x = false → queueClass x.dst = 0 → s.canReserve d x.src = true →
         (mayWait x.src x.dst = true ∨ travelsInward x.src x.dst = true →
           ∃ t, exec (.queuePacketSend d x) s = .next t ∧
             { t with waiters := s.waiters, queues := s.queues } = s ∧
             t.waiters = s.waiters ++ [⟨d, x, s.now, s.clk.cycle, true⟩] ∧
             (t.queue (queueKey d (responseQueue x.src))).reserved =
               (s.queue (queueKey d (responseQueue x.src))).reserved + 1) ∧
         (mayWait x.src x.dst = false → travelsInward x.src x.dst = false →
           exec (.queuePacketSend d x) s = .next s)) ∧
       (x.counts = false →
         ((s.queue (queueKey d x.dst)).ring (sendRing x)).credits (queueSize x.dst) < x.words.length →
         ∀ e, e = s.qcmDie d (decide (queueLevel x.dst < 4)) →
         ∃ t, exec (.queuePacketSend d x) s = .next t ∧
           t.get (QCM_CREDIT_OVERRUNS.count e) = min (s.get (QCM_CREDIT_OVERRUNS.count e) + 1) (2 ^ 32 - 1) ∧
           t.get (QCM_LAST_DROP.queue e) = x.dst.val ∧ t.get (QCM_LAST_DROP.reason e) = 4 ∧
           t.get (QCM_INT_STATUS.credit_overrun e) = 1 ∧
           OnlyRegs [QCM_CREDIT_OVERRUNS.count e, QCM_LAST_DROP.queue e, QCM_LAST_DROP.reason e,
             QCM_INT_STATUS.credit_overrun e] s t))) ∧
  (∀ (d : DieId) (q : Fin 65536) (s : State), s.waiters = [] →
       (∀ (r : Nat) (w : List (BitVec 64)) (k : ItemKind) (rest : List (List (BitVec 64) × ItemKind)),
         (s.queue (queueKey d q)).nextRing = some r →
         ((s.queue (queueKey d q)).ring r).packets = (w, k) :: rest →
         ((s.queue (queueKey d q)).flushing = false → ∃ t, exec (.creditReturn d q) s = .next t ∧
           { t with queues := s.queues } = s ∧
           ((t.queue (queueKey d q)).ring r).rd =
             (((s.queue (queueKey d q)).ring r).rd + 1) % (2 * queueSize q) ∧
           ((t.queue (queueKey d q)).ring r).debited = ((s.queue (queueKey d q)).ring r).debited - 1 ∧
           (((s.queue (queueKey d q)).ring r).taken + 1 < w.length →
             ((t.queue (queueKey d q)).ring r).packets = (w, k) :: rest ∧
             (t.queue (queueKey d q)).reading = some r ∧
             (t.queue (queueKey d q)).reserved = (s.queue (queueKey d q)).reserved) ∧
           (w.length ≤ ((s.queue (queueKey d q)).ring r).taken + 1 →
             ((t.queue (queueKey d q)).ring r).packets = rest ∧ (t.queue (queueKey d q)).reading = none ∧
             (t.queue (queueKey d q)).reserved =
               (s.queue (queueKey d q)).reserved - (if queueClass q = 2 then 1 else 0))) ∧
         ((s.queue (queueKey d q)).flushing = true → w.length ≤ ((s.queue (queueKey d q)).ring r).taken + 1 →
           ∃ t, exec (.creditReturn d q) s = .next t ∧ (t.queue (queueKey d q)).flushing = false ∧
             ∀ v, ((t.queue (queueKey d q)).ring v).packets = [])) ∧
       ((s.queue (queueKey d q)).nextRing = none →
         ∃ t, exec (.creditReturn d q) s = .next t ∧ { t with queues := s.queues } = s)) ∧
  (∀ (p : Port) (d : DieId) (q : Nat) (s : State), s.power.on = true → p ≠ .host →
       q = s.get (QCM_Q_SEL.queue d) →
       (queuePlane q = 2 → queueLevel q < 4 → queueNamed q = true → s.waiters = [] →
         ((s.queue (queueKey d q)).reading = none → ∃ t, exec (.queueFlush p d) s = .next t ∧
           (∀ r, ((t.queue (queueKey d q)).ring r).packets = [] ∧
             (((s.queue (queueKey d q)).ring r).writing ≠ [] → ((t.queue (queueKey d q)).ring r).drop = true)) ∧
           (0 < (s.queue (queueKey d q)).words →
             t.get (QCM_FLUSH_DISCARDS.count d) =
               min (s.get (QCM_FLUSH_DISCARDS.count d) + (s.queue (queueKey d q)).words) (2 ^ 32 - 1) ∧
             t.get (QCM_INT_STATUS.flush_discard d) = 1 ∧ t.get (QCM_LAST_DROP.queue d) = q ∧
             t.get (QCM_LAST_DROP.reason d) = 3) ∧
           (∀ k, k ≠ queueKey d q → t.queue k = s.queue k)) ∧
         ((s.queue (queueKey d q)).reading ≠ none → ∃ t, exec (.queueFlush p d) s = .next t ∧
           t.queue (queueKey d q) = { s.queue (queueKey d q) with flushing := true } ∧
           { t with queues := s.queues } = s ∧ ∀ k, k ≠ queueKey d q → t.queue k = s.queue k)) ∧
       (queuePlane q ≠ 2 → s.get (TST_MODE.offline d) = 0 →
         exec (.queueFlush p d) s = .next (s.violate (dieWrite p d 0x30114) vkRule)))

/-- R266, R267, R269: clearing the enable of a block stops it and starts its drain; a disabled block that holds no
item and has nothing on its line is DRAINED, which is signalled; what a block still holds after the module
timeout is discarded, counted, signalled and recorded, but what is on its line is completed (R268); setting the
enable again clears DRAINED. Readings and choices of the model: log entry 62. -/
def Obligations.BlocksDrainAndReturn : Prop :=
  ∀ (b : DrainBlock) (s : State),
    (s.get (blockEnable (blockKey b)) = 1 →
      ∃ t, exec (.blockDisable b) s = .next t ∧ t.get (blockEnable (blockKey b)) = 0 ∧
        Tbl.get 0 t.drainFrom (blockKey b) = s.clk.cycle + 1) ∧
    (s.get (blockEnable (blockKey b)) = 0 → exec (.blockDisable b) s = .next s) ∧
    (s.get (blockEnable (blockKey b)) = 0 → s.get (blockDrained (blockKey b)) = 0 →
      s.blockItems (blockKey b) = 0 → s.blockBusy (blockKey b) = false →
      ∃ t, exec (.drained b) s = .next t ∧ t.get (blockDrained (blockKey b)) = 1 ∧
        t.get (blockDrainIrq (blockKey b)) = 1 ∧ Tbl.get 0 t.drainFrom (blockKey b) = 0 ∧
        RegsBut [blockDrained (blockKey b), blockDrainIrq (blockKey b)] s t ∧ t.queues = s.queues) ∧
    (s.get (blockEnable (blockKey b)) = 0 → s.get (blockDrained (blockKey b)) = 0 →
      0 < Tbl.get 0 s.drainFrom (blockKey b) →
      Tbl.get 0 s.drainFrom (blockKey b) + s.moduleTimeout ≤ s.clk.cycle + 1 →
      ∃ t, exec (.drainTimeout b) s = .next t ∧ t.get (blockDrained (blockKey b)) = 1 ∧
        t.get (QCM_DRAIN_DISCARDS.count s.stageDie) =
          min (s.get (QCM_DRAIN_DISCARDS.count s.stageDie) + s.blockItems (blockKey b)) (2 ^ 32 - 1) ∧
        (0 < s.blockItems (blockKey b) → t.get (QCM_INT_STATUS.drain_discard s.stageDie) = 1) ∧
        (∀ k, (t.radio k).flight = (s.radio k).flight ∧ (t.plc k).groups = (s.plc k).groups) ∧
        t.chains = s.chains ∧ t.meter = s.meter ∧ t.posts.length = s.posts.length + 1) ∧
    (∀ p : Port, p ≠ .host → s.power.on = true → s.get (blockEnable (blockKey b)) = 0 →
      (blockKey b < 4 → s.radioReady (blockKey b) = true) →
      ∃ t, exec (.blockEnable p b) s = .next t ∧ t.get (blockEnable (blockKey b)) = 1 ∧
        t.get (blockDrained (blockKey b)) = 0 ∧ t.queues = s.queues)

/-- R259, R260, R44: a write of a timeout through space 0b00, within its bounds and with every timeout at least four
times the one below, is accepted for the next boundary and changes no register before; outside its bounds it is
the violation of kind 5, and through a die's own space that of kind 8. R45, R261, R262, R264, R265: when the
oldest waiter of an instance, a packet that lacks its credits or a requester that was not granted, has waited for
its level's timeout it is discarded whole: it is counted at its level, its queue is kept as the last drop with
reason 1, the level's interrupt is raised and a record is posted; one that reaches the timeout at this very clock
edge is handled at the end of the edge; nothing happens before (here at a level above the units, with one waiter
that holds no reservation; what is discarded on the control plane within a die changes a digest of that die).
Readings and choices of the model: log entries 26, 98. -/
def Obligations.TimeoutsAreSetAndExpire : Prop :=
  (∀ (p : Port) (d : DieId) (level : Fin 6) (w : Word) (s : State), p ≠ .host → s.power.on = true →
       (s.holder = some d → ∀ v, v = w.toNat % (tmoFld d level).size →
         (tmoMin level ≤ v → v ≤ tmoMax level → s.tmoRatioOk d level v = true →
           ∃ t, exec (.timeoutWrite p none level w) s = .next t ∧
             t.tmoPending = s.tmoPending ++ [(level.val, v)] ∧ t.regs = s.regs ∧ t.objs = s.objs ∧
             { t with tmoPending := s.tmoPending, journal := s.journal } = s) ∧
         (v < tmoMin level ∨ tmoMax level < v →
           exec (.timeoutWrite p none level w) s =
             .next (s.violate { dieWrite p d (tmoOffset level) with addr := tmoOffset level } vkRange))) ∧
       exec (.timeoutWrite p (some d) level w) s = .next (s.violate (dieWrite p d (tmoOffset level)) vkSpace)) ∧
  ((∀ (d : DieId) (level : Fin 6) (inst : Fin 512) (w : Waiter) (s : State), 0 < level.val →
       s.waiters = [w] → w.waitsIn d level.val inst.val = true → s.arbWaits d level.val inst.val = [] →
       w.item.kind = .other → w.reserved = false →
       (s.aged d level.val w.tick w.cycle = true → s.onEdge d level.val w.tick w.cycle = false →
         ∀ e, e = s.qcmDie d (decide (level.val < 4)) →
         ∃ t, exec (.levelTimeout d level inst) s = .next t ∧ t.waiters = [] ∧
           t.get (QCM_TMO_DROPS_L.count e level) =
             min (s.get (QCM_TMO_DROPS_L.count e level) + 1) (2 ^ 32 - 1) ∧
           t.get (QCM_LAST_DROP.queue e) = w.item.src.val ∧ t.get (QCM_LAST_DROP.reason e) = 1 ∧
           t.get (tmoIrq e level) = 1 ∧ t.posts.length = s.posts.length + 1 ∧
           RegsBut [QCM_TMO_DROPS_L.count e level, QCM_LAST_DROP.queue e, QCM_LAST_DROP.reason e,
             tmoIrq e level] s t ∧
           (3 < level.val ∨ queuePlane w.item.src ≠ 0 → t.dieA = s.dieA ∧ t.dieB = s.dieB) ∧
           (level.val ≤ 3 → queuePlane w.item.src = 0 → t.die d.other = s.die d.other ∧
             ∃ u, Tbl.get 0 (t.die d).digest u ≠ Tbl.get 0 (s.die d).digest u)) ∧
       (s.aged d level.val w.tick w.cycle = true → s.onEdge d level.val w.tick w.cycle = true →
         ∃ t, exec (.levelTimeout d level inst) s = .next t ∧
           t.expiring = s.expiring ++ [(d, level.val, inst.val)] ∧ { t with expiring := s.expiring } = s) ∧
       (s.aged d level.val w.tick w.cycle = false → exec (.levelTimeout d level inst) s = .next s)) ∧
     (∀ (d : DieId) (level : Fin 6) (inst : Fin 512) (a i tick cycle : Nat) (s : State), 0 < level.val →
       s.waiters = [] → s.arbWaits d level.val inst.val = [(a, i, tick, cycle)] →
       s.aged d level.val tick cycle = true → s.onEdge d level.val tick cycle = false →
       ∀ e, e = s.qcmDie d (decide (level.val < 4)) →
       ∃ t, exec (.levelTimeout d level inst) s = .next t ∧
         (∀ row x, s.arb d a = some (row, x) → ∃ y, t.arb d a = some (row, y) ∧
           y.waits = x.waits.filter (fun w => decide (w.1 ≠ i)) ∧ y.holder = x.holder) ∧
         t.get (QCM_TMO_DROPS_L.count e level) =
           min (s.get (QCM_TMO_DROPS_L.count e level) + 1) (2 ^ 32 - 1) ∧
         t.get (QCM_LAST_DROP.reason e) = 1 ∧ t.get (tmoIrq e level) = 1 ∧
         t.posts.length = s.posts.length + 1 ∧ t.queues = s.queues))

/-- R270: at a window boundary every counter of the arbiter becomes its weight and the masks clear; at a grant point
without an emergency the grant goes to a requester that asks and is not masked, whose counter is the highest of
those, the lowest index among equals, and its grants count one more. R271, R272, R273, R275: a small arbiter
takes the grant back when the other requester leads by the margin (the holder's counter has been debited by the
clocks it held); a large one gives the grant to its emergency requester at once, while that one may raise its
request; a holder beyond its hold limit is cut off, masked, flagged, counted and signalled (here at an arbiter
that is no cluster's); a withdrawal of a privileged requester is counted and the arbiter picks again, and no
other requester may withdraw. Log entry 25 of the model concerns it. -/
def Obligations.ArbitersShareByCounters : Prop :=
  (∀ (d : DieId) (a : Fin 256) (row : ArbKind × List Nat × Nat × Nat) (x : Arb) (clocks : Nat) (s : State),
       s.arb d a = some (row, x) → x.holder = none →
       (∃ t y, exec (.arbWindowBoundary d a clocks) s = .next t ∧ t.arb d a = some (row, y) ∧
         y = { x with counters := x.weights.map Int.ofNat, masked := 0 } ∧ { t with arbs := s.arbs } = s) ∧
       (∀ requests : Nat, ∃ t y, exec (.arbGrant d a clocks requests false none) s = .next t ∧
         t.arb d a = some (row, y) ∧ { t with arbs := s.arbs } = s ∧
         ((∃ i, i < x.weights.length ∧ bitOf requests i = 1 ∧ bitOf x.masked i = 0) →
           ∃ i, y.holder = some { req := some i, held := 0, xfer := none } ∧ i < x.weights.length ∧
             bitOf requests i = 1 ∧ bitOf x.masked i = 0 ∧
             y.grants = x.grants.set i ((x.grants.getD i 0 + 1) % 2 ^ 32) ∧
             ∀ j, j < x.weights.length → bitOf requests j = 1 → bitOf x.masked j = 0 →
               x.counters.getD j 0 ≤ x.counters.getD i 0 ∧
               (x.counters.getD j 0 = x.counters.getD i 0 → i ≤ j)) ∧
         ((∀ i, i < x.weights.length → bitOf requests i = 1 → bitOf x.masked i = 1) → y.holder = none))) ∧
  (∀ (d : DieId) (a : Fin 256) (row : ArbKind × List Nat × Nat × Nat) (x : Arb) (g : Grant) (i clocks : Nat)
       (s : State), s.arb d a = some (row, x) → x.holder = some g → g.req = some i → g.xfer = none →
       (∀ j : Fin 16, row.1 = .small → i ≠ j.val → j.val < x.weights.length →
         (x.run clocks).counters.getD i 0 + x.margin ≤ (x.run clocks).counters.getD j 0 →
         ∃ t y, exec (.arbPreempt d a clocks j) s = .next t ∧ t.arb d a = some (row, y) ∧ y.holder = none ∧
           y.preempts = min (x.preempts + 1) (2 ^ 32 - 1) ∧ { t with arbs := s.arbs } = s) ∧
       (row.1 = .large → s.emergencyOk d a = true →
         ∃ t y, exec (.arbEmergency d a clocks none) s = .next t ∧ t.arb d a = some (row, y) ∧
           y.holder = some { req := none, held := 0, xfer := none } ∧
           y.preempts = min (x.preempts + 1) (2 ^ 32 - 1) ∧ { t with arbs := s.arbs } = s) ∧
       (row.1 ≠ .large ∨ s.emergencyOk d a = false →
         ∃ t y, exec (.arbEmergency d a clocks none) s = .next t ∧ t.arb d a = some (row, y) ∧
           y.holder = some { g with held := g.held + clocks } ∧ y.preempts = x.preempts ∧
           { t with arbs := s.arbs } = s) ∧
       (31 < a.val → x.limits.getD i 0 < g.held + clocks →
         ∀ e, e = s.qcmDie d (decide (a.val ≤ 40)) →
         ∃ t y, exec (.arbCutoff d a clocks) s = .next t ∧ t.arb d a = some (row, y) ∧ y.holder = none ∧
           bitOf y.masked i = 1 ∧ bitOf y.flags i = 1 ∧ y.cutoffs = min (x.cutoffs + 1) 0xFFFF ∧
           t.get (QCM_INT_STATUS.cutoff e) = 1 ∧ t.posts.length = s.posts.length + 1 ∧
           RegsBut [QCM_INT_STATUS.cutoff e] s t) ∧
       (g.held + clocks ≤ x.limits.getD i 0 →
         ∃ t y, exec (.arbCutoff d a clocks) s = .next t ∧ t.arb d a = some (row, y) ∧
           y.holder = some { g with held := g.held + clocks } ∧
           (i < x.counters.length → y.counters.getD i 0 = max (-(2 ^ 23)) (x.counters.getD i 0 - clocks)) ∧
           { t with arbs := s.arbs } = s) ∧
       (∀ who : Privileged, s.privileged who a i = false →
         ∃ t y, exec (.arbWithdraw d a clocks who 0 false none) s = .next t ∧ t.arb d a = some (row, y) ∧
           y.holder = some { g with held := g.held + clocks } ∧ { t with arbs := s.arbs } = s) ∧
       (∀ (who : Privileged) (e : DieId), s.privileged who a i = true → e = s.qcmDie d (decide (a.val ≤ 40)) →
         ∃ t y, exec (.arbWithdraw d a clocks who 0 false none) s = .next t ∧ t.arb d a = some (row, y) ∧
           y.holder = none ∧
           t.get (QCM_WITHDRAWALS.count e) = min (s.get (QCM_WITHDRAWALS.count e) + 1) (2 ^ 32 - 1) ∧
           RegsBut [QCM_WITHDRAWALS.count e] s t))

/-- R287, R303, R305, R307: a frame that fails its check or format is counted in RAD_RX_BAD and nothing else happens;
a frame of a node's kind that does not open under its key, comes from a node that is not joined, or repeats a
counter, is counted in RAD_SEC_FAIL and signalled and nothing else happens; a radio out of service takes in
nothing. R309, R313, R314: a good report of a joined node with a fresh counter and a new sequence number becomes
one data-plane input, which reaches every endpoint bound to its origin, is counted, and marks the node heard in
the cycle; one whose sequence number is that of the node's last frame is counted as a duplicate and makes no
input. Readings and choices of the model: log entry 29. -/
def Obligations.RadioFramesBecomeInputs : Prop :=
  (∀ (r : Fin 4) (f : RxFrame) (gs : List NodeGrant) (s : State) (c : Instr) (kind : Nat),
       (s.get (RAD_CTRL.enable r) = 1 → s.radioHeadOf r f = none →
         ∃ t, exec (.radioBadFrame r f) s = .next t ∧
           t.get (RAD_RX_BAD.count r) = min (s.get (RAD_RX_BAD.count r) + 1) (2 ^ 32 - 1) ∧
           OnlyRegs [RAD_RX_BAD.count r] s t) ∧
       (s.get (RAD_CTRL.enable r) = 0 → exec (.radioBadFrame r f) s = .next s) ∧
       ((c = .report r f ∧ kind = 2 ∨ c = .grantRequest r f gs ∧ kind = 7 ∨ c = .repairRequest r f ∧ kind = 7 ∨
         c = .rehomeRequest r f gs ∧ kind = 7) →
       (s.get (RAD_CTRL.enable r) = 0 → exec c s = .next s) ∧
       (s.get (RAD_CTRL.enable r) = 1 → s.radioHeadOf r f = none →
         ∃ t, exec c s = .next t ∧ t.get (RAD_RX_BAD.count r) = min (s.get (RAD_RX_BAD.count r) + 1) (2 ^ 32 - 1) ∧
           OnlyRegs [RAD_RX_BAD.count r] s t) ∧
       (∀ h, s.get (RAD_CTRL.enable r) = 1 → s.radioHeadOf r f = some h → h.toModule = true →
         h.kind = kind → h.key ≠ 2 →
         (s.openFrame h.key h.src (s.node h.src).eui h.counter h.auth h.sealed_ = none ∨
           (s.node h.src).joined = false ∨
           (s.node h.src).counterOk (s.counterOf h.key h.src h.counter h.auth h.sealed_) h.counter = false) →
         ∃ t, exec c s = .next t ∧
           t.get (RAD_SEC_FAIL.count r) = min (s.get (RAD_SEC_FAIL.count r) + 1) (2 ^ 32 - 1) ∧
           t.get (RAD_INT_STATUS.sec_fail r) = 1 ∧
           OnlyRegs [RAD_SEC_FAIL.count r, RAD_INT_STATUS.sec_fail r] s t))) ∧
  (∀ (r : Fin 4) (f : RxFrame) (h : RxHead) (body : List Byte) (s : State), HearsFrame s r 2 f h body →
       ∃ t, exec (.report r f) s = .next t ∧ (t.node h.src).lastHeard = s.clk.cycle % 2 ^ 32 ∧
         (t.node h.src).rxSeq = some h.seq ∧ (t.node h.src).joined = true ∧
         ((s.node h.src).rxSeq ≠ some h.seq →
           (∃ ins, t.inputs = s.inputs ++ [ins ++ [.report ((s.die s.stageDie).boundTo h.origin)]]) ∧
           t.get (RAD_RX_FRAMES.count r) = (s.get (RAD_RX_FRAMES.count r) + 1) % 2 ^ 32 ∧
           t.get (RAD_DUPLICATES.count r) = s.get (RAD_DUPLICATES.count r)) ∧
         ((s.node h.src).rxSeq = some h.seq →
           t.inputs = s.inputs ∧
           t.get (RAD_DUPLICATES.count r) = min (s.get (RAD_DUPLICATES.count r) + 1) (2 ^ 32 - 1) ∧
           t.get (RAD_RX_FRAMES.count r) = s.get (RAD_RX_FRAMES.count r)) ∧
         t.objs = s.objs ∧ t.dieA = s.dieA ∧ t.dieB = s.dieB)

/-- R301, R302, R318, R321, R327, R328: a grant request (code 0) gives the node grants of the active version, and the
grant frame waits; a rehome request (code 2) moves the node to this radio with grants there, beneath the module
when it is heard itself; a repair request (code 1) for a generation that announced a cancellation to it is
answered with that cancel, late once the cue's stamp has passed, and counted. The grants that the scheduler
admits collide with none of another node and none of each other. R305, R307, R314, R318, R319: a join request
that opens under the join key of its EUI-64, from a node that the module does not know, within the depth limit
and toward a parent there, gives it the free address: its key joins the link table, the join response waits, the
join is signalled. One that does not open is counted in RAD_SEC_FAIL; one heard directly that repeats the last
sequence of its EUI-64 is counted as a duplicate and joins nothing. Readings and choices of the model: log
entries 30, 33. -/
def Obligations.RadioNodesJoinAndAskForGrants : Prop :=
  ((∀ (r : Fin 4) (f : RxFrame) (gs : List NodeGrant) (h : RxHead) (body : List Byte) (s : State),
       HearsFrame s r 7 f h body → (s.node h.src).rxSeq ≠ some h.seq → (s.node h.origin).joined = true →
       (leAt body 0 1 = 0 → ∃ t, exec (.grantRequest r f gs) s = .next t ∧
         Granted t h.origin r (s.get (RAD_STATUS.act_ver r)) gs ∧
         t.get (RAD_RX_FRAMES.count r) = (s.get (RAD_RX_FRAMES.count r) + 1) % 2 ^ 32) ∧
       (leAt body 0 1 = 2 → ∃ t, exec (.rehomeRequest r f gs) s = .next t ∧
         Granted t h.origin r (s.get (RAD_STATUS.act_ver r)) gs ∧
         (h.src = h.origin → (t.node h.origin).parent = 0) ∧
         t.get (RAD_RX_FRAMES.count r) = (s.get (RAD_RX_FRAMES.count r) + 1) % 2 ^ 32) ∧
       (∀ g, leAt body 0 1 = 1 → Tbl.get none (s.radio r).gens (leAt body 1 1) = some g → g.cancel = true →
         g.node = none ∨ g.node = some h.origin →
         ∃ t, exec (.repairRequest r f) s = .next t ∧
           (∃ x ∈ t.txQueue (s.node h.origin).transport, x.kind = 5 ∧ x.dest = some h.origin ∧
             x.body = cancelBody (leAt body 1 1) g.id (decide (g.stamp ≤ s.clk.cycle))) ∧
           (t.node h.origin).repairs = (s.node h.origin).repairs + 1 ∧
           t.get (RAD_REPAIRS.count r) = min (s.get (RAD_REPAIRS.count r) + 1) (2 ^ 32 - 1))) ∧
     (∀ (s : State) (n t : Nat) (gs : List NodeGrant),
       (∀ g ∈ s.takeable n t gs, g ∈ gs ∧ grantOk g = true ∧ ∀ o ∈ s.grantsBut t n, grantsCollide g o = false) ∧
       (s.takeable n t gs).Pairwise fun a b => grantsCollide b a = false)) ∧
  (∀ (r : Fin 4) (f : RxFrame) (eui : BitVec 64) (gs : List NodeGrant) (h : RxHead) (s : State),
       s.get (RAD_CTRL.enable r) = 1 → s.radioHeadOf r f = some h → h.toModule = true →
       h.kind = 8 → h.key = 2 →
       (∀ (body : List Byte) (a : Nat), s.openFrame 2 h.src eui.toNat h.counter h.auth h.sealed_ = some body →
         (JoinReq.ofBytes body).eui = eui.toNat → s.addressOf eui.toNat = none → s.freeAddress = some a →
         (if h.origin = 0 then 1 else (s.node h.origin).depth + 1) ≤ s.obj 0x500B 0 →
         s.parentOk r h.origin = true →
         (h.src = 0 → Tbl.get 0 (s.radio r).joinSeq eui.toNat ≠ 1 + h.seq) →
         (h.src ≠ 0 → (s.node h.src).joined = true ∧ (s.node h.src).rxSeq ≠ some h.seq) →
         ∃ t, exec (.joinRequest r f eui gs) s = .next t ∧ Joined s t a eui.toNat r h.origin ∧
           t.get (RAD_INT_STATUS.join r) = 1 ∧
           t.get (RAD_RX_FRAMES.count r) = (s.get (RAD_RX_FRAMES.count r) + 1) % 2 ^ 32) ∧
       (s.openFrame 2 h.src eui.toNat h.counter h.auth h.sealed_ = none →
         ∃ t, exec (.joinRequest r f eui gs) s = .next t ∧
           t.get (RAD_SEC_FAIL.count r) = min (s.get (RAD_SEC_FAIL.count r) + 1) (2 ^ 32 - 1) ∧
           t.get (RAD_INT_STATUS.sec_fail r) = 1 ∧ OnlyRegs [RAD_SEC_FAIL.count r, RAD_INT_STATUS.sec_fail r] s t) ∧
       (∀ body, s.openFrame 2 h.src eui.toNat h.counter h.auth h.sealed_ = some body →
         (JoinReq.ofBytes body).eui = eui.toNat → s.addressOf eui.toNat = none → h.src = 0 →
         Tbl.get 0 (s.radio r).joinSeq eui.toNat = 1 + h.seq →
         ∃ t, exec (.joinRequest r f eui gs) s = .next t ∧ t.nodes = s.nodes ∧ t.link = s.link ∧
           t.get (RAD_DUPLICATES.count r) = min (s.get (RAD_DUPLICATES.count r) + 1) (2 ^ 32 - 1) ∧
           t.get (RAD_RX_FRAMES.count r) = s.get (RAD_RX_FRAMES.count r)))

/-- R267, R308, R313, R315, R325: an acknowledgement of the frame sent ends it and returns its hop to short mode;
where none comes the frame is queued again with one more retry, counted, and at the retry limit, or once the
radio has drained, dropped, counted and signalled. A rendezvous without acknowledgement is counted at the hop,
and the second in a row switches it to its miss mode. Without a frame in flight nothing happens. R299, R300: a
swap request that names the inactive version, with the table in form and no grant in conflict, is pending for the
superframe 4 ahead; any other is refused, counted and signalled. An access to RAD_SLOT_DATA moves the index on by
one, modulo 512: a read returns the entry of the selected bank, a write puts the kind and the double bit into the
inactive one, and into the active one is the violation of kind 9. R290, R292, R293, R295, R297, R304, R308: in
slot 0 of a superframe whose entry is a beacon the module sends one beacon frame with a fresh frame counter, in
the channel of the slot, on a radio in service and a clock in LOCKED; one that does not fit the slot is deferred
and counted. In a broadcast slot the waiting broadcast leaves with the next broadcast sequence number, and waits
again while copies are left. An empty slot sends nothing; once a power failure or a restart has begun no frame
leaves (R703), and a slot starts only in its own eighth of the cycle. Readings and choices of the model: log
entry 34. -/
def Obligations.RadioSendsByItsTables : Prop :=
  (∀ (r : Fin 4) (s : State),
       ((s.radio r).flight = none → exec (.ackMissing r) s = .next s) ∧
       (∀ fl : Flight, (s.radio r).flight = some fl →
       (∀ f : RxFrame, f.phyOk = true → fcsOk f.psdu = true → f.psdu.length = 6 → leAt f.psdu 0 1 / 16 = 1 →
         leAt f.psdu 1 1 = fl.seq →
         ∃ t, exec (.acknowledgement r f) s = .next t ∧ (t.radio r).flight = none ∧
           (t.node fl.hop).missRun = 0 ∧ (t.node fl.hop).longPre = false ∧ (t.node fl.hop).repeated = false ∧
           t.get (RAD_RX_FRAMES.count r) = (s.get (RAD_RX_FRAMES.count r) + 1) % 2 ^ 32 ∧
           RegsBut [RAD_RX_FRAMES.count r] s t) ∧
       (∀ n, n = (fl.items.map TxItem.retries).foldl max 0 → fl.rendezvous = false →
         (n < s.get (RAD_RETRY.limit r) → s.get (RAD_CTRL.drained r) = 0 →
           ∃ t, exec (.ackMissing r) s = .next t ∧ (t.radio r).flight = none ∧
             t.get (RAD_RETRIES.count r) = min (s.get (RAD_RETRIES.count r) + 1) (2 ^ 32 - 1) ∧
             (∀ y ∈ fl.items, y.kind ≠ 3 →
               { y with retries := n + 1, copies := 1, seq := some fl.seq } ∈ (t.radio r).queue) ∧
             (∀ y ∈ (s.radio r).queue, y ∈ (t.radio r).queue) ∧
             (t.node fl.node).retries = (s.node fl.node).retries + 1 ∧ RegsBut [RAD_RETRIES.count r] s t) ∧
         (s.get (RAD_RETRY.limit r) ≤ n ∨ s.get (RAD_CTRL.drained r) = 1 →
           ∃ t, exec (.ackMissing r) s = .next t ∧ (t.radio r).flight = none ∧
             (t.radio r).queue = (s.radio r).queue ∧
             t.get (RAD_DROPS.count r) = min (s.get (RAD_DROPS.count r) + 1) (2 ^ 32 - 1) ∧
             t.get (RAD_INT_STATUS.drop r) = 1 ∧
             RegsBut [RAD_DROPS.count r, RAD_INT_STATUS.drop r] s t)) ∧
       (fl.rendezvous = true →
         ∃ t, exec (.ackMissing r) s = .next t ∧ (t.radio r).flight = none ∧
           t.get (RAD_RDV_MISSED.count r) = min (s.get (RAD_RDV_MISSED.count r) + 1) (2 ^ 32 - 1) ∧
           (t.node fl.hop).missRun = (s.node fl.hop).missRun + 1 ∧
           ((s.node fl.hop).missRun = 1 → t.get (RAD_INT_STATUS.long_mode r) = 1 ∧
             ((t.node fl.hop).repeated = true ↔ leAt (s.node fl.hop).sleep 2 1 = 1) ∧
             (t.node fl.hop).longPre = !(t.node fl.hop).repeated)))) ∧
  ((∀ (r : Fin 4) (v : BitVec 8) (s : State),
       (v.toNat = s.get (RAD_STATUS.inact_ver r) → (s.radio r).swapBy = none →
         s.slotTableOk r (s.radio r) = true → s.swapConflict r (s.radio r) = false →
         ∃ t, exec (.slotTableSwap r v) s = .next t ∧ (t.radio r).swapBy = some (superframe s.clk.cycle + 4) ∧
           t.get (RAD_STATUS.swap_pending r) = 1 ∧ (t.radio r).active = (s.radio r).active ∧
           RegsBut [RAD_STATUS.swap_pending r] s t) ∧
       (v.toNat ≠ s.get (RAD_STATUS.inact_ver r) ∨ (s.radio r).swapBy ≠ none ∨ s.slotTableOk r (s.radio r) = false ∨
           s.swapConflict r (s.radio r) = true →
         ∃ t, exec (.slotTableSwap r v) s = .next t ∧ t.get (RAD_INT_STATUS.swap_refused r) = 1 ∧
           t.radio r = { s.radio r with swapRefused := (s.radio r).swapRefused + 1 } ∧
           RegsBut [RAD_INT_STATUS.swap_refused r] s t)) ∧
     (∀ (p : Port) (r : Fin 4) (s : State), p ≠ .host → s.power.on = true →
       (∃ t, exec (.slotDataAccess p r none) s = .next t ∧
         t.out = s.out ++ [.regRead p (radBase r + 0x34) (BitVec.ofNat 32 (s.slotWord r))] ∧
         t.get (RAD_SLOT_ADDR.index r) = (s.get (RAD_SLOT_ADDR.index r) + 1) % 512 ∧
         RegsBut [RAD_SLOT_ADDR.index r] s t) ∧
       (∀ w : Word, s.get (RAD_SLOT_ADDR.bank r) = 0 →
         ∃ t, exec (.slotDataAccess p r (some w)) s = .next t ∧
           Tbl.get 0 (t.radio r).inactive (s.get (RAD_SLOT_ADDR.index r)) = w.toNat / 2 ^ 27 * 2 ^ 27 ∧
           (t.radio r).active = (s.radio r).active ∧
           t.get (RAD_SLOT_ADDR.index r) = (s.get (RAD_SLOT_ADDR.index r) + 1) % 512 ∧
           RegsBut [RAD_SLOT_ADDR.index r] s t) ∧
       (∀ w : Word, s.get (RAD_SLOT_ADDR.bank r) = 1 →
         exec (.slotDataAccess p r (some w)) s = .next (s.violate (apronWrite p (radBase r + 0x34)) vkRule)))) ∧
  (∀ (r : Fin 4) (s : State),
       (s.get (RAD_CTRL.enable r) = 1 → s.shed = false → s.get CYC_STATUS.state = stLOCKED →
         s.clk.cycle % 64 = 0 → slotKind (s.slotEntry r 0) = 1 → s.phase / 128 = 0 → (s.radio r).tx.2 ≤ s.now →
         (s.fitsNow (s.slotNeed r 26 false 0) (if slotDouble (s.slotEntry r 0) then 2 else 1) = true →
           ∃ (t : State) (psdu : List Byte), exec (.radioSlotStart r 0) s = .next t ∧
           t.out = s.out ++ [.radio r (s.inSlot r 0) psdu] ∧ t.frameCounter = s.frameCounter + 1 ∧
           t.get (RAD_TX_FRAMES.count r) = (s.get (RAD_TX_FRAMES.count r) + 1) % 2 ^ 32 ∧
           (t.radio r).bcastSeq = ((s.radio r).bcastSeq + 1) % 256 ∧ (t.radio r).queue = (s.radio r).queue) ∧
         (s.fitsNow (s.slotNeed r 26 false 0) (if slotDouble (s.slotEntry r 0) then 2 else 1) = false →
           ∃ t, exec (.radioSlotStart r 0) s = .next t ∧ t.out = s.out ∧ t.frameCounter = s.frameCounter ∧
           t.get (RAD_DEFERS.count r) = min (s.get (RAD_DEFERS.count r) + 1) (2 ^ 32 - 1))) ∧
       (∀ j : Fin 8, s.shed = true ∨ s.phase / 128 ≠ j → exec (.radioSlotStart r j) s = .next s) ∧
       (∀ j : Fin 8, s.shed = false → s.get (RAD_CTRL.enable r) = 1 → s.get CYC_STATUS.state = stLOCKED →
         s.get (RAD_STATUS.ghost_beacons r) = 0 → s.slotIndex j ≠ 0 → s.phase / 128 = j → (s.radio r).tx.2 ≤ s.now →
         (slotKind (s.slotEntry r (s.slotIndex j)) = 0 →
           ∃ t, exec (.radioSlotStart r j) s = .next t ∧ t.out = s.out ∧ t.frameCounter = s.frameCounter ∧
           t.regs = s.regs ∧ t.radio r = { s.radio r with power := s.get (RAD_PHY.power r) }) ∧
         (∀ y : TxItem, slotKind (s.slotEntry r (s.slotIndex j)) = 5 → s.campaign.on = false →
           (s.radio r).queue = [y] → y.dest = none → y.kind ≠ 9 → y.seq = none → s.dutyFull r = false →
           s.fitsNow (s.slotNeed r (15 + y.body.length) false 0)
             (if slotDouble (s.slotEntry r (s.slotIndex j)) then 2 else 1) = true →
           ∃ (t : State) (psdu : List Byte), exec (.radioSlotStart r j) s = .next t ∧
             t.out = s.out ++ [.radio r (s.inSlot r j) psdu] ∧ t.frameCounter = s.frameCounter + 1 ∧
             (t.radio r).bcastSeq = ((s.radio r).bcastSeq + 1) % 256 ∧
             (y.copies ≤ 1 → (t.radio r).queue = []) ∧
             (1 < y.copies → (t.radio r).queue =
               [{ y with copies := y.copies - 1, seq := some (s.radio r).bcastSeq }]) ∧
             t.get (RAD_TX_FRAMES.count r) = (s.get (RAD_TX_FRAMES.count r) + 1) % 2 ^ 32)))

/-- R311, R327, R328, R330, R334: a planned leave sets leaving and lasts 128 cycles, after which the radio clears its
enable and drains; a failed radio does so at once, and is recorded; the nodes of either move at the next
superframe boundary. A node that is told to leave is sent node command 4 and its address and grants are freed. -/
def Obligations.RadiosAndNodesLeave : Prop :=
  (∀ (r : Fin 4) (s : State),
    (s.get (RAD_CTRL.enable r) = 1 → s.get (RAD_CTRL.leaving r) = 0 →
      ∃ t, exec (.radioLeave r) s = .next t ∧ (t.radio r).leaveBy = some (s.clk.cycle + 128) ∧
        (t.radio r).moveTo = some (some (s.get (RAD_CTRL.leave_to r))) ∧
        t.get (RAD_CTRL.leaving r) = 1 ∧ t.get (RAD_CTRL.enable r) = 1 ∧
        RegsBut [RAD_CTRL.leave r, RAD_CTRL.leaving r] s t) ∧
    (∀ c, (s.radio r).leaveBy = some c →
      (c ≤ s.clk.cycle → ∃ t, exec (.radioLeaveEnd r) s = .next t ∧ t.get (RAD_CTRL.enable r) = 0 ∧
        t.get (RAD_CTRL.leaving r) = 0 ∧ (t.radio r).leaveBy = none ∧ (t.radio r).queue = (s.radio r).queue) ∧
      (s.clk.cycle < c → exec (.radioLeaveEnd r) s = .next s)) ∧
    (∃ t, exec (.radioFailure r) s = .next t ∧ t.get (RAD_CTRL.enable r) = 0 ∧
      t.posts.length = s.posts.length + 1 ∧ (t.radio r).moveTo = some none ∧ (t.radio r).queue = (s.radio r).queue ∧
      RegsBut [RAD_CTRL.enable r, RAD_CTRL.leave r, RAD_CTRL.leaving r] s t)) ∧
  (∀ (n : BitVec 16) (s : State),
    ((s.node n.toNat).joined = true → ∃ t, exec (.nodeLeave n) s = .next t ∧
      (t.node n.toNat).joined = false ∧ (t.node n.toNat).grants = [] ∧
      (∃ x ∈ t.txQueue (s.node n.toNat).transport, x.kind = 11 ∧ x.dest = some n.toNat ∧ x.body = leBytes 1 4) ∧
      t.regs = s.regs) ∧
    ((s.node n.toNat).joined = false → exec (.nodeLeave n) s = .next s))

/-- R303, R305, R307, R352, R354: a port out of service takes in nothing; a frame that fails its check or format is
counted in PLC_RX_BAD and nothing else happens; one that does not open, comes from a node that is not joined, or
repeats a counter, is counted in PLC_SEC_FAIL and signalled and nothing else happens. A good report waits for its
entry in the next acknowledgement frame; with a new sequence number it becomes one data-plane input, with the
last one it is counted as a duplicate and is not applied. R302, R314, R321, R349, R358, R360: a powerline grant
request of code 0 gives the node grants of the plan in force, one of code 2 moves the node to the port with its
grants, and one of code 1 for a generation that announced a cancellation to it is answered with that cancel and
counted; a repeated frame does nothing more. A join request that opens under its join key, from a node the module
does not know, gives it the free address, without relays; one that repeats the last sequence of its EUI-64 is
counted as a duplicate and joins nothing. Readings and choices of the model: log entries 29, 30, 33. -/
def Obligations.PowerlineFramesAreCheckedAndServed : Prop :=
  ((∀ (p : Fin 2) (f : RxFrame) (gs : List NodeGrant) (eui : BitVec 64) (s : State) (c : Instr) (kind : Nat),
       (c = .plcReport p f ∧ kind = 2 ∨ c = .plcGrantRequest p f gs ∧ kind = 7 ∨
         c = .plcJoinRequest p f eui gs ∧ kind = 8) →
       (s.get (PLC_CTRL.enable p) = 0 → exec c s = .next s) ∧
       (s.get (PLC_CTRL.enable p) = 1 → s.plcHeadOf p f = none →
         ∃ t, exec c s = .next t ∧ t.get (PLC_RX_BAD.count p) = min (s.get (PLC_RX_BAD.count p) + 1) (2 ^ 32 - 1) ∧
           OnlyRegs [PLC_RX_BAD.count p] s t) ∧
       (∀ h, kind < 8 → s.get (PLC_CTRL.enable p) = 1 → s.plcHeadOf p f = some h → h.toModule = true →
         h.kind = kind → h.key = 0 →
         (s.openFrame 0 h.src (s.node h.src).eui h.counter h.auth h.sealed_ = none ∨
           (s.node h.src).joined = false ∨ (s.node h.src).counterOk 0 h.counter = false) →
         ∃ t, exec c s = .next t ∧
           t.get (PLC_SEC_FAIL.count p) = min (s.get (PLC_SEC_FAIL.count p) + 1) (2 ^ 32 - 1) ∧
           t.get (PLC_INT_STATUS.sec_fail p) = 1 ∧
           OnlyRegs [PLC_SEC_FAIL.count p, PLC_INT_STATUS.sec_fail p] s t)) ∧
     (∀ (p : Fin 2) (f : RxFrame) (h : RxHead) (body : List Byte) (s : State), HearsOnLine s p 2 f h body →
       ∃ t, exec (.plcReport p f) s = .next t ∧ (t.node h.src).lastHeard = s.clk.cycle % 2 ^ 32 ∧
         (t.node h.src).rxSeq = some h.seq ∧
         t.get (PLC_RX_FRAMES.count p) = (s.get (PLC_RX_FRAMES.count p) + 1) % 2 ^ 32 ∧
         (∃ o, (t.plc p).acks = (s.plc p).acks ++ [(h.src, h.seq, o)]) ∧
         (∀ g ∈ (t.plc p).groups, ¬ (g.node = h.src ∧ g.seq = leAt body 0 1)) ∧
         ((s.node h.src).rxSeq ≠ some h.seq →
           (∃ ins, t.inputs = s.inputs ++ [ins ++ [.report ((s.die s.stageDie).boundTo h.src)]]) ∧
           t.get (PLC_DUPLICATES.count p) = s.get (PLC_DUPLICATES.count p)) ∧
         ((s.node h.src).rxSeq = some h.seq → t.inputs = s.inputs ∧
           t.get (PLC_DUPLICATES.count p) = min (s.get (PLC_DUPLICATES.count p) + 1) (2 ^ 32 - 1)) ∧
         t.objs = s.objs)) ∧
  ((∀ (p : Fin 2) (f : RxFrame) (gs : List NodeGrant) (h : RxHead) (body : List Byte) (s : State),
       HearsOnLine s p 7 f h body →
       ((s.node h.src).rxSeq ≠ some h.seq → leAt body 0 1 = 0 ∨ leAt body 0 1 = 2 →
         ∃ t, exec (.plcGrantRequest p f gs) s = .next t ∧
           Granted t h.src (4 + p.val) (s.get (PLC_STATUS.plan_ver p)) gs ∧
           (leAt body 0 1 = 2 → (t.node h.src).parent = 0) ∧
           t.get (PLC_RX_FRAMES.count p) = (s.get (PLC_RX_FRAMES.count p) + 1) % 2 ^ 32) ∧
       (∀ g, (s.node h.src).rxSeq ≠ some h.seq → leAt body 0 1 = 1 →
         Tbl.get none (s.plc p).gens (leAt body 1 1) = some g → g.cancel = true → g.node = none ∨ g.node = some h.src →
         ∃ t, exec (.plcGrantRequest p f gs) s = .next t ∧
           (∃ x ∈ t.txQueue (s.node h.src).transport, x.kind = 5 ∧ x.dest = some h.src ∧
             x.body = cancelBody (leAt body 1 1) g.id (decide (g.stamp ≤ s.clk.cycle))) ∧
           t.get (PLC_REPAIRS.count p) = min (s.get (PLC_REPAIRS.count p) + 1) (2 ^ 32 - 1)) ∧
       ((s.node h.src).rxSeq = some h.seq →
         ∃ t, exec (.plcGrantRequest p f gs) s = .next t ∧ t.plcs = s.plcs ∧
           (t.node h.src).grants = (s.node h.src).grants ∧
           t.get (PLC_DUPLICATES.count p) = min (s.get (PLC_DUPLICATES.count p) + 1) (2 ^ 32 - 1))) ∧
     (∀ (p : Fin 2) (f : RxFrame) (eui : BitVec 64) (gs : List NodeGrant) (h : RxHead) (body : List Byte) (a : Nat)
       (s : State), s.get (PLC_CTRL.enable p) = 1 → s.plcHeadOf p f = some h → h.toModule = true →
       h.kind = 8 → h.key = 2 → s.openFrame 2 h.src eui.toNat h.counter h.auth h.sealed_ = some body →
       (JoinReq.ofBytes body).eui = eui.toNat → s.addressOf eui.toNat = none →
       (Tbl.get 0 (s.plc p).joinSeq eui.toNat ≠ 1 + h.seq → s.freeAddress = some a → 1 ≤ s.obj 0x500B 0 →
         ∃ t, exec (.plcJoinRequest p f eui gs) s = .next t ∧ Joined s t a eui.toNat (4 + p.val) 0 ∧
           (t.node a).depth = 1 ∧ t.get (PLC_INT_STATUS.join p) = 1 ∧
           t.get (PLC_RX_FRAMES.count p) = (s.get (PLC_RX_FRAMES.count p) + 1) % 2 ^ 32) ∧
       (Tbl.get 0 (s.plc p).joinSeq eui.toNat = 1 + h.seq →
         ∃ t, exec (.plcJoinRequest p f eui gs) s = .next t ∧ t.nodes = s.nodes ∧ t.link = s.link ∧
           t.get (PLC_DUPLICATES.count p) = min (s.get (PLC_DUPLICATES.count p) + 1) (2 ^ 32 - 1) ∧
           RegsBut [PLC_DUPLICATES.count p] s t)))

/-- R339, R341, R342, R347, R352, R357: a window that starts while the line is held is covered, a window starts only
in its own quarter of the cycle, and no frame starts once the module is shedding its load. In a broadcast window
with nothing waiting the port sends one sync frame, at the level that its attenuation gives, when it fits its run
at the measured period, and otherwise counts a defer and sends nothing. In an acknowledgement window it sends the
entries that wait; in an idle or covered window nothing leaves. R353: a down group that is not confirmed waits
for the next bundle with its down sequence, and its node is counted one more retry; at the retry limit, or once
the port has drained (R267), it is discarded, counted in PLC_DROPS and signalled; without a group nothing
happens. R345, R359, R360: a planned leave of a port on a shared line and band sets leaving and lasts 128 cycles;
on a line of its own the port clears its enable at once, as a line fault does on any port, which also raises
line_fault, posts a record, and moves its nodes to the other port of a shared line at the next superframe
boundary; the waiting frames stay for the drain. A read of PLC_PLAN_DATA returns the entry at the index, which
moves on by one, modulo 256. Readings and choices of the model: log entry 34. -/
def Obligations.PowerlineSendsByThePlan : Prop :=
  (∀ (p : Fin 2) (w : Fin 4) (s : State),
       (s.shed = true ∨ s.now < (s.plc p).heldUntil ∨ s.phase / 256 ≠ w → exec (.plcWindowStart p w) s = .next s) ∧
       (s.shed = false → s.get (PLC_CTRL.enable p) = 1 → (s.plc p).heldUntil ≤ s.now → s.phase / 256 = w →
         s.get CYC_STATUS.state = stLOCKED → s.get (PLC_STATUS.ghost_sync p) = 0 →
         ∀ e, e = Tbl.get 0 (s.plc p).plan (s.windowIndex w) →
         (planKind e = 1 → s.campaign.on = false → (s.plc p).queue = [] →
           (s.plcRun p 26 ≤ min (planRun e) 32 ∧ s.plcFitsNow p 26 (s.plcRun p 26) = true →
             ∃ (t : State) (b : List Byte), exec (.plcWindowStart p w) s = .next t ∧
               t.out = s.out ++ [.powerline p (s.get (PLC_PHY.atten p)) b] ∧ t.frameCounter = s.frameCounter + 1 ∧
               (t.plc p).heldUntil = s.now + 25 * s.plcHold p b.length ∧
               t.get (PLC_STATUS.line_held p) = 1 ∧
               t.get (PLC_TX_FRAMES.count p) = (s.get (PLC_TX_FRAMES.count p) + 1) % 2 ^ 32) ∧
           (¬ (s.plcRun p 26 ≤ min (planRun e) 32 ∧ s.plcFitsNow p 26 (s.plcRun p 26) = true) →
             ∃ t, exec (.plcWindowStart p w) s = .next t ∧ t.out = s.out ∧ t.frameCounter = s.frameCounter ∧
               t.get (PLC_STATUS.line_held p) = 0 ∧
               t.get (PLC_DEFERS.count p) = min (s.get (PLC_DEFERS.count p) + 1) (2 ^ 32 - 1))) ∧
         (∀ x, planKind e = 2 → (s.plc p).acks = [x] → s.plcRun p 32 ≤ min (planRun e) 32 →
           s.plcFitsNow p 32 (s.plcRun p 32) = true →
           ∃ (t : State) (b : List Byte), exec (.plcWindowStart p w) s = .next t ∧
             t.out = s.out ++ [.powerline p (s.get (PLC_PHY.atten p)) b] ∧ (t.plc p).acks = [] ∧ (t.plc p).queue = (s.plc p).queue) ∧
         (planKind e = 0 ∨ planKind e = 6 →
           ∃ t, exec (.plcWindowStart p w) s = .next t ∧ t.get (PLC_STATUS.line_held p) = 0 ∧
             OnlyRegs [PLC_STATUS.line_held p, PLC_STATUS.ghost_sync p] s t))) ∧
  (∀ (p : Fin 2) (n : BitVec 16) (s : State),
       (∀ g, (s.plc p).groups.find? (fun g => decide (g.node = n.toNat)) = some g →
         (g.repeats < s.get (PLC_RETRY.limit p) → s.get (PLC_CTRL.drained p) = 0 →
           ∃ t, exec (.plcReplyMissing p n) s = .next t ∧
             (∀ h ∈ (t.plc p).groups, h ∈ (s.plc p).groups ∧ h.node ≠ n.toNat) ∧
             (∀ x ∈ (s.plc p).queue, x ∈ (t.plc p).queue) ∧
             (∀ r ∈ g.records, ∃ x ∈ (t.plc p).queue, x.kind = 3 ∧ x.dest = some n.toNat ∧
               x.tag = leAt r 0 1 % 16) ∧
             (∀ x ∈ (t.plc p).queue, x ∉ (s.plc p).queue → x.seq = some g.seq ∧ x.retries = g.repeats + 1) ∧
             t.get (PLC_RETRIES.count p) = min (s.get (PLC_RETRIES.count p) + 1) (2 ^ 32 - 1) ∧
             (t.node n.toNat).retries = (s.node n.toNat).retries + 1 ∧ RegsBut [PLC_RETRIES.count p] s t) ∧
         (s.get (PLC_RETRY.limit p) ≤ g.repeats ∨ s.get (PLC_CTRL.drained p) = 1 →
           ∃ t, exec (.plcReplyMissing p n) s = .next t ∧ (t.plc p).queue = (s.plc p).queue ∧
             (∀ h ∈ (t.plc p).groups, h.node ≠ n.toNat) ∧
             t.get (PLC_DROPS.count p) = min (s.get (PLC_DROPS.count p) + 1) (2 ^ 32 - 1) ∧
             t.get (PLC_INT_STATUS.drop p) = 1 ∧
             RegsBut [PLC_DROPS.count p, PLC_INT_STATUS.drop p] s t)) ∧
       ((∀ g ∈ (s.plc p).groups, g.node ≠ n.toNat) → exec (.plcReplyMissing p n) s = .next s)) ∧
  ((∀ (p : Fin 2) (s : State),
       (s.get (PLC_CTRL.enable p) = 1 → s.get (PLC_CTRL.leaving p) = 0 →
         (s.plcShared = true → ∃ t, exec (.plcLeave p) s = .next t ∧
           (t.plc p).leaveBy = some (s.clk.cycle + 128) ∧ t.get (PLC_CTRL.leaving p) = 1 ∧
           t.get (PLC_CTRL.enable p) = 1 ∧ RegsBut [PLC_CTRL.leave p, PLC_CTRL.leaving p] s t) ∧
         (s.plcShared = false → ∃ t, exec (.plcLeave p) s = .next t ∧ t.get (PLC_CTRL.enable p) = 0 ∧
           (t.plc p).queue = (s.plc p).queue ∧
           RegsBut [PLC_CTRL.enable p, PLC_CTRL.leave p, PLC_CTRL.leaving p] s t)) ∧
       (∃ t, exec (.plcLineFault p) s = .next t ∧ t.get (PLC_CTRL.enable p) = 0 ∧
         t.get (PLC_INT_STATUS.line_fault p) = 1 ∧ t.posts.length = s.posts.length + 1 ∧
         (t.plc p).queue = (s.plc p).queue ∧
         (s.plcShared = true → (t.plc p).moveTo = some (some (5 - p.val))) ∧
         RegsBut [PLC_CTRL.enable p, PLC_CTRL.leave p, PLC_CTRL.leaving p, PLC_INT_STATUS.line_fault p] s t)) ∧
     (∀ (q : Port) (p : Fin 2) (s : State), s.power.on = true →
       ∃ t, exec (.planDataRead q p) s = .next t ∧
         t.out = s.out ++ [.regRead q (plcBase p + 0x14)
           (BitVec.ofNat 32 (Tbl.get 0 (s.plc p).plan (s.get (PLC_PLAN_ADDR.index p))))] ∧
         t.get (PLC_PLAN_ADDR.index p) = (s.get (PLC_PLAN_ADDR.index p) + 1) % 256 ∧
         RegsBut [PLC_PLAN_ADDR.index p] s t ∧ t.plcs = s.plcs))

/-- R47, R369, R370, R380, R382, R383, R386, R387, R394: an enabled chain starts a frame at phase 256 of an even
cycle once the outputs are enabled and while a die drives them: one share for each device, a configure before a
fallback before the levels; the configures sent make way for a fallback of the same position. After a count
request the frame has 512 count shares. In an odd cycle, at another phase, on a disabled chain, before the
outputs are enabled, or with no die on the stage, no frame starts. R378, R380, R381, R388, R389, R394: a return
whose preamble differs, or whose number of bits differs from 24 for each device, is counted and signalled, and
every position of the frame is silent for one frame more; a silent return is neither error. A return of good
words is kept by position. A count frame's return gives the number of devices, or an invalid count. The latch
pulse ends the frame; one that does not return is counted and signalled. Readings and choices of the model: log
entries 38, 39. -/
def Obligations.ChainFramesAndReturnsAreJudged : Prop :=
  ((∀ (n : Fin 16) (s : State), s.get (FLC_CTRL.enable n) = 1 → s.clk.cycle % 2 = 0 → s.phase = 256 →
       s.get MCTL_STATUS.outputs_en = 1 → s.noStage = false →
       (s.get (FLC_CTRL.count n) = 0 → ∃ (t : State) (sh : List (BitVec 80)),
         exec (.chainFrameStart n) s = .next t ∧ t.out = s.out ++ [.chainFrame n sh] ∧
         sh.length = s.get (FLC_CTRL.devices n) ∧
         (∀ (p : Nat) (hp : p < sh.length),
           (p ∈ (s.chain n).configure →
             sh[p] = share (s.get (FLC_CTRL.pwm_bits n)) (s.get (FLC_OTEMP.threshold n)) 0 0 3 0 ∧
             p ∉ (t.chain n).configure ∧ p ∈ (t.chain n).fallback) ∧
           (p ∉ (s.chain n).configure → p ∈ (s.chain n).fallback →
             ∃ a b c d, s.fallbackLevels n p = [a, b, c, d] ∧ sh[p] = share a b c d 2 0 ∧
               p ∉ (t.chain n).fallback) ∧
           (p ∉ (s.chain n).configure → p ∉ (s.chain n).fallback → ((s.chain n).dev p).temp = none →
             ∀ l : Nat → Nat, (∀ k, l k = Tbl.get 0 (s.chain n).levels (4 * p + k)) →
             sh[p] = share (l 0) (l 1) (l 2) (l 3) 0 (s.get (FLC_CTRL.smooth n)))) ∧
         (∃ f, (t.chain n).frame = some f ∧ f.count = false ∧ f.snapshot = (s.chain n).levels) ∧
         (t.chain n).levels = (s.chain n).levels ∧ t.get (FLC_STATUS.in_frame n) = 1 ∧
         t.get (FLC_FRAMES.count n) = (s.get (FLC_FRAMES.count n) + 1) % 2 ^ 32 ∧
         (s.get (FLC_CTRL.align n) = 0 → s.get (FLC_CTRL.devices n) ≤ 512 → s.get (FLC_CTRL.devices n) % 2 = 0 →
           2 * t.get (FLC_LATCH_AT.us n) = 2 * 64 + 105 * s.get (FLC_CTRL.devices n)) ∧
         RegsBut [FLC_STATUS.in_frame n, FLC_FRAMES.count n, FLC_CMDS.count n, FLC_LATCH_AT.us n] s t) ∧
       (s.get (FLC_CTRL.count n) = 1 → ∃ t, exec (.chainFrameStart n) s = .next t ∧
         t.out = s.out ++ [.chainFrame n (List.replicate 512 (share 0 0 0 0 0xE 0))] ∧
         t.get (FLC_LATCH_AT.us n) = 26944 ∧ t.get (FLC_STATUS.in_frame n) = 1 ∧
         RegsBut [FLC_STATUS.in_frame n, FLC_FRAMES.count n, FLC_LATCH_AT.us n] s t)) ∧
     (∀ (n : Fin 16) (s : State), (s.get (FLC_CTRL.enable n) = 0 ∨ s.clk.cycle % 2 = 1 ∨
       s.get MCTL_STATUS.outputs_en = 0 ∨ s.phase ≠ 256 ∨ s.noStage = true) → exec (.chainFrameStart n) s = .next s) ∧
     (∀ (n : Fin 16) (s : State), ∃ t, exec (.chainCountRequest n) s = .next t ∧
       t.get (FLC_CTRL.count n) = 1 ∧ OnlyRegs [FLC_CTRL.count n] s t)) ∧
  ((∀ (n : Fin 16) (r : ChainReturn) (f : ChainFrame) (s : State), (s.chain n).frame = some f →
       (f.count = false →
         (r.silent = true ∨ r.preamble ≠ 0xAC35#16 ∨ r.bits ≠ 24 * f.devices →
           ∃ t, exec (.chainReturnEnd n r) s = .next t ∧ t.get (FLC_STATUS.returned n) = 0 ∧
             (∀ p, p < f.devices → ((t.chain n).dev p).silent = ((s.chain n).dev p).silent + 1 ∧
               ((t.chain n).dev p).word = ((s.chain n).dev p).word) ∧ (t.chain n).frame = none ∧
             (r.silent = true → t.get (FLC_STATUS.frame_error n) = 0 ∧ t.get (FLC_STATUS.length_error n) = 0 ∧
               t.get (FLC_LEN_ERRORS.count n) = s.get (FLC_LEN_ERRORS.count n)) ∧
             (r.silent = false → t.get (FLC_INT_STATUS.frame_error n) = 1 ∧
               t.get (FLC_LEN_ERRORS.count n) = min (s.get (FLC_LEN_ERRORS.count n) + 1) (2 ^ 32 - 1) ∧
               (t.get (FLC_STATUS.frame_error n) = 1 ↔ r.preamble ≠ 0xAC35#16) ∧
               (t.get (FLC_STATUS.length_error n) = 1 ↔ r.preamble = 0xAC35#16))) ∧
         (r.silent = false → r.preamble = 0xAC35#16 → r.bits = 24 * f.devices → r.words.length = f.devices →
           f.devices ≤ 512 → (∀ w ∈ r.words, statusOk w.toNat = true ∧ statusFlag w.toNat 7 = false ∧
             statusFlag w.toNat 6 = false) →
           ∃ t, exec (.chainReturnEnd n r) s = .next t ∧ t.get (FLC_STATUS.returned n) = f.devices ∧
             (∀ (p : Nat) (hp : p < r.words.length), ((t.chain n).dev p).valid = true ∧
               ((t.chain n).dev p).silent = 0 ∧ ((t.chain n).dev p).word = r.words[p].toNat) ∧
             t.get (FLC_STATUS.frame_error n) = 0 ∧ t.get (FLC_STATUS.length_error n) = 0 ∧
             (t.chain n).levels = (s.chain n).levels ∧
             RegsBut [FLC_STATUS.returned n, FLC_STATUS.frame_error n, FLC_STATUS.length_error n] s t)) ∧
       (f.count = true → ∀ b a, b = r.bits → a = (40960 - b) / 56 →
         ∃ t, exec (.chainReturnEnd n r) s = .next t ∧ t.get (FLC_CTRL.count n) = 0 ∧
           t.get (FLC_INT_STATUS.count_done n) = 1 ∧
           (r.silent = false → r.preamble = 0xAC35#16 → b ≤ 40960 → (40960 - b) % 56 = 0 → a ≤ 512 →
             t.get (FLC_COUNT.valid n) = 1 ∧ t.get (FLC_COUNT.devices n) = a) ∧
           ((40960 - b) % 56 ≠ 0 ∨ 512 < a → t.get (FLC_COUNT.valid n) = 0) ∧ t.inputs = s.inputs)) ∧
     (∀ (n : Fin 16) (s : State), (s.get (FLC_STATUS.in_frame n) = 1 → (s.chain n).frame = none →
         ∃ t, exec (.chainLatch n) s = .next t ∧ t.out = s.out ++ [.chainLatch n] ∧
           t.get (FLC_STATUS.in_frame n) = 0 ∧ t.get (FLC_STATUS.latch_seen n) = 1 ∧ t.inputs = s.inputs ∧
           RegsBut [FLC_STATUS.in_frame n, FLC_STATUS.latch_seen n] s t) ∧
       (s.get (FLC_STATUS.in_frame n) = 0 → exec (.chainLatch n) s = .next s) ∧
       (∃ t, exec (.latchMissing n) s = .next t ∧
         t.get (FLC_LATCH_MISSING.count n) = min (s.get (FLC_LATCH_MISSING.count n) + 1) (2 ^ 32 - 1) ∧
         t.get (FLC_INT_STATUS.latch_missing n) = 1 ∧ t.get (FLC_STATUS.latch_seen n) = 0 ∧
         OnlyRegs [FLC_LATCH_MISSING.count n, FLC_INT_STATUS.latch_missing n, FLC_STATUS.latch_seen n] s t)))

/-- R408, R426: from phase 32 on the results of the last window are published by input, signalled, and handed over
once; a period of meter endpoints that ends with this cycle starts its sums anew. Without a window that was
measured, or before phase 32, nothing happens. R423, R424: at the end of an interval the stage holder writes one
record of 64 octets for each enabled feeder under the next sequence numbers, signals them, and a new interval
begins; before its end, or without a stage holder, nothing is written. R432, R433, R434: while the watch runs
each second, in primary mA by the scales that were in force as it started, joins the minute; at a minute end with
flow one record joins the ring, 252 places around, and the header counts it; a minute without flow leaves none;
and when the watch does not run nothing is recorded. Readings and choices of the model: log entries 43, 45, 46. -/
def Obligations.MeteringPublishesAndRecords : Prop :=
  (∀ s : State,
       (s.meter.ready = true → 32 ≤ s.phase →
         ∃ t, exec .meterResultsReady s = .next t ∧ t.meter.ready = false ∧ t.get MTR_INT_STATUS.cycle_ready = 1 ∧
           (Tbl.wf MeterResult.zero s.meter.last = true → ∀ x ∈ s.meter.last, x.2.cycle = s.clk.cycle - 1 →
             Tbl.get MeterResult.zero t.meter.results x.1 = x.2) ∧
           ((s.clk.cycle - 1 + 1) % max 1 (s.obj 0x600A 0) = 0 → t.meter.sums = [] ∧ t.meter.counts = []) ∧
           ((s.clk.cycle - 1 + 1) % max 1 (s.obj 0x600A 0) ≠ 0 → t.inputs = s.inputs) ∧
           t.meter.totals = s.meter.totals ∧ t.objs = s.objs ∧ RegsBut [MTR_INT_STATUS.cycle_ready] s t) ∧
       (s.meter.ready = false ∨ s.phase < 32 → exec .meterResultsReady s = .next s)) ∧
  ((∀ (d : DieId) (fs : List Nat) (s : State), s.holder = some d → s.historyDue = true →
       (s.get MTR_CTRL.enable = 1 ∨ s.meter.running = true) →
       fs = (List.range 6).filter (fun f => decide (bitOf (s.get MTR_CTRL.feeder_en) f = 1)) →
       ∃ t, exec .historyIntervalEnd s = .next t ∧
         (fs ≠ [] → t.get MTR_HIST_SEQ.seq = (s.get MTR_HIST_SEQ.seq + fs.length) % 2 ^ 32 ∧
           t.get MTR_INT_STATUS.history = 1) ∧ (fs = [] → t.get MTR_HIST_SEQ.seq = s.get MTR_HIST_SEQ.seq) ∧
         t.get MTR_STATUS.hist_unaligned = b2n (!s.mapValid) ∧ t.meter.hist = [] ∧
         t.meter.histFrom = s.clk.cycleStart ∧ t.meter.histCut = false ∧ t.meter.histGap = false ∧
         (∀ f, fs = [f] → Tbl.get [] (t.die d).history ((s.get MTR_HIST_SEQ.seq + 1) % 2 ^ 32) =
           s.historyRecord f ((s.get MTR_HIST_SEQ.seq + 1) % 2 ^ 32)) ∧
         (t.die d).hot = (s.die d).hot ∧ t.meter.totals = s.meter.totals ∧
         RegsBut [MTR_HIST_SEQ.seq, MTR_INT_STATUS.history, MTR_STATUS.hist_unaligned] s t) ∧
     (∀ s : State, (s.holder = none ∨ s.historyDue = false) → exec .historyIntervalEnd s = .next s) ∧
     (∀ (s : State) (f seq : Nat), (s.historyRecord f seq).length = 64)) ∧
  (∀ s : State,
       (s.theft.running = true → ∀ (a b c : Nat) (x : Nat → Nat), (∀ k, x k = (s.theft.primary [a, b, c]).getD k 0) →
         ∃ t, exec (.theftSecond a b c) s = .next t ∧
         t.theft.seconds = s.theft.seconds + 1 ∧
         t.theft.sums = [s.theft.sums.getD 0 0 + x 0, s.theft.sums.getD 1 0 + x 1, s.theft.sums.getD 2 0 + x 2] ∧
         t.theft.secAbove = s.theft.secAbove +
           (if s.theft.threshold < x 0 ∨ s.theft.threshold < x 1 ∨ s.theft.threshold < x 2 then 1 else 0) ∧
         t.theft.records = s.theft.records ∧ { t with theft := s.theft } = s) ∧
       (s.theft.running = true → s.rtcSeconds % 60 = 0 →
         ∃ t, exec .theftMinute s = .next t ∧ t.theft.seconds = 0 ∧ t.theft.secAbove = 0 ∧ t.theft.above = 0 ∧
           t.theft.sums = [0, 0, 0] ∧ t.theft.running = true ∧ { t with theft := s.theft } = s ∧
           (s.theft.secAbove = 0 → t.theft.records = s.theft.records ∧ t.theft.minutes = s.theft.minutes) ∧
           (s.theft.secAbove ≠ 0 → t.theft.next = (s.theft.next + 1) % 252 ∧
             t.theft.seq = (s.theft.seq + 1) % 2 ^ 16 ∧ t.theft.lastSave = s.rtcSeconds ∧
             (s.theft.minutes + 1 < 2 ^ 32 → t.theft.minutes = s.theft.minutes + 1) ∧
             (s.theft.minutes = 0 → t.theft.firstFlow = s.rtcSeconds) ∧
             (Tbl.get [] t.theft.records s.theft.next).take 4 = leBytes 4 (s.rtcSeconds % 2 ^ 32) ∧
             (∀ k, k ≠ s.theft.next → Tbl.get [] t.theft.records k = Tbl.get [] s.theft.records k))) ∧
       (s.theft.running = false → (∀ a b c : Nat, exec (.theftSecond a b c) s = .next s) ∧
         exec .theftMinute s = .next s))

/-- R428: an enabled output that is free and owes a pulse drives one, and is free again after its width active and
its width inactive; a disabled, busy or debtless output does nothing. R429, R430: a request through its register
for an input from 0 to 21 starts a harmonic measurement, or is refused as busy; it queues a calibration run, and
is ignored as a repeat and refused for the reference. The measurement is done after eight windows: it becomes
valid and is signalled (values beyond their field are left open, log entry 42). The automatic interval queues the
next input in turn. R439: a write of MTR_RES_SEL shows a snapshot of the input's results, and one of MTR_TOT_SEL
a snapshot of the total and its window; a value out of range is the violation of kind 5 and changes no selection.
Log entry 95 of the model concerns it. -/
def Obligations.MeteringServesItsRequests : Prop :=
  (∀ (n : Fin 8) (s : State),
       (s.get (MTR_PULSE_CFG.enable n) = 1 → 0 < s.get (MTR_PULSE_TIM.backlog n) →
         Tbl.get 0 s.meter.free n ≤ s.now →
         ∃ t, exec (.pulseOutput n) s = .next t ∧
           t.get (MTR_PULSE_TIM.backlog n) = (s.get (MTR_PULSE_TIM.backlog n) - 1) % 2 ^ 16 ∧
           t.out = s.out ++ [.pulse n (s.get (MTR_PULSE_TIM.width n))] ∧
           Tbl.get 0 t.meter.free n = s.now + 2 * s.get (MTR_PULSE_TIM.width n) * 25000 ∧
           t.meter.totals = s.meter.totals ∧ RegsBut [MTR_PULSE_TIM.backlog n] s t) ∧
       (s.get (MTR_PULSE_CFG.enable n) = 0 ∨ s.get (MTR_PULSE_TIM.backlog n) = 0 ∨
         s.now < Tbl.get 0 s.meter.free n → exec (.pulseOutput n) s = .next s)) ∧
  ((∀ (p : Port) (i : BitVec 8) (s : State), s.power.on = true → (p = .host → s.obj 0x1108 0 ≠ 0) →
       i.toNat ≤ 21 →
       (s.get MTR_STATUS.harm_busy = 0 → ∃ t, exec (.harmonicRequest (.register p) i) s = .next t ∧
         t.get MTR_STATUS.harm_busy = 1 ∧ t.get MTR_HARM_STATUS.valid = 0 ∧ t.get MTR_HARM_STATUS.aborted = 0 ∧
         t.meter.harm = some (i.toNat, s.clk.cycle, 0) ∧ t.out = s.out ∧
         RegsBut [MTR_STATUS.harm_busy, MTR_HARM_STATUS.valid, MTR_HARM_STATUS.aborted] s t) ∧
       (s.get MTR_STATUS.harm_busy = 1 → exec (.harmonicRequest (.register p) i) s = .next s) ∧
       (s.isReference i.toNat = false → s.meter.calQueue.contains i.toNat = false →
         ∃ t, exec (.calibrationRequest (.register p) i) s = .next t ∧
           t.meter.calQueue = s.meter.calQueue ++ [i.toNat] ∧ t.regs = s.regs ∧ t.out = s.out) ∧
       (s.isReference i.toNat = true ∨ s.meter.calQueue.contains i.toNat = true →
         exec (.calibrationRequest (.register p) i) s = .next s)) ∧
     (∀ (fund thd : Nat) (amps : List Nat) (i c n : Nat) (s : State), s.meter.harm = some (i, c, n) →
       (n < 8 → exec (.harmonicDone fund thd amps) s = .next s) ∧
       (8 ≤ n → i ≤ 21 → fund < 2 ^ 32 → thd < 2 ^ 16 → (∀ a ∈ amps, a < 2 ^ 16) →
         ∃ t, exec (.harmonicDone fund thd amps) s = .next t ∧ t.meter.harm = none ∧
           t.get MTR_STATUS.harm_busy = 0 ∧ t.get MTR_HARM_STATUS.valid = 1 ∧ t.get MTR_HARM_STATUS.input = i ∧
           t.get MTR_HARM_FUND.rms = fund ∧ t.get MTR_HARM_THD.thd = thd ∧
           (∀ k, k < 30 → t.get (MTR_HARM.amp k) = amps.getD k 0) ∧ t.get MTR_INT_STATUS.harm_done = 1)) ∧
     (∀ s : State,
       (s.get MTR_CAL_AUTO.hours = 0 ∨ s.now - s.meter.calFrom < s.get MTR_CAL_AUTO.hours * 3600 * 25000000 →
         exec .calibrationAuto s = .next s) ∧
       (∀ i, i = s.meter.calNext % 22 → s.get MTR_CAL_AUTO.hours ≠ 0 →
         s.get MTR_CAL_AUTO.hours * 3600 * 25000000 ≤ s.now - s.meter.calFrom → s.isReference i = false →
         s.meter.calQueue.contains i = false →
         ∃ t, exec .calibrationAuto s = .next t ∧ t.meter.calQueue = s.meter.calQueue ++ [i] ∧
           t.meter.calNext = (i + 1) % 22 ∧ t.meter.calFrom = s.now ∧ t.regs = s.regs))) ∧
  (∀ (p : Port) (w : Word) (s : State), s.power.on = true → (p = .host → s.obj 0x1108 0 ≠ 0) →
       (w.toNat % 32 ≤ 21 → ∀ r, r = Tbl.get MeterResult.zero s.meter.results (w.toNat % 32) →
         ∃ t, exec (.resultSelect p w) s = .next t ∧ t.get MTR_RES_SEL.input = w.toNat % 32 ∧
           t.get MTR_RES_CYCLE.cycle = r.cycle % 2 ^ 32 ∧ t.get MTR_RES_V.mv = r.v % 2 ^ 32 ∧
           t.get MTR_RES_I.ma = r.i % 2 ^ 32 ∧ t.get MTR_RES_P.p = pattern 32 r.p ∧
           t.get MTR_RES_Q.q = pattern 32 r.q ∧ t.get MTR_RES_S.s = r.s % 2 ^ 32 ∧
           t.get MTR_RES_PF.freq = r.freq % 2 ^ 16 ∧ t.get MTR_RES_PF.pf = pattern 16 r.pf ∧
           t.get MTR_RES_FLAGS.flags = r.flags % 2 ^ 8 ∧
           OnlyRegs [MTR_RES_SEL.input, MTR_RES_CYCLE.cycle, MTR_RES_V.mv, MTR_RES_I.ma, MTR_RES_P.p, MTR_RES_Q.q,
             MTR_RES_S.s, MTR_RES_PF.freq, MTR_RES_PF.pf, MTR_RES_FLAGS.flags] s t) ∧
       (21 < w.toNat % 32 → exec (.resultSelect p w) s = .next (s.violate (apronWrite p 0xC0070010) vkRange)) ∧
       (∀ f q k, f = w.toNat % 8 → q = w.toNat / 16 % 8 → k = w.toNat / 256 % 8 →
         (f ≤ 5 → q ≤ 4 → k ≤ 3 → ∃ t, exec (.totalSelect p w) s = .next t ∧ t.get MTR_TOT_SEL.feeder = f ∧
           t.get MTR_TOT_SEL.quantity = q ∧ t.get MTR_TOT_SEL.phase = k ∧
           t.get MTR_TOT_LO.mwh_lo = s.meter.total f k q % 2 ^ 32 ∧
           t.get MTR_TOT_HI.mwh_hi = s.meter.total f k q / 2 ^ 32 % 2 ^ 32 ∧
           t.get MTR_TOT_WIN.wh = s.meter.total f k q / 1000 % 2 ^ 32 ∧
           OnlyRegs [MTR_TOT_SEL.feeder, MTR_TOT_SEL.quantity, MTR_TOT_SEL.phase, MTR_TOT_LO.mwh_lo,
             MTR_TOT_HI.mwh_hi, MTR_TOT_WIN.wh] s t) ∧
         (5 < f ∨ 4 < q ∨ 3 < k →
           exec (.totalSelect p w) s = .next (s.violate (apronWrite p 0xC0070040) vkRange))))

/-- R445, R446, R463, R464, R471: at the deadline, phase 16, a die is fit exactly when it is the understudy, its
health word came and reports no failure, it has not run provisionally for more than 4 cycles, and the formats
agree. When every digest of the closed cycle agrees the matching run grows by one; a unit that differs is counted
on both dies and opens a dispute, and the run ends. The second missing word of the stage holder in a row releases
the stage with cause 6. At another phase nothing is judged. R474, R482, R483: code 1 to TWN_CMD through the space
0b00 requests a handover to the other die, which is accepted when the understudy is ready for it and else counted
in TWN_CMD_REFUSED; code 2 through a die's own space takes an understudy into full self-test at the next
boundary, and is counted for the stage holder. Readings and choices of the model: log entries 50, 103. -/
def Obligations.HealthAndTwinCommandsDecideRoles : Prop :=
  ((∀ (a b : Option Bool) (bad : List BadDigest) (s : State), s.phase ≠ 16 →
       exec (.healthDeadline a b bad) s = .next s) ∧
     (∀ (d : DieId) (a b : Option Bool) (fitOf : DieId → Nat) (s : State), s.holder = some d → s.phase = 16 →
       (if d = .a then a else b) ≠ none → s.twin.disputes = [] → s.roleOf d.other = roUNDERSTUDY →
       (s.die d).closedCycle = s.clk.cycle - 1 → (s.die d.other).closedCycle = s.clk.cycle - 1 →
       (s.side d.other).counted ≠ some (s.clk.cycle - 1) → s.get (TWN_STATUS.provisional d.other) = 0 →
       s.get (TWN_STATUS.link_up d) = 1 → (s.die d.other).moves = [] →
       (∀ u, u < 256 → s.excluded d.other u = false) →
       (∀ e, fitOf e = b2n (decide (s.roleOf e = roUNDERSTUDY ∧ (if e = .a then a else b) = some false ∧
         (s.side e).run ≤ 4 ∧ (s.side e).format = (s.side e.other).format))) →
       ((∀ u, u < 256 → Tbl.get 0 (s.die d).closed u = Tbl.get 0 (s.die d.other).closed u) →
         ∃ t, exec (.healthDeadline a b []) s = .next t ∧ t.holder = some d ∧ t.twin.disputes = [] ∧
           t.twin.silent = 0 ∧ ∀ e : DieId, t.get (TWN_STATUS.fit e) = fitOf e ∧
             t.get (TWN_MATCH_RUN.run e) = min (s.get (TWN_MATCH_RUN.run e) + 1) (2 ^ 32 - 1) ∧
             RegsBut [TWN_STATUS.fit .a, TWN_STATUS.fit .b, TWN_STATUS.format_ok .a, TWN_STATUS.format_ok .b,
               TWN_MATCH_RUN.run .a, TWN_MATCH_RUN.run .b, TWN_MISMATCHES.count .a, TWN_MISMATCHES.count .b] s t) ∧
       (∀ u, u < 256 → Tbl.get 0 s.twin.resynced u = 0 →
         (∀ v, v < 256 → (Tbl.get 0 (s.die d).closed v = Tbl.get 0 (s.die d.other).closed v ↔ v ≠ u)) →
         ∃ t, exec (.healthDeadline a b []) s = .next t ∧ t.holder = some d ∧
           t.twin.disputes = [{ unit := u, cycle := s.clk.cycle - 1, again := false, tried := false,
                                clones := none, settled := false }] ∧
           t.posts.length = s.posts.length + 1 ∧ ∀ e : DieId, t.get (TWN_STATUS.fit e) = fitOf e ∧
             t.get (TWN_MATCH_RUN.run e) = 0 ∧
             t.get (TWN_MISMATCHES.count e) = min (s.get (TWN_MISMATCHES.count e) + 1) (2 ^ 32 - 1) ∧
             t.get (TWN_DISPUTES.count e) = min (s.get (TWN_DISPUTES.count e) + 1) (2 ^ 32 - 1) ∧
             t.get (TWN_INT_STATUS.mismatch e) = 1 ∧ t.get (TWN_INT_STATUS.dispute e) = 1)) ∧
     (∀ (d : DieId) (a b : Option Bool) (bad : List BadDigest) (s : State), s.holder = some d → s.phase = 16 →
       (if d = .a then a else b) = none → s.twin.silent ≠ 0 →
       ∃ t, exec (.healthDeadline a b bad) s = .next t ∧ t.holder = none ∧ t.journal.stopped = true ∧
         t.twin.release = some (d, 6) ∧ t.get (TWN_HO_CAUSE.cause d) = 6 ∧ t.roleOf d = roTEST ∧
         t.get (TWN_INT_STATUS.holder_silent d.other) = 1 ∧ t.get (TWN_MATCH_RUN.run d) = 0)) ∧
  ((∀ (p : Port) (b : BitVec 8) (h : DieId) (s : State), s.power.on = true →
       (p = .host → s.obj 0x1108 0 ≠ 0) → s.holder = some h → s.roleOf h = roSTAGE →
       (s.plannedOk = true → s.activation.state ≠ 4 →
         ∃ t, exec (.handOverCommand (.register p) b) s = .next t ∧ t.twin.planned = some 8 ∧
           t.regs = s.regs ∧ t.holder = s.holder ∧ t.out = s.out) ∧
       (s.plannedOk = false → ∃ t, exec (.handOverCommand (.register p) b) s = .next t ∧
         t.get (TWN_CMD_REFUSED.count h) = min (s.get (TWN_CMD_REFUSED.count h) + 1) (2 ^ 32 - 1) ∧
         OnlyRegs [TWN_CMD_REFUSED.count h] s t)) ∧
     (∀ (p : Port) (d : DieId) (s : State), s.power.on = true → (p = .host → s.obj 0x1108 0 ≠ 0) →
       (s.roleOf d = roUNDERSTUDY → ∃ t, exec (.selfTestCommand (.register p) d) s = .next t ∧
         (t.side d).toTest = true ∧ t.regs = s.regs ∧ t.out = s.out) ∧
       (s.roleOf d = roSTAGE → ∃ t, exec (.selfTestCommand (.register p) d) s = .next t ∧
         t.get (TWN_CMD_REFUSED.count d) = min (s.get (TWN_CMD_REFUSED.count d) + 1) (2 ^ 32 - 1) ∧
         OnlyRegs [TWN_CMD_REFUSED.count d] s t)))

/-- R449, R450, R451: the packet at the head of the journal reaches its die when its sequence is the one expected: it
is counted, and a data write places its writes for the next mark, a management write waits for its boundary, a
fix is used for its cue, an occurrence is kept for its entry unless the die has fixed one of that day or later,
results and a commit record go to the die's stores, and commit totals are kept. A gap in the sequence sends the
die into RESYNC, and so does a reserved type; a command for another type of record changes nothing. R453, R454:
at each phase step from 16 to 1,016 the stage holder places a mark, in rising order, with the evaluations started
since the last one, which begin anew, and acts on every write placed before it; outside those steps, and at
another phase, no mark is placed. Readings and choices of the model: log entry 48. -/
def Obligations.JournalCarriesTheCycle : Prop :=
  ((∀ (p : Packet) (d : DieId) (s : State), s.journal.link = [p] → p.toDie = d → p.seq = (s.side d).expect →
       (∀ n l, p.content = .dataWrite n l → ∃ t, exec .dataWriteRecord s = .next t ∧ TakesPacket s t d p ∧
         (t.die d).placed = (s.die d).placed ++ l ∧ (t.side d).input = max (s.side d).input n) ∧
       (∀ w, p.content = .manage w → ∃ t, exec .managementWriteRecord s = .next t ∧ TakesPacket s t d p ∧
         (t.die d).staged = (s.die d).staged ++ [w]) ∧
       (∀ q n i l, p.content = .cueFix q n i l → ∃ t, exec .cueFixRecord s = .next t ∧ TakesPacket s t d p ∧
         (∀ x ∈ (s.cues d).queue, x.src ≠ q → x ∈ (t.cues d).queue) ∧
         ((∃ x ∈ (s.cues d).queue, x.src = q) → ∃ y ∈ (t.cues d).queue ++ (t.cues d).pendingGo,
           y.src = q ∧ y.stamp = some n) ∧
         ((∀ x ∈ (s.cues d).queue ++ (s.cues d).pendingGo, x.src = q → x.stamp ≠ some n) →
           ∀ y ∈ (t.cues d).queue, y.src = q → y.stamp ≠ none)) ∧
       (∀ j n, p.content = .occurrence j n → ∀ day, day = s.dayOf ((s.cues d).activeBank.schedAt j) n →
         ∃ t, exec .scheduleOccurrenceRecord s = .next t ∧ TakesPacket s t d p ∧
         ((∀ l, ((s.cues d).occAt j).lastDay = some l → l < day) →
           ((t.cues d).occAt j).tai = some n ∧ ((t.cues d).occAt j).day = day) ∧
         (∀ l, ((s.cues d).occAt j).lastDay = some l → day ≤ l → t.cues d = s.cues d)) ∧
       ((∃ l, p.content = .meterResults l) ∨ p.content = .fragment →
         ∃ t, exec .meteringRecord s = .next t ∧ TakesPacket s t d p) ∧
       (∀ r, p.content = .meterCommit r → ∃ t, exec .meteringRecord s = .next t ∧ TakesPacket s t d p ∧
         (t.die d).commitAt (stampCycle r.stamp - 1) = some r) ∧
       (∀ h l, p.content = .commitTotals h l → ∃ t, exec .commitTotalsRecord s = .next t ∧ TakesPacket s t d p ∧
         ∀ u v, l = [(u, v)] → Tbl.get 0 (t.side d).totals u = v)) ∧
     (∀ (p : Packet) (d : DieId) (s : State) (c : Instr), s.journal.link = [p] → p.toDie = d →
       p.seq ≠ (s.side d).expect →
       ((c = .dataWriteRecord ∧ ∃ n l, p.content = .dataWrite n l) ∨
         (c = .managementWriteRecord ∧ ∃ w, p.content = .manage w) ∨
         (c = .cueFixRecord ∧ ∃ q n i l, p.content = .cueFix q n i l) ∨
         (c = .scheduleOccurrenceRecord ∧ ∃ j n, p.content = .occurrence j n) ∨
         (c = .meteringRecord ∧ ((∃ l, p.content = .meterResults l) ∨ (∃ r, p.content = .meterCommit r) ∨
           p.content = .fragment)) ∨
         (c = .commitTotalsRecord ∧ ∃ h l, p.content = .commitTotals h l)) →
       ∃ t, exec c s = .next t ∧ t.roleOf d = roRESYNC ∧ t.journal.link = [] ∧
         t.get (TWN_INT_STATUS.other_left d.other) = 1) ∧
     (∀ (p : Packet) (rest : List Packet) (s : State), s.journal.link = p :: rest →
       ((∀ n l, p.content ≠ .dataWrite n l) → exec .dataWriteRecord s = .next s) ∧
       ((∀ w, p.content ≠ .manage w) → exec .managementWriteRecord s = .next s) ∧
       ((∀ h l, p.content ≠ .commitTotals h l) → exec .commitTotalsRecord s = .next s)) ∧
     (∀ (d : DieId) (s : State), (s.roleOf d = roUNDERSTUDY → ∃ t, exec (.reservedRecord d) s = .next t ∧
         t.roleOf d = roRESYNC ∧ t.get (TWN_INT_STATUS.other_left d.other) = 1) ∧
       (s.roleOf d ≠ roUNDERSTUDY → exec (.reservedRecord d) s = .next s))) ∧
  (∀ (e : Fin 1024) (s : State),
       (e.val < 16 ∨ 1016 < e.val ∨ s.phase ≠ e.val → exec (.epochMark e) s = .next s) ∧
       (∀ d : DieId, s.holder = some d → 16 ≤ e.val → e.val ≤ 1016 → s.phase = e.val → (s.side d).waiting = false →
         (∀ m, (s.side d).mark = some m → m < e.val) → s.journal.link = [] →
         ∃ t, exec (.epochMark e) s = .next t ∧ (t.side d).mark = some e.val ∧ (t.side d).started = [] ∧
           (t.die d).ready = [] ∧ (t.die d).placed = [] ∧
           (s.journal.stopped = false → s.journal.seq < t.journal.seq)) ∧
       (∀ d : DieId, s.holder = some d → (s.side d).waiting = true →
         s.get (TWN_STATUS.provisional d.other) = 0 → s.journal.link = [] → exec (.epochMark e) s = .next s))

/-- R456, R457, R461: a closing packet whose count, CRC and totals agree with what the understudy has closes the
cycle it is in, which it then shows; a late one that agrees confirms a cycle closed provisionally and clears the
emissions; one that disagrees sends the understudy into RESYNC. When the wait ends without it the understudy
closes the cycle provisionally, and after 4 such cycles it enters RESYNC. R452, R458, R467, R649: an
acknowledgement takes the oldest packet off those that wait, and with the last one every hand-off held back takes
place; a mirror write and a continuity message are written into their die's stores; the store of a unit that
resyncs is installed before its next pass, and comparison of it resumes. Readings and choices of the model: log
entries 48, 49. -/
def Obligations.CyclesCloseAndWorkIsMirrored : Prop :=
  ((∀ (d : DieId) (g up : Bool) (cycle packets crc input format carried : Nat) (p : Packet) (s : State),
       s.journal.link = [p] → p.toDie = d → p.content = .commitClose g cycle packets crc input up format carried →
       p.seq = (s.side d).expect → s.holder ≠ some d →
       (∀ u, u < 256 → Tbl.get 0 (s.side d).totals u = Tbl.get 0 (s.die d).done u) →
       ((s.side d).packets ≠ packets ∨ Nat.xor (s.side d).crc crc32Ones ≠ crc →
         ∃ t, exec .commitClose s = .next t ∧ t.roleOf d = roRESYNC) ∧
       ((s.side d).packets = packets → Nat.xor (s.side d).crc crc32Ones = crc → cycle = s.dieCycle d →
         ∃ t, exec .commitClose s = .next t ∧ (t.die d).closedCycle = cycle ∧ (t.side d).packets = 0 ∧
           t.get (TWN_COMMIT_LO.cycle_lo d) = cycle % 2 ^ 32 ∧
           t.get (TWN_COMMIT_HI.cycle_hi d) = cycle / 2 ^ 32 % 2 ^ 16) ∧
       ((s.side d).packets = packets → Nat.xor (s.side d).crc crc32Ones = crc → cycle < s.dieCycle d →
         (s.side d).lapses = [(cycle, (s.die d).done)] →
         ∃ t, exec .commitClose s = .next t ∧ (t.die d).emission = [] ∧ (t.die d).exactEmission = [] ∧
           t.get (TWN_STATUS.provisional d) = 0 ∧ (t.side d).lapses = [] ∧
           (t.die d).closedCycle = (s.die d).closedCycle ∧ t.get (TWN_COMMIT_LO.cycle_lo d) = cycle % 2 ^ 32)) ∧
     (∀ (d : DieId) (s : State), s.holder ≠ some d → s.roleOf d = roUNDERSTUDY →
       ((s.side d).waiting = true → (s.side d).run < 4 → (s.side d).counted ≠ some s.clk.cycle →
         ∃ t, exec (.closingWaitExpiry d) s = .next t ∧ (t.side d).waiting = false ∧
           (t.die d).closedCycle = s.dieCycle d ∧
           t.get (TWN_PROVISIONAL.count d) = min (s.get (TWN_PROVISIONAL.count d) + 1) (2 ^ 32 - 1) ∧
           t.get (TWN_INT_STATUS.provisional d) = 1) ∧
       ((s.side d).waiting = true → 4 ≤ (s.side d).run →
         ∃ t, exec (.closingWaitExpiry d) s = .next t ∧ t.roleOf d = roRESYNC) ∧
       ((s.side d).waiting = false → exec (.closingWaitExpiry d) s = .next s))) ∧
  ((∀ s : State, ∃ t, exec .journalAck s = .next t ∧ t.journal.unacked = s.journal.unacked.drop 1 ∧
       t.journal.seq = s.journal.seq ∧ (∀ x ∈ t.twin.held, x ∈ s.twin.held) ∧
       (∀ d, s.holder = some d → s.journal.unacked.length ≤ 1 → t.twin.held = [])) ∧
     (∀ (d : DieId) (m : Mirror) (rest : List (DieId × Mirror)) (s : State), s.mirrors = (d, m) :: rest →
       ∃ t, exec .mirrorWrite s = .next t ∧ t.mirrors = rest ∧ (s.twin.held = [] → t.regs = s.regs) ∧
         (t.die d.other).history = (s.die d.other).history ∧ (t.die d.other).books = (s.die d.other).books ∧
         (∀ n b, m = .history n b → Tbl.get [] (t.die d).history n = b) ∧
         (∀ b, m = .board b → (t.die d).board = b) ∧ (∀ l, m = .requests l → (t.die d).requestCopy = l) ∧
         (∀ l n, m = .books l n → (t.die d).books = l ∧ (t.die d).everSeq = n)) ∧
     (∀ s : State, (s.mirrors = [] → exec .mirrorWrite s = .next s) ∧
       (s.continuity = [] → exec .continuityMessage s = .next s)) ∧
     (∀ (d : DieId) (rest : List (DieId × Continuity)) (s : State),
       (∀ k x, s.continuity = (d, .slot k x) :: rest → ∃ t, exec .continuityMessage s = .next t ∧
         t.continuity = rest ∧ (t.green d).slot k = x ∧ t.die d.other = s.die d.other ∧ t.regs = s.regs) ∧
       (∀ l, s.continuity = (d, .sessions l) :: rest → ∃ t, exec .continuityMessage s = .next t ∧
         t.continuity = rest ∧ (t.die d).sessionCopy = l ∧ t.die d.other = s.die d.other ∧ t.regs = s.regs) ∧
       (∀ r, s.continuity = (d, .records [r]) :: rest → (s.die d).board.fill < 262142 →
         (s.die d).board.stored = false → ∃ t, exec .continuityMessage s = .next t ∧ t.continuity = rest ∧
         (t.die d).board.fill = (s.die d).board.fill + 1 ∧
         ((t.die d).board.at_ (s.die d).board.fill).source = r.source ∧
         ((t.die d).board.at_ (s.die d).board.fill).code = r.code)) ∧
     (∀ (d : DieId) (u : Fin 256) (m : Moving) (p : UnitPart) (s : State),
       (s.die d).moves.find? (fun m => !m.remap && decide (m.unit = u.val)) = some m →
       (m.part = some p → (s.side d).waiting = true → ∃ t, exec (.unitResyncInstall d u) s = .next t ∧
         t.die d = { (s.die d).putPart u p true with moves := (s.die d).moves.filter fun x => decide (x ≠ m) } ∧
         Tbl.get 0 t.twin.resynced u = 1 + s.clk.cycle ∧ t.regs = s.regs ∧ t.die d.other = s.die d.other) ∧
       (m.part = none ∨ (s.side d).waiting = false → exec (.unitResyncInstall d u) s = .next s)))

/-- R47, R158, R469, R470, R473: on an unplanned cause the stage holder gives up the stage at once: no die holds it,
journaling stops, nothing held back is handed off, the cause is recorded on both dies, it goes into full
self-test, and an understudy runs provisionally. The understudy leaves its role instead: for full self-test, or
as unfit after a cluster or region fault. A sweep overrun is counted and signalled as well. R478, R479: a die in
RESYNC that requests it is brought into step: the copy of the stack starts, and the records it stored alone are
forwarded; with another journal format it is refused and says so. After the copy the working stores follow. Past
its limit of cycles it starts again, which is counted, signalled and posted. R484, R485: a packet received with
an error is resent and counted, up to 8 times, and then the link is down; a lane that fails leaves two sound
lanes, or none and the link is down; while it is down it tries to train every 64 cycles. Each loss is counted,
signalled and posted on both dies, and the understudy enters RESYNC. Readings and choices of the model: log entry
55. -/
def Obligations.DiesFailAndResynchronise : Prop :=
  ((∀ (d : DieId) (s : State), s.holder = some d →
       (∃ t, exec (.lockstepMismatch d) s = .next t ∧ StageLost s t d 3) ∧
       (∃ t, exec (.watchdogExpiry d) s = .next t ∧ StageLost s t d 4) ∧
       (∃ t, exec (.crossbarFault d) s = .next t ∧ StageLost s t d 5) ∧
       (∃ t, exec (.sweepOverrun d) s = .next t ∧ StageLost s t d 2 ∧ t.get (CUE_INT_STATUS.overrun d) = 1 ∧
         t.get (CUE_OVERRUNS.count d) = min (s.get (CUE_OVERRUNS.count d) + 1) (2 ^ 32 - 1)) ∧
       (∀ k : Fin 7, 1 ≤ k.val → ∃ t, exec (.stageRelease k) s = .next t ∧ StageLost s t d k)) ∧
     (∀ (d : DieId) (s : State), s.holder ≠ some d →
       (s.roleOf d = roUNDERSTUDY → (∀ c, c = .lockstepMismatch d ∨ c = .watchdogExpiry d ∨ c = .sweepOverrun d →
           ∃ t, exec c s = .next t ∧ t.roleOf d = roTEST ∧ t.holder = s.holder ∧ (t.side d).tested = false ∧
             t.get (TWN_INT_STATUS.other_left d.other) = 1) ∧
         ∃ t, exec (.crossbarFault d) s = .next t ∧ t.roleOf d = roUNFIT ∧ t.holder = s.holder) ∧
       (s.roleOf d ≠ roUNDERSTUDY → s.roleOf d ≠ roRESYNC →
         exec (.lockstepMismatch d) s = .next s ∧ exec (.watchdogExpiry d) s = .next s ∧
         (∃ t, exec (.sweepOverrun d) s = .next t ∧ t.get (CUE_INT_STATUS.overrun d) = 1 ∧
           t.get (CUE_OVERRUNS.count d) = min (s.get (CUE_OVERRUNS.count d) + 1) (2 ^ 32 - 1) ∧
           OnlyRegs [CUE_OVERRUNS.count d, CUE_INT_STATUS.overrun d] s t) ∧
         ∃ t, exec (.crossbarFault d) s = .next t ∧ t.roleOf d = roUNFIT ∧
           OnlyRegs [TWN_STATUS.role d, TWN_STATUS.fit d] s t)) ∧
     (∀ (k : Fin 7) (s : State), s.holder = none ∨ k.val = 0 → exec (.stageRelease k) s = .next s)) ∧
  ((∀ (d : DieId) (s : State), s.roleOf d = roRESYNC → s.holder = some d.other →
       s.get (TWN_STATUS.link_up d) = 1 → (s.get (TWN_RESYNC.stage d) = 0 ∨ 3 < s.get (TWN_RESYNC.stage d)) →
       ((s.side d).format = (s.side d.other).format →
         ∃ t, exec (.resyncRequest d) s = .next t ∧ t.get (TWN_RESYNC.stage d) = 1 ∧
           t.get (TWN_RESYNC.cycles d) = 0 ∧ (t.die d).alone = [] ∧
           ((s.die d).alone ≠ [] → t.continuity = s.continuity ++ [(d.other, .records (s.die d).alone)]) ∧
           t.holder = s.holder ∧ t.die d.other = s.die d.other ∧
           RegsBut [TWN_RESYNC.stage d, TWN_RESYNC.cycles d, CBD_FORWARDED.count d] s t) ∧
       ((s.side d).format ≠ (s.side d.other).format →
         ∃ t, exec (.resyncRequest d) s = .next t ∧ t.get (TWN_INT_STATUS.format_mismatch d) = 1 ∧
           t.get (TWN_STATUS.format_ok d) = 0 ∧
           OnlyRegs [TWN_INT_STATUS.format_mismatch d, TWN_STATUS.format_ok d] s t)) ∧
     (∀ (d : DieId) (s : State),
       (s.get (TWN_RESYNC.stage d) = 1 → ∃ t, exec (.resyncCopyDone d) s = .next t ∧
         t.get (TWN_RESYNC.stage d) = 2 ∧ OnlyRegs [TWN_RESYNC.stage d] s t) ∧
       (s.get (TWN_RESYNC.stage d) ≠ 1 → exec (.resyncCopyDone d) s = .next s) ∧
       (s.roleOf d = roRESYNC → 1 ≤ s.get (TWN_RESYNC.stage d) → s.get (TWN_RESYNC.stage d) ≤ 3 →
         s.get (TWN_CTRL.resync_limit d) < s.get (TWN_RESYNC.cycles d) → s.get (TWN_STATUS.link_up d) = 1 →
         ∃ t, exec (.resyncRestart d) s = .next t ∧ (t.side d).restarts = (s.side d).restarts + 1 ∧
           t.get (TWN_RESYNC.stage d) = 1 ∧ t.get (TWN_RESYNC.cycles d) = 0 ∧
           t.get (TWN_INT_STATUS.resync_failed d) = 1 ∧ t.posts.length = s.posts.length + 1 ∧
           (∀ p ∈ t.journal.link, p.toDie ≠ d) ∧
           RegsBut [TWN_RESYNC.stage d, TWN_RESYNC.cycles d, TWN_INT_STATUS.resync_failed d] s t) ∧
       (s.roleOf d ≠ roRESYNC → exec (.resyncRestart d) s = .next s))) ∧
  ((∀ (d : DieId) (s : State), s.get (TWN_STATUS.link_up d) = 1 →
       ∃ t, exec (.linkPacketError d false) s = .next t ∧ t.twin.resends = 1 ∧
         t.get (TWN_LINK_RETRIES.count d) = min (s.get (TWN_LINK_RETRIES.count d) + 1) (2 ^ 32 - 1) ∧
         RegsBut [TWN_LINK_RETRIES.count d] s t ∧ t.journal = s.journal) ∧
     (∀ s : State, s.get (TWN_STATUS.link_up .a) = 1 →
       (∃ t, exec .linkDown s = .next t ∧ LinkLost s t) ∧
       (8 ≤ s.twin.resends → ∃ t, exec (.linkPacketError .a true) s = .next t ∧ LinkLost s t) ∧
       (∀ l : Fin 4, laneCode (setBit s.twin.badLanes l) = 0 →
         ∃ t, exec (.laneFailure l) s = .next t ∧ LinkLost s t)) ∧
     (∀ (l : Fin 4) (s : State), s.get (TWN_STATUS.link_up .a) = 1 → s.twin.badLanes = 0 →
       ∃ t, exec (.laneFailure l) s = .next t ∧ t.twin.badLanes = 2 ^ l.val ∧ ∀ d : DieId,
         t.get (TWN_STATUS.link_up d) = 1 ∧ t.get (TWN_STATUS.lanes d) = 1 ∧
         t.get (TWN_INT_STATUS.link_degraded d) = 1) ∧
     (∀ (n : Fin 3) (s : State),
       (s.get (TWN_STATUS.link_up .a) = 0 → s.twin.downAt < s.clk.cycle → (s.clk.cycle - s.twin.downAt) % 64 = 0 →
         (n.val ≠ 0 → ∃ t, exec (.linkRetrain n) s = .next t ∧ ∀ d : DieId, t.get (TWN_STATUS.link_up d) = 1 ∧
           t.get (TWN_STATUS.lanes d) = n.val ∧
           RegsBut [TWN_STATUS.link_up .a, TWN_STATUS.link_up .b, TWN_STATUS.lanes .a, TWN_STATUS.lanes .b,
             TWN_INT_STATUS.link_degraded .a, TWN_INT_STATUS.link_degraded .b] s t) ∧
         (n.val = 0 → exec (.linkRetrain n) s = .next s)) ∧
       (s.get (TWN_STATUS.link_up .a) = 1 ∨ (s.clk.cycle - s.twin.downAt) % 64 ≠ 0 →
         exec (.linkRetrain n) s = .next s) ∧
       (s.get (TWN_STATUS.link_up .a) = 0 → exec .linkDown s = .next s)))

/-- R494, R495, R497, R507, R508, R511, R513: a received frame with a symbol error, below 64 or above 1,522 octets,
or with a bad FCS is counted for that and goes no further; a good frame for the port's own address enters the
ring with the buffers it needs, or is counted in rx_nobuf when they do not suffice; a frame for no address of the
port is counted as filtered. A port out of service or without link takes in nothing. R509, R510: at the low
watermark the port's pause is cancelled, at the high watermark one is sent; a pause received in service is
counted, and holds transmission for its quanta while it is honoured; when they have elapsed transmission resumes.
Readings and choices of the model: log entries 56, 57, 58. -/
def Obligations.EthernetReceivesAndPauses : Prop :=
  (∀ (e : Fin 3) (b : List Byte) (s : State), s.get (ETH_CTRL.pause_send e) = 0 →
       s.get (ETH_STATUS.rx_pausing e) = 0 →
       (s.get (ETH_CTRL.enable e) = 0 ∨ s.get (ETH_STATUS.link e) = 0 → ∀ y,
         ∃ t, exec (.ethFrameReceive e b y 0) s = .next t ∧ (t.eth e).ring = (s.eth e).ring ∧
           (t.eth e).counts = (s.eth e).counts ∧
           RegsBut [ETH_RX_RING.used e, ETH_RX_RING.max e] s t) ∧
       (s.get (ETH_CTRL.enable e) = 1 → s.get (ETH_STATUS.link e) = 1 →
         (∀ (y : Bool) (n : Nat), (y = true ∧ n = 13 ∨ y = false ∧ b.length < 64 ∧ n = 10 ∨
             y = false ∧ 1522 < b.length ∧ n = 11 ∨
             y = false ∧ 64 ≤ b.length ∧ b.length ≤ 1522 ∧
               leNat (b.drop (b.length - 4)) ≠ crc32 (b.take (b.length - 4)) ∧ n = 12) →
           ∃ t, exec (.ethFrameReceive e b y 0) s = .next t ∧ (t.eth e).ring = (s.eth e).ring ∧
             Tbl.get 0 (t.eth e).counts n = (Tbl.get 0 (s.eth e).counts n + 1) % 2 ^ 64 ∧
             (∀ k, k ≠ n → Tbl.get 0 (t.eth e).counts k = Tbl.get 0 (s.eth e).counts k)) ∧
         (64 ≤ b.length → b.length ≤ 1522 → leNat (b.drop (b.length - 4)) = crc32 (b.take (b.length - 4)) →
           (e.val < 2 → s.get (ETH_CTRL.listen e) = 0) → s.get (ETH_CTRL.accept_untagged e) = 1 →
           beNat ((b.drop 12).take 2) ≠ 0x8100 →
           (b.take 6 = s.ethMac e → ringUsed (s.eth e).ring + (b.length + 255) / 256 ≤ 512 →
             ∃ (t : State) (x : RxEntry), exec (.ethFrameReceive e b false 0) s = .next t ∧
               (t.eth e).ring = (s.eth e).ring ++ [x] ∧ x.octets = b ∧ x.cls = 0 ∧
               x.buffers = (b.length + 255) / 256 ∧
               Tbl.get 0 (t.eth e).counts 1 = (Tbl.get 0 (s.eth e).counts 1 + 1) % 2 ^ 64) ∧
           (b.take 6 = s.ethMac e → 512 < ringUsed (s.eth e).ring + (b.length + 255) / 256 →
             ∃ t, exec (.ethFrameReceive e b false 0) s = .next t ∧ (t.eth e).ring = (s.eth e).ring ∧
               Tbl.get 0 (t.eth e).counts 14 = (Tbl.get 0 (s.eth e).counts 14 + 1) % 2 ^ 64 ∧
               t.get (ETH_INT_STATUS.rx_nobuf e) = 1) ∧
           (s.ethAccepts e (b.take 6) = false →
             ∃ t, exec (.ethFrameReceive e b false 0) s = .next t ∧ (t.eth e).ring = (s.eth e).ring ∧
               Tbl.get 0 (t.eth e).counts 15 = (Tbl.get 0 (s.eth e).counts 15 + 1) % 2 ^ 64)))) ∧
  ((∀ (e : Fin 3) (s : State), s.shed = false →
       (s.get (ETH_STATUS.rx_pausing e) = 1 → ringUsed (s.eth e).ring ≤ s.get (ETH_RX_WM.low e) →
         ∃ (t : State) (b : List Byte), exec (.pauseRefresh e 0) s = .next t ∧ t.out = s.out ++ [.eth e b] ∧
           t.get (ETH_STATUS.rx_pausing e) = 0 ∧ (t.eth e).ring = (s.eth e).ring) ∧
       (s.get (ETH_STATUS.rx_pausing e) = 0 → s.get (ETH_CTRL.pause_send e) = 1 → s.get (ETH_PAUSE.quanta e) ≠ 0 →
         s.get (ETH_RX_WM.high e) ≤ ringUsed (s.eth e).ring →
         ∃ (t : State) (b : List Byte), exec (.pauseRefresh e 0) s = .next t ∧ t.out = s.out ++ [.eth e b] ∧
           t.get (ETH_STATUS.rx_pausing e) = 1 ∧ (t.eth e).pausedAt = s.now) ∧
       (s.get (ETH_STATUS.rx_pausing e) = 0 → ringUsed (s.eth e).ring < s.get (ETH_RX_WM.high e) →
         ∃ t, exec (.pauseRefresh e 0) s = .next t ∧ t.out = s.out ∧
           RegsBut [ETH_RX_RING.used e, ETH_RX_RING.max e] s t)) ∧
     (∀ (e : Fin 3) (q : BitVec 16) (s : State),
       (s.get (ETH_CTRL.enable e) = 0 → exec (.pauseReceive e q) s = .next s) ∧
       (s.get (ETH_CTRL.enable e) = 1 → ∃ t, exec (.pauseReceive e q) s = .next t ∧
         Tbl.get 0 (t.eth e).counts 16 = (Tbl.get 0 (s.eth e).counts 16 + 1) % 2 ^ 64 ∧
         (t.eth e).ring = (s.eth e).ring ∧
         (s.get (ETH_CTRL.pause_honour e) = 1 →
           (t.eth e).heldUntil = s.now + (s.quantaNs e q.toNat + 39) / 40 ∧
           (t.get (ETH_STATUS.tx_held e) = 1 ↔ q ≠ 0)) ∧
         (s.get (ETH_CTRL.pause_honour e) = 0 → (t.eth e).heldUntil = (s.eth e).heldUntil ∧
           t.get (ETH_STATUS.tx_held e) = s.get (ETH_STATUS.tx_held e))) ∧
       ((s.eth e).heldUntil ≤ s.now → ∃ t, exec (.pauseExpiry e) s = .next t ∧
         t.get (ETH_STATUS.tx_held e) = 0 ∧ OnlyRegs [ETH_STATUS.tx_held e] s t) ∧
       (s.now < (s.eth e).heldUntil → exec (.pauseExpiry e) s = .next s)))

/-- R496, R498, R502, R519, R703: the stage holder's frames are queued at the active port, and, while its link is up,
no pause holds it and its gates are open, the frame of the highest class goes out on the line; a two-step frame
leaves its time in the queue of the port, or counts an overflow; a read of ETH_TXTS_ID takes the oldest entry.
With a link on neither port frames are counted as no-link; without a stage holder, or once the module sheds its
load, none is sent. R499, R500, R501, R502, R515: when the active port loses its link and the other can take
transmit, the frames that wait move there in their order, it becomes active, the failover is counted and
signalled, and PTP restarts on it; a partly sent frame is counted as resent. A failover can be forced, and stays
asked for until it is possible. In revertive mode the preferred port takes transmit back after 10 s of link. The
first port whose link comes up becomes active, the other stands by. Readings and choices of the model: log
entries 56, 58, 59. -/
def Obligations.EthernetSendsAndFailsOver : Prop :=
  ((∀ (e : Fin 3) (f g : EthFrame) (s : State), s.shed = false →
       (e.val = 2 ∨ s.activePort = some e.val) → s.get (ETH_CTRL.enable e) = 1 → s.get (ETH_STATUS.link e) = 1 →
       (e.val < 2 → s.get (ETH_GCL_CTRL.enable e) = 0) → (s.eth e).queue = [] →
       (∀ d, s.holder = some d → s.get (ETH_STATUS.tx_held e) = 0 → f.stamp = none →
         (∃ t, exec (.ethFrameTransmit e [f]) s = .next t ∧ t.out = s.out ++ [.eth e (s.ethLine e f)] ∧
           (t.eth e).queue = [] ∧
           Tbl.get 0 (t.eth e).counts 18 = (Tbl.get 0 (s.eth e).counts 18 + 1) % 2 ^ 64) ∧
         (g.cls < f.cls → ∃ t, exec (.ethFrameTransmit e [g, f]) s = .next t ∧
           t.out = s.out ++ [.eth e (s.ethLine e f)] ∧ (t.eth e).queue = [g])) ∧
       (∀ d, s.holder = some d → s.get (ETH_STATUS.tx_held e) = 1 →
         ∃ t, exec (.ethFrameTransmit e [f, g]) s = .next t ∧ t.out = s.out ∧ (t.eth e).queue = [f, g]) ∧
       (∀ (d : DieId) (n : BitVec 16), s.holder = some d → s.get (ETH_STATUS.tx_held e) = 0 → f.stamp = some n →
         e.val < 2 → ∃ t, exec (.ethFrameTransmit e [f]) s = .next t ∧
           ((s.eth e).stamps.length < 8 → (t.eth e).stamps = (s.eth e).stamps ++
               [(n.toNat, s.ptpNs + s.get (ETH_TS_LAT.tx_lat e))] ∧ t.get (ETH_INT_STATUS.txts_ready e) = 1) ∧
           (8 ≤ (s.eth e).stamps.length → (t.eth e).stamps = (s.eth e).stamps ∧
             t.get (ETH_INT_STATUS.txts_overflow e) = 1)) ∧
       (s.holder = none → ∃ t, exec (.ethFrameTransmit e [f]) s = .next t ∧ t.out = s.out)) ∧
     (∀ (e : Fin 3) (l : List EthFrame) (s : State), s.shed = true → exec (.ethFrameTransmit e l) s = .next s) ∧
     (∀ (e : Fin 2) (l : List EthFrame) (s : State), s.shed = false → s.holder.isSome = true →
       s.activePort = none → (∀ o : Fin 2, s.get (ETH_STATUS.link o) = 0) →
       ∃ t, exec (.ethFrameTransmit (e.castLE (by decide)) l) s = .next t ∧ t.out = s.out ∧
         Tbl.get 0 (t.eth e).counts 23 = (Tbl.get 0 (s.eth e).counts 23 + l.length) % 2 ^ 64) ∧
     (∀ (p : Port) (e : Fin 2) (s : State), s.power.on = true →
       (∀ i n l, (s.eth e).stamps = (i, n) :: l → ∃ t, exec (.txtsRead p e) s = .next t ∧ (t.eth e).stamps = l ∧
         t.get (ETH_TXTS_ID.valid e) = 1 ∧ t.get (ETH_TXTS_ID.id e) = i % 2 ^ 16 ∧
         t.get (ETH_TXTS_LO.ts_lo e) = n % 2 ^ 32 ∧ t.get (ETH_TXTS_HI.ts_hi e) = n / 2 ^ 32 % 2 ^ 32 ∧
         t.out = s.out ++ [.regRead p (ethBase e + 0x804) (BitVec.ofNat 32 (2 ^ 31 + i % 2 ^ 16))]) ∧
       ((s.eth e).stamps = [] → ∃ t, exec (.txtsRead p e) s = .next t ∧ t.get (ETH_TXTS_ID.valid e) = 0 ∧
         RegsBut [ETH_TXTS_ID.valid e] s t))) ∧
  ((∀ (e o : Fin 2) (s : State), o.val = 1 - e.val → s.activePort = some e.val →
       s.get (ETH_STATUS.link o) = 1 → s.get (ETH_CTRL.enable o) = 1 → s.get (ETH_STATUS.link e) = 1 →
       (∃ t l, exec (.linkFailure (e.castLE (by decide)) false) s = .next t ∧ FailedOver s t e o l) ∧
       (∀ f rest, (s.eth e).queue = f :: rest → ∃ t l, exec (.linkFailure (e.castLE (by decide)) true) s = .next t ∧
         FailedOver s t e o l ∧ Tbl.get 0 (t.eth o).counts 24 = (Tbl.get 0 (s.eth o).counts 24 + 1) % 2 ^ 64) ∧
       (∃ t l, exec .failoverForce s = .next t ∧ FailedOver s t e o l) ∧
       (s.get (ETH_BKP.revertive 0) = 1 → s.get (ETH_BKP.preferred 0) = o.val →
         250000000 ≤ s.now - (s.eth o).upSince → ∃ t l, exec .failback s = .next t ∧ FailedOver s t e o l)) ∧
     (∀ (e : Fin 2) (s : State),
       (s.get (ETH_STATUS.link e) = 0 → ∀ y, exec (.linkFailure (e.castLE (by decide)) y) s = .next s) ∧
       (s.get (ETH_STATUS.link e) = 1 → s.activePort = some e.val → s.portReady (1 - e) = false →
         ∃ t, exec (.linkFailure (e.castLE (by decide)) false) s = .next t ∧ t.get (ETH_STATUS.active e) = 0 ∧
           (t.eth e).queue = [] ∧ t.get (ETH_STATUS.link e) = 0 ∧
           Tbl.get 0 (t.eth e).counts 23 = (Tbl.get 0 (s.eth e).counts 23 + (s.eth e).queue.length) % 2 ^ 64) ∧
       (s.get (ETH_STATUS.link e) = 1 → s.activePort ≠ some e.val →
         ∃ t, exec (.linkFailure (e.castLE (by decide)) true) s = .next t ∧ t.get (ETH_STATUS.link e) = 0 ∧
           t.get (ETH_STATUS.standby e) = 0 ∧ t.get (ETH_INT_STATUS.link_change e) = 1 ∧
           OnlyRegs [ETH_STATUS.link e, ETH_STATUS.speed e, ETH_INT_STATUS.link_change e, ETH_STATUS.standby e] s t) ∧
       (s.activePort = none → ∃ t, exec .failoverForce s = .next t ∧ t.get (ETH_BKP.force 0) = 1 ∧
         OnlyRegs [ETH_BKP.force 0] s t) ∧
       (s.get (ETH_BKP.revertive 0) = 0 → exec .failback s = .next s) ∧
       (∀ fast, s.get (ETH_CTRL.enable e) = 1 → s.activePort = none → s.get (ETH_STATUS.link e) = 0 →
         ∃ t, exec (.ethLinkUp (e.castLE (by decide)) fast) s = .next t ∧ t.get (ETH_STATUS.link e) = 1 ∧
           t.get (ETH_STATUS.active e) = 1 ∧ t.get (ETH_STATUS.speed e) = (if fast then 2 else 1) ∧
           (t.eth e).upSince = s.now ∧ t.get (ETH_INT_STATUS.link_change e) = 1) ∧
       (∀ fast, s.get (ETH_CTRL.enable e) = 1 → s.activePort = some (1 - e.val) → s.get (ETH_BKP.force 0) = 0 →
         ∃ t, exec (.ethLinkUp (e.castLE (by decide)) fast) s = .next t ∧ t.get (ETH_STATUS.link e) = 1 ∧
           t.get (ETH_STATUS.standby e) = 1 ∧ t.activePort = s.activePort)))

/-- R503, R504, R506, R528: a change of the gate list is accepted when its length is from 1 to 64, no interval within
it is 0 and its cycle time is in range, for the base time or the first cycle start that lies ahead; else it is
refused and error is set. At the change time the administrative list becomes operational from entry 0, and the
entry in force follows the PTP time. A PHY access sets busy until it ends; starting one while busy is the
violation of kind 9. R514, R516, R520, R521, R523: an offset within the jump threshold is servoed; one beyond it
steps the clock during acquisition or when armed, is refused otherwise, and steps it as the sixteenth of a run
that agrees; eight accepted in a row within the lock threshold make the clock valid. No accepted offset for the
holdover limit clears valid. While the engine is disabled an offset is kept as the last and nothing more.
Readings and choices of the model: log entries 3, 60, 61. -/
def Obligations.GateListsPhyAndPtpServo : Prop :=
  ((∀ (e : Fin 2) (len cyc base : Nat) (s : State), (s.eth e).changeAt = none →
       len = s.get (ETH_GCL_LEN.length e) → cyc = s.get (ETH_GCL_CYCLE.ns e) →
       base = s.get (ETH_GCL_BASE_HI.base_hi e) * 2 ^ 32 + s.get (ETH_GCL_BASE_LO.base_lo e) →
       (1 ≤ len → len ≤ 64 → (∀ k, k < len → s.get (ETH_GCL_ADMIN.interval e k) ≠ 0) → 1000 ≤ cyc →
         cyc ≤ 1000000000 → ∃ (t : State) (at_ : Nat), exec (.gclChangeRequest e) s = .next t ∧
           (t.eth e).changeAt = some at_ ∧ s.ptpNs < at_ ∧ (s.ptpNs < base → at_ = base) ∧
           (base ≤ s.ptpNs → ∃ n, at_ = base + n * cyc ∧ at_ ≤ s.ptpNs + cyc) ∧
           t.get (ETH_GCL_STATUS.pending e) = 1 ∧ t.get (ETH_GCL_CTRL.error e) = 0 ∧
           RegsBut [ETH_GCL_STATUS.pending e, ETH_GCL_CTRL.error e, ETH_GCL_CTRL.change e] s t) ∧
       (len < 1 ∨ 64 < len ∨ cyc < 1000 ∨ 1000000000 < cyc ∨
         (∃ k, k < len ∧ s.get (ETH_GCL_ADMIN.interval e k) = 0) →
         ∃ t, exec (.gclChangeRequest e) s = .next t ∧ t.get (ETH_GCL_CTRL.error e) = 1 ∧
           OnlyRegs [ETH_GCL_CTRL.error e, ETH_GCL_CTRL.change e] s t)) ∧
     (∀ (e : Fin 2) (s : State),
       (∀ a, (s.eth e).changeAt = some a →
         (s.ptpNs < a → exec (.gclChange e) s = .next s) ∧
         (a ≤ s.ptpNs → ∃ t, exec (.gclChange e) s = .next t ∧ (t.eth e).changeAt = none ∧
           (∀ k, k < 64 → t.get (ETH_GCL_OPER.entry e k) = (s.get (ETH_GCL_ADMIN.gates e k) * 2 ^ 24 +
             s.get (ETH_GCL_ADMIN.interval e k)) % 2 ^ 32) ∧
           t.get (ETH_GCL_OPER_CYCLE.ns e) = s.get (ETH_GCL_CYCLE.ns e) % 2 ^ 32 ∧
           t.get (ETH_GCL_STATUS.oper_len e) = s.get (ETH_GCL_LEN.length e) % 2 ^ 8 ∧
           t.get (ETH_GCL_OPER_BASE_LO.base_lo e) = a % 2 ^ 32 ∧ t.get (ETH_GCL_STATUS.entry e) = 0 ∧
           t.get (ETH_GCL_STATUS.pending e) = 0 ∧ t.get (ETH_GCL_CTRL.change e) = 0)) ∧
       ((s.eth e).changeAt = none → exec (.gclChange e) s = .next s) ∧
       (s.gcl e ≠ [] → ∃ t, exec (.gclEntryEnd e) s = .next t ∧
         t.get (ETH_GCL_STATUS.entry e) = (gclAt (s.gcl e) (s.gclOffset e) 0).1 % 2 ^ 8 ∧
         OnlyRegs [ETH_GCL_STATUS.entry e] s t) ∧
       (s.gcl e = [] → exec (.gclEntryEnd e) s = .next s)) ∧
     (∀ (p : Port) (e : Fin 3) (w : Word) (d : BitVec 16) (s : State), s.power.on = true →
       (p = .host → s.obj 0x1108 0 ≠ 0) →
       (w.toNat / 2 ^ 25 % 2 = 1 → s.get (ETH_MDIO_CMD.busy e) = 0 →
         ∃ t, exec (.mdioCommand p e w) s = .next t ∧ t.get (ETH_MDIO_CMD.busy e) = 1 ∧
           t.get (ETH_MDIO_CMD.write e) = w.toNat / 2 ^ 26 % 2 ∧
           t.out = s.out ++ [.mdio e (decide (w.toNat / 2 ^ 26 % 2 = 1)) (w.toNat / 2 ^ 16 % 32)
             (w.toNat % 65536)]) ∧
       (w.toNat / 2 ^ 25 % 2 = 1 → s.get (ETH_MDIO_CMD.busy e) = 1 →
         exec (.mdioCommand p e w) s = .next (s.violate (apronWrite p (ethBase e + 0x40)) vkRule)) ∧
       (s.get (ETH_MDIO_CMD.busy e) = 1 → ∃ t, exec (.mdioDone e d) s = .next t ∧
         t.get (ETH_MDIO_CMD.busy e) = 0 ∧ t.get (ETH_MDIO_CMD.go e) = 0 ∧
         (s.get (ETH_MDIO_CMD.write e) = 0 → t.get (ETH_MDIO_DATA.rdata e) = d.toNat) ∧
         OnlyRegs [ETH_MDIO_CMD.busy e, ETH_MDIO_CMD.go e, ETH_MDIO_DATA.rdata e] s t) ∧
       (s.get (ETH_MDIO_CMD.busy e) = 0 → exec (.mdioDone e d) s = .next s))) ∧
  ((∀ (o : BitVec 64) (s : State),
       (s.get PTP_CTRL.enable = 0 ∨ s.holder = none → ∃ t, exec (.ptpOffsetWrite o) s = .next t ∧
         t.get PTP_LAST_LO.last_lo = o.toNat % 2 ^ 32 ∧ t.get PTP_LAST_HI.last_hi = o.toNat / 2 ^ 32 ∧
         OnlyRegs [PTP_LAST_LO.last_lo, PTP_LAST_HI.last_hi] s t) ∧
       (∀ d, s.get PTP_CTRL.enable = 1 → s.holder = some d →
         (o.toInt.natAbs ≤ s.get PTP_JUMP.ns →
           ∀ i f : Int, i = clampI (-500000) 500000 (s.ptp.integral + ((s.get PTP_GAIN.ki : Int) * o.toInt).tdiv 256) →
           f = -(clampI (-500000) 500000 (((s.get PTP_GAIN.kp : Int) * o.toInt).tdiv 256 + i)) →
           ∃ t, exec (.ptpOffsetWrite o) s = .next t ∧ t.ptp.integral = i ∧ t.getS PTP_FREQ.ppb = f ∧
             t.ptp.time = s.ptp.time ∧ t.ptp.accepted = s.now ∧ t.get PTP_STATUS.holdover = 0 ∧
             (s.get PTP_STATUS.ever_valid = 1 → t.get PTP_STATUS.run = 0 ∧ t.get PTP_STATUS.jump_pending = 0 ∧
               t.get PTP_STATUS.auth_armed = 0) ∧
             (o.toInt.natAbs ≤ s.get PTP_LOCK.lock → 7 ≤ s.ptp.agree → t.get PTP_STATUS.valid = 1 ∧
               t.get PTP_STATUS.ever_valid = 1 ∧ t.get PTP_STATUS.locked = 1 ∧ t.get CYC_STATUS.tai_valid = 1) ∧
             (s.get PTP_LOCK.lock < o.toInt.natAbs → t.ptp.agree = 0 ∧ t.get PTP_STATUS.locked = 0)) ∧
         (s.get PTP_JUMP.ns < o.toInt.natAbs →
           ((s.get PTP_STATUS.ever_valid = 0 ∨ s.get PTP_STATUS.auth_armed = 1 ∨
               (s.get PTP_STATUS.run = 15 ∧ max s.ptp.hi o.toInt - min s.ptp.lo o.toInt ≤ 10000)) →
             ∃ t, exec (.ptpOffsetWrite o) s = .next t ∧
               (t.ptp.time : Int) = ((s.ptp.time : Int) - o.toInt * 2 ^ 32) % 2 ^ 96 ∧
               t.ptp.integral = s.ptp.integral ∧ t.ptp.agree = 0 ∧ t.ptp.accepted = s.now ∧
               t.get PTP_STATUS.holdover = 0 ∧ t.get PTP_STATUS.jump_pending = 0 ∧
               t.get PTP_STEPS.count = min (s.get PTP_STEPS.count + 1) (2 ^ 32 - 1) ∧
               t.get PTP_STEP_LO.step_lo = o.toNat % 2 ^ 32 ∧ t.get PTP_INT_STATUS.step = 1 ∧
               t.get PTP_STATUS.valid = s.get PTP_STATUS.valid) ∧
           (s.get PTP_STATUS.ever_valid = 1 → s.get PTP_STATUS.auth_armed = 0 → s.get PTP_STATUS.run = 0 →
             ∃ t, exec (.ptpOffsetWrite o) s = .next t ∧ t.ptp.time = s.ptp.time ∧ t.get PTP_STATUS.run = 1 ∧
               t.get PTP_REFUSED.count = min (s.get PTP_REFUSED.count + 1) (2 ^ 32 - 1) ∧
               t.get PTP_STATUS.jump_pending = 1 ∧ t.get PTP_PEND_LO.pend_lo = o.toNat % 2 ^ 32 ∧
               t.get PTP_INT_STATUS.jump_refused = 1 ∧ t.posts.length = s.posts.length + 1 ∧
               t.ptp.lo = o.toInt ∧ t.ptp.hi = o.toInt)))) ∧
     (∀ s : State,
       (s.get PTP_CTRL.enable = 1 → s.get PTP_STATUS.valid = 1 →
         s.get PTP_LOCK.holdover * 25000000 ≤ s.now - s.ptp.accepted →
         ∃ t, exec .ptpHoldoverExpiry s = .next t ∧ t.get PTP_STATUS.valid = 0 ∧ t.get PTP_STATUS.holdover = 1 ∧
           t.get PTP_INT_STATUS.valid_lost = 1 ∧ t.get CYC_STATUS.tai_valid = 0 ∧ t.ptp = s.ptp) ∧
       (s.get PTP_CTRL.enable = 0 ∨ s.get PTP_STATUS.valid = 0 ∨
         s.now - s.ptp.accepted < s.get PTP_LOCK.holdover * 25000000 → exec .ptpHoldoverExpiry s = .next s)) ∧
     (∀ (st : Fin 7) (s : State),
       (s.get PTP_CTRL.enable = 0 → exec (.announceReceiptTimeout st) s = .next s) ∧
       (s.get PTP_CTRL.enable = 1 → ∃ t, exec (.announceReceiptTimeout st) s = .next t ∧
         t.get PTP_STATUS.port_state = (if st.val = 4 ∧ s.get PTP_CTRL.tt_capable ≠ 1 then 1 else st.val) ∧
         RegsBut [PTP_STATUS.port_state, PTP_INT_STATUS.state_change, PTP_STATUS.holdover,
           PTP_INT_STATUS.holdover] s t ∧ t.ptp = s.ptp)))

/-- R535, R538, R564: a handshake with credentials on a transport with a free place opens the lowest one, as a
session without a record since now; with no free place the attempt is counted and nothing else happens; without
credentials nothing happens. A session idle for the time of object 0x1104, or closed by its peer, closes with
what is remembered in it, and every other session stays open. R542, R551, R555: what holds of every request
message. Without an open session it changes nothing. A malformed one is counted, and answered with status 0x0B
when its type and identifier can be read. A repeated one is counted and not carried out again: its response is
sent again with flag bit 1 set, or it is discarded while none exists. One that finds the memory of its session
full is answered with status 0x05. -/
def Obligations.SessionsAndRequestsAreAdmitted : Prop :=
  ((∀ (service comm : Bool) (s : State), s.serving = true →
       (∀ n, (placesOf service).find? (fun n => !s.sessionOpen n) = some n →
         (s.handshakeOk service comm = true → ∃ t, exec (.sessionOpen service comm) s = .next t ∧
           t.sessionOpen n = true ∧
           t.sessionAt n = some { service := service, commissioning := comm, last := s.now } ∧
           (∀ k, k ≠ n → t.sessionOpen k = s.sessionOpen k) ∧ t.regs = s.regs ∧ t.objs = s.objs ∧ t.out = s.out) ∧
         (s.handshakeOk service comm = false → exec (.sessionOpen service comm) s = .next s)) ∧
       ((placesOf service).all (fun n => s.sessionOpen n) = true →
         ∃ t, exec (.sessionOpen service comm) s = .next t ∧
           t.obj 0x110F 0 = min (s.obj 0x110F 0 + 1) (2 ^ 32 - 1) ∧ { t with objs := s.objs } = s)) ∧
     (∀ (s : State) (k : Nat) (x : Session), (k, x) ∈ s.sessions → k ≠ 0 →
       (∀ y ∈ s.sessions, y.1 = k → y = (k, x)) →
       ∃ t, exec .sessionIdleTimeout s = .next t ∧ t.regs = s.regs ∧ t.out = s.out ∧
         (x.last + s.obj 0x1104 0 * 25000000 ≤ s.now → t.sessionOpen k = false ∧
           ∀ m ∈ t.remembered, m.session ≠ k) ∧
         (s.now < x.last + s.obj 0x1104 0 * 25000000 → (k, x) ∈ t.sessions ∧
           ∀ m ∈ s.remembered, m.session = k → m ∈ t.remembered)) ∧
     (∀ (n : Fin 33) (s : State), n.val ≠ 0 → ∃ t, exec (.sessionPeerClose n) s = .next t ∧
       t.sessionOpen n = false ∧ (∀ k : Nat, k ≠ n.val → t.sessionOpen k = s.sessionOpen k) ∧
       (s.sessionOpen n = true → (∀ m ∈ t.remembered, m.session ≠ n.val) ∧ ∀ r ∈ t.replies, r.session ≠ n.val) ∧
       t.regs = s.regs ∧ t.out = s.out)) ∧
  (∀ (n : Fin 33) (m : List Byte) (s : State) (c : Instr),
       ((c = .read n m ∧ ((∃ l, requestOf m = some (.read l)) ∨ requestOf m = none)) ∨
         (c = .write n m ∧ ((∃ l, requestOf m = some (.write l)) ∨ requestOf m = none)) ∨
         (c = .epRead n m ∧ ((∃ e k f, requestOf m = some (.epRead e k f)) ∨ requestOf m = none)) ∨
         (c = .epWrite n m ∧ ((∃ l, requestOf m = some (.epWrite l)) ∨ requestOf m = none)) ∨
         (c = .company (some n) m ∧ ((∃ b, requestOf m = some (.company b)) ∨ requestOf m = none))) →
       (s.sessionOpen n = false → exec c s = .next s) ∧
       (n.val ≠ 0 → s.sessionOpen n = true → s.serving = true → Unheld s →
         (requestOf m = none → ∃ t, exec c s = .next t ∧
           t.obj 0x110C 0 = min (s.obj 0x110C 0 + 1) (2 ^ 32 - 1) ∧ t.regs = s.regs ∧
           t.remembered = s.remembered ∧ t.progress = s.progress ∧
           (6 ≤ m.length → msgType m < 0x80 →
             t.out = s.out ++ [.message n (respBytes (msgType m) (msgId m) 0x0B 0 [])]) ∧
           (m.length < 6 ∨ 0x80 ≤ msgType m → t.out = s.out)) ∧
         (requestOf m ≠ none → ∀ x, s.stillRemembered.find?
             (fun x => decide (x.session = n.val ∧ x.request = msgId m)) = some x →
           ∃ t, exec c s = .next t ∧ t.obj 0x1107 0 = min (s.obj 0x1107 0 + 1) (2 ^ 32 - 1) ∧ t.regs = s.regs ∧
             (t.die s.stageDie).staged = (s.die s.stageDie).staged ∧ t.progress = s.progress ∧
             (x.response = none → t.out = s.out) ∧
             (∀ b, x.response = some b →
               t.out = s.out ++ [.message n (b.set 7 (BitVec.ofNat 8 (leAt b 7 1 + 2)))])) ∧
         (requestOf m ≠ none →
           (∀ x ∈ s.stillRemembered, ¬ (x.session = n.val ∧ x.request = msgId m)) →
           1024 ≤ (s.stillRemembered.filter fun x => decide (x.session = n.val)).length →
           ∃ t, exec c s = .next t ∧ t.obj 0x110D 0 = min (s.obj 0x110D 0 + 1) (2 ^ 32 - 1) ∧
             t.out = s.out ++ [.message n (respBytes (msgType m) (msgId m) 0x05 0 [])] ∧ t.regs = s.regs ∧
             (t.die s.stageDie).staged = (s.die s.stageDie).staged ∧ t.progress = s.progress)))

/-- R545, R553, R555, R556: a READ of one object is answered at once with its status and its value, here of an object
that a register field is, and an unassigned or write-only one with status 0x01 or 0x02, counted as a violation;
an EP_READ with the values of consecutive endpoints, ending before the first whose cold record is damaged, and
refused with status 0x01 for an unlisted field code, 0x02 for a write-only one and 0x0C when it would be too
large. Neither changes a store. R546, R547, R554, R556: an item of a WRITE or EP_WRITE that passes its checks
joins the staging buffer and its request is in progress; one that is refused is answered with its code, and a
violation is counted, recorded and posted; a refused item does not prevent the next. Readings and choices of the
model: log entries 82, 83. -/
def Obligations.ReadsAnswerAndWritesStage : Prop :=
  (∀ (n : Fin 33) (m : List Byte) (s : State), n.val ≠ 0 → Fresh s n (msgId m) → Unheld s →
       (∀ idx sub, requestOf m = some (.read [(idx, sub)]) →
         (∀ st : Nat, ((objRow idx sub = none ∧ st = 1) ∨ (∃ r, objRow idx sub = some r ∧ r.acc = .wo ∧ st = 2)) →
           ∃ t, exec (.read n m) s = .next t ∧ t.out = s.out ++ [.message n (respBytes 1 (msgId m) 0 0
               ([1, 0, 0, 0] ++ leBytes 2 idx ++ leBytes 1 sub ++ leBytes 1 st ++ [0, 0]))] ∧
             t.obj 0x110A 0 = min (s.obj 0x110A 0 + 1) (2 ^ 32 - 1) ∧
             t.oct 0x110B 0 = leBytes 2 idx ++ leBytes 1 sub ++ leBytes 1 st ++ leBytes 1 n ++ [0, 0, 0] ∧
             t.posts.length = s.posts.length + 1 ∧ t.regs = s.regs) ∧
         (∀ r f v, objRow idx sub = some r → r.acc ≠ .wo → objField idx = some f → r.ty ≠ .octets →
           v = r.ty.encode (s.fieldNum (f s.stageDie sub) r.ty) → v.length ≤ 1130 →
           ∃ t, exec (.read n m) s = .next t ∧ t.out = s.out ++ [.message n (respBytes 1 (msgId m) 0 0
               ([1, 0, 0, 0] ++ leBytes 2 idx ++ leBytes 1 sub ++ [0] ++ leBytes 2 v.length ++ v))] ∧
             t.obj 0x110A 0 = s.obj 0x110A 0 ∧ t.posts = s.posts ∧ t.regs = s.regs)) ∧
       (∀ first count code, requestOf m = some (.epRead first count code) →
         (epField code = none → ∃ t, exec (.epRead n m) s = .next t ∧
           t.out = s.out ++ [.message n (respBytes 3 (msgId m) 1 0 (leBytes 4 first ++ leBytes 2 0 ++ leBytes 2 0))] ∧ t.regs = s.regs) ∧
         (∀ size, epField code = some (size, 2) → ∃ t, exec (.epRead n m) s = .next t ∧
           t.out = s.out ++ [.message n (respBytes 3 (msgId m) 2 0 (leBytes 4 first ++ leBytes 2 0 ++ leBytes 2 size))] ∧ t.regs = s.regs) ∧
         (∀ size acc j, epField code = some (size, acc) → acc ≠ 2 → j ≤ count →
           (∀ k, k < j → epCold code = true →
             Tbl.get false (s.die s.stageDie).damaged ((first + k) % 2 ^ 20) = false) →
           (j < count → epCold code = true ∧
             Tbl.get false (s.die s.stageDie).damaged ((first + j) % 2 ^ 20) = true) →
           ∀ v : List Byte, v = (List.range j).flatMap
               (fun k => (s.die s.stageDie).epValue ((first + k) % 2 ^ 20) code) →
           ∃ t, exec (.epRead n m) s = .next t ∧ t.regs = s.regs ∧ t.die s.stageDie = s.die s.stageDie ∧
             (v.length ≤ 1132 → t.out = s.out ++ [.message n (respBytes 3 (msgId m) (if j < count then 9 else 0) 0
               (leBytes 4 first ++ leBytes 2 j ++ leBytes 2 size ++ v))]) ∧
             (1132 < v.length → t.out = s.out ++ [.message n (respBytes 3 (msgId m) 0x0C 0 (leBytes 4 first ++ leBytes 2 0 ++ leBytes 2 size))])))) ∧
  (∀ (n : Fin 33) (m : List Byte) (s : State), n.val ≠ 0 → Fresh s n (msgId m) → Unheld s →
       (∀ idx sub b st, requestOf m = some (.write [(idx, sub, b)]) → s.writeStatus n idx sub b = st → st ≠ 0 →
         ∃ t, exec (.write n m) s = .next t ∧
           t.out = s.out ++ [.message n (respBytes 2 (msgId m) 0 0
             ([1, 0, 0, 0] ++ leBytes 2 idx ++ leBytes 1 sub ++ leBytes 1 st))] ∧
           (t.die s.stageDie).staged = (s.die s.stageDie).staged ∧ t.progress = s.progress ∧
           (st = 1 ∨ st = 2 ∨ st = 6 ∨ st = 7 →
             t.obj 0x110A 0 = min (s.obj 0x110A 0 + 1) (2 ^ 32 - 1) ∧
             t.oct 0x110B 0 = leBytes 2 idx ++ leBytes 1 sub ++ leBytes 1 st ++ leBytes 1 n ++ [0, 0, 0] ∧
             t.posts.length = s.posts.length + 1)) ∧
       (∀ idx sub b, requestOf m = some (.write [(idx, sub, b)]) → s.writeStatus n idx sub b = stOK →
         idx ≠ 0x7401 → idx ≠ 0x7402 → idx ≠ 0x7403 → idx ≠ 0x7406 → (s.die s.stageDie).staged.length < 16384 →
         ∃ (t : State) (ptr : Nat), exec (.write n m) s = .next t ∧
           (t.die s.stageDie).staged = (s.die s.stageDie).staged ++
             [{ target := 1, code := idx, sub := sub, ptr := ptr, value := b, who := some (n.val, msgId m, 0) }] ∧
           t.progress = s.progress ++
             [{ session := n.val, request := msgId m, type := 2,
                items := [(leBytes 2 idx ++ leBytes 1 sub, none)] }] ∧
           t.out = s.out ∧ t.regs = s.regs ∧ t.objs = s.objs) ∧
       (∀ idx' sub' b' idx sub b, requestOf m = some (.write [(idx', sub', b'), (idx, sub, b)]) →
         objRow idx' sub' = none → s.writeStatus n idx sub b = stOK →
         idx ≠ 0x7401 → idx ≠ 0x7402 → idx ≠ 0x7403 → idx ≠ 0x7406 → (s.die s.stageDie).staged.length < 16384 →
         ∃ (t : State) (ptr : Nat), exec (.write n m) s = .next t ∧
           (t.die s.stageDie).staged = (s.die s.stageDie).staged ++
             [{ target := 1, code := idx, sub := sub, ptr := ptr, value := b, who := some (n.val, msgId m, 1) }] ∧
           t.progress = s.progress ++
             [{ session := n.val, request := msgId m, type := 2,
                items := [(leBytes 2 idx' ++ leBytes 1 sub', some 1), (leBytes 2 idx ++ leBytes 1 sub, none)] }] ∧
           t.obj 0x110A 0 = min (s.obj 0x110A 0 + 1) (2 ^ 32 - 1) ∧ t.out = s.out ∧ t.regs = s.regs) ∧
       (∀ e code b, requestOf m = some (.epWrite [(e, code, b)]) →
         (epStatus code b ≠ stOK → ∃ t, exec (.epWrite n m) s = .next t ∧
           t.out = s.out ++ [.message n (respBytes 4 (msgId m) 0 0
             ([1, 0, 0, 0] ++ leBytes 4 e ++ leBytes 1 code ++ leBytes 1 (epStatus code b)))] ∧
           (t.die s.stageDie).staged = (s.die s.stageDie).staged ∧ t.regs = s.regs) ∧
         (epStatus code b = stOK → (s.die s.stageDie).staged.length < 16384 →
           ∃ t, exec (.epWrite n m) s = .next t ∧
             (t.die s.stageDie).staged = (s.die s.stageDie).staged ++
             [{ target := 0, code := code, sub := e, ptr := 0, value := b, who := some (n.val, msgId m, 0) }] ∧
             t.progress = s.progress ++
             [{ session := n.val, request := msgId m, type := 4,
                items := [(leBytes 4 e ++ leBytes 1 code, none)] }] ∧
             t.out = s.out ∧ t.regs = s.regs ∧ (t.die s.stageDie).hot = (s.die s.stageDie).hot)))

/-- R569, R570, R573: a company command by multicast is never answered: one that does not name the module changes
nothing, one with an invalid tag or a stale counter is refused, shown and counted, and a go command that passes
its checks is staged, its counter the last accepted from its sender. In a session the result of the checks is the
status of the answer. R559, R574: the answer of a target that the last send awaits is counted as done or refused,
and awaited no longer; any other answer changes nothing. A commit that ends leaves its book in the copy chosen
for it, is no longer running, and its request is answered (here with no hand-off held back for the understudy);
without a commit nothing happens. Readings and choices of the model: log entries 82, 84. -/
def Obligations.CompanyCommandsSendsAndCommitsEnd : Prop :=
  ((∀ (m b : List Byte) (x : CompanyMsg) (s : State), s.serving = true → requestOf m = some (.company b) →
       s.companyMsg b = some x →
       (x.addressed = false → exec (.company none m) s = .next s) ∧
       (∀ st : Nat, x.addressed = true → ((s.joinState ≠ 2 ∧ st = 0x0A) ∨
           (s.joinState = 2 ∧ (s.slotValid 7 = false ∨ x.tag ≠ s.companyTag x.signed_ ∨
             x.cmd.counter < Tbl.get 0 s.company.senders x.cmd.sender) ∧ st = 0x0D)) →
         ∃ t, exec (.company none m) s = .next t ∧ t.out = s.out ∧
           t.obj 0x1215 0 = min (s.obj 0x1215 0 + 1) (2 ^ 32 - 1) ∧ t.company.senders = s.company.senders ∧
           t.company.received = leBytes 2 x.cmd.sender ++ leBytes 1 x.cmd.action ++ leBytes 1 st ++
             leBytes 4 x.cmd.counter ++ leBytes 8 x.cmd.at_ ++ leBytes 8 0 ∧
           { t with company := s.company, objs := s.objs } = s) ∧
       (x.addressed = true → s.joinState = 2 → s.slotValid 7 = true → x.tag = s.companyTag x.signed_ →
         Tbl.get 0 s.company.senders x.cmd.sender ≤ x.cmd.counter → s.company.senders.length < 64 →
         s.companyExpired s.tai x.cmd = false → x.cmd.action = 1 → s.actionStatus x.cmd = stOK →
         (s.die s.stageDie).staged.length < 16384 →
         ∃ t, exec (.company none m) s = .next t ∧ t.out = s.out ∧ t.obj 0x1215 0 = s.obj 0x1215 0 ∧
           Tbl.get 0 t.company.senders x.cmd.sender = x.cmd.counter + 1 ∧
           (t.die s.stageDie).staged = (s.die s.stageDie).staged ++
             [{ target := 1, code := 0x4420, sub := 0, ptr := 0, value := companyGo x.cmd, who := none }] ∧
           t.regs = s.regs)) ∧
     (∀ (n : Fin 33) (m b : List Byte) (s : State), n.val ≠ 0 → Fresh s n (msgId m) → Unheld s →
       requestOf m = some (.company b) →
       (s.companyMsg b = none → ∃ t, exec (.company (some n) m) s = .next t ∧
         t.out = s.out ++ [.message n (respBytes 5 (msgId m) 0x0B 0 [])] ∧
         t.obj 0x110C 0 = min (s.obj 0x110C 0 + 1) (2 ^ 32 - 1)) ∧
       (∀ x, s.companyMsg b = some x →
         (x.addressed = false → ∃ t, exec (.company (some n) m) s = .next t ∧ t.out = s.out ∧
           t.company = s.company ∧ t.regs = s.regs) ∧
         (x.addressed = true → s.joinState = 2 → x.cmd.counter < Tbl.get 0 s.company.senders x.cmd.sender →
           ∃ t, exec (.company (some n) m) s = .next t ∧
             t.out = s.out ++ [.message n (respBytes 5 (msgId m) 0x0D 0 [])] ∧
             t.company.senders = s.company.senders ∧ t.regs = s.regs)))) ∧
  ((∀ (n : BitVec 14) (st : BitVec 8) (s : State),
       (∀ x, s.company.send = some x → n.toNat ∈ x.waits →
         ∃ (t : State) (y : CompanySend), exec (.companyResponse n st) s = .next t ∧ t.company.send = some y ∧
           y.waits = x.waits.erase n.toNat ∧ y.counter = x.counter ∧ y.sent = x.sent ∧
           y.ok = (if st = 0 then x.ok + 1 else x.ok) ∧ y.refused = (if st = 0 then x.refused else x.refused + 1) ∧
           { t with company := { t.company with send := some x } } = s) ∧
       (s.company.send = none ∨ (∃ x, s.company.send = some x ∧ n.toNat ∉ x.waits) →
         exec (.companyResponse n st) s = .next s)) ∧
     (∀ s : State,
       (s.committing = none → exec .promptCommitEnd s = .next s) ∧
       (∀ b who, s.committing = some (b, who) → s.twin.held = [] → ∃ t, exec .promptCommitEnd s = .next t ∧ t.committing = none ∧
         (t.die s.stageDie).books =
           (s.die s.stageDie).books.set (s.die s.stageDie).commitTarget (some b) ∧
         (t.die s.stageDie).everSeq = b.seq ∧ (who = none → t.regs = s.regs ∧ t.out = s.out) ∧
         (∀ n r q x, who = some (n, r, 0) → n ≠ 0 → Unheld s → s.serving = true →
           s.progress.find? (fun q => decide (q.session = n ∧ q.request = r)) = some q → q.items = [(x, none)] →
           t.out = s.out ++ [.message n (respBytes q.type r 0 0 ([1, 0, 0, 0] ++ x ++ [0]))]))))

/-- R19, R593: a read of the low word of a 64-bit value returns it and copies the high word to the port's shadow; a
read of the high word returns the shadow and releases it, or the live word where none is held; a read of a
register that clears by reading returns its value and clears those fields, or, of QCM, the high-water mark of the
selected queue; nothing else changes. R594: a write of a high word is held for its port and has no other effect;
a write of the low word commits both and clears what is held, so that without a high word it commits 0: of the
multicast hash, of the base time of the gate list, and of a measured PTP offset, which is then judged. Readings
and choices of the model: log entry 97. -/
def Obligations.PairAndClearingAccessesAreWhole : Prop :=
  (∀ (p : Port) (addr : Word) (b : Block) (r : RegDesc) (off : Nat) (s : State), s.power.on = true →
       s.namedReg addr.toNat = some (b, r, off) →
       (off ∈ b.lows → ∃ t, exec (.lowWordRead p addr) s = .next t ∧
         t.out = s.out ++ [.regRead p addr.toNat (BitVec.ofNat 32 (s.wordAt b off))] ∧
         t.shadowAt p (b.base + off) = some (s.wordAt b (off + 4)) ∧
         { t with out := s.out, portShadows := s.portShadows } = s) ∧
       (∀ low, off = low + 4 → low ∈ b.lows →
         (∀ h, s.shadowAt p (b.base + low) = some h → ∃ t, exec (.highWordRead p addr) s = .next t ∧
           t.out = s.out ++ [.regRead p addr.toNat (BitVec.ofNat 32 h)] ∧
           t.shadowAt p (b.base + low) = none ∧ { t with out := s.out, portShadows := s.portShadows } = s) ∧
         (s.shadowAt p (b.base + low) = none → exec (.highWordRead p addr) s =
           .next (s.emit (.regRead p addr.toNat (BitVec.ofNat 32 (s.wordAt b off)))))) ∧
       (r.fields.any (fun f => decide (f.acc = .rc)) = true → ∃ t, exec (.readClear p addr) s = .next t ∧
         t.out = s.out ++ [.regRead p addr.toNat (BitVec.ofNat 32 (s.wordAt b off))] ∧
         ((∀ d, b ≠ .qcm d) → (∀ f ∈ r.fields, f.acc = .rc →
             t.get ⟨b.base + off, f.lo, f.hi + 1 - f.lo⟩ = 0) ∧
           (∀ g : Fld, (∀ f ∈ r.fields, f.acc = .rc →
             g.key ≠ (⟨b.base + off, f.lo, f.hi + 1 - f.lo⟩ : Fld).key) → t.get g = s.get g) ∧
           { t with out := s.out, regs := s.regs } = s) ∧
         (∀ d, b = .qcm d → queueNamed (s.get (QCM_Q_SEL.queue d)) = true →
           (t.queue (queueKey d (s.get (QCM_Q_SEL.queue d)))).hwm = 0 ∧ t.regs = s.regs))) ∧
  (∀ (p : Port) (addr v : Word) (s : State), s.power.on = true → (p = .host → s.obj 0x1108 0 ≠ 0) →
       (∀ e : Fin 2, (s.eth e).changeAt = none →
         (addr.toNat = ethBase e + 0x28 ∨ addr.toNat = ethBase e + 0x110 →
           ∃ t, exec (.highWordWrite p addr v) s = .next t ∧ t.held p addr.toNat = v.toNat ∧
             { t with holds := s.holds } = s) ∧
         (addr.toNat = ethBase e + 0x24 → ∃ t, exec (.lowWordWrite p addr v) s = .next t ∧
           t.get (ETH_MC_HASH_LO.hash_lo e) = v.toNat ∧
           t.get (ETH_MC_HASH_HI.hash_hi e) = s.held p (ethBase e + 0x28) % 2 ^ 32 ∧
           t.held p (ethBase e + 0x28) = 0 ∧ RegsBut [ETH_MC_HASH_LO.hash_lo e, ETH_MC_HASH_HI.hash_hi e] s t) ∧
         (addr.toNat = ethBase e + 0x10C → ∃ t, exec (.lowWordWrite p addr v) s = .next t ∧
           t.get (ETH_GCL_BASE_LO.base_lo e) = v.toNat ∧
           t.get (ETH_GCL_BASE_HI.base_hi e) = s.held p (ethBase e + 0x110) % 2 ^ 32 ∧
           t.held p (ethBase e + 0x110) = 0 ∧ RegsBut [ETH_GCL_BASE_LO.base_lo e, ETH_GCL_BASE_HI.base_hi e] s t)) ∧
       (p ≠ .host → addr.toNat = 0xC0090014 → ∃ t, exec (.highWordWrite p addr v) s = .next t ∧
         t.held p 0xC0090014 = v.toNat ∧ { t with holds := s.holds } = s) ∧
       (p ≠ .host → addr.toNat = 0xC0090010 → s.get PTP_CTRL.enable = 0 →
         ∃ t, exec (.lowWordWrite p addr v) s = .next t ∧ t.get PTP_LAST_LO.last_lo = v.toNat ∧
           t.get PTP_LAST_HI.last_hi = s.held p 0xC0090014 % 2 ^ 32 ∧ t.held p 0xC0090014 = 0 ∧
           RegsBut [PTP_LAST_LO.last_lo, PTP_LAST_HI.last_hi] s t))

/-- R19, R20, R21, R583, R587, R591, R592, R598: a register write, at the base or an alias offset of an assigned
register. It is a violation of kind 2 where no field takes a write, of kind 7 at an alias without an RW field, of
kind 11 while host-port writes are locked (at its base the message control and claim registers are exempt), of
the kind its block's rules give it, or of kind 1 at an unassigned offset; otherwise, where the register is a
plain one, each field takes its part by its access code, and nothing else changes, but that a write to a status
or enable register, which may end an interrupt line, first latches every line that is high (R602). In space 0b00
while no die holds the stage it finds no target. R584, R597, R599: a violation leaves its address, requester,
kind and direction in the violation registers of its window with valid set, is counted there and posted, and a
host-port one is a failed word; no other register changes. Readings and choices of the model: log entries 95, 97. -/
def Obligations.RegisterWritesAndViolations : Prop :=
  ((∀ (p : Port) (addr v : Word) (b : Block) (off g : Nat) (a : Access) (s : State), s.power.on = true →
       busAddr s.holder addr.toNat = some g → s.place g = .reg b off →
       a = { port := p, addr := addr.toNat, target := g, write := true, alias_ := decide (aliasOf g ≠ 0) } →
       (s.hostLocked a = true → lockExempt b off = false ∨ aliasOf g ≠ 0 → exec (.registerWrite p addr v) s =
         .next ((s.violate a 11).emit (.refused p addr.toNat 1))) ∧
       (s.hostLocked a = false ∨ (lockExempt b off = true ∧ aliasOf g = 0) →
         (b.register off = none → exec (.registerWrite p addr v) s =
           .next ((s.violate a 1).emit (.refused p addr.toNat 1))) ∧
         (∀ r, b.register off = some r →
           (r.writable = false → aliasOf g = 0 → exec (.registerWrite p addr v) s =
             .next ((s.violate a 2).emit (.refused p addr.toNat 1))) ∧
           (r.rwMask = 0 → aliasOf g ≠ 0 → exec (.registerWrite p addr v) s =
             .next ((s.violate a 7).emit (.refused p addr.toNat 1))) ∧
           (r.writable = true → (aliasOf g ≠ 0 → r.rwMask ≠ 0) →
             (∀ k, s.writeKind a b off (aliasValue s b r off (aliasOf g) v.toNat) = some k →
               exec (.registerWrite p addr v) s = .next ((s.violate a k).emit (.refused p addr.toNat 1))) ∧
             (s.writeKind a b off (aliasValue s b r off (aliasOf g) v.toNat) = none →
               s.special p b off (aliasValue s b r off (aliasOf g) v.toNat) = none →
               (r.fields.map FieldDesc.lo).Nodup →
               ∃ t, exec (.registerWrite p addr v) s = .next t ∧
                 (∀ f ∈ r.fields, t.get ⟨b.base + off, f.lo, f.hi + 1 - f.lo⟩ = storedField f.acc
                   (s.get ⟨b.base + off, f.lo, f.hi + 1 - f.lo⟩)
                   (aliasValue s b r off (aliasOf g) v.toNat / 2 ^ f.lo % 2 ^ (f.hi + 1 - f.lo))
                   (2 ^ (f.hi + 1 - f.lo))) ∧
                 (∀ x : Fld, (∀ f ∈ r.fields,
                   x.key ≠ (⟨b.base + off, f.lo, f.hi + 1 - f.lo⟩ : Fld).key) →
                   (endsLine (b.base + off) = true → ∀ (d : DieId) (i : Nat), i < 8 →
                     x.key ≠ (ICU_PEND.pend d i).key) → t.get x = s.get x) ∧
                 (endsLine (b.base + off) = true → ∀ (d : DieId) (n : Nat), n < 256 →
                   t.icuBit (ICU_PEND.pend d) n = (s.icuBit (ICU_PEND.pend d) n || s.line d n)) ∧
                 { t with regs := s.regs } = s))))) ∧
     (∀ (p : Port) (addr v : Word) (s : State),
       (s.power.on = false → exec (.registerWrite p addr v) s = .next s) ∧
       (s.power.on = true → s.holder = none → addr.toNat < 2 ^ 30 → p ≠ .host →
         exec (.registerWrite p addr v) s = .next (s.emit (.refused p addr.toNat 4))))) ∧
  (∀ (a : Access) (kind : Nat) (s t : State), kind < 16 → a.addr < 2 ^ 32 → t = s.violate a kind →
       ∀ w, w = violWindow a → t.get (VIOL_ADDR.addr w) = a.addr ∧ t.get (VIOL_INFO.valid w) = 1 ∧
         t.get (VIOL_INFO.requester w) = a.port.num ∧ t.get (VIOL_INFO.kind w) = kind ∧
         t.get (VIOL_INFO.write w) = b2n a.write ∧ t.get (VIOL_INFO.alias_ w) = b2n a.alias_ ∧
         t.get (VIOL_COUNT.count w) = min (s.get (VIOL_COUNT.count w) + 1) (2 ^ 32 - 1) ∧
         (∃ x : Post, t.posts = s.posts ++ [x] ∧ x.code = 0x0061 ∧ x.tick = s.now) ∧
         (a.port = .host → t.get HPT_ERR_ADDR.addr = a.addr ∧ t.get HPT_STATUS.last_code = 1 ∧
           t.get HPT_ERRORS.count = min (s.get HPT_ERRORS.count + 1) (2 ^ 32 - 1) ∧
           t.get HPT_INT_STATUS.error = 1) ∧
         RegsBut ([VIOL_ADDR.addr w, VIOL_INFO.valid w, VIOL_INFO.requester w, VIOL_INFO.kind w, VIOL_INFO.write w,
           VIOL_INFO.alias_ w, VIOL_COUNT.count w] ++ (if a.port = .host then [HPT_ERR_ADDR.addr,
           HPT_STATUS.last_code, HPT_ERRORS.count, HPT_INT_STATUS.error] else [])) s t ∧
         { t with regs := s.regs, posts := s.posts } = s)

/-- R602-R605: a source whose line is high becomes pending; writes of 1 set and clear pending bits, source 0 aside. A
claim returns the lowest source offered to the target, with bit 31 when another remains, clears its pending bit
and makes it active; with none offered, or one active, it returns 0x100 and is counted. A completion of the
active source ends it, any other is counted as stray. The host port reaches the claim and completion registers of
the cores' targets only to violate. Readings and choices of the model: log entry 93. -/
def Obligations.InterruptsAreClaimedAndCompleted : Prop :=
  ∀ (d : DieId) (s : State),
    (∃ t, exec (.interruptPending d) s = .next t ∧ { t with regs := s.regs } = s ∧
      (∀ n, n < 256 → t.icuBit (ICU_PEND.pend d) n = (s.icuBit (ICU_PEND.pend d) n || s.line d n)) ∧
      RegsBut ((List.range 8).map (ICU_PEND.pend d)) s t) ∧
    (s.power.on = true → s.roleOf d ≠ roBOOT → s.roleOf d ≠ roUNFIT → ∀ p : Port,
      ((p = .host → s.obj 0x1108 0 ≠ 0) → ∀ (i : Fin 8) (v : Word), ∀ m : Nat,
        m = (if i.val = 0 then v.toNat - v.toNat % 2 else v.toNat) →
        (∃ t, exec (.icuPendSet p d i v) s = .next t ∧
          t.get (ICU_PEND.pend d i) = (s.get (ICU_PEND.pend d i) ||| m) % 2 ^ 32 ∧
          OnlyRegs [ICU_PEND.pend d i] s t) ∧
        (∃ t, exec (.icuPendClear p d i v) s = .next t ∧
          t.get (ICU_PEND.pend d i) = (s.get (ICU_PEND.pend d i) - (s.get (ICU_PEND.pend d i) &&& m)) % 2 ^ 32 ∧
          OnlyRegs [ICU_PEND.pend d i] s t)) ∧
      (∀ k : Fin 6, (p = .host → 4 ≤ k.val) →
        (∀ n rest, s.offers d k = n :: rest → s.get (ICU_TSTATUS.active d k) = 0x100 →
          ∃ t, exec (.icuClaim p d k) s = .next t ∧ t.icuBit (ICU_PEND.pend d) n = false ∧
            t.icuBit (ICU_ACTIVE.act d) n = true ∧ t.get (ICU_TSTATUS.active d k) = n ∧
            (∀ m, m < 256 → m ≠ n → t.icuBit (ICU_PEND.pend d) m = s.icuBit (ICU_PEND.pend d) m ∧
              t.icuBit (ICU_ACTIVE.act d) m = s.icuBit (ICU_ACTIVE.act d) m) ∧
            t.out = s.out ++ [.regRead p (d.space + 0x800 + 16 * k)
              (BitVec.ofNat 32 ((if rest = [] then 0 else 2 ^ 31) + n))] ∧
            RegsBut [ICU_PEND.pend d (n / 32), ICU_ACTIVE.act d (n / 32), ICU_TSTATUS.active d k] s t) ∧
        (s.offers d k = [] ∨ s.get (ICU_TSTATUS.active d k) ≠ 0x100 →
          ∃ t, exec (.icuClaim p d k) s = .next t ∧
            t.get (ICU_EMPTY_CLAIMS.count d) = min (s.get (ICU_EMPTY_CLAIMS.count d) + 1) (2 ^ 32 - 1) ∧
            t.out = s.out ++ [.regRead p (d.space + 0x800 + 16 * k) 0x100] ∧
            RegsBut [ICU_EMPTY_CLAIMS.count d] s t) ∧
        (∀ (v : Word) (n : Nat), v.toNat = n → n < 256 →
          (s.get (ICU_TSTATUS.active d k) = n → ∃ t, exec (.icuComplete p d k v) s = .next t ∧
            t.icuBit (ICU_ACTIVE.act d) n = false ∧ t.get (ICU_TSTATUS.active d k) = 0x100 ∧
            OnlyRegs [ICU_ACTIVE.act d (n / 32), ICU_TSTATUS.active d k] s t) ∧
          (s.get (ICU_TSTATUS.active d k) ≠ n → ∃ t, exec (.icuComplete p d k v) s = .next t ∧
            t.get (ICU_STRAY.count d) = min (s.get (ICU_STRAY.count d) + 1) (2 ^ 32 - 1) ∧
            OnlyRegs [ICU_STRAY.count d] s t))) ∧
      (∀ k : Fin 6, k.val < 4 → p = .host → exec (.icuClaim p d k) s =
        .next ((s.violate (apronRead p (d.space + 0x800 + 16 * k)) 9).emit
          (.refused p (d.space + 0x800 + 16 * k) 1))))

/-- R600: a doorbell with a length from 12 to 1,152 while no message is in progress sets busy, clears ready and gives
the octets of the request buffer to the object protocol as a message of the host-port session; while busy it is a
violation of kind 9, and with another length of kind 5. A response that is free to leave is placed in the
response buffer: busy clears, ready sets and msg_ready is raised; with none nothing happens. Readings and choices
of the model: log entry 96. -/
def Obligations.HostMessagesAreExchanged : Prop :=
  (∀ (p : Port) (v : Word) (m : List Byte) (c : Instr) (s : State), s.power.on = true →
    (s.get HPT_MSG_STAT.busy = 1 → exec (.msgDoorbell p v) s =
      .next ((s.violate (apronWrite p 0xC0010020) 9).emit (.refused p 0xC0010020 1))) ∧
    (s.get HPT_MSG_STAT.busy = 0 →
      (v.toNat % 2048 < 12 ∨ 1152 < v.toNat % 2048 → exec (.msgDoorbell p v) s =
        .next ((s.violate (apronWrite p 0xC0010020) 5).emit (.refused p 0xC0010020 1))) ∧
      (12 ≤ v.toNat % 2048 → v.toNat % 2048 ≤ 1152 → s.get HPT_CTRL.msg_en = 1 →
        m = s.requestOctets (v.toNat % 2048) →
        ((c = .read 0 m ∧ ((∃ l, requestOf m = some (.read l)) ∨ requestOf m = none)) ∨
          (c = .write 0 m ∧ ∃ l, requestOf m = some (.write l)) ∨
          (c = .epRead 0 m ∧ ∃ e n k, requestOf m = some (.epRead e n k)) ∨
          (c = .epWrite 0 m ∧ ∃ l, requestOf m = some (.epWrite l)) ∨
          (c = .company (some 0) m ∧ ∃ b, requestOf m = some (.company b))) →
        ∃ t, exec (.msgDoorbell p v) s = .next t ∧
          exec c ((s.set HPT_MSG_STAT.busy 1).set HPT_MSG_STAT.ready 0) = .next t ∧
          (requestOf m = none → s.twin.held = [] → t.get HPT_MSG_STAT.busy = 1 ∧ t.get HPT_MSG_STAT.ready = 0)))) ∧
  (∀ (r : Reply) (s : State),
    s.replies.find? (fun r => decide (r.session = 0) && s.acked r.after && s.mirrored r) = some r →
    r.body.length ≤ 1152 → ∃ t, exec .msgResponse s = .next t ∧ t.get HPT_MSG_STAT.busy = 0 ∧
      t.get HPT_MSG_STAT.ready = 1 ∧ t.get HPT_INT_STATUS.msg_ready = 1 ∧
      t.get HPT_MSG_STAT.rsp_len = r.body.length ∧
      (∀ w, 4 * w < r.body.length → t.get (HPT_MSG_RSP.data w) = leAt r.body (4 * w) 4) ∧
      t.replies = s.replies.erase r) ∧
  (∀ s : State, s.replies.find? (fun r => decide (r.session = 0) && s.acked r.after && s.mirrored r) = none →
    exec .msgResponse s = .next s)

/-- R582-R585, R587, R596: host-port transactions. A read of the response buffer returns its words with code 0. A
malformed one performs no word and ends with code 6; a word of the windows that could not be corrected ends a
read with code 5; space 0b00 without a stage holder with code 4. Of a burst whose second word fails the first
word stands, the third is not performed, and the status gives the code and the index 1. An abandoned transaction
is counted, and its completed words stand. An access that reaches the stall cap beyond a crossing ends with code
2 without effect, or with code 3 with the effect of the word. Readings and choices of the model: log entry 97. -/
def Obligations.HostTransactionsEndWithTheirStatus : Prop :=
  ∀ s : State, s.power.on = true →
    (∀ (n : Fin 64) (h : Fin 401) (bad : List (Fin 64)), ∃ t,
      exec (.hostRead true 0xC0010880 n h bad) s = .next t ∧
      t.out = s.out ++ [.host ((List.range (n.val + 1)).map
        fun k => BitVec.ofNat 32 (s.get (HPT_MSG_RSP.data k))) 0 0 none] ∧
      RegsBut [HPT_STALL_MAX.time] s t) ∧
    (∀ (known : Bool) (addr : Word) (n : Fin 64) (h : Fin 401) (bad : List (Fin 64)),
      known = false ∨ addr.toNat % 4 ≠ 0 → ∃ t, exec (.hostRead known addr n h bad) s = .next t ∧
        t.out = s.out ++ [.host [] 6 0 (s.servedBy addr.toNat)] ∧ t.get HPT_ERR_ADDR.addr = addr.toNat ∧
        t.get HPT_ERRORS.count = min (s.get HPT_ERRORS.count + 1) (2 ^ 32 - 1) ∧
        t.get HPT_INT_STATUS.error = 1 ∧ RegsBut [HPT_ERR_ADDR.addr, HPT_STATUS.last_code, HPT_ERRORS.count,
          HPT_INT_STATUS.error] s t) ∧
    (∀ (d : DieId) (addr : Word) (n : Fin 64) (h : Fin 401) (bad : List (Fin 64)), (0 : Fin 64) ∈ bad →
      s.roleOf d ≠ roBOOT → s.roleOf d ≠ roUNFIT → d.space + 0x10000000 ≤ addr.toNat →
      addr.toNat < d.space + 0x24800000 → addr.toNat % 4 = 0 →
      ∃ t, exec (.hostRead true addr n h bad) s = .next t ∧
        t.out = s.out ++ [.host (List.replicate (n.val + 1) 0) 5 0 none] ∧
        t.get HPT_ERR_ADDR.addr = addr.toNat) ∧
    (∀ (addr : Word) (n : Fin 64) (h : Fin 401) (data : List Word), s.holder = none → addr.toNat < 2 ^ 30 →
      addr.toNat % 4 = 0 → data ≠ [] →
      (∃ t, exec (.hostRead true addr n h []) s = .next t ∧
        t.out = s.out ++ [.host (List.replicate (n.val + 1) 0) 4 0 none] ∧
        t.get HPT_ERRORS.count = min (s.get HPT_ERRORS.count + 1) (2 ^ 32 - 1)) ∧
      (∃ t, exec (.hostWrite addr data h) s = .next t ∧ t.out = s.out ++ [.host [] 4 0 none] ∧
        t.get HPT_ERRORS.count = min (s.get HPT_ERRORS.count + 1) (2 ^ 32 - 1))) ∧
    (∀ (u v w : Word) (h : Fin 401), s.get HPT_MSG_STAT.busy = 0 →
      ∃ t, exec (.hostWrite 0xC001087C [u, v, w] h) s = .next t ∧ t.out = s.out ++ [.host [] 1 1 none] ∧
        t.get (HPT_MSG_REQ.data 287) = u.toNat ∧ t.get (HPT_MSG_RSP.data 0) = s.get (HPT_MSG_RSP.data 0) ∧
        t.get (HPT_MSG_RSP.data 1) = s.get (HPT_MSG_RSP.data 1) ∧ t.get HPT_ERR_ADDR.addr = 0xC0010880 ∧
        t.get HPT_ERRORS.count = min (s.get HPT_ERRORS.count + 1) (2 ^ 32 - 1)) ∧
    (∀ (n : Fin 65) (u : Word), (∃ t, exec (.hostAbort false 0xC0010880 n []) s = .next t ∧ t.out = s.out ∧
        t.get HPT_ABORTS.count = min (s.get HPT_ABORTS.count + 1) (2 ^ 32 - 1) ∧
        t.get HPT_INT_STATUS.error = 1 ∧ OnlyRegs [HPT_ABORTS.count, HPT_INT_STATUS.error] s t) ∧
      (s.get HPT_MSG_STAT.busy = 0 → ∃ t, exec (.hostAbort true 0xC0010400 n [u]) s = .next t ∧ t.out = s.out ∧
        t.get (HPT_MSG_REQ.data 0) = u.toNat ∧
        t.get HPT_ABORTS.count = min (s.get HPT_ABORTS.count + 1) (2 ^ 32 - 1))) ∧
    (∀ (d : DieId) (i : Fin 8) (v : Word) (w : Nat), s.roleOf d ≠ roBOOT → s.roleOf d ≠ roUNFIT →
      s.obj 0x1108 0 ≠ 0 → w = d.space + 0x80 + 4 * i →
      (∃ t, exec (.stallCap true false (BitVec.ofNat 32 w) 0 [] v) s = .next t ∧
        t.out = s.out ++ [.host [] 2 0 none] ∧ t.get HPT_ERR_ADDR.addr = w ∧
        t.get HPT_STALLS.count = min (s.get HPT_STALLS.count + 1) (2 ^ 32 - 1) ∧
        t.get (ICU_PEND.pend d i) = s.get (ICU_PEND.pend d i)) ∧
      (1 ≤ i.val → ∃ t, exec (.stallCap true true (BitVec.ofNat 32 w) 0 [] v) s = .next t ∧
        t.out = s.out ++ [.host [] 3 0 none] ∧ t.get HPT_ERR_ADDR.addr = w ∧
        t.get (ICU_PEND.pend d i) = (s.get (ICU_PEND.pend d i) ||| v.toNat) % 2 ^ 32))

/-- R617, R620, R630, R637: a key that a slot holds is invalidated with every key beneath it: their state becomes
invalid and their values are erased, slots outside stay, the management certificate goes with slot 5 and every
DTLS session with slot 4, and one record is posted; a fixed, a reserved or an empty slot changes nothing. A
re-mask keeps every key and is counted; during a key operation it waits and is counted late. When a statement is
ready object 0x7021 holds it (here with no hand-off held back for the understudy). R634, R635, R636, R638: at a
grid tick of the ghost light each enabled input is sampled; with no confirming sample nothing but the inputs'
state changes. An input that shows tamper as it did at the tick before, and has not confirmed this tamper state,
confirms an event: its latch bit is set, the event counted, the tick kept where the latch was clear; with the
main supply a valid management key goes with every DTLS session, keys and sessions stay where that key is invalid
already, and the event is raised and posted; without it only the marks are written, and the record waits for the
start. An unpowered ghost light samples nothing. Readings and choices of the model: log entries 64, 67, 68. -/
def Obligations.KeysAndTamperEvents : Prop :=
  ((∀ (c : Fin 16) (s : State),
       (c.val ≤ 2 ∨ 13 < c.val ∨ s.slotState c = 0 → exec (.keyInvalidate c) s = .next s) ∧
       (2 < c.val → c.val ≤ 13 → s.slotState c ≠ 0 → ∃ t, exec (.keyInvalidate c) s = .next t ∧
         (∀ k : Nat, k = c.val ∨ (k ∈ s.beneath c ∧ s.slotState k ≠ 0) →
           (t.slot k).state = 2 ∧ (t.slot k).value = [] ∧ (t.slot k).gen = (s.slot k).gen) ∧
         (∀ k : Nat, k ≠ c.val → (k ∉ s.beneath c ∨ s.slotState k = 0) → t.slot k = s.slot k) ∧
         (c.val = 5 → t.oct 0x7004 0 = []) ∧ (c.val = 4 → t.sessions = []) ∧
         (c.val ≠ 3 → c.val ≠ 4 → t.sessions = s.sessions) ∧
         (∀ d : DieId, t.get (KEY_INT_STATUS.invalidated d) = 1) ∧
         (s.power.on = true → t.posts.length = s.posts.length + 1) ∧
         RegsBut [KEY_INT_STATUS.invalidated .a, KEY_INT_STATUS.invalidated .b] s t)) ∧
     (∀ s : State,
       (s.keys.ops = [] → ∃ t, exec .keyRemask s = .next t ∧ t.keys.remaskWaits = false ∧
         (∀ c : Nat, (t.slot c).value = (s.slot c).value ∧ (t.slot c).state = (s.slot c).state ∧
           (t.slot c).record = (s.slot c).record) ∧
         (∀ d : DieId, t.get (KEY_REMASKS.count d) = (s.get (KEY_REMASKS.count d) + 1) % 2 ^ 32) ∧
         RegsBut [KEY_REMASKS.count .a, KEY_REMASKS.count .b] s t) ∧
       (s.keys.ops ≠ [] → ∃ t, exec .keyRemask s = .next t ∧ t.keys.remaskWaits = true ∧
         t.keys.slots = s.keys.slots ∧ (∀ d : DieId, t.get (KEY_INT_STATUS.remask_late d) = 1) ∧
         RegsBut [KEY_INT_STATUS.remask_late .a, KEY_INT_STATUS.remask_late .b] s t)) ∧
     (∀ s : State,
       (s.keys.ops = [] → exec .attestationReady s = .next s) ∧
       (∀ o rest, s.keys.ops = o :: rest → s.twin.held = [] → ∃ t, exec .attestationReady s = .next t ∧
         t.oct 0x7021 0 = s.statement o.slot o.data ∧ t.keys.ops = rest ∧
         t.get (KEY_INT_STATUS.attest_ready s.stageDie) = 1 ∧
         t.get (KEY_OPS.count s.stageDie) = (s.get (KEY_OPS.count s.stageDie) + 1) % 2 ^ 32))) ∧
  (∀ (sw : Fin 16) (mesh : Bool) (on : Nat → Bool) (x : Nat → TamperInput) (s : State), s.keys.ops = [] →
       s.keys.remaskWaits = false →
       (∀ i, i < 5 → on i = ((if i = 4 then mesh else decide (bitOf sw i + bitOf s.keys.polarity i = 1)) &&
         decide (bitOf s.keys.enabled i = 1))) →
       (∀ i, x i = Tbl.get TamperInput.quiet s.keys.inputs i) →
       (s.power.ghost = false → exec (.tamperSample sw mesh) s = .next s) ∧
       (s.power.ghost = true → ∃ t, exec (.tamperSample sw mesh) s = .next t ∧
         (∀ i, i < 5 → bitOf t.keys.present i = b2n (on i) ∧
           (on i = true → (Tbl.get TamperInput.quiet t.keys.inputs i).off = 0 ∧
             (Tbl.get TamperInput.quiet t.keys.inputs i).on = min ((x i).on + 1) 2) ∧
           (on i = false → (Tbl.get TamperInput.quiet t.keys.inputs i).on = 0 ∧
             (Tbl.get TamperInput.quiet t.keys.inputs i).confirmed = ((x i).confirmed && decide ((x i).off = 0)))) ∧
         ((∀ i, i < 5 → on i = false ∨ (x i).on = 0 ∨ (x i).confirmed = true) →
           t.regs = s.regs ∧ t.keys.latched = s.keys.latched ∧ t.keys.events = s.keys.events ∧
           t.keys.slots = s.keys.slots ∧ t.posts = s.posts ∧ t.sessions = s.sessions) ∧
         (∀ j, j < 5 → on j = true → 1 ≤ (x j).on → (x j).confirmed = false →
           (∀ i, i < 5 → i ≠ j → on i = false ∨ (x i).on = 0 ∨ (x i).confirmed = true) →
           t.keys.latched = setBit s.keys.latched j ∧ t.keys.events = min (s.keys.events + 1) 65535 ∧
           t.keys.firstTick = (if s.keys.latched = 0 then s.rtc.count else s.keys.firstTick) ∧
           (Tbl.get TamperInput.quiet t.keys.inputs j).confirmed = true ∧
           (s.power.on = true → (∀ d : DieId, t.get (KEY_INT_STATUS.tamper d) = 1) ∧
             (∃ p ∈ t.posts.drop s.posts.length, p.code = 0x0071) ∧
             (s.slotValid 4 = true → t.slotState 4 = 2 ∧ t.sessions = [] ∧ t.slot 3 = s.slot 3 ∧
               t.slot 9 = s.slot 9) ∧
             (s.slotState 4 = 2 → t.keys.slots = s.keys.slots ∧ t.sessions = s.sessions)) ∧
           (s.power.on = false → t.regs = s.regs ∧ t.keys.slots = s.keys.slots ∧ t.posts = s.posts ∧
             t.power.posts.length = s.power.posts.length + 1))))

/-- R631: a segment key change begins at the end of the period of object 0x701A, unless one is in progress: the
current key becomes the previous one, a key of the next generation is generated, and T lies object 0x7019 ahead;
at T the new key is used; at T plus the lead slot 11 is emptied and the change is over. Readings and choices of
the model: log entries 65, 66, 68. -/
def Obligations.SegmentKeysChangeInStages : Prop :=
  (∀ s : State, (s.keys.segStart = none ∨ s.obj 0x701A 0 = 0 ∨
      (∃ t0, s.keys.segStart = some t0 ∧ s.taiSec < t0 + s.obj 0x701A 0 * 86400) ∨ s.segUse.isSome = true →
      exec .segmentKeyPeriod s = .next s) ∧
    (∀ t0, s.keys.segStart = some t0 → 0 < s.obj 0x701A 0 → t0 + s.obj 0x701A 0 * 86400 ≤ s.taiSec →
      s.segUse = none → ∃ t, exec .segmentKeyPeriod s = .next t ∧
        t.segUse = some (s.taiSec + s.obj 0x7019 0) ∧ t.segNew = false ∧ t.link.previous = s.link.current ∧
        t.link.previousGen = s.link.currentGen ∧ t.link.currentGen = (s.link.currentGen + 1) % 256 ∧
        t.keys.segStart = some s.taiSec ∧ (t.slot 10).state = 1 ∧ (t.slot 11).value = (s.slot 10).value ∧
        t.slot 9 = s.slot 9 ∧ RegsBut [KEY_OPS.count s.stageDie] s t)) ∧
  (∀ s : State, (s.segUse = none → exec .segmentKeyUse s = .next s ∧ exec .segmentKeyRetire s = .next s) ∧
    (∀ n, s.segUse = some n →
      (s.taiSec < n ∨ s.segNew = true → exec .segmentKeyUse s = .next s) ∧
      (n ≤ s.taiSec → s.segNew = false → ∃ t, exec .segmentKeyUse s = .next t ∧ t.segNew = true ∧
        t.segUse = s.segUse ∧ (∀ d : DieId, t.get (KEY_INT_STATUS.seg_change d) = 1) ∧ t.link = s.link ∧
        RegsBut [KEY_INT_STATUS.seg_change .a, KEY_INT_STATUS.seg_change .b] s t) ∧
      (s.taiSec < n + s.obj 0x7019 0 ∨ s.segNew = false → exec .segmentKeyRetire s = .next s) ∧
      (n + s.obj 0x7019 0 ≤ s.taiSec → s.segNew = true → ∃ t, exec .segmentKeyRetire s = .next t ∧
        t.segUse = none ∧ t.slot 11 = KeySlot.empty ∧ (∀ c : Nat, c ≠ 11 → t.slot c = s.slot c) ∧
        t.link.previous = [] ∧ t.link.current = s.link.current ∧ t.link.currentGen = s.link.currentGen ∧
        t.regs = s.regs)))

/-- R656, R760: a released die boots the slot of its boot pointer when that passes its check, and else the other when
it is valid and its security version is at least the minimum, which counts and signals a fallback; when neither
passes it enters UNFIT. A booted die's core routes are non-zero for the assigned sources and zero for the others.
A die that is not in BOOT, or has booted, does not boot. R663, R665, R666: when probation expires the new image
is accepted: its security version becomes the minimum of both dies, the old-image die takes the image into the
slot it does not run, points its boot pointer there and restarts, and the end is signalled (here with no hand-off
held back for the understudy); before that, or while a rejection is being made, nothing happens. A campaign ends
once every transport in service has sent every block of every round. Readings and choices of the model: log
entries 71, 72, 74, 92. -/
def Obligations.ImagesBootAndProve : Prop :=
  (∀ (d : DieId) (x y : Bool) (s : State), ∀ ok : Nat → Bool,
       (∀ k, ok k = (decide ((if k = 0 then (s.green d).run0 else (s.green d).run1).state = 2) &&
         if k = 0 then x else y)) → ∀ other : Nat, other = 1 - (s.green d).boot →
       (s.power.on = false ∨ s.roleOf d ≠ roBOOT ∨ s.booted d = true → exec (.dieBoot d x y) s = .next s) ∧
       (s.power.on = true → s.roleOf d = roBOOT → s.booted d = false →
         (ok (s.green d).boot = true → ∃ t, exec (.dieBoot d x y) s = .next t ∧
           (t.green d).running = (s.green d).boot ∧ (t.green d).boot = (s.green d).boot ∧
           (t.green d).fallbacks = min (s.green d).fallbacks (2 ^ 32 - 1) ∧ t.posts = s.posts ∧
           { t.die d.other with otherMoved := (s.die d.other).otherMoved } = s.die d.other ∧
           (∀ n, n < 256 → (t.get (ICU_ROUTE.cores d n) ≠ 0 ↔ assigned n = true))) ∧
         (ok (s.green d).boot = false → ok other = true →
           (s.green d).minimum ≤ (if other = 0 then (s.green d).run0 else (s.green d).run1).security →
           ∃ t, exec (.dieBoot d x y) s = .next t ∧ (t.green d).running = other ∧ (t.green d).boot = other ∧
             (t.green d).fallbacks = min ((s.green d).fallbacks + 1) (2 ^ 32 - 1) ∧
             t.get (GRN_INT_STATUS.boot_fallback d) = 1 ∧ t.posts.length = s.posts.length + 1) ∧
         (ok (s.green d).boot = false → (ok other = false ∨
             (if other = 0 then (s.green d).run0 else (s.green d).run1).security < (s.green d).minimum) →
           ∃ t, exec (.dieBoot d x y) s = .next t ∧ t.roleOf d = roUNFIT ∧ t.posts = s.posts))) ∧
  ((∀ s : State,
       (s.activation.state ≠ 4 ∨ s.now < s.activation.until_ ∨ s.activation.rejecting = true →
         exec .probationExpiry s = .next s) ∧
       (∀ d, s.activation.state = 4 → s.activation.until_ ≤ s.now → s.activation.rejecting = false →
         s.activation.die = some d → s.twin.held = [] → ∃ t, exec .probationExpiry s = .next t ∧
           t.activation.state = 7 ∧ (∀ e : DieId, (t.green e).minimum = (s.green d).stage.security) ∧
           t.roleOf d.other = roBOOT ∧ t.get (GRN_INT_STATUS.probation_end d) = 1 ∧
           ((s.green d.other).running = 0 → (t.green d.other).run1 = (s.green d.other).stage ∧
             (t.green d.other).run0 = (s.green d.other).run0 ∧ (t.green d.other).boot = 1) ∧
           ((s.green d.other).running ≠ 0 → (t.green d.other).run0 = (s.green d.other).stage ∧
             (t.green d.other).run1 = (s.green d.other).run1 ∧ (t.green d.other).boot = 0) ∧
           t.holder = s.holder)) ∧
     (∀ s : State,
       (s.campaign.on = true → (∃ i, i < 6 ∧ s.inService i = true) →
         (∀ i, i < 6 → s.inService i = true →
           s.campaign.rounds * (s.nodeSlot s.campaign.slot).blocks ≤ Tbl.get 0 s.campaign.done i) →
         ∃ t, exec .campaignDone s = .next t ∧ t.campaign.on = false ∧
           t.get (GRN_INT_STATUS.campaign_done s.stageDie) = 1 ∧ RegsBut [GRN_INT_STATUS.campaign_done s.stageDie] s t) ∧
       (s.campaign.on = false ∨ (∀ i, i < 6 → s.inService i = false) ∨
         (∃ i, i < 6 ∧ s.inService i = true ∧
           Tbl.get 0 s.campaign.done i < s.campaign.rounds * (s.nodeSlot s.campaign.slot).blocks) →
         exec .campaignDone s = .next s)))

/-- R679-R682: the next record of the intake is the one of the oldest clock, there of the first plane, there of the
lowest source; it leaves the intake. The stage holder's writer stores it: as a new record with the next sequence
at the next index, or counted on the last record where that is the same, or, when the log is full, counted as
lost. A record of the understudy is forwarded; without a stage holder a die stores its own and remembers it.
Before the counters are loaded, or with no record, nothing happens. Readings and choices of the model: log
entries 14, 75, 77. -/
def Obligations.CallboardStoresTheNextRecord : Prop :=
  (∀ s : State, s.posts = [] ∨ s.power.loaded = false → exec .callboardPost s = .next s) ∧
  (∀ (p : Post) (q : Post) (l : List Post), pickPost (q :: l) = some p → p ∈ q :: l ∧ p.tick = q.tick ∧
    ∀ x ∈ q :: l, x.tick = q.tick →
      p.plane.num < x.plane.num ∨ (p.plane.num = x.plane.num ∧ p.source ≤ x.source)) ∧
  (∀ (p : Post) (s : State), pickPost s.posts = some p → s.power.loaded = true →
    (∀ d, s.holder = some d → postDie p = some d.other → ∃ t, exec .callboardPost s = .next t ∧
      t.posts = s.posts.erase p ∧ t.continuity = s.continuity ++
        [(d, .records [{ s.makeRec p false with count := 0 }])] ∧
      t.get (CBD_FORWARDED.count d.other) = (s.get (CBD_FORWARDED.count d.other) + 1) % 2 ^ 32 ∧
      t.dieA = s.dieA ∧ t.dieB = s.dieB) ∧
    (∀ d r, (s.holder = some d ∧ postDie p ≠ some d.other ∧ r = s.makeRec p false ∨
        s.holder = none ∧ d = (postDie p).getD .a ∧ r = s.makeRec p true) →
      ∃ t, exec .callboardPost s = .next t ∧ t.posts = s.posts.erase p ∧ t.die d.other = s.die d.other ∧
        (s.holder = none → (t.die d).alone = (s.die d).alone ++ [r]) ∧
        ((s.die d).board.fill < 262142 → (s.die d).board.stored = false →
          (t.die d).board.fill = (s.die d).board.fill + 1 ∧
          (t.die d).board.next = ((s.die d).board.next + 1) % 2 ^ 32 ∧
          (t.die d).board.at_ (s.die d).board.fill = { r with seq := (s.die d).board.next } ∧
          t.get (CBD_INT_STATUS.stored d) = 1 ∧ t.get (CBD_LAST.code d) = r.code % 2 ^ 16) ∧
        ((s.die d).board.fill < 262144 → (s.die d).board.stored = true → 0 < (s.die d).board.fill →
          mayRepeat ((s.die d).board.at_ ((s.die d).board.fill - 1)) r = true →
          (t.die d).board.fill = (s.die d).board.fill ∧ (t.die d).board.next = (s.die d).board.next ∧
          (t.die d).board.at_ ((s.die d).board.fill - 1) =
            { (s.die d).board.at_ ((s.die d).board.fill - 1) with
              count := ((s.die d).board.at_ ((s.die d).board.fill - 1)).count + 1, last := r.stamp } ∧
          t.get (CBD_REPEATS.count d) = (s.get (CBD_REPEATS.count d) + 1) % 2 ^ 32) ∧
        (262144 ≤ (s.die d).board.fill → (t.die d).board.fill = (s.die d).board.fill ∧
          (t.die d).board.log = (s.die d).board.log ∧
          (t.die d).board.lost = min ((s.die d).board.lost + 1) (2 ^ 32 - 1) ∧
          t.get (CBD_INT_STATUS.lost d) = 1)))

/-- R688, R689, R690: what each test does while it runs without a result; a test that does not run, or has its
result, does nothing. A spare shows its fault in the register of its die; a scrub test starts a pass on both
stacks; the calibration of a radio and the measurement of a line take one step in each idle slot or window and
end with the eighth; a count test requests a count frame, an offset test a run; the diagnostic of a cable, the
lanes and the loopback have their result at once, the last two in offline mode only. R473, R687, R688: the full
self-test of a die by request: the stage holder first hands over, or the test is refused; the understudy is to
leave for it; a die already in it is tested there. A test with a result ends: the result is shown on both dies,
counted, signalled and posted, and the next test starts; without one nothing happens. Full self-test ends in
RESYNC where it passed and every failed unit has gone to a spare, and else in UNFIT. The spares are tested at the
end of their period and a radio joins the queue at the end of its interval. Readings and choices of the model:
log entries 76, 78. -/
def Obligations.TestsRunEndAndFollow : Prop :=
  ((∀ (c : Fin 32) (x y : Bool) (s : State),
       (s.runs 2 c = false → exec (.spareUnitTest c x y) s = .next s) ∧
       (s.runs 2 c = true → ∃ t, exec (.spareUnitTest c x y) s = .next t ∧
         (∀ d : DieId, ∀ z, z = (if d = .a then x else y) →
           (s.spareTestable d c = true → bitOf (t.get (TST_SPARE_FAIL.failed d)) c = b2n z ∧
             (z = true → t.get (TST_INT_STATUS.spare_fail d) = 1 ∧ t.tests.verdict = some 1)) ∧
           (s.spareTestable d c = false → t.get (TST_SPARE_FAIL.failed d) = s.get (TST_SPARE_FAIL.failed d))) ∧
         (x = false → y = false → t.tests.verdict = some 0) ∧
         RegsBut [TST_SPARE_FAIL.failed .a, TST_SPARE_FAIL.failed .b, TST_INT_STATUS.spare_fail .a,
           TST_INT_STATUS.spare_fail .b] s t)) ∧
     (∀ (k : Fin 4) (p : Bool) (s : State),
       (s.runs 3 k = false → exec (.mramScrubTest k [] p) s = .next s) ∧
       (s.runs 3 k = true → ∃ t, exec (.mramScrubTest k [] p) s = .next t ∧
         t.tests.verdict = some (if p then 0 else 1) ∧ ∀ d : DieId,
           Tbl.get 0 (t.die d).scrubPass k = Tbl.get 0 (s.die d).scrubPass k + 1 ∧
           t.get (EPS_SCRUB_POS.bank d) = k ∧ t.get (EPS_SCRUB_POS.row d) = 0 ∧
           t.get (EPS_ECC_CORR.count d) = s.get (EPS_ECC_CORR.count d)) ∧
       (s.runs 4 k = false ∨ slotKind (s.slotEntry k (s.slotIndex (s.phase / 128))) ≠ 0 →
         exec (.radioCalibration k p) s = .next s) ∧
       (s.runs 4 k = true → slotKind (s.slotEntry k (s.slotIndex (s.phase / 128))) = 0 →
         ∃ t, exec (.radioCalibration k p) s = .next t ∧ t.tests.steps = s.tests.steps + 1 ∧
           t.tests.verdict = (if s.tests.steps < 7 then none else some (if p then 0 else 1)) ∧
           { t with tests := s.tests } = s)) ∧
     (∀ (k : Fin 2) (p : Bool) (s : State),
       (s.runs 5 k = true → planKind (Tbl.get 0 (s.plc k).plan (s.windowIndex (s.phase / 256))) = 0 →
         (s.plc k).heldUntil ≤ s.now → ∃ t, exec (.plcLineMeasurement k p) s = .next t ∧
           t.tests.steps = s.tests.steps + 1 ∧
           t.tests.verdict = (if s.tests.steps < 7 then none else some (if p then 0 else 1)) ∧
           { t with tests := s.tests } = s) ∧
       (s.runs 5 k = false ∨ s.now < (s.plc k).heldUntil → exec (.plcLineMeasurement k p) s = .next s)) ∧
     (∀ (n : Fin 16) (i : Fin 22) (s : State),
       (s.runs 6 n = true → s.tests.steps = 0 → ∃ t, exec (.chainCountTest n) s = .next t ∧
         t.get (FLC_CTRL.count n) = 1 ∧ t.tests.steps = 1 ∧ RegsBut [FLC_CTRL.count n] s t) ∧
       (s.runs 6 n = false ∨ s.tests.steps ≠ 0 → exec (.chainCountTest n) s = .next s) ∧
       (s.runs 7 i = true → s.tests.steps = 0 →
         (s.isReference i = false → ∃ t, exec (.offsetCalibrationTest i) s = .next t ∧
           i.val ∈ t.meter.calQueue ∧ t.tests.steps = 1 ∧ t.regs = s.regs) ∧
         (s.isReference i = true → ∃ t, exec (.offsetCalibrationTest i) s = .next t ∧
           t.tests.verdict = some 3 ∧ { t with tests := s.tests } = s)) ∧
       (s.runs 7 i = false ∨ s.tests.steps ≠ 0 → exec (.offsetCalibrationTest i) s = .next s)) ∧
     (∀ (e : Fin 3) (p : Bool) (s : State), ∀ v : Nat, v = (if p then 0 else 1) →
       (s.runs 8 e = true → ∃ t, exec (.cableDiagnostic e p) s = .next t ∧
         t.tests.verdict = some (if s.cableOk e then v else 3) ∧ { t with tests := s.tests } = s) ∧
       (s.runs 8 e = false → exec (.cableDiagnostic e p) s = .next s) ∧
       (s.offline = true → s.runs 9 0 = true → ∃ t, exec (.falsiaLaneTest p) s = .next t ∧
         t.tests.verdict = some v ∧ { t with tests := s.tests } = s) ∧
       (s.offline = true → s.runs 10 e = true → ∃ t, exec (.phyLoopback e p) s = .next t ∧
         t.tests.verdict = some v ∧ { t with tests := s.tests } = s) ∧
       (s.offline = false → exec (.falsiaLaneTest p) s = .next s ∧ exec (.phyLoopback e p) s = .next s))) ∧
  ((∀ (d : DieId) (s : State), s.runs 1 d.num = true → s.tests.steps ≠ 1 →
       (s.holder = some d → s.plannedOk = true → ∃ t, exec (.dieFullSelfTest d) s = .next t ∧
         t.twin.planned.isSome = true ∧ t.tests = s.tests ∧ t.regs = s.regs) ∧
       (s.holder = some d → s.plannedOk = false → ∃ t, exec (.dieFullSelfTest d) s = .next t ∧
         t.tests.verdict = some 3 ∧ { t with tests := s.tests } = s) ∧
       (s.holder ≠ some d → s.roleOf d = roUNDERSTUDY → ∃ t, exec (.dieFullSelfTest d) s = .next t ∧
         (t.side d).toTest = true ∧ t.tests.steps = 1 ∧ t.regs = s.regs) ∧
       (s.holder ≠ some d → s.roleOf d = roTEST → ∃ t, exec (.dieFullSelfTest d) s = .next t ∧
         t.tests.steps = 1 ∧ { t with tests := s.tests } = s)) ∧
     (∀ (d : DieId) (s : State), s.runs 1 d.num = false ∨ s.tests.steps = 1 →
       exec (.dieFullSelfTest d) s = .next s) ∧
     (∀ s : State, (s.testResult = none → exec (.testEnd none) s = .next s) ∧
       (∀ r n i, s.testResult = some r → r ≤ 3 → s.tests.running = some (n, i) → n < 256 → i < 256 →
         ∃ t, exec (.testEnd none) s = .next t ∧
           t.tests.running = s.tests.queue.head? ∧ t.tests.queue = s.tests.queue.drop 1 ∧
           t.tests.verdict = none ∧ t.posts.length = s.posts.length + 1 ∧ ∀ d : DieId,
             t.get (TST_LAST.test d) = n ∧ t.get (TST_LAST.inst d) = i ∧ t.get (TST_LAST.result d) = r ∧
             t.get (TST_LAST_CYCLE.cycle d) = s.clk.cycle % 2 ^ 32 ∧ t.get (TST_INT_STATUS.test_done d) = 1 ∧
             (r = 1 → t.get (TST_INT_STATUS.test_fail d) = 1 ∧
               t.get (TST_FAILS.count d) = min (s.get (TST_FAILS.count d) + 1) (2 ^ 32 - 1)) ∧
             (r = 0 → t.get (TST_PASSES.count d) = (s.get (TST_PASSES.count d) + 1) % 2 ^ 32))) ∧
     (∀ (d : DieId) (p : Bool) (s : State),
       (s.roleOf d ≠ roTEST ∨ s.power.chosen = some d → exec (.testEnd (some (d, p))) s = .next s) ∧
       (s.roleOf d = roTEST → s.power.chosen ≠ some d → s.offline = false → s.tests.running = none →
         (p = true → s.lacksSpare d = false → (s.moveFailed d).lacksSpare d = false →
           (s.holder ≠ none ∨ s.power.chosen ≠ none) →
           ∃ t, exec (.testEnd (some (d, p))) s = .next t ∧ t.roleOf d = roRESYNC ∧ (t.side d).tested = true) ∧
         (p = false ∨ s.lacksSpare d = true ∨ (s.moveFailed d).lacksSpare d = true →
           ∃ t, exec (.testEnd (some (d, p))) s = .next t ∧
           t.roleOf d = roUNFIT)) ∧
       (s.roleOf d = roTEST → s.power.chosen ≠ some d → s.offline = true → s.tests.running = none →
         exec (.testEnd (some (d, p))) s = .next s)) ∧
     (∀ (bad : List (DieId × Fin 32)) (r : Fin 4) (s : State),
       (s.tests.running.isSome = true ∨ s.clk.cycle < s.tests.spareFrom + s.obj 0x7815 0 →
         exec (.testPeriodic none bad) s = .next s) ∧
       (s.tests.running = none → s.tests.spareFrom + s.obj 0x7815 0 ≤ s.clk.cycle →
         ∃ t, exec (.testPeriodic none bad) s = .next t ∧ t.tests.spareFrom = s.clk.cycle ∧
           ∀ (d : DieId) (c : Fin 32), s.spareTestable d c = true →
             (bitOf (t.get (TST_SPARE_FAIL.failed d)) c = 1 ↔ (d, c) ∈ bad)) ∧
       (s.obj 0x7814 0 = 0 ∨ s.now < Tbl.get 0 s.tests.radioFrom r + s.obj 0x7814 0 * 3600 * 25000000 ∨
         16 ≤ s.tests.queue.length → exec (.testPeriodic (some r) bad) s = .next s) ∧
       (0 < s.obj 0x7814 0 → Tbl.get 0 s.tests.radioFrom r + s.obj 0x7814 0 * 3600 * 25000000 ≤ s.now →
         s.tests.queue.length < 16 → ∃ t, exec (.testPeriodic (some r) bad) s = .next t ∧
           Tbl.get 0 t.tests.radioFrom r = s.now ∧ t.regs = s.regs ∧
           ((4, r.val) ∈ t.tests.queue ∨ t.tests.running = some (4, r.val)))))

/-- R691: in offline mode, or with TEST_EN high at supply-good, the test access port leaves reset with the
instruction of its identification, and both dies show it. Out of reset, an edge of TCK moves the controller of
IEEE 1149.1 and shifts the selected register; the instruction and the boundary register change at a falling edge.
In reset nothing happens. Readings and choices of the model: log entry 79. -/
def Obligations.TestAccessPortFollowsIts1149 : Prop :=
  (∀ s : State,
    (s.tap.out = false → s.power.on = true → (s.offline = true ∨ s.power.testEn = true) →
      ∃ t, exec .tapRelease s = .next t ∧ t.tap.out = true ∧ t.tap.state = 0 ∧ t.tap.ir = 1 ∧
        (∀ d : DieId, t.get (TST_MODE.tap d) = 1 ∧ t.get (TST_MODE.debug d) = 1 ∧
          t.get (TST_INT_STATUS.tap_active d) = 1)) ∧
    (s.tap.out = true ∨ s.power.on = false ∨ (s.offline = false ∧ s.power.testEn = false) →
      exec .tapRelease s = .next s)) ∧
  (∀ (r tms tdi : Bool) (s : State),
    (s.tap.out = false ∨ s.tap.tck = r → exec (.tapClockEdge r tms tdi) s = .next s) ∧
    (s.tap.out = true → s.tap.tck = false → ∃ t, exec (.tapClockEdge true tms tdi) s = .next t ∧
      t.tap.state = tapNext s.tap.state tms ∧ t.tap.tck = true ∧ t.tap.ir = s.tap.ir ∧
      t.tap.boundary = s.tap.boundary ∧ t.regs = s.regs ∧
      (s.tap.state = 4 → t.tap.drShift = s.tap.drShift.drop 1 ++ [tdi]) ∧
      (s.tap.state = 11 → t.tap.irShift = s.tap.irShift.drop 1 ++ [tdi]) ∧
      (s.tap.state = 3 → s.tap.ir = 0 → t.tap.drShift = [false])) ∧
    (s.tap.out = true → s.tap.tck = true → ∃ t, exec (.tapClockEdge false tms tdi) s = .next t ∧
      t.tap.state = s.tap.state ∧ t.tap.tck = false ∧ { t with tap := s.tap } = s ∧
      (s.tap.state = 0 → t.tap.ir = 1) ∧ (s.tap.state = 15 → t.tap.ir = (Config.tapDecode s.tap.irShift).val) ∧
      (s.tap.state ≠ 0 → s.tap.state ≠ 15 → t.tap.ir = s.tap.ir) ∧
      (s.tap.state = 4 → t.tap.tdo = s.tap.drShift.headD false) ∧
      (s.tap.state = 8 → 2 ≤ s.tap.ir → t.tap.boundary = s.tap.drShift)))

/-- R700, R701, R702, R703, R707: at supply-good a module in reset starts: the Apron is released with metering
sampling and step 2 reached, and the ghost light is out of reset. Each measurement of the input shows it low
below 18 V and high above 36 V, and signals the change. A detected power failure raises pfail, abandons what the
radios and the powerline ports have on the line, stops metering, and, once the counters are loaded, leaves a
final commit record on the stage holder; it is final: a second detection changes nothing. R704, R706, R713: once
a failure is detected the module enters reset when both dies have ended their flush, or when the input falls
below 12 V: the records flushed stand in the hot images, the stage has no holder, sessions and queues are gone,
the frame counter stands past every value it used, and the ghost light keeps its time, its keys and a note of the
failure. A commanded restart goes on from step 2 at once. Until then, or without a failure, nothing happens.
Readings and choices of the model: log entries 90, 91. -/
def Obligations.SupplyStartsFailsAndResets : Prop :=
  ((∀ (e : Bool) (s : State),
       (s.power.on = true → exec (.supplyGood e) s = .next s) ∧
       (s.power.on = false → ∃ t, exec (.supplyGood e) s = .next t ∧ t.power.on = true ∧ t.power.startedAt = s.now ∧
         t.power.testEn = e ∧ t.power.ghost = true ∧ t.clk.cycleStart = s.now ∧ t.clk.cycle = s.clk.cycle ∧
         t.meter.running = true ∧ t.get MCTL_STATUS.cause = 1 ∧ t.get MCTL_STATUS.step = 2 ∧
         t.get MTR_CTRL.enable = 1 ∧ t.holder = s.holder ∧ t.dieA = s.dieA ∧ t.dieB = s.dieB)) ∧
     (∀ (mv : BitVec 16) (s : State),
       (s.power.on = false → exec (.vinMonitor mv) s = .next s) ∧
       (s.power.on = true → ∃ t, exec (.vinMonitor mv) s = .next t ∧ t.get MCTL_VIN.mv = mv.toNat ∧
         (t.get MCTL_STATUS.vin_low = 1 ↔ mv.toNat < 18000) ∧ (t.get MCTL_STATUS.vin_high = 1 ↔ 36000 < mv.toNat) ∧
         (mv.toNat < 18000 → s.get MCTL_STATUS.vin_low ≠ 1 → t.get MCTL_INT_STATUS.vin_low = 1) ∧
         (36000 < mv.toNat → s.get MCTL_STATUS.vin_high ≠ 1 → t.get MCTL_INT_STATUS.vin_high = 1) ∧
         OnlyRegs [MCTL_VIN.mv, MCTL_STATUS.vin_low, MCTL_STATUS.vin_high, MCTL_STATUS.supply_good,
           MCTL_INT_STATUS.vin_low, MCTL_INT_STATUS.vin_high] s t)) ∧
     (∀ (m : MeterIn) (s : State),
       (s.power.on = false ∨ s.power.failedAt.isSome = true → exec (.powerFail m) s = .next s) ∧
       (s.power.on = true → s.power.failedAt = none → ∃ t, exec (.powerFail m) s = .next t ∧
         t.power.failedAt = some s.now ∧ t.power.restart = false ∧ t.meter.running = false ∧
         t.get MCTL_STATUS.pfail = 1 ∧ t.get MCTL_INT_STATUS.pfail = 1 ∧ t.get MCTL_STATUS.supply_good = 0 ∧
         (∀ x ∈ t.radios, x.2.flight = none) ∧ (∀ x ∈ t.plcs, x.2.groups = []) ∧
         (∀ d, s.holder = some d → s.power.loaded = true →
           ∃ r, (t.die d).commitAt s.clk.cycle = some r ∧ r.final = true)))) ∧
  (∀ (low : Bool) (a b : Nat) (s : State), ∀ f : Bool,
       f = (decide (s.dieA.dirty.length ≤ a) && decide (s.dieB.dirty.length ≤ b)) →
       (s.power.failedAt = none → exec (.moduleReset low a b) s = .next s) ∧
       (f = false → (low = false ∨ s.power.restart = true) → exec (.moduleReset low a b) s = .next s) ∧
       (∀ n, s.power.failedAt = some n → (f = true ∨ (low = true ∧ s.power.restart = false)) →
         ∃ t, exec (.moduleReset low a b) s = .next t ∧ t.holder = none ∧ t.sessions = [] ∧ t.replies = [] ∧
           t.queues = [] ∧ t.journal = Journal.start ∧ t.frameCounter = s.counterSaved + 4096 ∧
           t.now = s.now ∧ t.out = s.out ∧ t.keys.slots = s.keys.slots ∧ t.rtc.count = s.rtc.count ∧
           (∀ e, t.node e = s.node e) ∧
           (∀ x ∈ s.dieA.dirty.take a, Tbl.get Hot.delivered t.dieA.image x.1 = s.dieA.hotOf x.1) ∧
           (∀ x ∈ s.dieB.dirty.take b, Tbl.get Hot.delivered t.dieB.image x.1 = s.dieB.hotOf x.1) ∧
           (∀ e, (∀ x ∈ s.dieA.dirty, x.1 ≠ e) →
             Tbl.get Hot.delivered t.dieA.image e = Tbl.get Hot.delivered s.dieA.image e) ∧
           (s.power.restart = false → t.power.on = false ∧ t.get MCTL_STATUS.pfail = 0 ∧
             t.get MCTL_STATUS.step = 0) ∧
           (s.power.restart = true → t.power.on = true ∧ t.get MCTL_STATUS.cause = 2 ∧ t.get MCTL_STATUS.step = 2) ∧
           (s.power.ghost = true → t.get GHL_PFAIL_NOTE.valid = 1 ∧
             t.get GHL_PFAIL_NOTE.flush_a = b2n (decide (s.dieA.dirty.length ≤ a)) ∧
             t.get GHL_PFAIL_NOTE.flush_b = b2n (decide (s.dieB.dirty.length ≤ b)) ∧
             t.get GHL_PFAIL_NOTE.early = b2n (!s.power.loaded) ∧
             t.get GHL_PFAIL_NOTE.hold_short = b2n (low && !s.power.restart && decide (s.now - n < 500000)))))

/-- R714, R715, R717, R718, R719, R725: the ghost light switches to the backup when that is above the standby rail or
the rail is below 2.7 V, which is counted and signalled and starts an enabled theft watch, and back when the rail
is at least 100 mV above the backup and at least 2.8 V, which stops the watch. A reset of it clears the time and
erases the unsealed keys, keeps their slots and is counted; above 2.0 V it leaves reset. A measurement of the
backup shows it, sets backup_low below the threshold, and charges a supercapacitor; one that has not reached 2.8
V after an hour is a fault. -/
def Obligations.GhostLightLivesOnTheBetterSupply : Prop :=
  ∀ (u v : BitVec 13) (s : State),
    (s.power.ghost = true → s.power.backup = false → u.toNat < v.toNat ∨ u.toNat < 2700 →
      ∃ t, exec (.backupSwitch u v) s = .next t ∧ t.power.backup = true ∧
        t.get GHL_SWITCHES.count = min (s.get GHL_SWITCHES.count + 1) (2 ^ 32 - 1) ∧
        t.get GHL_SUPPLY.ran_backup = 1 ∧ t.get GHL_SUPPLY.charging = 0 ∧
        (s.power.on = true → t.get GHL_PWR_INT_STATUS.switched = 1) ∧
        (s.power.on = false → t.power.events = setBit s.power.events 3) ∧
        (s.get GHL_THEFT_CFG.enable = 1 → t.theft.running = true) ∧
        (s.get GHL_THEFT_CFG.enable = 0 → t.theft = s.theft) ∧ t.keys = s.keys ∧ t.rtc = s.rtc) ∧
    (s.power.ghost = false ∨ s.power.backup = true ∨ (v.toNat ≤ u.toNat ∧ 2700 ≤ u.toNat) →
      exec (.backupSwitch u v) s = .next s) ∧
    (s.power.ghost = true → s.power.backup = true → v.toNat + 100 ≤ u.toNat → 2800 ≤ u.toNat →
      ∃ t, exec (.standbyReturn u v) s = .next t ∧ t.power.backup = false ∧ t.theft.running = false ∧
        t.regs = s.regs) ∧
    (s.power.ghost = false ∨ s.power.backup = false ∨ u.toNat < v.toNat + 100 ∨ u.toNat < 2800 →
      exec (.standbyReturn u v) s = .next s) ∧
    (s.power.ghost = true → Tbl.wf KeySlot.empty s.keys.slots = true →
      ∃ t, exec .ghostLightReset s = .next t ∧ t.power.ghost = false ∧ t.power.backup = false ∧
        t.rtc = RtcState.reset ∧ t.get GHL_RESETS.count = min (s.get GHL_RESETS.count + 1) (2 ^ 32 - 1) ∧
        (∀ c : Nat, (t.slot c).value = [] ∧ (t.slot c).state = (s.slot c).state ∧
          (t.slot c).record = (s.slot c).record) ∧
        t.keys.latched = s.keys.latched ∧ t.keys.events = s.keys.events ∧
        t.get GHL_PFAIL_NOTE.valid = 0 ∧ (s.power.on = true → t.get GHL_PWR_INT_STATUS.watch_lapsed = 1) ∧
        (s.power.on = false → t.power.events = setBit s.power.events 1) ∧
        ∀ f : Fld, f.key < 0xC0030000 * 8 ∨ 0xC0034000 * 8 ≤ f.key → t.get f = s.get f) ∧
    (s.power.ghost = false → exec .ghostLightReset s = .next s ∧ exec (.vbatMeasure u v) s = .next s ∧
      exec .chargeFault s = .next s) ∧
    (s.power.ghost = false → 2000 < u.toNat ∨ 2000 < v.toNat →
      ∃ t, exec (.ghostLightLeavesReset u v) s = .next t ∧ t.power.ghost = true ∧
        (t.power.backup = true ↔ u.toNat < v.toNat ∨ u.toNat < 2700) ∧
        (t.power.backup = true → t.get GHL_SUPPLY.ran_backup = 1) ∧ t.keys = s.keys ∧ t.rtc = s.rtc) ∧
    (s.power.ghost = true ∨ (u.toNat ≤ 2000 ∧ v.toNat ≤ 2000) → exec (.ghostLightLeavesReset u v) s = .next s) ∧
    (s.power.ghost = true → ∃ t, exec (.vbatMeasure u v) s = .next t ∧ t.get GHL_SUPPLY.vstby = u.toNat ∧
      t.get GHL_SUPPLY.vbat = v.toNat ∧
      (t.get GHL_SUPPLY.backup_low = 1 ↔ v.toNat < s.get GHL_BACKUP_CFG.low_mv) ∧
      (t.get GHL_SUPPLY.charging = 1 ↔ s.get GHL_BACKUP_CFG.kind = 1 ∧ s.power.backup = false ∧ v.toNat < 3000) ∧
      (v.toNat < s.get GHL_BACKUP_CFG.low_mv → s.get GHL_SUPPLY.backup_low = 0 → s.power.on = true →
        t.get GHL_PWR_INT_STATUS.backup_low = 1) ∧
      RegsBut [GHL_SUPPLY.vstby, GHL_SUPPLY.vbat, GHL_SUPPLY.backup_low, GHL_SUPPLY.charging,
        GHL_PWR_INT_STATUS.backup_low] s t) ∧
    (s.power.ghost = true → s.power.on = true → s.get GHL_SUPPLY.charging = 1 → s.get GHL_SUPPLY.vbat < 2800 →
      s.power.chargeFrom + 90000000000 ≤ s.now → ∃ t, exec .chargeFault s = .next t ∧
        t.get GHL_PWR_INT_STATUS.charge_fault = 1 ∧ OnlyRegs [GHL_PWR_INT_STATUS.charge_fault] s t) ∧
    (s.get GHL_SUPPLY.charging = 0 ∨ 2800 ≤ s.get GHL_SUPPLY.vbat ∨ s.now < s.power.chargeFrom + 90000000000 →
      exec .chargeFault s = .next s)

/-- R85, R422, R712: step 4 of a start: once both dies have booted, or 250 ms after supply-good, the latest valid
commit record is loaded: the cycle counter resumes at its cycle plus 2, the operating time joins what has run,
the power cycles grow by one, and the gap is signalled and posted; a record without the final flag, none at all,
or a failure noted as early marks an energy gap. It is done once in a start. R50, R142, R639, R709, R710: steps
5, 6 and 8 of a start. A booted die sends its first health word, a pass where its start-up self-test passed and
no region lacks a spare; with the tamper latch set the management key is invalidated before anything is unsealed.
Die A is chosen when its word is a pass, and else die B when die A failed or is silent at 800 ms; when both
failed, or none passed by then, none is chosen and it is signalled. The chosen die loads its hot records from
their images, marked as restored where the endpoint is active. Readings and choices of the model: log entries 44,
90. -/
def Obligations.StartLoadsCountersAndChooses : Prop :=
  (∀ (bad : List (DieId × Fin 2)) (s : State),
       (s.power.on = false ∨ s.power.loaded = true ∨ s.power.failedAt.isSome = true ∨
         ((s.booted .a = false ∨ s.booted .b = false) ∧ s.sinceStart < 6250000) →
         exec (.counterLoad bad) s = .next s) ∧
       (s.power.on = true → s.power.loaded = false → s.power.failedAt = none →
         ((s.booted .a = true ∧ s.booted .b = true) ∨ 6250000 ≤ s.sinceStart) →
         ∀ c : Commit, c = (s.latestCommit bad).getD { Commit.delivered with final := false } →
         c.optime < 2 ^ 32 → ∃ t, exec (.counterLoad bad) s = .next t ∧ t.power.loaded = true ∧
           t.clk.cycle = stampCycle c.stamp + 2 ∧ t.power.savedCycle = stampCycle c.stamp ∧
           t.get CYC_OPTIME.optime = min (c.optime + s.get CYC_OPTIME.optime) (2 ^ 32 - 1) ∧
           t.get CYC_PWRCYC.count = min (c.pwrcyc + 1) (2 ^ 24 - 1) ∧
           (s.get MCTL_STATUS.step ≤ 4 → t.get MCTL_STATUS.step = 4) ∧
           t.get CYC_INT_STATUS.cycle_gap = 1 ∧ t.get MTR_STATUS.final_loaded = b2n c.final ∧
           (∃ p ∈ t.posts.drop s.posts.length, p.code = 0x0010 ∧ p.data = leBytes 8 (stampCycle c.stamp)) ∧
           (c.final = false ∨ (s.get GHL_PFAIL_NOTE.valid = 1 ∧ s.get GHL_PFAIL_NOTE.early = 1) →
             t.get MTR_STATUS.energy_gap = 1 ∧ t.get MTR_INT_STATUS.energy_gap = 1 ∧ t.meter.gap = true ∧
             (∃ p ∈ t.posts.drop s.posts.length, p.code = 0x0050 ∧ p.data = leBytes 8 c.stamp)) ∧
           (c.final = true → s.get GHL_PFAIL_NOTE.valid = 0 →
             t.get MTR_STATUS.energy_gap = s.get MTR_STATUS.energy_gap))) ∧
  ((∀ (d : DieId) (p : Bool) (s : State),
       (s.power.loaded = false ∨ s.booted d = false ∨ s.roleOf d ≠ roBOOT ∨
         s.power.words.getD d.num none ≠ none → exec (.startSelfTest d p) s = .next s) ∧
       (s.power.loaded = true → s.booted d = true → s.roleOf d = roBOOT → s.power.words.length = 2 →
         s.power.words.getD d.num none = none →
         (s.power.words.getD d.other.num none ≠ none → ∃ t, exec (.startSelfTest d p) s = .next t ∧
           t.power.words.getD d.num none = some (p && !s.lacksSpare d) ∧
           t.power.words.getD d.other.num none = s.power.words.getD d.other.num none ∧
           (s.get MCTL_STATUS.step ≤ 5 → t.get MCTL_STATUS.step = 5) ∧ RegsBut [MCTL_STATUS.step] s t) ∧
         (s.power.words.getD d.other.num none = none → s.keys.latched ≠ 0 → s.slotValid 4 = true →
           ∃ t, exec (.startSelfTest d p) s = .next t ∧ t.slotState 4 = 2 ∧ t.sessions = []))) ∧
     (∀ (x y : Option Bool) (late : Bool) (s : State), x = s.power.words.getD 0 none →
       y = s.power.words.getD 1 none → late = decide (20000000 ≤ s.sinceStart) →
       (s.power.loaded = false ∨ s.get MCTL_STATUS.stage_choice ≠ 0 → exec .stageChoice s = .next s) ∧
       (s.power.loaded = true → s.get MCTL_STATUS.stage_choice = 0 →
         (x = some true → exec .stageChoice s = .next ((s.step_ 6).chooseDie .a)) ∧
         (x ≠ some true → (x = some false ∨ late = true) → y = some true →
           exec .stageChoice s = .next ((s.step_ 6).chooseDie .b)) ∧
         (x ≠ some true → y ≠ some true → (late = true ∨ (x = some false ∧ y = some false)) →
           ∃ t, exec .stageChoice s = .next t ∧ t.get MCTL_STATUS.stage_choice = 3 ∧
             t.get MCTL_INT_STATUS.no_stage = 1 ∧ t.power.chosen = s.power.chosen ∧
             (x = some false → s.roleOf .a = roBOOT → t.roleOf .a = roTEST) ∧
             (y = some false → s.roleOf .b = roBOOT → t.roleOf .b = roTEST)) ∧
         (x = none → late = false → exec .stageChoice s = .next s))) ∧
     (∀ s : State,
       (s.power.chosen = none ∨ s.power.restored = true → exec .hotRestore s = .next s) ∧
       (∀ d, s.power.chosen = some d → s.power.restored = false → ∃ t, exec .hotRestore s = .next t ∧
         t.power.restored = true ∧ (s.get MCTL_STATUS.step ≤ 8 → t.get MCTL_STATUS.step = 8) ∧
         (t.die d).dirty = [] ∧ (t.die d).cold = (s.die d).cold ∧ t.die d.other = s.die d.other ∧
         (∀ e h, (∃ x ∈ (s.die d).image, x.1 = e) → h = Tbl.get Hot.delivered (s.die d).image e →
           (t.die d).hotOf e = if (s.die d).active e then { h with fadeCtrl := setBit h.fadeCtrl 7 } else h))))

/-- R20, R762: after reset the stage has no holder, the module is in reset with both dies in BOOT, and every endpoint
record of both dies holds the values of a module as delivered; the registers named hold the reset values of their
tables. Readings and choices of the model: log entry 88. -/
def Obligations.ResetLeavesADeliveredModule : Prop :=
  State.reset.holder = none ∧ State.reset.power.on = false ∧ State.reset.pending = [] ∧ State.reset.out = [] ∧
  (∀ d : DieId, State.reset.roleOf d = roBOOT ∧
    (∀ e h, h = (State.reset.die d).hotOf e → h.current = 0 ∧ h.target = 0 ∧ h.lastTx = 0 ∧ h.fadeLeft = 0 ∧
      h.holdLeft = 0 ∧ h.fsLevel = 0 ∧ h.ovrLevel = 0 ∧ h.sense = 0 ∧ h.fault = 0 ∧ h.profile = 0 ∧
      h.group = 0xFF ∧ h.fadeCtrl = 0 ∧ h.ovrCtrl = 0 ∧ h.lastChange = 0 ∧ h.binding = 0) ∧
    (∀ e c, c = (State.reset.die d).coldOf e → c.kind = 0 ∧ c.linkCount = 0 ∧ c.fallback = 0xFFFF ∧
      c.nameHash = 0 ∧ c.link0 = 0 ∧ c.link1 = 0 ∧ c.link2 = 0 ∧ c.link3 = 0 ∧ c.daylightRef = 0 ∧
      c.derate = 0xFF ∧ c.daylightEp = 0x80000000 ∧ c.calGain = 0x8000 ∧ c.calOffset = 0 ∧ c.minPhys = 0 ∧
      c.maxPhys = 0xFFFF ∧ c.nominal = 0 ∧ c.feeder = 0xFF ∧ c.phase = 0 ∧ c.reportPeriod = 0 ∧
      c.meterQty = 0) ∧
    (∀ e, (State.reset.die d).statsOf e = Stats.zero) ∧
    State.reset.get (CUE_CTRL.overrun_limit d) = 0xC8 ∧ State.reset.get (EPS_CTRL.wb_max_age d) = 0x10 ∧
    State.reset.get (ICU_CTRL.target_en d) = 0x3F) ∧
  State.reset.get CYC_CTRL.hyst = 0x10 ∧ State.reset.get CYC_CTRL.zc_timeout = 0x18 ∧
  State.reset.get CYC_OPTIME.optime = 0 ∧ State.reset.get GHL_BACKUP_CFG.low_mv = 2500

/-- R763: in a module as delivered, which is the state after reset, bank 0 of each die's cue area is active with
sequence number 0 and bank 1 inactive with sequence number 1, both with every scene header, scene entry and
schedule entry 0 (an unlisted one reads 0); the go banks and the pending go list are empty; the last go sequence
and the next cue identifier are 0; the arming store is free; the standing image and every last-execution stamp
are 0. -/
def Obligations.CueAreaAsDelivered : Prop :=
  ∀ d : DieId, ∀ c, c = State.reset.cues d →
    c.active = 0 ∧ c.activeBank = c.bank0 ∧ c.inactiveBank = c.bank1 ∧ c.bank0.seq = 0 ∧ c.bank1.seq = 1 ∧
    (∀ b, b = c.bank0 ∨ b = c.bank1 → b.headers = [] ∧ b.entries = [] ∧ b.sched = []) ∧
    c.goInactive = [] ∧ c.goActive = [] ∧ c.pendingGo = [] ∧ c.goSeq = 0 ∧ c.nextId = 0 ∧ c.arming = [] ∧
    (∀ e, Tbl.get 0 c.standing e = 0) ∧ (∀ j, Tbl.get 0 c.lastExec j = 0)
end

