-- ==== Sys2Proof/Laws/Tbl.lean ====
section
/-! SUPPORT. The sparse table: reads after writes, and its canonical form. -/

namespace Sys2Proof.Machine

@[simp] theorem Tbl.get_nil {α : Type} (d : α) (k : Nat) : Tbl.get d ([] : Tbl α) k = d := rfl

theorem Tbl.get_erase_same {α : Type} (d : α) (t : Tbl α) (k : Nat) : Tbl.get d (Tbl.erase t k) k = d := by
  induction t with
  | nil => rfl
  | cons e t ih =>
    unfold Tbl.erase
    split
    · exact ih
    · rename_i h; simp [Tbl.get, h, ih]

theorem Tbl.get_erase_other {α : Type} (d : α) (t : Tbl α) {j k : Nat} (h : j ≠ k) :
    Tbl.get d (Tbl.erase t k) j = Tbl.get d t j := by
  induction t with
  | nil => rfl
  | cons e t ih =>
    unfold Tbl.erase
    split
    · rename_i hk; simp [Tbl.get, ih, ← hk, h]
    · simp [Tbl.get, ih]

theorem Tbl.get_insert_same {α : Type} (d : α) (t : Tbl α) (k : Nat) (v : α) :
    Tbl.get d (Tbl.insert t k v) k = v := by
  induction t with
  | nil => simp [Tbl.insert, Tbl.get]
  | cons e t ih =>
    unfold Tbl.insert
    split
    · simp [Tbl.get]
    · split
      · simp [Tbl.get]
      · rename_i h; simp [Tbl.get, h, ih]

theorem Tbl.get_insert_other {α : Type} (d : α) (t : Tbl α) {j k : Nat} (v : α) (h : j ≠ k) :
    Tbl.get d (Tbl.insert t k v) j = Tbl.get d t j := by
  induction t with
  | nil => simp [Tbl.insert, Tbl.get, h]
  | cons e t ih =>
    unfold Tbl.insert
    split
    · simp [Tbl.get, h]
    · split
      · rename_i hk; simp [Tbl.get, h, ← hk]
      · simp [Tbl.get, ih]

/-- A read of the key last written gives the value written. -/
@[simp] theorem Tbl.get_put_same {α : Type} [DecidableEq α] (d : α) (t : Tbl α) (k : Nat) (v : α) :
    Tbl.get d (Tbl.put d t k v) k = v := by
  unfold Tbl.put
  split
  · rename_i h; rw [h]; exact Tbl.get_erase_same d t k
  · exact Tbl.get_insert_same d t k v

/-- A write leaves every other key alone. -/
theorem Tbl.get_put_other {α : Type} [DecidableEq α] (d : α) (t : Tbl α) {j k : Nat} (v : α) (h : j ≠ k) :
    Tbl.get d (Tbl.put d t k v) j = Tbl.get d t j := by
  unfold Tbl.put
  split
  · exact Tbl.get_erase_other d t h
  · exact Tbl.get_insert_other d t v h

theorem Tbl.get_put {α : Type} [DecidableEq α] (d : α) (t : Tbl α) (j k : Nat) (v : α) :
    Tbl.get d (Tbl.put d t k v) j = if j = k then v else Tbl.get d t j := by
  split
  · rename_i h; rw [h]; exact Tbl.get_put_same d t k v
  · rename_i h; exact Tbl.get_put_other d t v h

/-! ## The canonical form -/

theorem Tbl.above_weaken {α : Type} {b c : Nat} {t : Tbl α} (h : Tbl.above c t = true) (hb : b ≤ c) :
    Tbl.above b t = true := by
  cases t with
  | nil => rfl
  | cons e t =>
    simp only [Tbl.above, Bool.and_eq_true, decide_eq_true_eq] at h ⊢
    exact ⟨by omega, h.2⟩

theorem Tbl.above_erase {α : Type} {b : Nat} {t : Tbl α} (k : Nat) (h : Tbl.above b t = true) :
    Tbl.above b (Tbl.erase t k) = true := by
  induction t generalizing b with
  | nil => rfl
  | cons e t ih =>
    simp only [Tbl.above, Bool.and_eq_true, decide_eq_true_eq] at h
    unfold Tbl.erase
    split
    · exact ih (Tbl.above_weaken h.2 (by omega))
    · simp only [Tbl.above, Bool.and_eq_true, decide_eq_true_eq]; exact ⟨h.1, ih h.2⟩

theorem Tbl.above_insert {α : Type} {b : Nat} {t : Tbl α} {k : Nat} (v : α) (h : Tbl.above b t = true)
    (hk : b < k) : Tbl.above b (Tbl.insert t k v) = true := by
  induction t generalizing b with
  | nil => simp [Tbl.insert, Tbl.above, hk]
  | cons e t ih =>
    simp only [Tbl.above, Bool.and_eq_true, decide_eq_true_eq] at h
    unfold Tbl.insert
    split
    · simp only [Tbl.above, Bool.and_eq_true, decide_eq_true_eq]; exact ⟨hk, by omega, h.2⟩
    · split
      · rename_i hne; simp only [Tbl.above, Bool.and_eq_true, decide_eq_true_eq]
        exact ⟨hk, hne ▸ h.2⟩
      · simp only [Tbl.above, Bool.and_eq_true, decide_eq_true_eq]; exact ⟨h.1, ih h.2 (by omega)⟩

theorem Tbl.sorted_of_above {α : Type} {b : Nat} {t : Tbl α} (h : Tbl.above b t = true) :
    Tbl.sorted t = true := by
  cases t with
  | nil => rfl
  | cons e t => simp only [Tbl.above, Bool.and_eq_true] at h; exact h.2

theorem Tbl.sorted_erase {α : Type} {t : Tbl α} (k : Nat) (h : Tbl.sorted t = true) :
    Tbl.sorted (Tbl.erase t k) = true := by
  cases t with
  | nil => rfl
  | cons e t =>
    unfold Tbl.erase
    split
    · exact Tbl.sorted_of_above (Tbl.above_erase k h)
    · exact Tbl.above_erase k h

theorem Tbl.sorted_insert {α : Type} {t : Tbl α} (k : Nat) (v : α) (h : Tbl.sorted t = true) :
    Tbl.sorted (Tbl.insert t k v) = true := by
  cases t with
  | nil => rfl
  | cons e t =>
    unfold Tbl.insert
    split
    · simp only [Tbl.sorted, Tbl.above, Bool.and_eq_true, decide_eq_true_eq]; exact ⟨by omega, h⟩
    · split
      · rename_i hne; simp only [Tbl.sorted] at h ⊢; exact hne ▸ h
      · simp only [Tbl.sorted] at h ⊢; exact Tbl.above_insert v h (by omega)

theorem Tbl.all_erase {α : Type} {t : Tbl α} (p : Nat × α → Bool) (k : Nat) (h : t.all p = true) :
    (Tbl.erase t k).all p = true := by
  induction t with
  | nil => rfl
  | cons e t ih =>
    simp only [List.all_cons, Bool.and_eq_true] at h
    unfold Tbl.erase
    split
    · exact ih h.2
    · simp only [List.all_cons, Bool.and_eq_true]; exact ⟨h.1, ih h.2⟩

theorem Tbl.all_insert {α : Type} {t : Tbl α} (p : Nat × α → Bool) (k : Nat) (v : α)
    (h : t.all p = true) (hv : p (k, v) = true) : (Tbl.insert t k v).all p = true := by
  induction t with
  | nil => simp [Tbl.insert, hv]
  | cons e t ih =>
    simp only [List.all_cons, Bool.and_eq_true] at h
    unfold Tbl.insert
    split
    · simp only [List.all_cons, Bool.and_eq_true]; exact ⟨hv, h.1, h.2⟩
    · split
      · simp only [List.all_cons, Bool.and_eq_true]; exact ⟨hv, h.2⟩
      · simp only [List.all_cons, Bool.and_eq_true]; exact ⟨h.1, ih h.2⟩

/-- A write keeps the canonical form. -/
theorem Tbl.wf_put {α : Type} [DecidableEq α] {d : α} {t : Tbl α} (k : Nat) (v : α)
    (h : Tbl.wf d t = true) : Tbl.wf d (Tbl.put d t k v) = true := by
  unfold Tbl.wf at h ⊢
  simp only [Bool.and_eq_true] at h ⊢
  unfold Tbl.put
  split
  · exact ⟨Tbl.sorted_erase k h.1, Tbl.all_erase _ k h.2⟩
  · rename_i hv; exact ⟨Tbl.sorted_insert k v h.1, Tbl.all_insert _ k v h.2 (by simpa using hv)⟩

theorem Tbl.above_iff {α : Type} {b : Nat} {t : Tbl α} :
    Tbl.above b t = true ↔ (∀ e ∈ t, b < e.1) ∧ t.Pairwise (fun x y => x.1 < y.1) := by
  induction t generalizing b with
  | nil => simp [Tbl.above]
  | cons e t ih =>
    simp only [Tbl.above, Bool.and_eq_true, decide_eq_true_eq, ih, List.forall_mem_cons, List.pairwise_cons]
    exact ⟨fun h => ⟨⟨h.1, fun x hx => Nat.lt_trans h.1 (h.2.1 x hx)⟩, h.2⟩, fun h => ⟨h.1.1, h.2⟩⟩

theorem Tbl.sorted_iff {α : Type} {t : Tbl α} :
    Tbl.sorted t = true ↔ t.Pairwise (fun x y => x.1 < y.1) := by
  cases t with
  | nil => simp [Tbl.sorted]
  | cons e t => simp [Tbl.sorted, Tbl.above_iff, List.pairwise_cons]

/-- The canonical form, as a property of the entries. -/
theorem Tbl.wf_iff {α : Type} [DecidableEq α] {d : α} {t : Tbl α} :
    Tbl.wf d t = true ↔ t.Pairwise (fun x y => x.1 < y.1) ∧ ∀ e ∈ t, e.2 ≠ d := by
  simp [Tbl.wf, Tbl.sorted_iff]

theorem Tbl.wf_nil {α : Type} [DecidableEq α] (d : α) : Tbl.wf d ([] : Tbl α) = true := by
  simp [Tbl.wf_iff]

theorem Tbl.wf_filter {α : Type} [DecidableEq α] {d : α} {t : Tbl α} (p : Nat × α → Bool)
    (h : Tbl.wf d t = true) : Tbl.wf d (t.filter p) = true := by
  rw [Tbl.wf_iff] at h ⊢
  exact ⟨h.1.filter p, fun e he => h.2 e (List.mem_filter.mp he).1⟩

theorem Tbl.wf_dropRange {α : Type} [DecidableEq α] {d : α} {t : Tbl α} (lo hi : Nat)
    (h : Tbl.wf d t = true) : Tbl.wf d (Tbl.dropRange t lo hi) = true := Tbl.wf_filter _ h

theorem Tbl.wf_range {α : Type} [DecidableEq α] {d : α} {t : Tbl α} (lo hi : Nat)
    (h : Tbl.wf d t = true) : Tbl.wf d (Tbl.range t lo hi) = true := Tbl.wf_filter _ h

theorem Tbl.wf_putAll {α : Type} [DecidableEq α] {d : α} {t : Tbl α} (es : List (Nat × α))
    (h : Tbl.wf d t = true) : Tbl.wf d (Tbl.putAll d t es) = true := by
  induction es generalizing t with
  | nil => exact h
  | cons e es ih => exact ih (Tbl.wf_put _ _ h)

theorem Tbl.wf_mapVal {α : Type} [DecidableEq α] {d : α} {t : Tbl α} (f : Nat → α → α)
    (h : Tbl.wf d t = true) : Tbl.wf d (Tbl.mapVal d f t) = true := by
  rw [Tbl.wf_iff] at h ⊢
  refine ⟨List.Pairwise.filter _ (List.pairwise_map.mpr h.1), fun e he => ?_⟩
  simpa using (List.mem_filter.mp he).2

theorem Tbl.wf_splice {α : Type} [DecidableEq α] {d : α} {t p : Tbl α} {lo hi : Nat} (hle : lo ≤ hi)
    (h : Tbl.wf d t = true) (g : Tbl.wf d p = true) : Tbl.wf d (Tbl.splice t lo hi p) = true := by
  rw [Tbl.wf_iff] at h g ⊢
  unfold Tbl.splice Tbl.range
  constructor
  · refine List.pairwise_append.mpr ⟨List.pairwise_append.mpr ⟨h.1.filter _, g.1.filter _, ?_⟩, h.1.filter _, ?_⟩
    · intro x hx y hy
      have h1 := (List.mem_filter.mp hx).2
      have h2 := (List.mem_filter.mp hy).2
      simp only [decide_eq_true_eq, Bool.and_eq_true] at h1 h2
      omega
    · intro x hx y hy
      have h2 := (List.mem_filter.mp hy).2
      rcases List.mem_append.mp hx with hx | hx
      · have h1 := (List.mem_filter.mp hx).2
        simp only [decide_eq_true_eq] at h1 h2
        omega
      · have h1 := (List.mem_filter.mp hx).2
        simp only [decide_eq_true_eq, Bool.and_eq_true] at h1 h2
        omega
  · intro e he
    rcases List.mem_append.mp he with he | he
    · rcases List.mem_append.mp he with he | he
      · exact h.2 e (List.mem_filter.mp he).1
      · exact g.2 e (List.mem_filter.mp he).1
    · exact h.2 e (List.mem_filter.mp he).1

end Sys2Proof.Machine
end

