-- ==== Sys2Proof/Laws/Keeps.lean ====
section
/-! SUPPORT. What every operation keeps: the part, the queue, the time, the cycle counter, and the canonical
form of the register file and of the object values. -/

namespace Sys2Proof.Machine

/-- What a state with these fields keeps of `a`: the part, the queue and the time are the same; what was sent
outward stays sent; the register file and the object values stay canonical; the frame counter never goes
back. -/
def KeptOf (a : State) (part : Part) (pending : List Instr) (now : Nat) (out : List Out) (regs objs : Tbl Nat)
    (octs : Tbl (List Byte)) (counter saved : Nat) (cycle : Nat) : Prop :=
  part = a.part ∧ pending = a.pending ∧ now = a.now ∧ (∃ l, out = a.out ++ l) ∧
    (Tbl.wf 0 a.regs = true → Tbl.wf 0 regs = true) ∧ (Tbl.wf 0 a.objs = true → Tbl.wf 0 objs = true) ∧
    (Tbl.wf [] a.octs = true → Tbl.wf [] octs = true) ∧
    (CounterOk a.frameCounter a.counterSaved → CounterOk counter saved ∧ a.frameCounter ≤ counter) ∧
    cycle = a.clk.cycle

/-- What `s` keeps of `a`. -/
def Keeps (a s : State) : Prop :=
  KeptOf a s.part s.pending s.now s.out s.regs s.objs s.octs s.frameCounter s.counterSaved s.clk.cycle

theorem Keeps.refl (a : State) : Keeps a a :=
  ⟨rfl, rfl, rfl, ⟨[], by simp⟩, id, id, id, fun h => ⟨h, Nat.le_refl _⟩, rfl⟩

theorem Keeps.trans {a b s : State} (h : Keeps a b) (g : Keeps b s) : Keeps a s := by
  obtain ⟨h1, h2, h3, ⟨l, h4⟩, h5, h6, h7, h8, h9⟩ := h
  obtain ⟨g1, g2, g3, ⟨m, g4⟩, g5, g6, g7, g8, g9⟩ := g
  refine ⟨g1.trans h1, g2.trans h2, g3.trans h3, ⟨l ++ m, ?_⟩, fun x => g5 (h5 x), fun x => g6 (h6 x),
    fun x => g7 (h7 x), fun x => ⟨(g8 (h8 x).1).1, Nat.le_trans (h8 x).2 (g8 (h8 x).1).2⟩, g9.trans h9⟩
  rw [g4, h4, List.append_assoc]

theorem KeptOf.of {a s : State} (h : Keeps a s) :
    KeptOf a s.part s.pending s.now s.out s.regs s.objs s.octs s.frameCounter s.counterSaved s.clk.cycle := h

/-- The state with another cycle counter. -/
def State.withCycle (s : State) (n : Nat) : State := { s with clk := { s.clk with cycle := n } }

/-- What `s` keeps of `a`, but that the cycle counter may have passed to the next cycle. -/
def KeepsUp (a s : State) : Prop := Keeps a s ∨ Keeps (a.withCycle (a.clk.cycle + 1)) s

/-- The same of a result that may be none, or an error, or no next state. -/
def KeepsO (a : State) (o : Option State) : Prop := ∀ t, o = some t → Keeps a t
def KeepsOP {β : Type} (a : State) (o : Option (State × β)) : Prop := ∀ x, o = some x → Keeps a x.1
def KeepsE (a : State) (o : Except Nat State) : Prop := ∀ t, o = .ok t → Keeps a t
def KeepsOE (a : State) (o : Option (Except Nat State)) : Prop := ∀ x, o = some x → KeepsE a x
def KeepsX (a : State) (o : Host.Outcome State Fault Refusal) : Prop := ∀ t, o = .next t → Keeps a t

theorem KeepsO.none (a : State) : KeepsO a none := fun _ h => by cases h
theorem KeepsO.some {a t : State} (h : Keeps a t) : KeepsO a (some t) := fun _ e => by cases e; exact h
theorem KeepsOP.none {β : Type} (a : State) : KeepsOP (β := β) a none := fun _ h => by cases h
theorem KeepsOP.some {β : Type} {a : State} {x : State × β} (h : Keeps a x.1) : KeepsOP a (some x) :=
  fun _ e => by cases e; exact h
theorem KeepsE.error (a : State) (n : Nat) : KeepsE a (.error n) := fun _ h => by cases h
theorem KeepsE.ok {a t : State} (h : Keeps a t) : KeepsE a (.ok t) := fun _ e => by cases e; exact h
theorem KeepsOE.none (a : State) : KeepsOE a none := fun _ h => by cases h
theorem KeepsOE.some {a : State} {x : Except Nat State} (h : KeepsE a x) : KeepsOE a (some x) :=
  fun _ e => by cases e; exact h
theorem KeepsX.next {a t : State} (h : Keeps a t) : KeepsX a (.next t) := fun _ e => by cases e; exact h
theorem KeepsX.ofNext {a t : State} (h : KeepsX a (.next t)) : Keeps a t := h t rfl

theorem Keeps.ofO {a t : State} {o : Option State} (e : o = .some t) (h : KeepsO a o) : Keeps a t := h t e
theorem Keeps.ofOP {β : Type} {a t : State} {u : β} {o : Option (State × β)} (e : o = .some (t, u))
    (h : KeepsOP a o) : Keeps a t := h _ e
theorem Keeps.ofE {a t : State} {o : Except Nat State} (e : o = .ok t) (h : KeepsE a o) : Keeps a t := h t e
theorem Keeps.ofP {β : Type} {a t : State} {u : β} {p : State × β} (e : p = (t, u)) (h : Keeps a p.1) :
    Keeps a t := by rw [e] at h; exact h
theorem Keeps.ofX {a t : State} {o : Host.Outcome State Fault Refusal} (e : o = .next t) (h : KeepsX a o) :
    Keeps a t := h t e
theorem KeepsE.ofOE {a : State} {x : Except Nat State} {o : Option (Except Nat State)} (e : o = .some x)
    (h : KeepsOE a o) : KeepsE a x := h x e

theorem Keeps.ite {a s t : State} {c : Prop} [Decidable c] (h : c → Keeps a s) (g : ¬c → Keeps a t) :
    Keeps a (if c then s else t) := by split <;> simp_all
theorem Keeps.iteP {β : Type} {a : State} {c : Prop} [Decidable c] {x y : State × β} (h : c → Keeps a x.1)
    (g : ¬c → Keeps a y.1) : Keeps a (if c then x else y).1 := by split <;> simp_all
theorem KeepsO.ite {a : State} {c : Prop} [Decidable c] {x y : Option State} (h : c → KeepsO a x)
    (g : ¬c → KeepsO a y) : KeepsO a (if c then x else y) := by split <;> simp_all
theorem KeepsOP.ite {β : Type} {a : State} {c : Prop} [Decidable c] {x y : Option (State × β)}
    (h : c → KeepsOP a x) (g : ¬c → KeepsOP a y) : KeepsOP a (if c then x else y) := by split <;> simp_all
theorem KeepsE.ite {a : State} {c : Prop} [Decidable c] {x y : Except Nat State} (h : c → KeepsE a x)
    (g : ¬c → KeepsE a y) : KeepsE a (if c then x else y) := by split <;> simp_all
theorem KeepsOE.ite {a : State} {c : Prop} [Decidable c] {x y : Option (Except Nat State)}
    (h : c → KeepsOE a x) (g : ¬c → KeepsOE a y) : KeepsOE a (if c then x else y) := by split <;> simp_all
theorem KeepsX.ite {a : State} {c : Prop} [Decidable c] {x y : Host.Outcome State Fault Refusal}
    (h : c → KeepsX a x) (g : ¬c → KeepsX a y) : KeepsX a (if c then x else y) := by split <;> simp_all

theorem Keeps.foldl {α : Type} {a s : State} {f : State → α → State} {l : List α} (h : Keeps a s)
    (hf : ∀ b x, Keeps a b → Keeps a (f b x)) : Keeps a (l.foldl f s) := by
  induction l generalizing s with
  | nil => exact h
  | cons x l ih => exact ih (hf s x h)
theorem Keeps.foldlP {α β : Type} {a : State} {s : State × β} {f : State × β → α → State × β} {l : List α}
    (h : Keeps a s.1) (hf : ∀ b x, Keeps a b.1 → Keeps a (f b x).1) : Keeps a (l.foldl f s).1 := by
  induction l generalizing s with
  | nil => exact h
  | cons x l ih => exact ih (hf s x h)

theorem Keeps.State_set {a s : State} (h : Keeps a s) (f : Fld) (v : Nat) : Keeps a (s.set f v) := by
  obtain ⟨h1, h2, h3, h4, h5, h6⟩ := h
  exact ⟨h1, h2, h3, h4, fun x => Tbl.wf_put _ _ (h5 x), h6⟩
theorem Keeps.State_setObj {a s : State} (h : Keeps a s) (i j v : Nat) : Keeps a (s.setObj i j v) := by
  obtain ⟨h1, h2, h3, h4, h5, h6, h7⟩ := h
  exact ⟨h1, h2, h3, h4, h5, fun x => Tbl.wf_put _ _ (h6 x), h7⟩
theorem Keeps.State_setOct {a s : State} (h : Keeps a s) (i j : Nat) (v : List Byte) :
    Keeps a (s.setOct i j v) := by
  obtain ⟨h1, h2, h3, h4, h5, h6, h7, h8⟩ := h
  exact ⟨h1, h2, h3, h4, h5, h6, fun x => Tbl.wf_put _ _ (h7 x), h8⟩
theorem Keeps.State_emits {a s : State} (h : Keeps a s) (os : List Out) : Keeps a (s.emits os) := by
  obtain ⟨h1, h2, h3, ⟨l, h4⟩, h5⟩ := h
  exact ⟨h1, h2, h3, ⟨l ++ os, by simp [State.emits, h4]⟩, h5⟩
theorem Keeps.State_emit {a s : State} (h : Keeps a s) (o : Out) : Keeps a (s.emit o) := h.State_emits [o]
theorem Keeps.both {a s : State} {f : DieId → State → State} (h : Keeps a s)
    (hf : ∀ d t, Keeps a t → Keeps a (f d t)) : Keeps a (both f s) := hf _ _ (hf _ _ h)
theorem Keeps.State_atCycle {a s : State} {c : Nat} {f : State → State} (h : Keeps a s)
    (hf : ∀ t, Keeps t (f t)) : Keeps a (s.atCycle c f) := by
  obtain ⟨h1, h2, h3, ⟨l, h4⟩, h5, h6, h7, h8, h9⟩ := h
  obtain ⟨g1, g2, g3, ⟨m, g4⟩, g5, g6, g7, g8, _⟩ := hf { s with clk := { s.clk with cycle := c } }
  refine ⟨g1.trans h1, g2.trans h2, g3.trans h3, ⟨l ++ m, ?_⟩, fun x => g5 (h5 x), fun x => g6 (h6 x),
    fun x => g7 (h7 x), fun x => ⟨(g8 (h8 x).1).1, Nat.le_trans (h8 x).2 (g8 (h8 x).1).2⟩, h9⟩
  rw [State.atCycle, g4]
  simp only [h4, List.append_assoc]

/-- A record update, by what the fields that count become. -/
theorem Keeps_mk {a : State} {x0 x1 x2 x3 x4 x5 x6 x7 x8 x9 x10 x11 x12 x13 x14 x15 x16 x17 x18 x19 x20 x21 x22 x23 x24 x25
    x26 x27 x28 x29 x30 x31 x32 x33 x34 x35 x36 x37 x38 x39 x40 x41 x42 x43 x44 x45 x46 x47 x48 x49
    x50 x51 x52 x53 x54 x55 x56 x57 x58 x59 x60 x61 x62 x63 x64} :
    Keeps a (State.mk x0 x1 x2 x3 x4 x5 x6 x7 x8 x9 x10 x11 x12 x13 x14 x15 x16 x17 x18 x19 x20 x21 x22 x23 x24 x25
    x26 x27 x28 x29 x30 x31 x32 x33 x34 x35 x36 x37 x38 x39 x40 x41 x42 x43 x44 x45 x46 x47 x48 x49
    x50 x51 x52 x53 x54 x55 x56 x57 x58 x59 x60 x61 x62 x63 x64) =
      KeptOf a x2 x0 x1 x9 x3 x6 x7 x33 x34 (ClockState.cycle x11) := rfl

theorem wf_resetRegs : Tbl.wf 0 resetRegs = true := by decide +kernel
theorem wf_resetObjs : Tbl.wf 0 resetObjs = true := by decide +kernel
theorem wf_resetOcts : Tbl.wf [] resetOcts = true := by decide +kernel

end Sys2Proof.Machine
end

