-- ==== Sys2Proof/Laws/KeepsStore.lean ====
section
/-! SUPPORT. What the operations and commands of the clock, the store, the sweep, the cues and the queues keep.
-/

namespace Sys2Proof.Machine

theorem Keeps.State_setS {a s : State} (h : Keeps a s) (f : Fld) (v : Int) :
    Keeps a (State.setS s f v) := by
  unfold State.setS
  try dsimp only
  repeat' (first
    | with_reducible assumption | (with_reducible intro _) | with_reducible apply Keeps.State_set)

theorem Keeps.State_addSat {a s : State} (h : Keeps a s) (f : Fld) (n : Nat) :
    Keeps a (State.addSat s f n) := by
  unfold State.addSat
  try dsimp only
  repeat' (first
    | with_reducible assumption | (with_reducible intro _) | with_reducible apply Keeps.State_set)

theorem Keeps.State_addWrap {a s : State} (h : Keeps a s) (f : Fld) (n : Nat) :
    Keeps a (State.addWrap s f n) := by
  unfold State.addWrap
  try dsimp only
  repeat' (first
    | with_reducible assumption | (with_reducible intro _) | with_reducible apply Keeps.State_set)

theorem Keeps.State_raise {a s : State} (h : Keeps a s) (f : Fld) :
    Keeps a (State.raise s f) := by
  unfold State.raise
  try dsimp only
  repeat' (first
    | with_reducible assumption | (with_reducible intro _) | with_reducible apply Keeps.State_set)

theorem Keeps.State_raiseIf {a s : State} (h : Keeps a s) (c : Bool) (f : Fld) :
    Keeps a (State.raiseIf s c f) := by
  unfold State.raiseIf
  try dsimp only
  repeat' (first
    | with_reducible assumption | (with_reducible intro _) | with_reducible apply Keeps.State_raise
    | with_reducible apply Keeps.ite | split)

theorem Keeps.State_draw {a s : State} (h : Keeps a s) :
    Keeps a (State.draw s) := by
  unfold State.draw
  try dsimp only
  repeat' (first
    | with_reducible assumption | (with_reducible intro _)
    | (dsimp only [Keeps_mk]; with_reducible apply KeptOf.of) | (dsimp only [Keeps_mk]; apply KeptOf.of))

theorem Keeps.State_post {a s : State} (h : Keeps a s) (plane : Plane) (source : Nat) (code : Nat) (data : List
    Byte) :
    Keeps a (State.post s plane source code data) := by
  unfold State.post
  try dsimp only
  repeat' (first
    | with_reducible assumption | (with_reducible intro _)
    | (dsimp only [Keeps_mk]; with_reducible apply KeptOf.of) | (dsimp only [Keeps_mk]; apply KeptOf.of))

theorem Keeps.State_postIf {a s : State} (h : Keeps a s) (c : Bool) (plane : Plane) (source : Nat) (code : Nat)
    (data : List Byte) :
    Keeps a (State.postIf s c plane source code data) := by
  unfold State.postIf
  try dsimp only
  repeat' (first
    | with_reducible assumption | (with_reducible intro _) | with_reducible apply Keeps.State_post
    | with_reducible apply Keeps.ite | split)

theorem Keeps.State_hostFailed {a s : State} (h : Keeps a s) (addr : Nat) (code : Nat) :
    Keeps a (State.hostFailed s addr code) := by
  unfold State.hostFailed
  try dsimp only
  repeat' (first
    | with_reducible assumption | (with_reducible intro _) | with_reducible apply Keeps.State_set
    | with_reducible apply Keeps.State_addSat | with_reducible apply Keeps.State_raise)

theorem Keeps.State_violate {a s : State} (h : Keeps a s) (a_ : Access) (kind : Nat) :
    Keeps a (State.violate s a_ kind) := by
  unfold State.violate
  try dsimp only
  repeat' (first
    | with_reducible assumption | (with_reducible intro _) | with_reducible apply Keeps.State_hostFailed
    | with_reducible apply Keeps.State_set | with_reducible apply Keeps.State_addSat
    | with_reducible apply Keeps.State_post | with_reducible apply Keeps.ite | split)

theorem Keeps.State_access {a s : State} (h : Keeps a s) (x : Access) {act : State → State}
    (hf : ∀ t, Keeps a t → Keeps a (act t)) : Keeps a (s.access x act) := by
  unfold State.access
  split
  · exact h
  · split
    · exact h.State_violate _ _
    · exact hf s h

theorem Keeps.State_toClockState {a s : State} (h : Keeps a s) (st : Nat) :
    Keeps a (State.toClockState s st) := by
  unfold State.toClockState
  try dsimp only
  repeat' (first
    | with_reducible assumption | (with_reducible intro _) | with_reducible apply Keeps.State_set
    | (dsimp only [Keeps_mk]; with_reducible apply KeptOf.of) | (dsimp only [Keeps_mk]; apply KeptOf.of))

theorem Keeps.State_setTaiValid {a s : State} (h : Keeps a s) (v : Bool) :
    Keeps a (State.setTaiValid s v) := by
  unfold State.setTaiValid
  try dsimp only
  repeat' (first
    | with_reducible assumption | (with_reducible intro _) | with_reducible apply Keeps.State_raiseIf
    | with_reducible apply Keeps.State_set)

theorem Keeps.State_runTo {a s : State} (h : Keeps a s) (e : Nat) :
    Keeps a (State.runTo s e) := by
  unfold State.runTo
  try dsimp only
  repeat' (first
    | with_reducible assumption | (with_reducible intro _) | with_reducible apply Keeps.ite
    | (dsimp only [Keeps_mk]; with_reducible apply KeptOf.of) | split
    | (dsimp only [Keeps_mk]; apply KeptOf.of))

theorem Keeps.State_retune {a s : State} (h : Keeps a s) (len : Nat) :
    Keeps a (State.retune s len) := by
  unfold State.retune
  try dsimp only
  repeat' (first
    | with_reducible assumption | (with_reducible intro _) | with_reducible apply Keeps.State_runTo)

theorem Keeps.State_setSlew {a s : State} (h : Keeps a s) (left : Int) :
    Keeps a (State.setSlew s left) := by
  unfold State.setSlew
  try dsimp only
  repeat' (first
    | with_reducible assumption | (with_reducible intro _) | with_reducible apply Keeps.State_setS
    | (dsimp only [Keeps_mk]; with_reducible apply KeptOf.of) | (dsimp only [Keeps_mk]; apply KeptOf.of))

theorem Keeps.State_carry {a s : State} (h : Keeps a s) (slew : Int) :
    Keeps a (State.carry s slew) := by
  unfold State.carry
  try dsimp only
  repeat' (first
    | with_reducible assumption | (with_reducible intro _) | with_reducible apply Keeps.State_runTo
    | (dsimp only [Keeps_mk]; with_reducible apply KeptOf.of) | (dsimp only [Keeps_mk]; apply KeptOf.of))

theorem Keeps.State_slewAfter {a s : State} (h : Keeps a s) (t : Int) (atEnd : Bool) :
    Keeps a (State.slewAfter s t atEnd) := by
  unfold State.slewAfter
  try dsimp only
  repeat' (first
    | with_reducible assumption | (with_reducible intro _) | with_reducible apply Keeps.State_retune
    | with_reducible apply Keeps.State_setSlew | with_reducible apply Keeps.ite | split)

theorem Keeps.State_slewNow {a s : State} (h : Keeps a s) (t : Int) (atEnd : Bool) :
    Keeps a (State.slewNow s t atEnd) := by
  unfold State.slewNow
  try dsimp only
  repeat' (first
    | with_reducible assumption | (with_reducible intro _) | with_reducible apply Keeps.State_slewAfter
    | with_reducible apply Keeps.State_carry | with_reducible apply Keeps.State_setSlew
    | with_reducible apply Keeps.ite | split)

theorem Keeps.State_harmonicAbort {a s : State} (h : Keeps a s) :
    Keeps a (State.harmonicAbort s) := by
  unfold State.harmonicAbort
  try dsimp only
  repeat' (first
    | with_reducible assumption | (with_reducible intro _) | with_reducible apply Keeps.State_set
    | with_reducible apply Keeps.State_raise | with_reducible apply Keeps.ite
    | (dsimp only [Keeps_mk]; with_reducible apply KeptOf.of) | split
    | (dsimp only [Keeps_mk]; apply KeptOf.of))

theorem Keeps.State_enterGhost {a s : State} (h : Keeps a s) :
    Keeps a (State.enterGhost s) := by
  unfold State.enterGhost
  try dsimp only
  repeat' (first
    | with_reducible assumption | (with_reducible intro _) | with_reducible apply Keeps.State_harmonicAbort
    | with_reducible apply Keeps.State_toClockState | with_reducible apply Keeps.State_addSat
    | with_reducible apply Keeps.State_retune | with_reducible apply Keeps.State_setSlew
    | with_reducible apply Keeps.State_set | with_reducible apply Keeps.State_raise
    | with_reducible apply Keeps.State_post | with_reducible apply Keeps.ite
    | (dsimp only [Keeps_mk]; with_reducible apply KeptOf.of) | split
    | (dsimp only [Keeps_mk]; apply KeptOf.of))

theorem Keeps.State_enterLocked {a s : State} (h : Keeps a s) :
    Keeps a (State.enterLocked s) := by
  unfold State.enterLocked
  try dsimp only
  repeat' (first
    | with_reducible assumption | (with_reducible intro _) | with_reducible apply Keeps.State_toClockState
    | with_reducible apply Keeps.State_raise | (dsimp only [Keeps_mk]; with_reducible apply KeptOf.of)
    | (dsimp only [Keeps_mk]; apply KeptOf.of))

theorem Keeps.State_leaveOor {a s : State} (h : Keeps a s) :
    Keeps a (State.leaveOor s) := by
  unfold State.leaveOor
  try dsimp only
  repeat' (first
    | with_reducible assumption | (with_reducible intro _) | with_reducible apply Keeps.State_set
    | with_reducible apply Keeps.State_raise | with_reducible apply Keeps.ite | split)

theorem Keeps.State_enterOor {a s : State} (h : Keeps a s) :
    Keeps a (State.enterOor s) := by
  unfold State.enterOor
  try dsimp only
  repeat' (first
    | with_reducible assumption | (with_reducible intro _) | with_reducible apply Keeps.State_toClockState
    | with_reducible apply Keeps.State_set | with_reducible apply Keeps.State_raise
    | with_reducible apply Keeps.State_post)

theorem Keeps.State_captureTai {a s : State} (h : Keeps a s) :
    Keeps a (State.captureTai s) := by
  unfold State.captureTai
  try dsimp only
  repeat' (first
    | with_reducible assumption | (with_reducible intro _) | with_reducible apply Keeps.State_set
    | with_reducible apply Keeps.State_setS | with_reducible apply Keeps.State_raiseIf
    | with_reducible apply Keeps.State_postIf | with_reducible apply Keeps.ite
    | (dsimp only [Keeps_mk]; with_reducible apply KeptOf.of) | split
    | (dsimp only [Keeps_mk]; apply KeptOf.of))

theorem Keeps.State_slewCycle {a s : State} (h : Keeps a s) :
    Keeps a (State.slewCycle s) := by
  unfold State.slewCycle
  try dsimp only
  repeat' (first
    | with_reducible assumption | (with_reducible intro _) | with_reducible apply Keeps.State_setSlew
    | (dsimp only [Keeps_mk]; with_reducible apply KeptOf.of) | (dsimp only [Keeps_mk]; apply KeptOf.of))

theorem Keeps.State_measureSkew {a s : State} (h : Keeps a s) (k : Nat) (p : Option Nat) :
    Keeps a (State.measureSkew s k p) := by
  unfold State.measureSkew
  try dsimp only
  repeat' (first
    | with_reducible assumption | (with_reducible intro _) | with_reducible apply Keeps.State_set
    | with_reducible apply Keeps.ite | split)

theorem Keeps.State_measureSkews {a s : State} (h : Keeps a s) (ps : List (Option Nat)) :
    Keeps a (State.measureSkews s ps) := by
  unfold State.measureSkews
  try dsimp only
  repeat' (first
    | with_reducible assumption | (with_reducible intro _) | with_reducible apply Keeps.State_measureSkew)

theorem Keeps.State_referenceChange {a s : State} (h : Keeps a s) :
    Keeps a (State.referenceChange s) := by
  unfold State.referenceChange
  try dsimp only
  repeat' (first
    | with_reducible assumption | (with_reducible intro _) | with_reducible apply Keeps.State_enterGhost
    | with_reducible apply Keeps.ite | (dsimp only [Keeps_mk]; with_reducible apply KeptOf.of) | split
    | (dsimp only [Keeps_mk]; apply KeptOf.of))

theorem Keeps.State_nextCycle {a s : State} (h : Keeps a s) :
    Keeps (a.withCycle (a.clk.cycle + 1)) (State.nextCycle s) := by
  have g (u : State) (hu : Keeps a u) : Keeps (a.withCycle (a.clk.cycle + 1))
      { u with clk := { u.clk with
        cycle := u.clk.cycle + 1, cycleStart := u.now, ghostSeen := u.ghost,
        oorSeen := decide (u.get CYC_STATUS.state = stOUT_OF_RANGE) } } := by
    obtain ⟨h1, h2, h3, h4, h5, h6, h7, h8, h9⟩ := hu
    exact ⟨h1, h2, h3, h4, h5, h6, h7, h8, congrArg (· + 1) h9⟩
  unfold State.nextCycle
  dsimp only
  split
  · exact g _ (h.State_addSat _ _)
  · exact g _ h

theorem Keeps.State_clockBoundary {a s : State} (h : Keeps a s) (skews : List (Option Nat)) :
    Keeps (a.withCycle (a.clk.cycle + 1)) (State.clockBoundary s skews) := by
  have g := (h.State_measureSkews skews).State_nextCycle
  unfold State.clockBoundary
  dsimp only
  apply Keeps.State_captureTai
  apply Keeps.State_slewCycle
  apply Keeps.State_referenceChange
  split
  · exact g.State_enterLocked
  · exact g

theorem Keeps.State_addInterval {a s : State} (h : Keeps a s) (d : Nat) :
    Keeps a (State.addInterval s d) := by
  unfold State.addInterval
  try dsimp only
  repeat' (first
    | with_reducible assumption | (with_reducible intro _) | with_reducible apply Keeps.State_set
    | (dsimp only [Keeps_mk]; with_reducible apply KeptOf.of) | (dsimp only [Keeps_mk]; apply KeptOf.of))

theorem Keeps.State_acceptCrossing {a s : State} (h : Keeps a s) (t : Nat) (d : Nat) (e : Int) :
    Keeps a (State.acceptCrossing s t d e) := by
  unfold State.acceptCrossing
  try dsimp only
  repeat' (first
    | with_reducible assumption | (with_reducible intro _) | with_reducible apply Keeps.State_addInterval
    | with_reducible apply Keeps.State_setS | (dsimp only [Keeps_mk]; with_reducible apply KeptOf.of)
    | (dsimp only [Keeps_mk]; apply KeptOf.of))

theorem Keeps.State_crossLocked {a s : State} (h : Keeps a s) (t : Nat) :
    Keeps a (State.crossLocked s t) := by
  unfold State.crossLocked
  try dsimp only
  repeat' (first
    | with_reducible assumption | (with_reducible intro _) | with_reducible apply Keeps.State_acceptCrossing
    | with_reducible apply Keeps.State_slewNow | with_reducible apply Keeps.ite | split)

theorem Keeps.State_crossRelock {a s : State} (h : Keeps a s) (t : Nat) :
    Keeps a (State.crossRelock s t) := by
  unfold State.crossRelock
  try dsimp only
  repeat' (first
    | with_reducible assumption | (with_reducible intro _) | with_reducible apply Keeps.State_acceptCrossing
    | with_reducible apply Keeps.State_slewAfter | with_reducible apply Keeps.State_enterLocked
    | with_reducible apply Keeps.ite | (dsimp only [Keeps_mk]; with_reducible apply KeptOf.of) | split
    | (dsimp only [Keeps_mk]; apply KeptOf.of))

theorem Keeps.State_acquirePeriod {a s : State} (h : Keeps a s) :
    Keeps a (State.acquirePeriod s) := by
  unfold State.acquirePeriod
  try dsimp only
  repeat' (first
    | with_reducible assumption | (with_reducible intro _) | with_reducible apply Keeps.State_set
    | with_reducible apply Keeps.State_retune | with_reducible apply Keeps.ite | split)

theorem Keeps.State_takeRun {a s : State} (h : Keeps a s) (run : List Nat) :
    Keeps a (State.takeRun s run) := by
  unfold State.takeRun
  try dsimp only
  repeat' (first
    | with_reducible assumption | (with_reducible intro _) | with_reducible apply Keeps.State_set
    | (dsimp only [Keeps_mk]; with_reducible apply KeptOf.of) | (dsimp only [Keeps_mk]; apply KeptOf.of))

theorem Keeps.State_enterRelock {a s : State} (h : Keeps a s) (t : Nat) :
    Keeps a (State.enterRelock s t) := by
  unfold State.enterRelock
  try dsimp only
  repeat' (first
    | with_reducible assumption | (with_reducible intro _) | with_reducible apply Keeps.State_leaveOor
    | with_reducible apply Keeps.State_toClockState | with_reducible apply Keeps.State_setS
    | with_reducible apply Keeps.State_slewAfter)

theorem Keeps.State_acquisitionEnd {a s : State} (h : Keeps a s) (t : Nat) :
    KeepsUp a (State.acquisitionEnd s t) := by
  unfold State.acquisitionEnd
  dsimp only
  split
  · right
    have g := h.State_nextCycle
    apply Keeps.State_captureTai
    apply Keeps.State_referenceChange
    apply Keeps.State_enterLocked
    apply Keeps.State_setSlew
    apply Keeps.State_setS
    dsimp only [Keeps_mk]
    exact KeptOf.of g
  · left
    apply Keeps.State_captureTai
    apply Keeps.State_referenceChange
    apply Keeps.State_enterLocked
    apply Keeps.State_setSlew
    apply Keeps.State_setS
    dsimp only [Keeps_mk]
    exact KeptOf.of h

theorem Keeps.State_crossQualify {a s : State} (h : Keeps a s) (t : Nat) :
    KeepsUp a (State.crossQualify s t) := by
  have g (run : List Nat) (n : Nat) :
      Keeps a ({ s with clk := { s.clk with run := run } }.set CYC_STATUS.qual_count n) := by
    apply Keeps.State_set
    dsimp only [Keeps_mk]
    exact KeptOf.of h
  unfold State.crossQualify
  dsimp only
  split
  · split
    · exact ((g _ _).State_takeRun _).State_acquisitionEnd _
    · exact Or.inl (((g _ _).State_takeRun _).State_enterRelock _)
  · split
    · exact Or.inl (g _ _).State_acquirePeriod.State_enterOor
    · exact Or.inl (g _ _).State_acquirePeriod

theorem Keeps.State_crossing {a s : State} (h : Keeps a s) (t : Nat) : KeepsUp a (State.crossing s t) := by
  have g (l : List Nat) : Keeps a { s with clk := { s.clk with detected := l } } := by
    dsimp only [Keeps_mk]
    exact KeptOf.of h
  unfold State.crossing
  dsimp only
  split
  · exact Or.inl ((g _).State_crossLocked _)
  · split
    · exact Or.inl ((g _).State_crossRelock _)
    · exact (g _).State_crossQualify _

theorem Keeps.by_execCrossingDetected {a s : State} (h : Keeps a s) (tickHalf : Nat) (before after low : Int)
    (peak : Nat) {t : State} (e : execCrossingDetected tickHalf before after low peak s = .next t) :
    KeepsUp a t := by
  unfold Sys2Proof.Machine.execCrossingDetected at e
  dsimp only at e
  split at e
  · split at e
    · cases e
      exact Or.inl (h.State_addSat _ _)
    · cases e
      exact h.State_crossing _
  · cases e
    exact Or.inl h

theorem Keeps.by_execCrossingTimeout {a s : State} (h : Keeps a s) :
    KeepsX a (execCrossingTimeout s) := by
  unfold Sys2Proof.Machine.execCrossingTimeout
  try dsimp only
  repeat' (first
    | with_reducible assumption | (with_reducible intro _) | with_reducible apply Keeps.State_enterGhost
    | with_reducible apply KeepsX.next | with_reducible apply KeepsX.ite | with_reducible apply Keeps.ite
    | split)

theorem Keeps.by_execOptimeTick {a s : State} (h : Keeps a s) :
    KeepsX a (execOptimeTick s) := by
  unfold Sys2Proof.Machine.execOptimeTick
  try dsimp only
  repeat' (first
    | with_reducible assumption | (with_reducible intro _) | with_reducible apply Keeps.State_addSat
    | with_reducible apply KeepsX.next | with_reducible apply KeepsX.ite | with_reducible apply Keeps.ite
    | split)

theorem Keeps.by_execVoltageInputPresence {a s : State} (h : Keeps a s) (input : Fin 3) (peak : Nat) :
    KeepsX a (execVoltageInputPresence input peak s) := by
  unfold Sys2Proof.Machine.execVoltageInputPresence
  try dsimp only
  repeat' (first
    | with_reducible assumption | (with_reducible intro _) | with_reducible apply Keeps.State_set
    | with_reducible apply KeepsX.next | with_reducible apply KeepsX.ite | with_reducible apply Keeps.ite
    | split)

theorem Keeps.State_journalPacket {a s : State} (h : Keeps a s) (type : Nat) (body : List (BitVec 64)) (content
    : Rec) :
    Keeps a (State.journalPacket s type body content) := by
  unfold State.journalPacket
  try dsimp only
  repeat' (first
    | with_reducible assumption | (with_reducible intro _) | with_reducible apply Keeps.ite
    | (dsimp only [Keeps_mk]; with_reducible apply KeptOf.of) | split
    | (dsimp only [Keeps_mk]; apply KeptOf.of))

theorem Keeps.State_journalData {a s : State} (h : Keeps a s) (fuel input : Nat) (ins : List DataIn) :
    Keeps a (State.journalData fuel s input ins) := by
  induction fuel generalizing s ins with
  | zero => exact h
  | succ n ih =>
    unfold State.journalData
    split
    · exact h
    · exact ih (h.State_journalPacket _ _ _) _

theorem Keeps.State_journalMgmt {a s : State} (h : Keeps a s) (w : Mgmt) :
    Keeps a (State.journalMgmt s w) := by
  unfold State.journalMgmt
  try dsimp only
  repeat' (first
    | with_reducible assumption | (with_reducible intro _) | with_reducible apply Keeps.State_journalPacket)

theorem Keeps.State_journalFix {a s : State} (h : Keeps a s) (src : CueSrc) (stamp : Nat) (id : Nat) (late :
    Bool) :
    Keeps a (State.journalFix s src stamp id late) := by
  unfold State.journalFix
  try dsimp only
  repeat' (first
    | with_reducible assumption | (with_reducible intro _) | with_reducible apply Keeps.State_journalPacket
    | split)

theorem Keeps.State_journalOccurrence {a s : State} (h : Keeps a s) (j : Nat) (tai : Nat) :
    Keeps a (State.journalOccurrence s j tai) := by
  unfold State.journalOccurrence
  try dsimp only
  repeat' (first
    | with_reducible assumption | (with_reducible intro _) | with_reducible apply Keeps.State_journalPacket)

theorem Keeps.State_journalMeter {a s : State} (h : Keeps a s) (fuel kind k last : Nat) (ws : List (BitVec 64))
    (content : Rec) : Keeps a (State.journalMeter fuel s kind k last ws content) := by
  induction fuel generalizing s k ws with
  | zero => exact h
  | succ n ih =>
    unfold State.journalMeter
    dsimp only
    split
    · exact h.State_journalPacket _ _ _
    · exact ih (h.State_journalPacket _ _ _) _ _

theorem Keeps.State_journalMetering {a s : State} (h : Keeps a s) (kind : Nat) (bs : List Byte) (content : Rec)
    :
    Keeps a (State.journalMetering s kind bs content) := by
  unfold State.journalMetering
  try dsimp only
  repeat' (first
    | with_reducible assumption | (with_reducible intro _) | with_reducible apply Keeps.State_journalMeter)

theorem Keeps.State_mirror {a s : State} (h : Keeps a s) (m : Mirror) :
    Keeps a (State.mirror s m) := by
  unfold State.mirror
  try dsimp only
  repeat' (first
    | with_reducible assumption | (with_reducible intro _) | with_reducible apply Keeps.ite
    | (dsimp only [Keeps_mk]; with_reducible apply KeptOf.of) | split
    | (dsimp only [Keeps_mk]; apply KeptOf.of))

theorem Keeps.State_objSat {a s : State} (h : Keeps a s) (idx : Nat) :
    Keeps a (State.objSat s idx) := by
  unfold State.objSat
  try dsimp only
  repeat' (first
    | with_reducible assumption | (with_reducible intro _) | with_reducible apply Keeps.State_setObj)

theorem Keeps.State_objWrap {a s : State} (h : Keeps a s) (idx : Nat) :
    Keeps a (State.objWrap s idx) := by
  unfold State.objWrap
  try dsimp only
  repeat' (first
    | with_reducible assumption | (with_reducible intro _) | with_reducible apply Keeps.State_setObj)

theorem Keeps.State_replySent {a s : State} (h : Keeps a s) (r : Reply) :
    Keeps a (State.replySent s r) := by
  unfold State.replySent
  try dsimp only
  repeat' (first
    | with_reducible assumption | (with_reducible intro _) | with_reducible apply Keeps.State_objWrap
    | with_reducible apply Keeps.State_emit | with_reducible apply Keeps.ite
    | (dsimp only [Keeps_mk]; with_reducible apply KeptOf.of) | split
    | (dsimp only [Keeps_mk]; apply KeptOf.of))

theorem Keeps.State_setDie {a s : State} (h : Keeps a s) (d : DieId) (v : Die) :
    Keeps a (State.setDie s d v) := by
  unfold State.setDie
  try dsimp only
  repeat' (first
    | with_reducible assumption | (with_reducible intro _)
    | (dsimp only [Keeps_mk]; with_reducible apply KeptOf.of) | split
    | (dsimp only [Keeps_mk]; apply KeptOf.of))

theorem Keeps.by_execReportPeriodExpiry {a s : State} (h : Keeps a s) (e : Endpoint) :
    KeepsX a (execReportPeriodExpiry e s) := by
  unfold Sys2Proof.Machine.execReportPeriodExpiry
  try dsimp only
  repeat' (first
    | with_reducible assumption | (with_reducible intro _) | with_reducible apply KeepsX.next
    | with_reducible apply KeepsX.ite | with_reducible apply Keeps.ite
    | (dsimp only [Keeps_mk]; with_reducible apply KeptOf.of) | split
    | (dsimp only [Keeps_mk]; apply KeptOf.of))

theorem Keeps.State_wbCheck {a s : State} (h : Keeps a s) (d : DieId) :
    Keeps a (State.wbCheck d s) := by
  unfold State.wbCheck
  try dsimp only
  repeat' (first
    | with_reducible assumption | (with_reducible intro _) | with_reducible apply Keeps.State_raiseIf
    | with_reducible apply Keeps.State_set)

theorem Keeps.by_execWriteBehind {a s : State} (h : Keeps a s) (d : DieId) (e : Endpoint) :
    KeepsX a (execWriteBehind d e s) := by
  unfold Sys2Proof.Machine.execWriteBehind
  try dsimp only
  repeat' (first
    | with_reducible assumption | (with_reducible intro _) | with_reducible apply Keeps.State_wbCheck
    | with_reducible apply Keeps.State_setDie | with_reducible apply KeepsX.next
    | with_reducible apply KeepsX.ite | with_reducible apply Keeps.ite | split)

theorem Keeps.by_execBackgroundStatisticsPass {a s : State} (h : Keeps a s) (d : DieId) :
    KeepsX a (execBackgroundStatisticsPass d s) := by
  unfold Sys2Proof.Machine.execBackgroundStatisticsPass
  try dsimp only
  repeat' (first
    | with_reducible assumption | (with_reducible intro _) | with_reducible apply Keeps.State_setDie
    | with_reducible apply KeepsX.next)

theorem Keeps.State_retireRow {a s : State} (h : Keeps a s) (d : DieId) (bank : Nat) (row : Nat) :
    KeepsO a (State.retireRow s d bank row) := by
  unfold State.retireRow
  try dsimp only
  repeat' (first
    | with_reducible assumption | (with_reducible intro _) | with_reducible apply Keeps.State_setDie
    | with_reducible apply Keeps.State_set | with_reducible apply Keeps.State_raise
    | with_reducible apply Keeps.State_raiseIf | with_reducible apply KeepsO.none
    | with_reducible apply KeepsO.some | with_reducible apply KeepsO.ite | with_reducible apply Keeps.ite
    | (dsimp only [Keeps_mk]; with_reducible apply KeptOf.of) | split
    | (dsimp only [Keeps_mk]; apply KeptOf.of))

theorem Keeps.State_takeRules {a s : State} (h : Keeps a s) (d : DieId) :
    Keeps a (State.takeRules s d) := by
  unfold State.takeRules
  try dsimp only
  repeat' (first
    | with_reducible assumption | (with_reducible intro _) | with_reducible apply Keeps.State_setDie
    | (dsimp only [Keeps_mk]; with_reducible apply KeptOf.of) | (dsimp only [Keeps_mk]; apply KeptOf.of))

theorem Keeps.State_flushTally {a s : State} (h : Keeps a s) (d : DieId) :
    Keeps a (State.flushTally s d) := by
  unfold State.flushTally
  try dsimp only
  repeat' (first
    | with_reducible assumption | (with_reducible intro _) | with_reducible apply Keeps.State_setDie
    | with_reducible apply Keeps.State_addWrap | with_reducible apply Keeps.State_addSat
    | with_reducible apply Keeps.State_raiseIf | with_reducible apply Keeps.State_post
    | with_reducible apply Keeps.foldl | with_reducible apply Keeps.foldlP
    | (dsimp only [Keeps_mk]; with_reducible apply KeptOf.of) | (dsimp only [Keeps_mk]; apply KeptOf.of))

theorem Keeps.by_execFollowSpotReceive {a s : State} (h : Keeps a s) (d : DieId) :
    KeepsX a (execFollowSpotReceive d s) := by
  unfold Sys2Proof.Machine.execFollowSpotReceive
  try dsimp only
  repeat' (first
    | with_reducible assumption | (with_reducible intro _) | with_reducible apply Keeps.State_setDie
    | with_reducible apply Keeps.State_flushTally | with_reducible apply KeepsX.next
    | (dsimp only [Keeps_mk]; with_reducible apply KeptOf.of) | split
    | (dsimp only [Keeps_mk]; apply KeptOf.of))

theorem Keeps.State_setSide {a s : State} (h : Keeps a s) (d : DieId) (x : Side) :
    Keeps a (State.setSide s d x) := by
  unfold State.setSide
  try dsimp only
  repeat' (first
    | with_reducible assumption | (with_reducible intro _)
    | (dsimp only [Keeps_mk]; with_reducible apply KeptOf.of) | split
    | (dsimp only [Keeps_mk]; apply KeptOf.of))

theorem Keeps.by_execEventEvaluation {a s : State} (h : Keeps a s) (d : DieId) (u : Fin 256) :
    KeepsX a (execEventEvaluation d u s) := by
  unfold Sys2Proof.Machine.execEventEvaluation
  try dsimp only
  repeat' (first
    | with_reducible assumption | (with_reducible intro _) | with_reducible apply Keeps.State_setDie
    | with_reducible apply Keeps.State_setSide | with_reducible apply Keeps.State_flushTally
    | with_reducible apply KeepsX.next | with_reducible apply KeepsX.ite | with_reducible apply Keeps.ite
    | (dsimp only [Keeps_mk]; with_reducible apply KeptOf.of) | split
    | (dsimp only [Keeps_mk]; apply KeptOf.of))

theorem Keeps.by_execEventCutoff {a s : State} (h : Keeps a s) :
    KeepsX a (execEventCutoff s) := by
  unfold Sys2Proof.Machine.execEventCutoff
  try dsimp only
  repeat' (first
    | with_reducible assumption | (with_reducible intro _) | with_reducible apply KeepsX.next
    | (dsimp only [Keeps_mk]; with_reducible apply KeptOf.of) | (dsimp only [Keeps_mk]; apply KeptOf.of))

theorem Keeps.by_execAggregateDeadline {a s : State} (h : Keeps a s) (d : DieId) (ready : Option (Fin 1024)) :
    KeepsX a (execAggregateDeadline d ready s) := by
  unfold Sys2Proof.Machine.execAggregateDeadline
  try dsimp only
  repeat' (first
    | with_reducible assumption | (with_reducible intro _) | with_reducible apply Keeps.State_setDie
    | with_reducible apply Keeps.State_set | with_reducible apply Keeps.State_raise
    | with_reducible apply KeepsX.next | (dsimp only [Keeps_mk]; with_reducible apply KeptOf.of) | split
    | (dsimp only [Keeps_mk]; apply KeptOf.of))

theorem Keeps.State_setCues {a s : State} (h : Keeps a s) (d : DieId) (c : CueArea) :
    Keeps a (State.setCues s d c) := by
  unfold State.setCues
  try dsimp only
  repeat' (first
    | with_reducible assumption | (with_reducible intro _) | with_reducible apply Keeps.State_setDie
    | (dsimp only [Keeps_mk]; with_reducible apply KeptOf.of) | (dsimp only [Keeps_mk]; apply KeptOf.of))

theorem Keeps.State_nodeOp {a s : State} (h : Keeps a s) (d : DieId) (o : NodeOp) :
    Keeps a (State.nodeOp s d o) := by
  unfold State.nodeOp
  try dsimp only
  repeat' (first
    | with_reducible assumption | (with_reducible intro _) | with_reducible apply Keeps.State_setDie
    | (dsimp only [Keeps_mk]; with_reducible apply KeptOf.of) | (dsimp only [Keeps_mk]; apply KeptOf.of))

theorem Keeps.State_schedOccurrence {a s : State} (h : Keeps a s) (d : DieId) (j : Nat) :
    Keeps a (State.schedOccurrence d s j) := by
  unfold State.schedOccurrence
  try dsimp only
  repeat' (first
    | with_reducible assumption | (with_reducible intro _) | with_reducible apply Keeps.State_setCues
    | with_reducible apply Keeps.State_journalOccurrence | with_reducible apply Keeps.ite
    | (dsimp only [Keeps_mk]; with_reducible apply KeptOf.of) | split
    | (dsimp only [Keeps_mk]; apply KeptOf.of))

theorem Keeps.State_unfollow {a s : State} (h : Keeps a s) (d : DieId) (armed : Bool) (e : Nat) :
    Keeps a (State.unfollow d armed s e) := by
  unfold State.unfollow
  try dsimp only
  repeat' (first
    | with_reducible assumption | (with_reducible intro _) | with_reducible apply Keeps.State_setCues
    | with_reducible apply Keeps.State_setDie | with_reducible apply Keeps.State_addSat
    | with_reducible apply Keeps.ite | (dsimp only [Keeps_mk]; with_reducible apply KeptOf.of) | split
    | (dsimp only [Keeps_mk]; apply KeptOf.of))

theorem Keeps.State_trackOne {a s : State} (h : Keeps a s) (d : DieId) (k : Nat) (f : Nat × Nat × Nat) :
    Keeps a (State.trackOne d k s f) := by
  unfold State.trackOne
  try dsimp only
  repeat' (first
    | with_reducible assumption | (with_reducible intro _) | with_reducible apply Keeps.State_setCues
    | with_reducible apply Keeps.State_setDie | with_reducible apply Keeps.State_addSat
    | with_reducible apply Keeps.ite | (dsimp only [Keeps_mk]; with_reducible apply KeptOf.of) | split
    | (dsimp only [Keeps_mk]; apply KeptOf.of))

theorem Keeps.State_trackRec {a s : State} (h : Keeps a s) (d : DieId) (k : Nat) :
    Keeps a (State.trackRec d s k) := by
  unfold State.trackRec
  try dsimp only
  repeat' (first
    | with_reducible assumption | (with_reducible intro _) | with_reducible apply Keeps.State_trackOne
    | with_reducible apply Keeps.State_setCues | with_reducible apply Keeps.foldl
    | with_reducible apply Keeps.foldlP | with_reducible apply Keeps.ite | split)

theorem Keeps.State_trackAll {a s : State} (h : Keeps a s) (d : DieId) :
    Keeps a (State.trackAll s d) := by
  unfold State.trackAll
  try dsimp only
  repeat' (first
    | with_reducible assumption | (with_reducible intro _) | with_reducible apply Keeps.State_trackRec
    | with_reducible apply Keeps.foldl | with_reducible apply Keeps.foldlP)

theorem Keeps.State_setExact {a s : State} (h : Keeps a s) (d : DieId) (e : Nat) (b : Bool) :
    Keeps a (State.setExact s d e b) := by
  unfold State.setExact
  try dsimp only
  repeat' (first
    | with_reducible assumption | (with_reducible intro _) | with_reducible apply Keeps.State_setDie
    | with_reducible apply Keeps.ite | (dsimp only [Keeps_mk]; with_reducible apply KeptOf.of) | split
    | (dsimp only [Keeps_mk]; apply KeptOf.of))

theorem Keeps.State_follow {a s : State} (h : Keeps a s) (d : DieId) (k : Nat) (e : Nat) (level : Nat) :
    Keeps a (State.follow d k s e level) := by
  unfold State.follow
  try dsimp only
  repeat' (first
    | with_reducible assumption | (with_reducible intro _) | with_reducible apply Keeps.State_setCues
    | with_reducible apply Keeps.State_setDie | with_reducible apply Keeps.State_trackOne
    | (dsimp only [Keeps_mk]; with_reducible apply KeptOf.of) | split
    | (dsimp only [Keeps_mk]; apply KeptOf.of))

theorem Keeps.State_sceneOne {a s : State} (h : Keeps a s) (d : DieId) (q : Cue) (fade : Nat) (x : Nat ×
    CueRange) :
    Keeps a (State.sceneOne d q fade s x) := by
  unfold State.sceneOne
  try dsimp only
  repeat' (first
    | with_reducible assumption | (with_reducible intro _) | with_reducible apply Keeps.State_unfollow
    | with_reducible apply Keeps.State_setDie | with_reducible apply Keeps.State_follow
    | with_reducible apply Keeps.State_setExact | with_reducible apply Keeps.ite
    | (dsimp only [Keeps_mk]; with_reducible apply KeptOf.of) | split
    | (dsimp only [Keeps_mk]; apply KeptOf.of))

theorem Keeps.State_ovrChanged {a s : State} (h : Keeps a s) (d : DieId) (e : Nat) (sets : Bool) (old : Nat)
    (new : Nat) (binding : Nat) :
    Keeps a (State.ovrChanged s d e sets old new binding) := by
  unfold State.ovrChanged
  try dsimp only
  repeat' (first
    | with_reducible assumption | (with_reducible intro _) | with_reducible apply Keeps.State_nodeOp
    | with_reducible apply Keeps.ite | split)

theorem Keeps.State_blackStart {a s : State} (h : Keeps a s) (d : DieId) (e : Nat) (on : Bool) (binding : Nat) :
    Keeps a (State.blackStart s d e on binding) := by
  unfold State.blackStart
  try dsimp only
  repeat' (first
    | with_reducible assumption | (with_reducible intro _) | with_reducible apply Keeps.State_setCues
    | with_reducible apply Keeps.ite | (dsimp only [Keeps_mk]; with_reducible apply KeptOf.of) | split
    | (dsimp only [Keeps_mk]; apply KeptOf.of))

theorem Keeps.State_overrideOne {a s : State} (h : Keeps a s) (d : DieId) (q : Cue) (fade : Nat) (x : Nat ×
    CueRange) :
    Keeps a (State.overrideOne d q fade s x) := by
  unfold State.overrideOne
  try dsimp only
  repeat' (first
    | with_reducible assumption | (with_reducible intro _) | with_reducible apply Keeps.State_unfollow
    | with_reducible apply Keeps.State_setDie | with_reducible apply Keeps.State_ovrChanged
    | with_reducible apply Keeps.State_addSat | with_reducible apply Keeps.State_raise
    | with_reducible apply Keeps.State_blackStart | with_reducible apply Keeps.State_post
    | with_reducible apply Keeps.State_raiseIf | with_reducible apply Keeps.ite
    | (dsimp only [Keeps_mk]; with_reducible apply KeptOf.of) | split
    | (dsimp only [Keeps_mk]; apply KeptOf.of))

theorem Keeps.State_operateOne {a s : State} (h : Keeps a s) (d : DieId) (q : Cue) (fade : Nat) (x : Nat ×
    CueRange) :
    Keeps a (State.operateOne d q fade s x) := by
  unfold State.operateOne
  try dsimp only
  repeat' (first
    | with_reducible assumption | (with_reducible intro _) | with_reducible apply Keeps.State_overrideOne
    | with_reducible apply Keeps.State_follow | with_reducible apply Keeps.ite | split)

theorem Keeps.State_cancelCue {a s : State} (h : Keeps a s) (d : DieId) (id : Nat) :
    Keeps a (State.cancelCue s d id) := by
  unfold State.cancelCue
  try dsimp only
  repeat' (first
    | with_reducible assumption | (with_reducible intro _) | with_reducible apply Keeps.State_setCues
    | with_reducible apply Keeps.State_nodeOp | (dsimp only [Keeps_mk]; with_reducible apply KeptOf.of)
    | split | (dsimp only [Keeps_mk]; apply KeptOf.of))

theorem Keeps.State_executedMarks {a s : State} (h : Keeps a s) (d : DieId) (q : Cue) (late : Bool) :
    Keeps a (State.executedMarks s d q late) := by
  unfold State.executedMarks
  try dsimp only
  repeat' (first
    | with_reducible assumption | (with_reducible intro _) | with_reducible apply Keeps.State_set
    | with_reducible apply Keeps.State_addWrap | with_reducible apply Keeps.State_addSat
    | with_reducible apply Keeps.State_raise | with_reducible apply Keeps.State_setCues
    | with_reducible apply Keeps.ite | (dsimp only [Keeps_mk]; with_reducible apply KeptOf.of) | split
    | (dsimp only [Keeps_mk]; apply KeptOf.of))

theorem Keeps.State_countUnarmed {a s : State} (h : Keeps a s) (d : DieId) (q : Cue) :
    Keeps a (State.countUnarmed s d q) := by
  unfold State.countUnarmed
  try dsimp only
  repeat' (first
    | with_reducible assumption | (with_reducible intro _) | with_reducible apply Keeps.State_addSat
    | with_reducible apply Keeps.State_raise | with_reducible apply Keeps.ite | split)

theorem Keeps.State_executeCue {a s : State} (h : Keeps a s) (d : DieId) (q : Cue) (fade : Nat) (late : Bool) :
    Keeps a (State.executeCue s d q fade late) := by
  unfold State.executeCue
  try dsimp only
  repeat' (first
    | with_reducible assumption | (with_reducible intro _) | with_reducible apply Keeps.State_countUnarmed
    | with_reducible apply Keeps.State_setCues | with_reducible apply Keeps.State_sceneOne
    | with_reducible apply Keeps.State_cancelCue | with_reducible apply Keeps.State_operateOne
    | with_reducible apply Keeps.State_executedMarks | with_reducible apply Keeps.foldl
    | with_reducible apply Keeps.foldlP | with_reducible apply Keeps.ite
    | (dsimp only [Keeps_mk]; with_reducible apply KeptOf.of) | split
    | (dsimp only [Keeps_mk]; apply KeptOf.of))

theorem Keeps.State_expireCue {a s : State} (h : Keeps a s) (d : DieId) (q : Cue) :
    Keeps a (State.expireCue s d q) := by
  unfold State.expireCue
  try dsimp only
  repeat' (first
    | with_reducible assumption | (with_reducible intro _) | with_reducible apply Keeps.State_setCues
    | with_reducible apply Keeps.State_addSat | with_reducible apply Keeps.State_raise
    | with_reducible apply Keeps.State_post | (dsimp only [Keeps_mk]; with_reducible apply KeptOf.of)
    | split | (dsimp only [Keeps_mk]; apply KeptOf.of))

theorem Keeps.State_armOne {a : State} {x_ : State × List Cue} (h : Keeps a x_.1) (d : DieId) (q : Cue) :
    Keeps a (State.armOne d x_ q).1 := by
  obtain ⟨s, y_⟩ := x_
  dsimp only at h
  unfold State.armOne
  try dsimp only
  repeat' (first
    | with_reducible assumption | (with_reducible intro _) | with_reducible apply Keeps.State_setCues
    | with_reducible apply Keeps.State_nodeOp | with_reducible apply Keeps.State_countUnarmed
    | with_reducible apply Keeps.iteP | with_reducible apply Keeps.ite
    | (dsimp only [Keeps_mk]; with_reducible apply KeptOf.of) | split
    | (dsimp only [Keeps_mk]; apply KeptOf.of))

theorem Keeps.State_armQueue {a s : State} (h : Keeps a s) (d : DieId) :
    Keeps a (State.armQueue s d) := by
  unfold State.armQueue
  try dsimp only
  repeat' (first
    | with_reducible assumption | (with_reducible intro _) | with_reducible apply Keeps.State_armOne
    | with_reducible apply Keeps.State_setCues | with_reducible apply Keeps.foldl
    | with_reducible apply Keeps.foldlP | with_reducible refine Keeps.ofP (by assumption) ?_
    | (dsimp only [Keeps_mk]; with_reducible apply KeptOf.of) | split
    | (dsimp only [Keeps_mk]; apply KeptOf.of))

theorem Keeps.State_armAll {a s : State} (h : Keeps a s) (d : DieId) :
    Keeps a (State.armAll s d) := by
  unfold State.armAll
  try dsimp only
  repeat' (first
    | with_reducible assumption | (with_reducible intro _) | with_reducible apply Keeps.State_armQueue
    | with_reducible apply Keeps.State_armOne | with_reducible apply Keeps.State_setCues
    | with_reducible apply Keeps.foldl | with_reducible apply Keeps.foldlP
    | with_reducible refine Keeps.ofP (by assumption) ?_
    | (dsimp only [Keeps_mk]; with_reducible apply KeptOf.of) | split
    | (dsimp only [Keeps_mk]; apply KeptOf.of))

theorem Keeps.State_takeUp {a s : State} (h : Keeps a s) (d : DieId) (j : Nat) :
    Keeps a (State.takeUp d s j) := by
  unfold State.takeUp
  try dsimp only
  repeat' (first
    | with_reducible assumption | (with_reducible intro _) | with_reducible apply Keeps.State_setCues
    | with_reducible apply Keeps.State_armOne | with_reducible apply Keeps.State_expireCue
    | with_reducible apply Keeps.ite | with_reducible apply Keeps.iteP
    | with_reducible refine Keeps.ofP (by assumption) ?_
    | (dsimp only [Keeps_mk]; with_reducible apply KeptOf.of) | split
    | (dsimp only [Keeps_mk]; apply KeptOf.of))

theorem Keeps.State_prepareAll {a s : State} (h : Keeps a s) (d : DieId) :
    Keeps a (State.prepareAll s d) := by
  unfold State.prepareAll
  try dsimp only
  repeat' (first
    | with_reducible assumption | (with_reducible intro _) | with_reducible apply Keeps.State_setCues
    | (dsimp only [Keeps_mk]; with_reducible apply KeptOf.of) | (dsimp only [Keeps_mk]; apply KeptOf.of))

theorem Keeps.State_boundaryCue {a s : State} (h : Keeps a s) (d : DieId) (q : Cue) :
    Keeps a (State.boundaryCue d s q) := by
  unfold State.boundaryCue
  try dsimp only
  repeat' (first
    | with_reducible assumption | (with_reducible intro _) | with_reducible apply Keeps.State_executeCue
    | with_reducible apply Keeps.ite | split)

theorem Keeps.State_deferCues {a s : State} (h : Keeps a s) (d : DieId) (rest : List Cue) :
    Keeps a (State.deferCues s d rest) := by
  unfold State.deferCues
  try dsimp only
  repeat' (first
    | with_reducible assumption | (with_reducible intro _) | with_reducible apply Keeps.State_setCues
    | with_reducible apply Keeps.State_addSat | with_reducible apply Keeps.State_raiseIf
    | with_reducible apply Keeps.ite | (dsimp only [Keeps_mk]; with_reducible apply KeptOf.of) | split
    | (dsimp only [Keeps_mk]; apply KeptOf.of))

theorem Keeps.State_executeDue {a s : State} (h : Keeps a s) (d : DieId) :
    Keeps a (State.executeDue s d) := by
  unfold State.executeDue
  try dsimp only
  repeat' (first
    | with_reducible assumption | (with_reducible intro _) | with_reducible apply Keeps.State_expireCue
    | with_reducible apply Keeps.State_boundaryCue | with_reducible apply Keeps.State_deferCues
    | with_reducible apply Keeps.foldl | with_reducible apply Keeps.foldlP)

theorem Keeps.State_bankSwap {a s : State} (h : Keeps a s) (d : DieId) :
    Keeps a (State.bankSwap s d) := by
  unfold State.bankSwap
  try dsimp only
  repeat' (first
    | with_reducible assumption | (with_reducible intro _) | with_reducible apply Keeps.State_setCues
    | with_reducible apply Keeps.State_raise | with_reducible apply Keeps.ite
    | (dsimp only [Keeps_mk]; with_reducible apply KeptOf.of) | split
    | (dsimp only [Keeps_mk]; apply KeptOf.of))

theorem Keeps.State_goSwap {a s : State} (h : Keeps a s) (d : DieId) :
    Keeps a (State.goSwap s d) := by
  unfold State.goSwap
  try dsimp only
  repeat' (first
    | with_reducible assumption | (with_reducible intro _) | with_reducible apply Keeps.State_setCues
    | with_reducible apply Keeps.ite | (dsimp only [Keeps_mk]; with_reducible apply KeptOf.of) | split
    | (dsimp only [Keeps_mk]; apply KeptOf.of))

theorem Keeps.State_journalFixes {a s : State} (h : Keeps a s) (d : DieId) (old : List Cue) :
    Keeps a (State.journalFixes s d old) := by
  unfold State.journalFixes
  try dsimp only
  repeat' (first
    | with_reducible assumption | (with_reducible intro _) | with_reducible apply Keeps.State_journalFix
    | with_reducible apply Keeps.foldl | with_reducible apply Keeps.foldlP | with_reducible apply Keeps.ite
    | split)

theorem Keeps.State_caughtUp {a s : State} (h : Keeps a s) (d : DieId) (q : Cue) :
    Keeps a (State.caughtUp s d q) := by
  unfold State.caughtUp
  try dsimp only
  repeat' (first
    | with_reducible assumption | (with_reducible intro _) | with_reducible apply Keeps.State_setCues
    | with_reducible apply Keeps.ite | (dsimp only [Keeps_mk]; with_reducible apply KeptOf.of) | split
    | (dsimp only [Keeps_mk]; apply KeptOf.of))

theorem Keeps.State_freeArmed {a s : State} (h : Keeps a s) (d : DieId) :
    Keeps a (State.freeArmed s d).1 := by
  unfold State.freeArmed
  try dsimp only
  repeat' (first
    | with_reducible assumption | (with_reducible intro _) | with_reducible apply Keeps.State_nodeOp
    | with_reducible apply Keeps.State_setCues | with_reducible apply Keeps.foldl
    | with_reducible apply Keeps.foldlP | (dsimp only [Keeps_mk]; with_reducible apply KeptOf.of) | split
    | (dsimp only [Keeps_mk]; apply KeptOf.of))

theorem Keeps.State_catchUp {a s : State} (h : Keeps a s) (d : DieId) (first : Bool) :
    Keeps a (State.catchUp s d first) := by
  unfold State.catchUp
  try dsimp only
  repeat' (first
    | with_reducible assumption | (with_reducible intro _) | with_reducible apply Keeps.State_freeArmed
    | with_reducible apply Keeps.State_setCues | with_reducible apply Keeps.State_executeCue
    | with_reducible apply Keeps.State_caughtUp | with_reducible apply Keeps.foldl
    | with_reducible apply Keeps.foldlP | with_reducible apply Keeps.ite | with_reducible apply Keeps.iteP
    | with_reducible refine Keeps.ofP (by assumption) ?_
    | (dsimp only [Keeps_mk]; with_reducible apply KeptOf.of) | split
    | (dsimp only [Keeps_mk]; apply KeptOf.of))

theorem Keeps.State_cueBoundary {a s : State} (h : Keeps a s) (d : DieId) :
    Keeps a (State.cueBoundary s d) := by
  unfold State.cueBoundary
  try dsimp only
  repeat' (first
    | with_reducible assumption | (with_reducible intro _) | with_reducible apply Keeps.State_bankSwap
    | with_reducible apply Keeps.State_goSwap | with_reducible apply Keeps.State_catchUp
    | with_reducible apply Keeps.State_schedOccurrence | with_reducible apply Keeps.State_takeUp
    | with_reducible apply Keeps.State_armQueue | with_reducible apply Keeps.State_expireCue
    | with_reducible apply Keeps.State_setCues | with_reducible apply Keeps.State_armAll
    | with_reducible apply Keeps.State_prepareAll | with_reducible apply Keeps.State_journalFixes
    | with_reducible apply Keeps.State_trackAll | with_reducible apply Keeps.State_executeDue
    | with_reducible apply Keeps.foldl | with_reducible apply Keeps.foldlP
    | (dsimp only [Keeps_mk]; with_reducible apply KeptOf.of) | split
    | (dsimp only [Keeps_mk]; apply KeptOf.of))

theorem Keeps.State_namedPhase {a s : State} (h : Keeps a s) (d : DieId) (p : Nat) :
    Keeps a (State.namedPhase s d p) := by
  unfold State.namedPhase
  try dsimp only
  repeat' (first
    | with_reducible assumption | (with_reducible intro _) | with_reducible apply Keeps.State_executeCue
    | with_reducible apply Keeps.State_setDie | with_reducible apply Keeps.foldl
    | with_reducible apply Keeps.foldlP | (dsimp only [Keeps_mk]; with_reducible apply KeptOf.of) | split
    | (dsimp only [Keeps_mk]; apply KeptOf.of))

theorem Keeps.by_execBankSyncEnd {a s : State} (h : Keeps a s) :
    KeepsX a (execBankSyncEnd s) := by
  unfold Sys2Proof.Machine.execBankSyncEnd
  try dsimp only
  repeat' (first
    | with_reducible assumption | (with_reducible intro _) | with_reducible apply KeepsX.next
    | with_reducible apply KeepsX.ite | with_reducible apply Keeps.ite
    | (dsimp only [Keeps_mk]; with_reducible apply KeptOf.of) | split
    | (dsimp only [Keeps_mk]; apply KeptOf.of))

theorem Keeps.State_setQueue {a s : State} (h : Keeps a s) (key : Nat) (q : Queue) :
    Keeps a (State.setQueue s key q) := by
  unfold State.setQueue
  try dsimp only
  repeat' (first
    | with_reducible assumption | (with_reducible intro _)
    | (dsimp only [Keeps_mk]; with_reducible apply KeptOf.of) | (dsimp only [Keeps_mk]; apply KeptOf.of))

theorem Keeps.State_lastDrop {a s : State} (h : Keeps a s) (d : DieId) (q : Nat) (reason : Nat) :
    Keeps a (State.lastDrop s d q reason) := by
  unfold State.lastDrop
  try dsimp only
  repeat' (first
    | with_reducible assumption | (with_reducible intro _) | with_reducible apply Keeps.State_set)

theorem Keeps.State_reserve {a s : State} (h : Keeps a s) (d : DieId) (src : Nat) :
    Keeps a (State.reserve s d src) := by
  unfold State.reserve
  try dsimp only
  repeat' (first
    | with_reducible assumption | (with_reducible intro _) | with_reducible apply Keeps.State_setQueue
    | (dsimp only [Keeps_mk]; with_reducible apply KeptOf.of) | (dsimp only [Keeps_mk]; apply KeptOf.of))

theorem Keeps.State_claim {a s : State} (h : Keeps a s) (d : DieId) (src : Nat) (dst : Nat) :
    KeepsO a (State.claim s d src dst) := by
  unfold State.claim
  try dsimp only
  repeat' (first
    | with_reducible assumption | (with_reducible intro _) | with_reducible apply Keeps.State_reserve
    | with_reducible apply KeepsO.none | with_reducible apply KeepsO.some | with_reducible apply KeepsO.ite
    | with_reducible apply Keeps.ite | split)

theorem Keeps.State_unreserve {a s : State} (h : Keeps a s) (key : Nat) :
    Keeps a (State.unreserve s key) := by
  unfold State.unreserve
  try dsimp only
  repeat' (first
    | with_reducible assumption | (with_reducible intro _) | with_reducible apply Keeps.State_setQueue
    | (dsimp only [Keeps_mk]; with_reducible apply KeptOf.of) | (dsimp only [Keeps_mk]; apply KeptOf.of))

theorem Keeps.State_unclaim {a s : State} (h : Keeps a s) (d : DieId) (src : Nat) (dst : Nat) :
    Keeps a (State.unclaim s d src dst) := by
  unfold State.unclaim
  try dsimp only
  repeat' (first
    | with_reducible assumption | (with_reducible intro _) | with_reducible apply Keeps.State_unreserve
    | with_reducible apply Keeps.ite | split)

theorem Keeps.State_deliver {a s : State} (h : Keeps a s) (d : DieId) (x : Send) :
    Keeps a (State.deliver s d x) := by
  unfold State.deliver
  try dsimp only
  repeat' (first
    | with_reducible assumption | (with_reducible intro _) | with_reducible apply Keeps.State_setQueue)

theorem Keeps.State_sendNow {a s : State} (h : Keeps a s) (d : DieId) (x : Send) :
    Keeps a (State.sendNow s d x) := by
  unfold State.sendNow
  try dsimp only
  repeat' (first
    | with_reducible assumption | (with_reducible intro _) | with_reducible apply Keeps.State_unclaim
    | with_reducible apply Keeps.State_deliver | with_reducible apply Keeps.ite | split)

theorem Keeps.State_await {a s : State} (h : Keeps a s) (d : DieId) (x : Send) (reserved : Bool) :
    Keeps a (State.await s d x reserved) := by
  unfold State.await
  try dsimp only
  repeat' (first
    | with_reducible assumption | (with_reducible intro _)
    | (dsimp only [Keeps_mk]; with_reducible apply KeptOf.of) | (dsimp only [Keeps_mk]; apply KeptOf.of))

theorem Keeps.State_produce {a s : State} (h : Keeps a s) (d : DieId) (x : Send) :
    Keeps a (State.produce s d x) := by
  unfold State.produce
  try dsimp only
  repeat' (first
    | with_reducible assumption | (with_reducible intro _) | with_reducible apply Keeps.State_claim
    | with_reducible refine Keeps.ofO (by assumption) ?_ | with_reducible apply Keeps.State_await
    | with_reducible apply Keeps.State_sendNow | with_reducible apply Keeps.ite
    | with_reducible apply KeepsO.some | with_reducible apply KeepsO.none | with_reducible apply KeepsO.ite
    | split)

theorem Keeps.State_intrude {a s : State} (h : Keeps a s) (d : DieId) (x : Send) :
    Keeps a (State.intrude s d x) := by
  unfold State.intrude
  try dsimp only
  repeat' (first
    | with_reducible assumption | (with_reducible intro _) | with_reducible apply Keeps.State_claim
    | with_reducible refine Keeps.ofO (by assumption) ?_ | with_reducible apply Keeps.State_sendNow
    | with_reducible apply Keeps.State_deliver | with_reducible apply Keeps.ite
    | with_reducible apply KeepsO.some | with_reducible apply KeepsO.none | with_reducible apply KeepsO.ite
    | split)

theorem Keeps.State_creditOverrun {a s : State} (h : Keeps a s) (d : DieId) (q : Nat) :
    Keeps a (State.creditOverrun s d q) := by
  unfold State.creditOverrun
  try dsimp only
  repeat' (first
    | with_reducible assumption | (with_reducible intro _) | with_reducible apply Keeps.State_addSat
    | with_reducible apply Keeps.State_lastDrop | with_reducible apply Keeps.State_raise)

theorem Keeps.by_execQueuePacketSend {a s : State} (h : Keeps a s) (d : DieId) (x : Send) :
    KeepsX a (execQueuePacketSend d x s) := by
  unfold Sys2Proof.Machine.execQueuePacketSend
  try dsimp only
  repeat' (first
    | with_reducible assumption | (with_reducible intro _) | with_reducible apply Keeps.State_produce
    | with_reducible apply Keeps.State_intrude | with_reducible apply Keeps.State_creditOverrun
    | with_reducible apply KeepsX.next | with_reducible apply KeepsX.ite | with_reducible apply Keeps.ite
    | split)

theorem Keeps.State_serveOne {a s : State} (h : Keeps a s) (w : Waiter) :
    Keeps a (State.serveOne s w) := by
  unfold State.serveOne
  try dsimp only
  repeat' (first
    | with_reducible assumption | (with_reducible intro _) | with_reducible apply Keeps.State_claim
    | with_reducible refine Keeps.ofO (by assumption) ?_ | with_reducible apply Keeps.State_sendNow
    | with_reducible apply Keeps.ite | with_reducible apply KeepsO.some | with_reducible apply KeepsO.none
    | with_reducible apply KeepsO.ite | (dsimp only [Keeps_mk]; with_reducible apply KeptOf.of) | split
    | (dsimp only [Keeps_mk]; apply KeptOf.of))

theorem Keeps.State_serveWaiters {a s : State} (h : Keeps a s) (ws : List Waiter) :
    Keeps a (State.serveWaiters s ws) := by
  unfold State.serveWaiters
  try dsimp only
  repeat' (first
    | with_reducible assumption | (with_reducible intro _) | with_reducible apply Keeps.State_serveOne
    | with_reducible apply Keeps.foldl | with_reducible apply Keeps.foldlP)

theorem Keeps.State_serve {a s : State} (h : Keeps a s) :
    Keeps a (State.serve s) := by
  unfold State.serve
  try dsimp only
  repeat' (first
    | with_reducible assumption | (with_reducible intro _) | with_reducible apply Keeps.State_serveWaiters)

theorem Keeps.State_flushCount {a s : State} (h : Keeps a s) (d : DieId) (q : Nat) (n : Nat) :
    Keeps a (State.flushCount s d q n) := by
  unfold State.flushCount
  try dsimp only
  repeat' (first
    | with_reducible assumption | (with_reducible intro _) | with_reducible apply Keeps.State_addSat
    | with_reducible apply Keeps.State_lastDrop | with_reducible apply Keeps.State_raise
    | with_reducible apply Keeps.ite | split)

theorem Keeps.State_flushQueue {a s : State} (h : Keeps a s) (d : DieId) (q : Nat) :
    Keeps a (State.flushQueue s d q) := by
  unfold State.flushQueue
  try dsimp only
  repeat' (first
    | with_reducible assumption | (with_reducible intro _) | with_reducible apply Keeps.State_setQueue
    | with_reducible apply Keeps.State_flushCount | with_reducible apply Keeps.State_serve
    | with_reducible apply Keeps.ite | (dsimp only [Keeps_mk]; with_reducible apply KeptOf.of) | split
    | (dsimp only [Keeps_mk]; apply KeptOf.of))

theorem Keeps.by_execCreditReturn {a s : State} (h : Keeps a s) (d : DieId) (q : Fin 65536) :
    KeepsX a (execCreditReturn d q s) := by
  unfold Sys2Proof.Machine.execCreditReturn
  try dsimp only
  repeat' (first
    | with_reducible assumption | (with_reducible intro _) | with_reducible apply Keeps.State_setQueue
    | with_reducible apply Keeps.State_unreserve | with_reducible apply Keeps.State_flushQueue
    | with_reducible apply Keeps.State_serve | with_reducible apply KeepsX.next
    | with_reducible apply KeepsX.ite | with_reducible apply Keeps.ite | split)

theorem Keeps.State_flushTake {a s : State} (h : Keeps a s) (d : DieId) :
    KeepsE a (State.flushTake s d) := by
  unfold State.flushTake
  try dsimp only
  repeat' (first
    | with_reducible assumption | (with_reducible intro _) | with_reducible apply Keeps.State_flushQueue
    | with_reducible apply KeepsE.error | with_reducible apply KeepsE.ok | with_reducible apply KeepsE.ite
    | with_reducible apply Keeps.ite | split)

theorem Keeps.State_wrote {a s : State} (h : Keeps a s) (x : Access) {r : Except Nat State} (g : KeepsE a r) :
    Keeps a (s.wrote x r) := by
  unfold State.wrote
  split
  · exact g _ rfl
  · exact h.State_violate _ _

theorem Keeps.by_execQueueFlush {a s : State} (h : Keeps a s) (p : Port) (d : DieId) :
    KeepsX a (execQueueFlush p d s) := by
  unfold Sys2Proof.Machine.execQueueFlush
  try dsimp only
  repeat' (first
    | with_reducible assumption | (with_reducible intro _) | with_reducible apply Keeps.State_access
    | with_reducible apply Keeps.State_wrote | with_reducible apply Keeps.State_flushTake
    | with_reducible refine Keeps.ofE (by assumption) ?_ | with_reducible apply KeepsX.next)

theorem Keeps.State_timeoutTake {a s : State} (h : Keeps a s) (d : DieId) (level : Nat) (w : Nat) :
    KeepsE a (State.timeoutTake s d level w) := by
  unfold State.timeoutTake
  try dsimp only
  repeat' (first
    | with_reducible assumption | (with_reducible intro _) | with_reducible apply Keeps.State_journalMgmt
    | with_reducible apply KeepsE.error | with_reducible apply KeepsE.ok | with_reducible apply KeepsE.ite
    | with_reducible apply Keeps.ite | (dsimp only [Keeps_mk]; with_reducible apply KeptOf.of) | split
    | (dsimp only [Keeps_mk]; apply KeptOf.of))

theorem Keeps.by_execTimeoutWrite {a s : State} (h : Keeps a s) (p : Port) (space : Option DieId) (level : Fin
    6) (w : Word) :
    KeepsX a (execTimeoutWrite p space level w s) := by
  unfold Sys2Proof.Machine.execTimeoutWrite
  try dsimp only
  repeat' (first
    | with_reducible assumption | (with_reducible intro _) | with_reducible apply Keeps.State_access
    | with_reducible apply Keeps.State_violate | with_reducible apply Keeps.State_wrote
    | with_reducible apply Keeps.State_timeoutTake | with_reducible refine Keeps.ofE (by assumption) ?_
    | with_reducible apply KeepsX.next | (dsimp only [Keeps_mk]; with_reducible apply KeptOf.of) | split
    | (dsimp only [Keeps_mk]; apply KeptOf.of))

theorem Keeps.State_setSaved {a s : State} (h : Keeps a s) (d : DieId) (f : Fld) (v : Nat) :
    Keeps a (State.setSaved s d f v) := by
  unfold State.setSaved
  try dsimp only
  repeat' (first
    | with_reducible assumption | (with_reducible intro _) | with_reducible apply Keeps.State_setDie
    | with_reducible apply Keeps.State_set | (dsimp only [Keeps_mk]; with_reducible apply KeptOf.of)
    | (dsimp only [Keeps_mk]; apply KeptOf.of))

theorem Keeps.State_applyTimeouts {a s : State} (h : Keeps a s) :
    Keeps a (State.applyTimeouts s) := by
  unfold State.applyTimeouts
  try dsimp only
  repeat' (first
    | with_reducible assumption | (with_reducible intro _) | with_reducible apply Keeps.State_setSaved
    | with_reducible apply Keeps.foldl | with_reducible apply Keeps.foldlP
    | (dsimp only [Keeps_mk]; with_reducible apply KeptOf.of) | (dsimp only [Keeps_mk]; apply KeptOf.of))

theorem Keeps.State_setArb {a s : State} (h : Keeps a s) (d : DieId) (a_ : Nat) (x : Arb) :
    Keeps a (State.setArb s d a_ x) := by
  unfold State.setArb
  try dsimp only
  repeat' (first
    | with_reducible assumption | (with_reducible intro _)
    | (dsimp only [Keeps_mk]; with_reducible apply KeptOf.of) | (dsimp only [Keeps_mk]; apply KeptOf.of))

theorem Keeps.State_rewind {a s : State} (h : Keeps a s) (g : Grant) :
    Keeps a (State.rewind s g) := by
  unfold State.rewind
  try dsimp only
  repeat' (first
    | with_reducible assumption | (with_reducible intro _) | with_reducible apply Keeps.State_setQueue
    | with_reducible apply Keeps.State_unreserve | with_reducible apply Keeps.State_serve | split)

theorem Keeps.State_finish {a s : State} (h : Keeps a s) (d : DieId) (g : Grant) :
    Keeps a (State.finish s d g) := by
  unfold State.finish
  try dsimp only
  repeat' (first
    | with_reducible assumption | (with_reducible intro _) | with_reducible apply Keeps.State_rewind
    | with_reducible apply Keeps.State_flushCount | with_reducible apply Keeps.State_setQueue
    | with_reducible apply Keeps.ite | (dsimp only [Keeps_mk]; with_reducible apply KeptOf.of) | split
    | (dsimp only [Keeps_mk]; apply KeptOf.of))

theorem Keeps.State_begin {a s : State} (h : Keeps a s) (d : DieId) (t : Transfer) :
    Keeps a (State.begin s d t).1 := by
  unfold State.begin
  try dsimp only
  repeat' (first
    | with_reducible assumption | (with_reducible intro _) | with_reducible apply Keeps.State_creditOverrun
    | with_reducible apply Keeps.State_claim | with_reducible refine Keeps.ofO (by assumption) ?_
    | with_reducible apply Keeps.State_setQueue | with_reducible apply Keeps.iteP
    | with_reducible apply Keeps.ite | with_reducible apply KeepsO.some | with_reducible apply KeepsO.none
    | with_reducible apply KeepsO.ite | (dsimp only [Keeps_mk]; with_reducible apply KeptOf.of) | split
    | (dsimp only [Keeps_mk]; apply KeptOf.of))

theorem Keeps.State_retireDone {a s : State} (h : Keeps a s) (d : DieId) (a_ : Nat) (g : Grant) :
    Keeps a (State.retireDone s d a_ g) := by
  unfold State.retireDone
  try dsimp only
  repeat' (first
    | with_reducible assumption | (with_reducible intro _) | with_reducible apply Keeps.State_setDie
    | with_reducible apply Keeps.ite | (dsimp only [Keeps_mk]; with_reducible apply KeptOf.of) | split
    | (dsimp only [Keeps_mk]; apply KeptOf.of))

theorem Keeps.State_grantPoint {a s : State} (h : Keeps a s) (d : DieId) (a_ : Nat) (requests : Nat) (emergency
    : Bool) (t : Option Transfer) :
    Keeps a (State.grantPoint s d a_ requests emergency t) := by
  unfold State.grantPoint
  try dsimp only
  repeat' (first
    | with_reducible assumption | (with_reducible intro _) | with_reducible apply Keeps.State_setArb
    | with_reducible apply Keeps.State_begin | with_reducible apply Keeps.State_set
    | with_reducible apply Keeps.ite | with_reducible apply Keeps.iteP
    | with_reducible refine Keeps.ofP (by assumption) ?_
    | (dsimp only [Keeps_mk]; with_reducible apply KeptOf.of) | split
    | (dsimp only [Keeps_mk]; apply KeptOf.of))

theorem Keeps.by_execArbGrant {a s : State} (h : Keeps a s) (d : DieId) (a_ : Fin 256) (clocks : Nat) (requests
    : Nat) (emergency : Bool) (t : Option Transfer) :
    KeepsX a (execArbGrant d a_ clocks requests emergency t s) := by
  unfold Sys2Proof.Machine.execArbGrant
  try dsimp only
  repeat' (first
    | with_reducible assumption | (with_reducible intro _) | with_reducible apply Keeps.State_finish
    | with_reducible apply Keeps.State_retireDone | with_reducible apply Keeps.State_setArb
    | with_reducible apply Keeps.State_grantPoint | with_reducible apply KeepsX.next
    | (dsimp only [Keeps_mk]; with_reducible apply KeptOf.of) | split
    | (dsimp only [Keeps_mk]; apply KeptOf.of))

theorem Keeps.by_execArbWindowBoundary {a s : State} (h : Keeps a s) (d : DieId) (a_ : Fin 256) (clocks : Nat) :
    KeepsX a (execArbWindowBoundary d a_ clocks s) := by
  unfold Sys2Proof.Machine.execArbWindowBoundary
  try dsimp only
  repeat' (first
    | with_reducible assumption | (with_reducible intro _) | with_reducible apply Keeps.State_setArb
    | with_reducible apply KeepsX.next | (dsimp only [Keeps_mk]; with_reducible apply KeptOf.of) | split
    | (dsimp only [Keeps_mk]; apply KeptOf.of))

theorem Keeps.State_takeBack {a s : State} (h : Keeps a s) (d : DieId) (a_ : Nat) (x : Arb) :
    Keeps a (State.takeBack s d a_ x) := by
  unfold State.takeBack
  try dsimp only
  repeat' (first
    | with_reducible assumption | (with_reducible intro _) | with_reducible apply Keeps.State_setArb
    | with_reducible apply Keeps.State_rewind | (dsimp only [Keeps_mk]; with_reducible apply KeptOf.of)
    | split | (dsimp only [Keeps_mk]; apply KeptOf.of))

theorem Keeps.by_execArbPreempt {a s : State} (h : Keeps a s) (d : DieId) (a_ : Fin 256) (clocks : Nat) (j :
    Fin 16) :
    KeepsX a (execArbPreempt d a_ clocks j s) := by
  unfold Sys2Proof.Machine.execArbPreempt
  try dsimp only
  repeat' (first
    | with_reducible assumption | (with_reducible intro _) | with_reducible apply Keeps.State_takeBack
    | with_reducible apply Keeps.State_setArb | with_reducible apply KeepsX.next
    | with_reducible apply KeepsX.ite | with_reducible apply Keeps.ite
    | (dsimp only [Keeps_mk]; with_reducible apply KeptOf.of) | split
    | (dsimp only [Keeps_mk]; apply KeptOf.of))

theorem Keeps.by_execArbEmergency {a s : State} (h : Keeps a s) (d : DieId) (a_ : Fin 256) (clocks : Nat) (t :
    Option Transfer) :
    KeepsX a (execArbEmergency d a_ clocks t s) := by
  unfold Sys2Proof.Machine.execArbEmergency
  try dsimp only
  repeat' (first
    | with_reducible assumption | (with_reducible intro _) | with_reducible apply Keeps.State_setArb
    | with_reducible apply Keeps.State_takeBack | with_reducible apply Keeps.State_grantPoint
    | with_reducible apply KeepsX.next | with_reducible apply KeepsX.ite | with_reducible apply Keeps.ite
    | (dsimp only [Keeps_mk]; with_reducible apply KeptOf.of) | split
    | (dsimp only [Keeps_mk]; apply KeptOf.of))

theorem Keeps.by_execArbWithdraw {a s : State} (h : Keeps a s) (d : DieId) (a_ : Fin 256) (clocks : Nat) (who :
    Privileged) (requests : Nat) (emergency : Bool) (t : Option Transfer) :
    KeepsX a (execArbWithdraw d a_ clocks who requests emergency t s) := by
  unfold Sys2Proof.Machine.execArbWithdraw
  try dsimp only
  repeat' (first
    | with_reducible assumption | (with_reducible intro _) | with_reducible apply Keeps.State_setArb
    | with_reducible apply Keeps.State_rewind | with_reducible apply Keeps.State_addSat
    | with_reducible apply Keeps.State_grantPoint | with_reducible apply KeepsX.next
    | with_reducible apply KeepsX.ite | with_reducible apply Keeps.ite
    | (dsimp only [Keeps_mk]; with_reducible apply KeptOf.of) | split
    | (dsimp only [Keeps_mk]; apply KeptOf.of))

theorem Keeps.State_arbWrite {a s : State} (h : Keeps a s) (d : DieId) (cfg : Bool) (w : Nat) :
    KeepsE a (State.arbWrite s d cfg w) := by
  unfold State.arbWrite
  try dsimp only
  repeat' (first
    | with_reducible assumption | (with_reducible intro _) | with_reducible apply Keeps.State_set
    | with_reducible apply Keeps.State_setArb | with_reducible apply KeepsE.error
    | with_reducible apply KeepsE.ok | with_reducible apply KeepsE.ite | with_reducible apply Keeps.ite
    | (dsimp only [Keeps_mk]; with_reducible apply KeptOf.of) | split
    | (dsimp only [Keeps_mk]; apply KeptOf.of))

theorem Keeps.State_unitStrike {a s : State} (h : Keeps a s) (d : DieId) (phys : Nat) :
    Keeps a (State.unitStrike s d phys).1 := by
  unfold State.unitStrike
  try dsimp only
  repeat' (first
    | with_reducible assumption | (with_reducible intro _) | with_reducible apply Keeps.State_raiseIf
    | with_reducible apply Keeps.iteP | with_reducible apply Keeps.ite
    | (dsimp only [Keeps_mk]; with_reducible apply KeptOf.of) | split
    | (dsimp only [Keeps_mk]; apply KeptOf.of))

theorem Keeps.State_cutOff {a s : State} (h : Keeps a s) (d : DieId) (a_ : Nat) (x : Arb) (g : Grant) (i : Nat)
    :
    Keeps a (State.cutOff s d a_ x g i) := by
  unfold State.cutOff
  try dsimp only
  repeat' (first
    | with_reducible assumption | (with_reducible intro _) | with_reducible apply Keeps.State_rewind
    | with_reducible apply Keeps.State_setArb | with_reducible apply Keeps.State_lastDrop
    | with_reducible apply Keeps.State_raise | with_reducible apply Keeps.State_post
    | (dsimp only [Keeps_mk]; with_reducible apply KeptOf.of) | split
    | (dsimp only [Keeps_mk]; apply KeptOf.of))

end Sys2Proof.Machine
end

