-- ==== Sys2Proof/Laws/KeepsNodes.lean ====
section
/-! SUPPORT. What the operations and commands of the node transports, the chains, metering, staged writes and
the roles keep. -/

namespace Sys2Proof.Machine

theorem Keeps.State_setNode {a s : State} (h : Keeps a s) (n : Nat) (v : Node) :
    Keeps a (State.setNode s n v) := by
  unfold State.setNode
  try dsimp only
  repeat' (first
    | with_reducible assumption | (with_reducible intro _)
    | (dsimp only [Keeps_mk]; with_reducible apply KeptOf.of) | (dsimp only [Keeps_mk]; apply KeptOf.of))

theorem Keeps.State_setRadio {a s : State} (h : Keeps a s) (r : Nat) (v : RadioState) :
    Keeps a (State.setRadio s r v) := by
  unfold State.setRadio
  try dsimp only
  repeat' (first
    | with_reducible assumption | (with_reducible intro _)
    | (dsimp only [Keeps_mk]; with_reducible apply KeptOf.of) | (dsimp only [Keeps_mk]; apply KeptOf.of))

theorem Keeps.State_setPlc {a s : State} (h : Keeps a s) (p : Nat) (v : PlcState) :
    Keeps a (State.setPlc s p v) := by
  unfold State.setPlc
  try dsimp only
  repeat' (first
    | with_reducible assumption | (with_reducible intro _)
    | (dsimp only [Keeps_mk]; with_reducible apply KeptOf.of) | (dsimp only [Keeps_mk]; apply KeptOf.of))

theorem Keeps.State_relayKey {a s : State} (h : Keeps a s) (c : Nat) (d : DieId) :
    Keeps a (State.relayKey s c d) := by
  unfold State.relayKey
  try dsimp only
  repeat' (first
    | with_reducible assumption | (with_reducible intro _) | with_reducible apply Keeps.State_setDie
    | with_reducible apply Keeps.ite | (dsimp only [Keeps_mk]; with_reducible apply KeptOf.of) | split
    | (dsimp only [Keeps_mk]; apply KeptOf.of))

theorem Keeps.State_relayKeys {a s : State} (h : Keeps a s) (d : DieId) :
    Keeps a (State.relayKeys s d) := by
  unfold State.relayKeys
  try dsimp only
  repeat' (first
    | with_reducible assumption | (with_reducible intro _) | with_reducible apply Keeps.State_relayKey
    | with_reducible apply Keeps.foldl | with_reducible apply Keeps.foldlP)

theorem Keeps.State_nextCounter {a s : State} (h : Keeps a s) : Keeps a (State.nextCounter s) := by
  obtain ⟨h1, h2, h3, h4, h5, h6, h7, h8, h9⟩ := h
  refine ⟨h1, h2, h3, h4, h5, h6, h7, fun x => ?_, h9⟩
  have := h8 x
  simp only [CounterOk, State.nextCounter] at this ⊢
  split <;> omega

theorem Keeps.State_tellBound {a s : State} (h : Keeps a s) (n : Nat) :
    Keeps a (State.tellBound s n) := by
  unfold State.tellBound
  try dsimp only
  repeat' (first
    | with_reducible assumption | (with_reducible intro _) | with_reducible apply Keeps.ite
    | (dsimp only [Keeps_mk]; with_reducible apply KeptOf.of) | split
    | (dsimp only [Keeps_mk]; apply KeptOf.of))

theorem Keeps.State_tellBinding {a s : State} (h : Keeps a s) (d : DieId) (e : Nat) :
    Keeps a (State.tellBinding s d e) := by
  unfold State.tellBinding
  try dsimp only
  repeat' (first
    | with_reducible assumption | (with_reducible intro _) | with_reducible apply Keeps.ite
    | (dsimp only [Keeps_mk]; with_reducible apply KeptOf.of) | split
    | (dsimp only [Keeps_mk]; apply KeptOf.of))

theorem Keeps.State_discardRecord {a s : State} (h : Keeps a s) (n : Nat) :
    Keeps a (State.discardRecord s n) := by
  unfold State.discardRecord
  try dsimp only
  repeat' (first
    | with_reducible assumption | (with_reducible intro _) | with_reducible apply Keeps.State_setNode
    | (dsimp only [Keeps_mk]; with_reducible apply KeptOf.of) | (dsimp only [Keeps_mk]; apply KeptOf.of))

theorem Keeps.State_reportRecord {a : State} {x_ : State × List DataIn} (h : Keeps a x_.1) (n : Nat) (rec : Nat
    × Nat) :
    Keeps a (State.reportRecord n x_ rec).1 := by
  obtain ⟨s, y_⟩ := x_
  dsimp only at h
  unfold State.reportRecord
  try dsimp only
  repeat' (first
    | with_reducible assumption | (with_reducible intro _) | with_reducible apply Keeps.State_discardRecord
    | with_reducible apply Keeps.State_setNode | with_reducible apply Keeps.iteP
    | with_reducible apply Keeps.ite | (dsimp only [Keeps_mk]; with_reducible apply KeptOf.of) | split
    | (dsimp only [Keeps_mk]; apply KeptOf.of))

theorem Keeps.State_acceptReport {a s : State} (h : Keeps a s) (n : Nat) (payload : List Byte) :
    Keeps a (State.acceptReport s n payload) := by
  unfold State.acceptReport
  try dsimp only
  repeat' (first
    | with_reducible assumption | (with_reducible intro _) | with_reducible apply Keeps.State_reportRecord
    | with_reducible apply Keeps.foldl | with_reducible apply Keeps.foldlP
    | with_reducible refine Keeps.ofP (by assumption) ?_
    | (dsimp only [Keeps_mk]; with_reducible apply KeptOf.of) | split
    | (dsimp only [Keeps_mk]; apply KeptOf.of))

theorem Keeps.State_heard {a s : State} (h : Keeps a s) (n : Nat) (o : Option Int) :
    Keeps a (State.heard s n o) := by
  unfold State.heard
  try dsimp only
  repeat' (first
    | with_reducible assumption | (with_reducible intro _) | with_reducible apply Keeps.State_setNode
    | (dsimp only [Keeps_mk]; with_reducible apply KeptOf.of) | (dsimp only [Keeps_mk]; apply KeptOf.of))

theorem Keeps.State_setTxQueue {a s : State} (h : Keeps a s) (t : Nat) (q : List TxItem) :
    Keeps a (State.setTxQueue s t q) := by
  unfold State.setTxQueue
  try dsimp only
  repeat' (first
    | with_reducible assumption | (with_reducible intro _) | with_reducible apply Keeps.State_setRadio
    | with_reducible apply Keeps.State_setPlc | with_reducible apply Keeps.ite
    | (dsimp only [Keeps_mk]; with_reducible apply KeptOf.of) | split
    | (dsimp only [Keeps_mk]; apply KeptOf.of))

theorem Keeps.State_queueUpdate {a s : State} (h : Keeps a s) (n : Nat) (idx : Nat) (op : Nat) (value : Nat)
    (prio : Nat) :
    Keeps a (State.queueUpdate s n idx op value prio) := by
  unfold State.queueUpdate
  try dsimp only
  repeat' (first
    | with_reducible assumption | (with_reducible intro _) | with_reducible apply Keeps.State_setTxQueue
    | with_reducible apply Keeps.ite | (dsimp only [Keeps_mk]; with_reducible apply KeptOf.of) | split)

theorem Keeps.State_recordConfirmed {a s : State} (h : Keeps a s) (n : Nat) (body : List Byte) :
    Keeps a (State.recordConfirmed n s body) := by
  unfold State.recordConfirmed
  try dsimp only
  repeat' (first
    | with_reducible assumption | (with_reducible intro _) | with_reducible apply Keeps.ite
    | (dsimp only [Keeps_mk]; with_reducible apply KeptOf.of) | split
    | (dsimp only [Keeps_mk]; apply KeptOf.of))

theorem Keeps.State_queueFrame {a s : State} (h : Keeps a s) (n : Nat) (kind : Nat) (body : List Byte) :
    Keeps a (State.queueFrame s n kind body) := by
  unfold State.queueFrame
  try dsimp only
  repeat' (first
    | with_reducible assumption | (with_reducible intro _) | with_reducible apply Keeps.State_setTxQueue
    | (dsimp only [Keeps_mk]; with_reducible apply KeptOf.of))

theorem Keeps.State_queueBroadcast {a s : State} (h : Keeps a s) (t : Nat) (kind : Nat) (prio : Nat) (body :
    List Byte) (copies : Nat) (tag : Nat) :
    Keeps a (State.queueBroadcast s t kind prio body copies tag) := by
  unfold State.queueBroadcast
  try dsimp only
  repeat' (first
    | with_reducible assumption | (with_reducible intro _) | with_reducible apply Keeps.State_setTxQueue
    | (dsimp only [Keeps_mk]; with_reducible apply KeptOf.of))

theorem Keeps.State_feedCampaign {a s : State} (h : Keeps a s) (t : Nat) :
    Keeps a (State.feedCampaign s t) := by
  unfold State.feedCampaign
  try dsimp only
  repeat' (first
    | with_reducible assumption | (with_reducible intro _) | with_reducible apply Keeps.State_queueBroadcast
    | with_reducible apply Keeps.ite | (dsimp only [Keeps_mk]; with_reducible apply KeptOf.of) | split
    | (dsimp only [Keeps_mk]; apply KeptOf.of))

theorem Keeps.State_setGrants {a s : State} (h : Keeps a s) (n : Nat) (t : Nat) (version : Nat) (gs : List
    NodeGrant) :
    Keeps a (State.setGrants s n t version gs) := by
  unfold State.setGrants
  try dsimp only
  repeat' (first
    | with_reducible assumption | (with_reducible intro _) | with_reducible apply Keeps.State_setNode
    | with_reducible apply Keeps.State_queueFrame | (dsimp only [Keeps_mk]; with_reducible apply KeptOf.of)
    | (dsimp only [Keeps_mk]; apply KeptOf.of))

theorem Keeps.State_relayGrants {a s : State} (h : Keeps a s) (t : Nat) (version : Nat) (n : Nat) :
    Keeps a (State.relayGrants t version s n) := by
  unfold State.relayGrants
  try dsimp only
  repeat' (first
    | with_reducible assumption | (with_reducible intro _) | with_reducible apply Keeps.State_setGrants
    | with_reducible apply Keeps.ite | split)

theorem Keeps.State_giveGrants {a s : State} (h : Keeps a s) (n : Nat) (t : Nat) (version : Nat) (gs : List
    NodeGrant) :
    Keeps a (State.giveGrants s n t version gs) := by
  unfold State.giveGrants
  try dsimp only
  repeat' (first
    | with_reducible assumption | (with_reducible intro _) | with_reducible apply Keeps.State_setNode
    | with_reducible apply Keeps.State_setGrants | with_reducible apply Keeps.State_relayGrants
    | with_reducible apply Keeps.foldl | with_reducible apply Keeps.foldlP | with_reducible apply Keeps.ite
    | (dsimp only [Keeps_mk]; with_reducible apply KeptOf.of) | split
    | (dsimp only [Keeps_mk]; apply KeptOf.of))

theorem Keeps.State_releaseFormer {a s : State} (h : Keeps a s) (n : Nat) (t : Nat) :
    Keeps a (State.releaseFormer s n t) := by
  unfold State.releaseFormer
  try dsimp only
  repeat' (first
    | with_reducible assumption | (with_reducible intro _) | with_reducible apply Keeps.State_setTxQueue
    | with_reducible apply Keeps.State_setPlc | with_reducible apply Keeps.ite
    | (dsimp only [Keeps_mk]; with_reducible apply KeptOf.of) | split
    | (dsimp only [Keeps_mk]; apply KeptOf.of))

theorem Keeps.State_join {a s : State} (h : Keeps a s) (t : Nat) (parent : Nat) (q : JoinReq) (counter : Nat)
    (seq : Option Nat) (o : Int) :
    Keeps a (State.join s t parent q counter seq o).1 := by
  unfold State.join
  try dsimp only
  repeat' (first
    | with_reducible assumption | (with_reducible intro _) | with_reducible apply Keeps.State_set
    | with_reducible apply Keeps.State_releaseFormer | with_reducible apply Keeps.State_setNode
    | with_reducible apply Keeps.State_tellBound | with_reducible apply Keeps.State_setTxQueue
    | with_reducible apply Keeps.State_queueFrame | with_reducible apply Keeps.iteP
    | with_reducible apply Keeps.ite | (dsimp only [Keeps_mk]; with_reducible apply KeptOf.of) | split
    | (dsimp only [Keeps_mk]; apply KeptOf.of))

theorem Keeps.State_moveNode {a s : State} (h : Keeps a s) (n : Nat) (t : Nat) :
    Keeps a (State.moveNode s n t) := by
  unfold State.moveNode
  try dsimp only
  repeat' (first
    | with_reducible assumption | (with_reducible intro _) | with_reducible apply Keeps.State_setTxQueue
    | with_reducible apply Keeps.State_setNode | with_reducible apply Keeps.ite
    | (dsimp only [Keeps_mk]; with_reducible apply KeptOf.of) | split
    | (dsimp only [Keeps_mk]; apply KeptOf.of))

theorem Keeps.State_newParent {a s : State} (h : Keeps a s) (n : Nat) (parent : Nat) :
    Keeps a (State.newParent s n parent) := by
  unfold State.newParent
  try dsimp only
  repeat' (first
    | with_reducible assumption | (with_reducible intro _) | with_reducible apply Keeps.State_setNode
    | with_reducible apply Keeps.State_queueFrame | with_reducible apply Keeps.ite
    | (dsimp only [Keeps_mk]; with_reducible apply KeptOf.of) | split
    | (dsimp only [Keeps_mk]; apply KeptOf.of))

theorem Keeps.State_rehome {a s : State} (h : Keeps a s) (n : Nat) (t : Nat) (parent : Nat) :
    Keeps a (State.rehome s n t parent) := by
  unfold State.rehome
  try dsimp only
  repeat' (first
    | with_reducible assumption | (with_reducible intro _) | with_reducible apply Keeps.State_moveNode
    | with_reducible apply Keeps.State_newParent | with_reducible apply Keeps.ite | split)

theorem Keeps.State_rehomeAll {a s : State} (h : Keeps a s) (t : Nat) (pick : Nat → Nat) :
    Keeps a (State.rehomeAll s t pick) := by
  unfold State.rehomeAll
  try dsimp only
  repeat' (first
    | with_reducible assumption | (with_reducible intro _) | with_reducible apply Keeps.State_moveNode
    | with_reducible apply Keeps.State_rehome | with_reducible apply Keeps.State_giveGrants
    | with_reducible apply Keeps.foldl | with_reducible apply Keeps.foldlP)

theorem Keeps.State_spread {a s : State} (h : Keeps a s) (t : Nat) (new : Option Nat) :
    Keeps a (State.spread s t new) := by
  unfold State.spread
  try dsimp only
  repeat' (first
    | with_reducible assumption | (with_reducible intro _) | with_reducible apply Keeps.State_rehomeAll
    | with_reducible apply Keeps.ite | split)

theorem Keeps.State_nodeLeaves {a s : State} (h : Keeps a s) (n : Nat) :
    Keeps a (State.nodeLeaves s n) := by
  unfold State.nodeLeaves
  try dsimp only
  repeat' (first
    | with_reducible assumption | (with_reducible intro _) | with_reducible apply Keeps.State_queueFrame
    | with_reducible apply Keeps.State_setNode | with_reducible apply Keeps.State_tellBound
    | (dsimp only [Keeps_mk]; with_reducible apply KeptOf.of) | (dsimp only [Keeps_mk]; apply KeptOf.of))

theorem Keeps.State_calibrateNode {a s : State} (h : Keeps a s) (n : Nat) :
    Keeps a (State.calibrateNode s n) := by
  unfold State.calibrateNode
  try dsimp only
  repeat' (first
    | with_reducible assumption | (with_reducible intro _) | with_reducible apply Keeps.State_queueFrame
    | with_reducible apply Keeps.foldl | with_reducible apply Keeps.foldlP)

theorem Keeps.State_transmit {a s : State} (h : Keeps a s) (r : Nat) (a_ : OnAir) (psdu : List Byte) :
    Keeps a (State.transmit s r a_ psdu) := by
  unfold State.transmit
  try dsimp only
  repeat' (first
    | with_reducible assumption | (with_reducible intro _) | with_reducible apply Keeps.State_setRadio
    | with_reducible apply Keeps.State_addWrap | with_reducible apply Keeps.State_emit
    | with_reducible apply Keeps.ite | (dsimp only [Keeps_mk]; with_reducible apply KeptOf.of) | split
    | (dsimp only [Keeps_mk]; apply KeptOf.of))

theorem Keeps.State_sendBeacon {a s : State} (h : Keeps a s) (r : Nat) (j : Nat) (slots : Nat) :
    Keeps a (State.sendBeacon s r j slots) := by
  unfold State.sendBeacon
  try dsimp only
  repeat' (first
    | with_reducible assumption | (with_reducible intro _) | with_reducible apply Keeps.State_addSat
    | with_reducible apply Keeps.State_draw | with_reducible apply Keeps.State_set
    | with_reducible apply Keeps.State_nextCounter | with_reducible apply Keeps.State_setRadio
    | with_reducible apply Keeps.State_transmit | with_reducible apply Keeps.ite
    | (dsimp only [Keeps_mk]; with_reducible apply KeptOf.of) | split
    | (dsimp only [Keeps_mk]; apply KeptOf.of))

theorem Keeps.State_sendDown {a s : State} (h : Keeps a s) (r : Nat) (j : Nat) (slots : Nat) (rdv : Bool) (ok :
    TxItem → Bool) :
    Keeps a (State.sendDown s r j slots rdv ok) := by
  unfold State.sendDown
  try dsimp only
  repeat' (first
    | with_reducible assumption | (with_reducible intro _) | with_reducible apply Keeps.State_addSat
    | with_reducible apply Keeps.State_raise | with_reducible apply Keeps.State_nextCounter
    | with_reducible apply Keeps.State_setNode | with_reducible apply Keeps.State_setRadio
    | with_reducible apply Keeps.State_transmit | with_reducible apply Keeps.ite
    | (dsimp only [Keeps_mk]; with_reducible apply KeptOf.of) | split
    | (dsimp only [Keeps_mk]; apply KeptOf.of))

theorem Keeps.State_sendBroadcast {a s : State} (h : Keeps a s) (r : Nat) (j : Nat) (slots : Nat) (ok : TxItem
    → Bool) :
    Keeps a (State.sendBroadcast s r j slots ok) := by
  unfold State.sendBroadcast
  try dsimp only
  repeat' (first
    | with_reducible assumption | (with_reducible intro _) | with_reducible apply Keeps.State_addSat
    | with_reducible apply Keeps.State_raise | with_reducible apply Keeps.State_nextCounter
    | with_reducible apply Keeps.State_setRadio | with_reducible apply Keeps.State_transmit
    | with_reducible apply Keeps.ite | (dsimp only [Keeps_mk]; with_reducible apply KeptOf.of) | split
    | (dsimp only [Keeps_mk]; apply KeptOf.of))

theorem Keeps.by_execRadioSlotStart {a s : State} (h : Keeps a s) (r : Fin 4) (j : Fin 8) :
    KeepsX a (execRadioSlotStart r j s) := by
  unfold Sys2Proof.Machine.execRadioSlotStart
  try dsimp only
  repeat' (first
    | with_reducible assumption | (with_reducible intro _) | with_reducible apply Keeps.State_set
    | with_reducible apply Keeps.State_setRadio | with_reducible apply Keeps.State_sendBeacon
    | with_reducible apply Keeps.State_feedCampaign | with_reducible apply Keeps.State_sendBroadcast
    | with_reducible apply Keeps.State_sendDown | with_reducible apply KeepsX.next
    | with_reducible apply KeepsX.ite | with_reducible apply Keeps.ite
    | (dsimp only [Keeps_mk]; with_reducible apply KeptOf.of) | split
    | (dsimp only [Keeps_mk]; apply KeptOf.of))

theorem Keeps.State_sendAck {a s : State} (h : Keeps a s) (r : Nat) (seq : Nat) (pending : Bool) (o : Option
    Int) :
    Keeps a (State.sendAck s r seq pending o) := by
  unfold State.sendAck
  try dsimp only
  repeat' (first
    | with_reducible assumption | (with_reducible intro _) | with_reducible apply Keeps.State_transmit
    | split)

theorem Keeps.State_sequence {a s : State} (h : Keeps a s) (n : Nat) (seq : Nat) :
    Keeps a (State.sequence s n seq).1 := by
  unfold State.sequence
  try dsimp only
  repeat' (first
    | with_reducible assumption | (with_reducible intro _) | with_reducible apply Keeps.State_setNode
    | (dsimp only [Keeps_mk]; with_reducible apply KeptOf.of) | (dsimp only [Keeps_mk]; apply KeptOf.of))

theorem Keeps.State_radioSecFail {a s : State} (h : Keeps a s) (r : Nat) :
    Keeps a (State.radioSecFail s r) := by
  unfold State.radioSecFail
  try dsimp only
  repeat' (first
    | with_reducible assumption | (with_reducible intro _) | with_reducible apply Keeps.State_addSat
    | with_reducible apply Keeps.State_raise)

theorem Keeps.State_radioReceive {a s : State} (h : Keeps a s) (r : Nat) (kind : Nat) (f : RxFrame) :
    Keeps a (State.radioReceive s r kind f).1 := by
  unfold State.radioReceive
  try dsimp only
  repeat' (first
    | with_reducible assumption | (with_reducible intro _) | with_reducible apply Keeps.State_addSat
    | with_reducible apply Keeps.State_radioSecFail | with_reducible apply Keeps.State_setNode
    | with_reducible apply Keeps.State_sequence | with_reducible apply Keeps.State_heard
    | with_reducible apply Keeps.State_sendAck | with_reducible apply Keeps.State_addWrap
    | with_reducible apply Keeps.iteP | with_reducible apply Keeps.ite
    | with_reducible refine Keeps.ofP (by assumption) ?_ | split)

theorem Keeps.by_execRadioBadFrame {a s : State} (h : Keeps a s) (r : Fin 4) (f : RxFrame) :
    KeepsX a (execRadioBadFrame r f s) := by
  unfold Sys2Proof.Machine.execRadioBadFrame
  try dsimp only
  repeat' (first
    | with_reducible assumption | (with_reducible intro _) | with_reducible apply Keeps.State_addSat
    | with_reducible apply KeepsX.next | with_reducible apply KeepsX.ite | with_reducible apply Keeps.ite
    | split)

theorem Keeps.by_execReport {a s : State} (h : Keeps a s) (r : Fin 4) (f : RxFrame) :
    KeepsX a (execReport r f s) := by
  unfold Sys2Proof.Machine.execReport
  try dsimp only
  repeat' (first
    | with_reducible assumption | (with_reducible intro _) | with_reducible apply Keeps.State_radioReceive
    | with_reducible apply Keeps.State_acceptReport | with_reducible apply KeepsX.next
    | with_reducible refine Keeps.ofP (by assumption) ?_ | split)

theorem Keeps.by_execGrantRequest {a s : State} (h : Keeps a s) (r : Fin 4) (f : RxFrame) (gs : List NodeGrant)
    :
    KeepsX a (execGrantRequest r f gs s) := by
  unfold Sys2Proof.Machine.execGrantRequest
  try dsimp only
  repeat' (first
    | with_reducible assumption | (with_reducible intro _) | with_reducible apply Keeps.State_radioReceive
    | with_reducible apply Keeps.State_giveGrants | with_reducible apply KeepsX.next
    | with_reducible apply KeepsX.ite | with_reducible apply Keeps.ite | with_reducible apply Keeps.iteP
    | with_reducible refine Keeps.ofP (by assumption) ?_ | split)

theorem Keeps.State_repair {a s : State} (h : Keeps a s) (t : Nat) (n : Nat) (gen : Nat) (gens : Tbl (Option
    Generation)) :
    Keeps a (State.repair s t n gen gens).1 := by
  unfold State.repair
  try dsimp only
  repeat' (first
    | with_reducible assumption | (with_reducible intro _) | with_reducible apply Keeps.State_queueFrame
    | with_reducible apply Keeps.foldl | with_reducible apply Keeps.foldlP | with_reducible apply Keeps.iteP
    | with_reducible apply Keeps.ite | split)

theorem Keeps.by_execRepairRequest {a s : State} (h : Keeps a s) (r : Fin 4) (f : RxFrame) :
    KeepsX a (execRepairRequest r f s) := by
  unfold Sys2Proof.Machine.execRepairRequest
  try dsimp only
  repeat' (first
    | with_reducible assumption | (with_reducible intro _) | with_reducible apply Keeps.State_radioReceive
    | with_reducible apply Keeps.State_repair | with_reducible apply Keeps.State_setNode
    | with_reducible apply Keeps.State_addSat | with_reducible apply KeepsX.next
    | with_reducible apply KeepsX.ite | with_reducible apply Keeps.ite | with_reducible apply Keeps.iteP
    | with_reducible refine Keeps.ofP (by assumption) ?_
    | (dsimp only [Keeps_mk]; with_reducible apply KeptOf.of) | split
    | (dsimp only [Keeps_mk]; apply KeptOf.of))

theorem Keeps.by_execRehomeRequest {a s : State} (h : Keeps a s) (r : Fin 4) (f : RxFrame) (gs : List
    NodeGrant) :
    KeepsX a (execRehomeRequest r f gs s) := by
  unfold Sys2Proof.Machine.execRehomeRequest
  try dsimp only
  repeat' (first
    | with_reducible assumption | (with_reducible intro _) | with_reducible apply Keeps.State_radioReceive
    | with_reducible apply Keeps.State_rehome | with_reducible apply Keeps.State_giveGrants
    | with_reducible apply KeepsX.next | with_reducible apply KeepsX.ite | with_reducible apply Keeps.ite
    | with_reducible apply Keeps.iteP | with_reducible refine Keeps.ofP (by assumption) ?_ | split)

theorem Keeps.State_joinSequence {a s : State} (h : Keeps a s) (r : Nat) (eui : Nat) (h_ : RxHead) :
    Keeps a (State.joinSequence s r eui h_).1 := by
  unfold State.joinSequence
  try dsimp only
  repeat' (first
    | with_reducible assumption | (with_reducible intro _) | with_reducible apply Keeps.State_setRadio
    | with_reducible apply Keeps.State_sequence | with_reducible apply Keeps.iteP
    | with_reducible apply Keeps.ite | with_reducible refine Keeps.ofP (by assumption) ?_
    | (dsimp only [Keeps_mk]; with_reducible apply KeptOf.of) | split
    | (dsimp only [Keeps_mk]; apply KeptOf.of))

theorem Keeps.by_execJoinRequest {a s : State} (h : Keeps a s) (r : Fin 4) (f : RxFrame) (eui : BitVec 64) (gs
    : List NodeGrant) :
    KeepsX a (execJoinRequest r f eui gs s) := by
  unfold Sys2Proof.Machine.execJoinRequest
  try dsimp only
  repeat' (first
    | with_reducible assumption | (with_reducible intro _) | with_reducible apply Keeps.State_addSat
    | with_reducible apply Keeps.State_radioSecFail | with_reducible apply Keeps.State_sendAck
    | with_reducible apply Keeps.State_joinSequence | with_reducible apply Keeps.State_addWrap
    | with_reducible apply Keeps.State_join | with_reducible apply Keeps.State_giveGrants
    | with_reducible apply Keeps.State_calibrateNode | with_reducible apply Keeps.State_raise
    | with_reducible apply KeepsX.next | with_reducible apply KeepsX.ite | with_reducible apply Keeps.ite
    | with_reducible apply Keeps.iteP | with_reducible refine Keeps.ofP (by assumption) ?_ | split)

theorem Keeps.State_dropKey {a s : State} (h : Keeps a s) (n : Nat) :
    Keeps a (State.dropKey s n) := by
  unfold State.dropKey
  try dsimp only
  repeat' (first
    | with_reducible assumption | (with_reducible intro _) | with_reducible apply Keeps.ite
    | (dsimp only [Keeps_mk]; with_reducible apply KeptOf.of) | split
    | (dsimp only [Keeps_mk]; apply KeptOf.of))

theorem Keeps.by_execAcknowledgement {a s : State} (h : Keeps a s) (r : Fin 4) (f : RxFrame) :
    KeepsX a (execAcknowledgement r f s) := by
  unfold Sys2Proof.Machine.execAcknowledgement
  try dsimp only
  repeat' (first
    | with_reducible assumption | (with_reducible intro _) | with_reducible apply Keeps.State_addSat
    | with_reducible apply Keeps.State_setNode | with_reducible apply Keeps.State_setRadio
    | with_reducible apply Keeps.State_recordConfirmed | with_reducible apply Keeps.State_addWrap
    | with_reducible apply Keeps.State_dropKey | with_reducible apply Keeps.foldl
    | with_reducible apply Keeps.foldlP | with_reducible apply KeepsX.next | with_reducible apply KeepsX.ite
    | with_reducible apply Keeps.ite | (dsimp only [Keeps_mk]; with_reducible apply KeptOf.of) | split
    | (dsimp only [Keeps_mk]; apply KeptOf.of))

theorem Keeps.State_missRendezvous {a s : State} (h : Keeps a s) (r : Nat) (n : Nat) :
    Keeps a (State.missRendezvous s r n) := by
  unfold State.missRendezvous
  try dsimp only
  repeat' (first
    | with_reducible assumption | (with_reducible intro _) | with_reducible apply Keeps.State_addSat
    | with_reducible apply Keeps.State_setNode | with_reducible apply Keeps.State_raise
    | with_reducible apply Keeps.ite | (dsimp only [Keeps_mk]; with_reducible apply KeptOf.of) | split
    | (dsimp only [Keeps_mk]; apply KeptOf.of))

theorem Keeps.by_execAckMissing {a s : State} (h : Keeps a s) (r : Fin 4) :
    KeepsX a (execAckMissing r s) := by
  unfold Sys2Proof.Machine.execAckMissing
  try dsimp only
  repeat' (first
    | with_reducible assumption | (with_reducible intro _) | with_reducible apply Keeps.State_missRendezvous
    | with_reducible apply Keeps.State_setRadio | with_reducible apply Keeps.State_setNode
    | with_reducible apply Keeps.State_addSat | with_reducible apply Keeps.State_raise
    | with_reducible apply Keeps.State_dropKey | with_reducible apply Keeps.foldl
    | with_reducible apply Keeps.foldlP | with_reducible apply KeepsX.next | with_reducible apply KeepsX.ite
    | with_reducible apply Keeps.ite | (dsimp only [Keeps_mk]; with_reducible apply KeptOf.of) | split
    | (dsimp only [Keeps_mk]; apply KeptOf.of))

theorem Keeps.State_swapRequest {a s : State} (h : Keeps a s) (r : Nat) (version : Nat) :
    Keeps a (State.swapRequest s r version) := by
  unfold State.swapRequest
  try dsimp only
  repeat' (first
    | with_reducible assumption | (with_reducible intro _) | with_reducible apply Keeps.State_setRadio
    | with_reducible apply Keeps.State_set | with_reducible apply Keeps.State_raise
    | with_reducible apply Keeps.ite | (dsimp only [Keeps_mk]; with_reducible apply KeptOf.of) | split
    | (dsimp only [Keeps_mk]; apply KeptOf.of))

theorem Keeps.by_execSlotTableSwap {a s : State} (h : Keeps a s) (r : Fin 4) (version : BitVec 8) :
    KeepsX a (execSlotTableSwap r version s) := by
  unfold Sys2Proof.Machine.execSlotTableSwap
  try dsimp only
  repeat' (first
    | with_reducible assumption | (with_reducible intro _) | with_reducible apply Keeps.State_swapRequest
    | with_reducible apply KeepsX.next)

theorem Keeps.State_swapSlots {a s : State} (h : Keeps a s) (r : Nat) :
    Keeps a (State.swapSlots s r) := by
  unfold State.swapSlots
  try dsimp only
  repeat' (first
    | with_reducible assumption | (with_reducible intro _) | with_reducible apply Keeps.State_setRadio
    | with_reducible apply Keeps.State_set | with_reducible apply Keeps.State_raise
    | (dsimp only [Keeps_mk]; with_reducible apply KeptOf.of) | (dsimp only [Keeps_mk]; apply KeptOf.of))

theorem Keeps.State_putSlot {a s : State} (h : Keeps a s) (r : Nat) (k : Nat) (w : Nat) :
    Keeps a (State.putSlot s r k w) := by
  unfold State.putSlot
  try dsimp only
  repeat' (first
    | with_reducible assumption | (with_reducible intro _) | with_reducible apply Keeps.State_setRadio
    | (dsimp only [Keeps_mk]; with_reducible apply KeptOf.of) | (dsimp only [Keeps_mk]; apply KeptOf.of))

theorem Keeps.State_slotNext {a s : State} (h : Keeps a s) (r : Nat) :
    Keeps a (State.slotNext s r) := by
  unfold State.slotNext
  try dsimp only
  repeat' (first
    | with_reducible assumption | (with_reducible intro _) | with_reducible apply Keeps.State_set)

theorem Keeps.State_slotWrite {a s : State} (h : Keeps a s) (r : Nat) (w : Nat) :
    KeepsE a (State.slotWrite s r w) := by
  unfold State.slotWrite
  try dsimp only
  repeat' (first
    | with_reducible assumption | (with_reducible intro _) | with_reducible apply Keeps.State_putSlot
    | with_reducible apply Keeps.State_slotNext | with_reducible apply KeepsE.error
    | with_reducible apply KeepsE.ok | with_reducible apply KeepsE.ite | with_reducible apply Keeps.ite
    | split)

theorem Keeps.by_execSlotDataAccess {a s : State} (h : Keeps a s) (p : Port) (r : Fin 4) (w : Option Word) :
    KeepsX a (execSlotDataAccess p r w s) := by
  unfold Sys2Proof.Machine.execSlotDataAccess
  try dsimp only
  repeat' (first
    | with_reducible assumption | (with_reducible intro _) | with_reducible apply Keeps.State_access
    | with_reducible apply Keeps.State_emit | with_reducible apply Keeps.State_slotNext
    | with_reducible apply Keeps.State_wrote | with_reducible apply Keeps.State_slotWrite
    | with_reducible refine Keeps.ofE (by assumption) ?_ | with_reducible apply KeepsX.next | split)

theorem Keeps.by_execNodeLeave {a s : State} (h : Keeps a s) (n : BitVec 16) :
    KeepsX a (execNodeLeave n s) := by
  unfold Sys2Proof.Machine.execNodeLeave
  try dsimp only
  repeat' (first
    | with_reducible assumption | (with_reducible intro _) | with_reducible apply Keeps.State_nodeLeaves
    | with_reducible apply KeepsX.next | with_reducible apply KeepsX.ite | with_reducible apply Keeps.ite
    | split)

theorem Keeps.State_radioLeave {a s : State} (h : Keeps a s) (r : Nat) :
    Keeps a (State.radioLeave s r) := by
  unfold State.radioLeave
  try dsimp only
  repeat' (first
    | with_reducible assumption | (with_reducible intro _) | with_reducible apply Keeps.State_setRadio
    | with_reducible apply Keeps.State_set | with_reducible apply Keeps.ite
    | (dsimp only [Keeps_mk]; with_reducible apply KeptOf.of) | split
    | (dsimp only [Keeps_mk]; apply KeptOf.of))

theorem Keeps.by_execRadioLeave {a s : State} (h : Keeps a s) (r : Fin 4) :
    KeepsX a (execRadioLeave r s) := by
  unfold Sys2Proof.Machine.execRadioLeave
  try dsimp only
  repeat' (first
    | with_reducible assumption | (with_reducible intro _) | with_reducible apply Keeps.State_radioLeave
    | with_reducible apply KeepsX.next)

theorem Keeps.State_radioOff {a s : State} (h : Keeps a s) (r : Nat) :
    Keeps a (State.radioOff s r) := by
  unfold State.radioOff
  try dsimp only
  repeat' (first
    | with_reducible assumption | (with_reducible intro _) | with_reducible apply Keeps.State_setRadio
    | with_reducible apply Keeps.State_set | with_reducible apply Keeps.ite
    | (dsimp only [Keeps_mk]; with_reducible apply KeptOf.of) | split
    | (dsimp only [Keeps_mk]; apply KeptOf.of))

theorem Keeps.by_execRadioLeaveEnd {a s : State} (h : Keeps a s) (r : Fin 4) :
    KeepsX a (execRadioLeaveEnd r s) := by
  unfold Sys2Proof.Machine.execRadioLeaveEnd
  try dsimp only
  repeat' (first
    | with_reducible assumption | (with_reducible intro _) | with_reducible apply Keeps.State_radioOff
    | with_reducible apply KeepsX.next | with_reducible apply KeepsX.ite | with_reducible apply Keeps.ite
    | split)

theorem Keeps.State_radioFails {a s : State} (h : Keeps a s) (r : Nat) :
    Keeps a (State.radioFails s r) := by
  unfold State.radioFails
  try dsimp only
  repeat' (first
    | with_reducible assumption | (with_reducible intro _) | with_reducible apply Keeps.State_radioOff
    | with_reducible apply Keeps.State_setRadio | (dsimp only [Keeps_mk]; with_reducible apply KeptOf.of)
    | (dsimp only [Keeps_mk]; apply KeptOf.of))

theorem Keeps.by_execRadioFailure {a s : State} (h : Keeps a s) (r : Fin 4) :
    KeepsX a (execRadioFailure r s) := by
  unfold Sys2Proof.Machine.execRadioFailure
  try dsimp only
  repeat' (first
    | with_reducible assumption | (with_reducible intro _) | with_reducible apply Keeps.State_radioFails
    | with_reducible apply Keeps.State_post | with_reducible apply KeepsX.next)

theorem Keeps.State_radioMoves {a s : State} (h : Keeps a s) (r : Nat) :
    Keeps a (State.radioMoves s r) := by
  unfold State.radioMoves
  try dsimp only
  repeat' (first
    | with_reducible assumption | (with_reducible intro _) | with_reducible apply Keeps.State_setRadio
    | with_reducible apply Keeps.State_spread | (dsimp only [Keeps_mk]; with_reducible apply KeptOf.of)
    | split | (dsimp only [Keeps_mk]; apply KeptOf.of))

theorem Keeps.State_radioBoundary {a s : State} (h : Keeps a s) (delivered : List (Fin 4)) (r : Nat) :
    Keeps a (State.radioBoundary delivered s r) := by
  unfold State.radioBoundary
  try dsimp only
  repeat' (first
    | with_reducible assumption | (with_reducible intro _) | with_reducible apply Keeps.State_radioMoves
    | with_reducible apply Keeps.State_swapSlots | with_reducible apply Keeps.ite | split)

theorem Keeps.State_scheduleGrant {a s : State} (h : Keeps a s) (g : SchedGrant) :
    Keeps a (State.scheduleGrant s g) := by
  unfold State.scheduleGrant
  try dsimp only
  repeat' (first
    | with_reducible assumption | (with_reducible intro _) | with_reducible apply Keeps.State_rehome
    | with_reducible apply Keeps.State_giveGrants)

theorem Keeps.State_armOnRadio {a s : State} (h : Keeps a s) (r : Nat) (a_ : ArmRec) :
    Keeps a (State.armOnRadio s r a_).1 := by
  unfold State.armOnRadio
  try dsimp only
  repeat' (first
    | with_reducible assumption | (with_reducible intro _) | with_reducible apply Keeps.State_setRadio
    | with_reducible apply Keeps.State_queueBroadcast | with_reducible apply Keeps.foldl
    | with_reducible apply Keeps.foldlP | with_reducible apply Keeps.iteP | with_reducible apply Keeps.ite
    | (dsimp only [Keeps_mk]; with_reducible apply KeptOf.of) | split
    | (dsimp only [Keeps_mk]; apply KeptOf.of))

theorem Keeps.State_cancelOnRadio {a s : State} (h : Keeps a s) (r : Nat) (id : Nat) (late : Bool) (node :
    Option Nat) :
    Keeps a (State.cancelOnRadio s r id late node) := by
  unfold State.cancelOnRadio
  try dsimp only
  repeat' (first
    | with_reducible assumption | (with_reducible intro _) | with_reducible apply Keeps.State_setRadio
    | with_reducible apply Keeps.State_queueBroadcast | with_reducible apply Keeps.State_queueFrame
    | (dsimp only [Keeps_mk]; with_reducible apply KeptOf.of) | split
    | (dsimp only [Keeps_mk]; apply KeptOf.of))

theorem Keeps.State_newPlan {a s : State} (h : Keeps a s) (x : Fin 2 × BitVec 8 × List (BitVec 32)) :
    Keeps a (State.newPlan s x) := by
  unfold State.newPlan
  try dsimp only
  repeat' (first
    | with_reducible assumption | (with_reducible intro _) | with_reducible apply Keeps.State_setPlc
    | with_reducible apply Keeps.State_set | with_reducible apply Keeps.State_raise
    | with_reducible apply Keeps.foldl | with_reducible apply Keeps.foldlP | with_reducible apply Keeps.ite
    | (dsimp only [Keeps_mk]; with_reducible apply KeptOf.of) | split
    | (dsimp only [Keeps_mk]; apply KeptOf.of))

theorem Keeps.State_plcTransmit {a s : State} (h : Keeps a s) (p : Nat) (psdu : List Byte) :
    Keeps a (State.plcTransmit s p psdu) := by
  unfold State.plcTransmit
  try dsimp only
  repeat' (first
    | with_reducible assumption | (with_reducible intro _) | with_reducible apply Keeps.State_setPlc
    | with_reducible apply Keeps.State_addWrap | with_reducible apply Keeps.State_set
    | with_reducible apply Keeps.State_emit | with_reducible apply Keeps.ite
    | (dsimp only [Keeps_mk]; with_reducible apply KeptOf.of) | split
    | (dsimp only [Keeps_mk]; apply KeptOf.of))

theorem Keeps.State_plcSend {a s : State} (h : Keeps a s) (p : Nat) (y : TxItem) (body : List Byte)
    (run : Nat) : Keeps a (State.plcSend s p y body run).1 := by
  unfold State.plcSend
  extract_lets head len
  exact Keeps.iteP (fun _ => h.State_nextCounter.State_plcTransmit _ _) fun _ => h.State_addSat _ _

theorem Keeps.State_bundle {a s : State} (h : Keeps a s) (p run : Nat) (ns : List Nat) (body : List Byte)
    (gs : List PlcGroup) : Keeps a (State.bundle s p run ns body gs).1 := by
  induction ns generalizing s body gs with
  | nil => with_reducible (rw [State.bundle]; exact h)
  | cons n ns ih =>
    rw [State.bundle]
    dsimp only
    with_reducible refine Keeps.iteP (fun _ => ?_) fun _ => h
    with_reducible apply ih
    with_reducible apply Keeps.State_draw
    with_reducible refine Keeps.ite (fun _ => ?_) fun _ => h
    with_reducible exact h.State_setNode _ _

theorem Keeps.State_bundleSent {a : State} {x_ : State × Bool} (h : Keeps a x_.1) (p : Nat) (gs : List
    PlcGroup) :
    Keeps a (State.bundleSent p gs x_) := by
  obtain ⟨s, y_⟩ := x_
  dsimp only at h
  unfold State.bundleSent
  try dsimp only
  repeat' (first
    | with_reducible assumption | (with_reducible intro _) | with_reducible apply Keeps.State_setPlc
    | with_reducible apply Keeps.ite | (dsimp only [Keeps_mk]; with_reducible apply KeptOf.of) | split
    | (dsimp only [Keeps_mk]; apply KeptOf.of))

theorem Keeps.State_frameSent {a : State} {x_ : State × Bool} (h : Keeps a x_.1) (p : Nat) (y : TxItem) :
    Keeps a (State.frameSent p y x_) := by
  obtain ⟨s, y_⟩ := x_
  dsimp only at h
  unfold State.frameSent
  try dsimp only
  repeat' (first
    | with_reducible assumption | (with_reducible intro _) | with_reducible apply Keeps.State_setPlc
    | with_reducible apply Keeps.ite | (dsimp only [Keeps_mk]; with_reducible apply KeptOf.of) | split
    | (dsimp only [Keeps_mk]; apply KeptOf.of))

theorem Keeps.State_syncSent {a : State} {x_ : State × Bool} (h : Keeps a x_.1) :
    Keeps a (State.syncSent x_) := by
  obtain ⟨s, y_⟩ := x_
  dsimp only at h
  unfold State.syncSent
  try dsimp only
  repeat' (first
    | with_reducible assumption | (with_reducible intro _))

theorem Keeps.State_windowZero {a s : State} (h : Keeps a s) (p run : Nat) (ok : TxItem → Bool) :
    Keeps a (State.windowZero s p run ok) := by
  unfold State.windowZero
  extract_lets sync t q
  have g : Keeps a t := h.State_draw
  cases (byPriority q).find? ok with
  | none => with_reducible exact (g.State_plcSend _ _ _ _).State_syncSent
  | some y =>
    refine Keeps.ite (fun _ => Keeps.State_bundleSent ?_ _ _) fun _ =>
      Keeps.State_frameSent ?_ _ _
    · with_reducible exact (g.State_bundle _ _ _ _ _).State_plcSend _ _ _ _
    · with_reducible exact g.State_plcSend _ _ _ _

theorem Keeps.State_acksSent {a : State} {x_ : State × Bool} (h : Keeps a x_.1) (p : Nat) (left : List (Nat ×
    Nat × Nat)) :
    Keeps a (State.acksSent p left x_) := by
  obtain ⟨s, y_⟩ := x_
  dsimp only at h
  unfold State.acksSent
  try dsimp only
  repeat' (first
    | with_reducible assumption | (with_reducible intro _) | with_reducible apply Keeps.State_setPlc
    | with_reducible apply Keeps.ite | (dsimp only [Keeps_mk]; with_reducible apply KeptOf.of) | split
    | (dsimp only [Keeps_mk]; apply KeptOf.of))

theorem Keeps.State_plcAckFrame {a s : State} (h : Keeps a s) (p : Nat) (run : Nat) :
    Keeps a (State.plcAckFrame s p run) := by
  unfold State.plcAckFrame
  try dsimp only
  repeat' (first
    | with_reducible assumption | (with_reducible intro _) | with_reducible apply Keeps.State_draw
    | with_reducible apply Keeps.State_acksSent | with_reducible apply Keeps.State_plcSend
    | with_reducible apply Keeps.ite | with_reducible apply Keeps.iteP
    | with_reducible refine Keeps.ofP (by assumption) ?_ | split)

theorem Keeps.by_execPlcWindowStart {a s : State} (h : Keeps a s) (p : Fin 2) (w : Fin 4) :
    KeepsX a (execPlcWindowStart p w s) := by
  unfold Sys2Proof.Machine.execPlcWindowStart
  try dsimp only
  repeat' (first
    | with_reducible assumption | (with_reducible intro _) | with_reducible apply Keeps.State_set
    | with_reducible apply Keeps.State_feedCampaign | with_reducible apply Keeps.State_windowZero
    | with_reducible apply Keeps.State_plcAckFrame | with_reducible apply KeepsX.next
    | with_reducible apply KeepsX.ite | with_reducible apply Keeps.ite | split)

theorem Keeps.State_plcSecFail {a s : State} (h : Keeps a s) (p : Nat) :
    Keeps a (State.plcSecFail s p) := by
  unfold State.plcSecFail
  try dsimp only
  repeat' (first
    | with_reducible assumption | (with_reducible intro _) | with_reducible apply Keeps.State_addSat
    | with_reducible apply Keeps.State_raise)

theorem Keeps.State_plcReceive {a s : State} (h : Keeps a s) (p : Nat) (kind : Nat) (f : RxFrame) :
    Keeps a (State.plcReceive s p kind f).1 := by
  unfold State.plcReceive
  try dsimp only
  repeat' (first
    | with_reducible assumption | (with_reducible intro _) | with_reducible apply Keeps.State_addSat
    | with_reducible apply Keeps.State_plcSecFail | with_reducible apply Keeps.State_setNode
    | with_reducible apply Keeps.State_sequence | with_reducible apply Keeps.State_heard
    | with_reducible apply Keeps.State_setS | with_reducible apply Keeps.State_addWrap
    | with_reducible apply Keeps.iteP | with_reducible apply Keeps.ite
    | with_reducible refine Keeps.ofP (by assumption) ?_ | split)

theorem Keeps.State_plcConfirm {a s : State} (h : Keeps a s) (p : Nat) (n : Nat) (seq : Nat) :
    Keeps a (State.plcConfirm s p n seq) := by
  unfold State.plcConfirm
  try dsimp only
  repeat' (first
    | with_reducible assumption | (with_reducible intro _)
    | with_reducible apply Keeps.State_recordConfirmed | with_reducible apply Keeps.State_setPlc
    | with_reducible apply Keeps.foldl | with_reducible apply Keeps.foldlP
    | (dsimp only [Keeps_mk]; with_reducible apply KeptOf.of) | (dsimp only [Keeps_mk]; apply KeptOf.of))

theorem Keeps.by_execPlcReport {a s : State} (h : Keeps a s) (p : Fin 2) (f : RxFrame) :
    KeepsX a (execPlcReport p f s) := by
  unfold Sys2Proof.Machine.execPlcReport
  try dsimp only
  repeat' (first
    | with_reducible assumption | (with_reducible intro _) | with_reducible apply Keeps.State_plcReceive
    | with_reducible apply Keeps.State_setPlc | with_reducible apply Keeps.State_plcConfirm
    | with_reducible apply Keeps.State_acceptReport | with_reducible apply KeepsX.next
    | with_reducible apply KeepsX.ite | with_reducible apply Keeps.ite | with_reducible apply Keeps.iteP
    | with_reducible refine Keeps.ofP (by assumption) ?_
    | (dsimp only [Keeps_mk]; with_reducible apply KeptOf.of) | split
    | (dsimp only [Keeps_mk]; apply KeptOf.of))

theorem Keeps.by_execPlcGrantRequest {a s : State} (h : Keeps a s) (p : Fin 2) (f : RxFrame) (gs : List
    NodeGrant) :
    KeepsX a (execPlcGrantRequest p f gs s) := by
  unfold Sys2Proof.Machine.execPlcGrantRequest
  try dsimp only
  repeat' (first
    | with_reducible assumption | (with_reducible intro _) | with_reducible apply Keeps.State_plcReceive
    | with_reducible apply Keeps.State_giveGrants | with_reducible apply Keeps.State_repair
    | with_reducible apply Keeps.State_setNode | with_reducible apply Keeps.State_addSat
    | with_reducible apply Keeps.State_rehome | with_reducible apply KeepsX.next
    | with_reducible apply KeepsX.ite | with_reducible apply Keeps.ite | with_reducible apply Keeps.iteP
    | with_reducible refine Keeps.ofP (by assumption) ?_
    | (dsimp only [Keeps_mk]; with_reducible apply KeptOf.of) | split
    | (dsimp only [Keeps_mk]; apply KeptOf.of))

theorem Keeps.by_execPlcJoinRequest {a s : State} (h : Keeps a s) (p : Fin 2) (f : RxFrame) (eui : BitVec 64)
    (gs : List NodeGrant) :
    KeepsX a (execPlcJoinRequest p f eui gs s) := by
  unfold Sys2Proof.Machine.execPlcJoinRequest
  try dsimp only
  repeat' (first
    | with_reducible assumption | (with_reducible intro _) | with_reducible apply Keeps.State_addSat
    | with_reducible apply Keeps.State_plcSecFail | with_reducible apply Keeps.State_setPlc
    | with_reducible apply Keeps.State_addWrap | with_reducible apply Keeps.State_join
    | with_reducible apply Keeps.State_giveGrants | with_reducible apply Keeps.State_calibrateNode
    | with_reducible apply Keeps.State_raise | with_reducible apply KeepsX.next
    | with_reducible apply KeepsX.ite | with_reducible apply Keeps.ite | with_reducible apply Keeps.iteP
    | with_reducible refine Keeps.ofP (by assumption) ?_
    | (dsimp only [Keeps_mk]; with_reducible apply KeptOf.of) | split
    | (dsimp only [Keeps_mk]; apply KeptOf.of))

theorem Keeps.by_execPlcReplyMissing {a s : State} (h : Keeps a s) (p : Fin 2) (n : BitVec 16) :
    KeepsX a (execPlcReplyMissing p n s) := by
  unfold Sys2Proof.Machine.execPlcReplyMissing
  try dsimp only
  repeat' (first
    | with_reducible assumption | (with_reducible intro _) | with_reducible apply Keeps.State_setPlc
    | with_reducible apply Keeps.State_setNode | with_reducible apply Keeps.State_addSat
    | with_reducible apply Keeps.State_raise | with_reducible apply KeepsX.next
    | with_reducible apply KeepsX.ite | with_reducible apply Keeps.ite
    | (dsimp only [Keeps_mk]; with_reducible apply KeptOf.of) | split
    | (dsimp only [Keeps_mk]; apply KeptOf.of))

theorem Keeps.State_plcOff {a s : State} (h : Keeps a s) (p : Nat) :
    Keeps a (State.plcOff s p) := by
  unfold State.plcOff
  try dsimp only
  repeat' (first
    | with_reducible assumption | (with_reducible intro _) | with_reducible apply Keeps.State_setPlc
    | with_reducible apply Keeps.State_set | with_reducible apply Keeps.ite
    | (dsimp only [Keeps_mk]; with_reducible apply KeptOf.of) | split
    | (dsimp only [Keeps_mk]; apply KeptOf.of))

theorem Keeps.State_plcLeave {a s : State} (h : Keeps a s) (p : Nat) :
    Keeps a (State.plcLeave s p) := by
  unfold State.plcLeave
  try dsimp only
  repeat' (first
    | with_reducible assumption | (with_reducible intro _) | with_reducible apply Keeps.State_setPlc
    | with_reducible apply Keeps.State_set | with_reducible apply Keeps.State_plcOff
    | with_reducible apply Keeps.ite | (dsimp only [Keeps_mk]; with_reducible apply KeptOf.of) | split
    | (dsimp only [Keeps_mk]; apply KeptOf.of))

theorem Keeps.by_execPlcLeave {a s : State} (h : Keeps a s) (p : Fin 2) :
    KeepsX a (execPlcLeave p s) := by
  unfold Sys2Proof.Machine.execPlcLeave
  try dsimp only
  repeat' (first
    | with_reducible assumption | (with_reducible intro _) | with_reducible apply Keeps.State_plcLeave
    | with_reducible apply KeepsX.next)

theorem Keeps.by_execPlcLineFault {a s : State} (h : Keeps a s) (p : Fin 2) :
    KeepsX a (execPlcLineFault p s) := by
  unfold Sys2Proof.Machine.execPlcLineFault
  try dsimp only
  repeat' (first
    | with_reducible assumption | (with_reducible intro _) | with_reducible apply Keeps.State_plcOff
    | with_reducible apply Keeps.State_raise | with_reducible apply Keeps.State_setPlc
    | with_reducible apply Keeps.State_post | with_reducible apply KeepsX.next
    | with_reducible apply KeepsX.ite | with_reducible apply Keeps.ite
    | (dsimp only [Keeps_mk]; with_reducible apply KeptOf.of) | split
    | (dsimp only [Keeps_mk]; apply KeptOf.of))

theorem Keeps.State_planNext {a s : State} (h : Keeps a s) (p : Nat) :
    Keeps a (State.planNext s p) := by
  unfold State.planNext
  try dsimp only
  repeat' (first
    | with_reducible assumption | (with_reducible intro _) | with_reducible apply Keeps.State_set)

theorem Keeps.by_execPlanDataRead {a s : State} (h : Keeps a s) (q : Port) (p : Fin 2) :
    KeepsX a (execPlanDataRead q p s) := by
  unfold Sys2Proof.Machine.execPlanDataRead
  try dsimp only
  repeat' (first
    | with_reducible assumption | (with_reducible intro _) | with_reducible apply Keeps.State_access
    | with_reducible apply Keeps.State_emit | with_reducible apply Keeps.State_planNext
    | with_reducible apply KeepsX.next)

theorem Keeps.State_plcLeaveEnds {a s : State} (h : Keeps a s) (p : Nat) :
    Keeps a (State.plcLeaveEnds s p) := by
  unfold State.plcLeaveEnds
  try dsimp only
  repeat' (first
    | with_reducible assumption | (with_reducible intro _) | with_reducible apply Keeps.State_plcOff
    | with_reducible apply Keeps.State_spread | with_reducible apply Keeps.ite | split)

theorem Keeps.State_plcMoves {a s : State} (h : Keeps a s) (p : Nat) :
    Keeps a (State.plcMoves s p) := by
  unfold State.plcMoves
  try dsimp only
  repeat' (first
    | with_reducible assumption | (with_reducible intro _) | with_reducible apply Keeps.State_setPlc
    | with_reducible apply Keeps.State_spread | with_reducible apply Keeps.ite
    | (dsimp only [Keeps_mk]; with_reducible apply KeptOf.of) | split
    | (dsimp only [Keeps_mk]; apply KeptOf.of))

theorem Keeps.State_plcBoundary {a s : State} (h : Keeps a s) (p : Nat) :
    Keeps a (State.plcBoundary s p) := by
  unfold State.plcBoundary
  try dsimp only
  repeat' (first
    | with_reducible assumption | (with_reducible intro _) | with_reducible apply Keeps.State_plcMoves
    | with_reducible apply Keeps.State_plcLeaveEnds | with_reducible apply Keeps.ite | split)

theorem Keeps.State_armOnPlc {a s : State} (h : Keeps a s) (p : Nat) (a_ : ArmRec) :
    Keeps a (State.armOnPlc s p a_).1 := by
  unfold State.armOnPlc
  try dsimp only
  repeat' (first
    | with_reducible assumption | (with_reducible intro _) | with_reducible apply Keeps.State_setPlc
    | with_reducible apply Keeps.State_queueBroadcast | with_reducible apply Keeps.foldl
    | with_reducible apply Keeps.foldlP | with_reducible apply Keeps.iteP | with_reducible apply Keeps.ite
    | (dsimp only [Keeps_mk]; with_reducible apply KeptOf.of) | split
    | (dsimp only [Keeps_mk]; apply KeptOf.of))

theorem Keeps.State_cancelOnPlc {a s : State} (h : Keeps a s) (p : Nat) (id : Nat) (late : Bool) (node : Option
    Nat) :
    Keeps a (State.cancelOnPlc s p id late node) := by
  unfold State.cancelOnPlc
  try dsimp only
  repeat' (first
    | with_reducible assumption | (with_reducible intro _) | with_reducible apply Keeps.State_setPlc
    | with_reducible apply Keeps.State_queueBroadcast | with_reducible apply Keeps.State_queueFrame
    | (dsimp only [Keeps_mk]; with_reducible apply KeptOf.of) | split
    | (dsimp only [Keeps_mk]; apply KeptOf.of))

theorem Keeps.State_cancelOn {a s : State} (h : Keeps a s) (t : Nat) (id : Nat) (late : Bool) (node : Option
    Nat) :
    Keeps a (State.cancelOn s t id late node) := by
  unfold State.cancelOn
  try dsimp only
  repeat' (first
    | with_reducible assumption | (with_reducible intro _) | with_reducible apply Keeps.State_cancelOnRadio
    | with_reducible apply Keeps.State_cancelOnPlc | with_reducible apply Keeps.ite | split)

theorem Keeps.State_armTransports {a s : State} (h : Keeps a s) (d : DieId) (id : Nat) :
    Keeps a (State.armTransports s d id) := by
  unfold State.armTransports
  split
  · exact h
  · dsimp only
    have g (l : List Nat) (x : ArmRec) (b : State × List Nat) (hb : Keeps a b.1) : Keeps a (l.foldl
        (fun (x_1 : State × List Nat) t =>
          ((if t < 4 then x_1.1.armOnRadio t x else x_1.1.armOnPlc (t - 4) x).1,
            if (if t < 4 then x_1.1.armOnRadio t x else x_1.1.armOnPlc (t - 4) x).2 = true then x_1.2 ++ [t]
            else x_1.2)) b).1 := by
      apply Keeps.foldlP hb
      intro b t hb
      dsimp only
      split
      · exact hb.State_armOnRadio _ _
      · exact hb.State_armOnPlc _ _
    split
    · exact g _ _ _ h
    · apply Keeps.State_raise
      apply Keeps.State_addSat
      apply Keeps.State_setCues
      exact g _ _ _ h

theorem Keeps.State_holdCancels {a s : State} (h : Keeps a s) (d : DieId) (e : Nat) (n : Nat) :
    Keeps a (State.holdCancels s d e n) := by
  unfold State.holdCancels
  try dsimp only
  repeat' (first
    | with_reducible assumption | (with_reducible intro _) | with_reducible apply Keeps.State_cancelOn
    | with_reducible apply Keeps.foldl | with_reducible apply Keeps.foldlP | with_reducible apply Keeps.ite
    | split)

theorem Keeps.State_nodeOpOut {a s : State} (h : Keeps a s) (d : DieId) (o : NodeOp) :
    Keeps a (State.nodeOpOut d s o) := by
  unfold State.nodeOpOut
  try dsimp only
  repeat' (first
    | with_reducible assumption | (with_reducible intro _) | with_reducible apply Keeps.State_queueUpdate
    | with_reducible apply Keeps.State_holdCancels | with_reducible apply Keeps.State_armTransports
    | with_reducible apply Keeps.State_cancelOn | with_reducible apply Keeps.foldl
    | with_reducible apply Keeps.foldlP | split)

theorem Keeps.State_releaseOps {a s : State} (h : Keeps a s) :
    Keeps a (State.releaseOps s) := by
  unfold State.releaseOps
  try dsimp only
  repeat' (first
    | with_reducible assumption | (with_reducible intro _) | with_reducible apply Keeps.State_nodeOpOut
    | with_reducible apply Keeps.foldl | with_reducible apply Keeps.foldlP
    | (dsimp only [Keeps_mk]; with_reducible apply KeptOf.of) | split
    | (dsimp only [Keeps_mk]; apply KeptOf.of))

theorem Keeps.State_releaseHeld {a s : State} (h : Keeps a s) :
    Keeps a (State.releaseHeld s) := by
  unfold State.releaseHeld
  try dsimp only
  repeat' (first
    | with_reducible assumption | (with_reducible intro _) | with_reducible apply Keeps.State_releaseOps
    | with_reducible apply Keeps.State_replySent | with_reducible apply Keeps.foldl
    | with_reducible apply Keeps.foldlP | (dsimp only [Keeps_mk]; with_reducible apply KeptOf.of)
    | (dsimp only [Keeps_mk]; apply KeptOf.of))

theorem Keeps.State_flushNodeOps {a s : State} (h : Keeps a s) (d : DieId) :
    Keeps a (State.flushNodeOps s d) := by
  unfold State.flushNodeOps
  try dsimp only
  repeat' (first
    | with_reducible assumption | (with_reducible intro _) | with_reducible apply Keeps.State_setDie
    | with_reducible apply Keeps.State_releaseHeld | with_reducible apply Keeps.ite
    | (dsimp only [Keeps_mk]; with_reducible apply KeptOf.of) | split
    | (dsimp only [Keeps_mk]; apply KeptOf.of))

theorem Keeps.State_setChain {a s : State} (h : Keeps a s) (n : Nat) (v : ChainState) :
    Keeps a (State.setChain s n v) := by
  unfold State.setChain
  try dsimp only
  repeat' (first
    | with_reducible assumption | (with_reducible intro _)
    | (dsimp only [Keeps_mk]; with_reducible apply KeptOf.of) | (dsimp only [Keeps_mk]; apply KeptOf.of))

theorem Keeps.State_levelFrame {a s : State} (h : Keeps a s) (n : Nat) :
    Keeps a (State.levelFrame s n) := by
  unfold State.levelFrame
  try dsimp only
  repeat' (first
    | with_reducible assumption | (with_reducible intro _) | with_reducible apply Keeps.State_setChain
    | with_reducible apply Keeps.State_emit | with_reducible apply Keeps.State_addWrap
    | with_reducible apply Keeps.State_set | with_reducible apply Keeps.foldl
    | with_reducible apply Keeps.foldlP | (dsimp only [Keeps_mk]; with_reducible apply KeptOf.of)
    | (dsimp only [Keeps_mk]; apply KeptOf.of))

theorem Keeps.State_countFrame {a s : State} (h : Keeps a s) (n : Nat) :
    Keeps a (State.countFrame s n) := by
  unfold State.countFrame
  try dsimp only
  repeat' (first
    | with_reducible assumption | (with_reducible intro _) | with_reducible apply Keeps.State_setChain
    | with_reducible apply Keeps.State_emit | with_reducible apply Keeps.State_set
    | (dsimp only [Keeps_mk]; with_reducible apply KeptOf.of) | (dsimp only [Keeps_mk]; apply KeptOf.of))

theorem Keeps.by_execChainFrameStart {a s : State} (h : Keeps a s) (n : Fin 16) :
    KeepsX a (execChainFrameStart n s) := by
  unfold Sys2Proof.Machine.execChainFrameStart
  try dsimp only
  repeat' (first
    | with_reducible assumption | (with_reducible intro _) | with_reducible apply Keeps.State_addWrap
    | with_reducible apply Keeps.State_set | with_reducible apply Keeps.State_countFrame
    | with_reducible apply Keeps.State_levelFrame | with_reducible apply KeepsX.next
    | with_reducible apply KeepsX.ite | with_reducible apply Keeps.ite | split)

theorem Keeps.State_chainMissing {a : State} {s : State × List DataIn} (h : Keeps a s.1) (n : Nat) (p : Nat) :
    Keeps a (State.chainMissing n s p).1 := by
  obtain ⟨s, l⟩ := s
  dsimp only at h
  unfold State.chainMissing
  dsimp only
  split
  · exact Keeps.State_raiseIf (Keeps.State_setChain h _ _) _ _
  · exact Keeps.State_setChain h _ _

theorem Keeps.State_chainWord {a : State} {x_ : State × List DataIn} (h : Keeps a x_.1) (n : Nat) (f :
    ChainFrame) (y : Nat × Nat) :
    Keeps a (State.chainWord n f x_ y).1 := by
  obtain ⟨s, y_⟩ := x_
  dsimp only at h
  unfold State.chainWord
  try dsimp only
  repeat' (first
    | with_reducible assumption | (with_reducible intro _) | with_reducible apply Keeps.State_setChain
    | with_reducible apply Keeps.State_set | with_reducible apply Keeps.State_addSat
    | with_reducible apply Keeps.State_raise | with_reducible apply Keeps.State_chainMissing
    | with_reducible apply Keeps.iteP | with_reducible apply Keeps.ite
    | with_reducible refine Keeps.ofP (by assumption) ?_
    | (dsimp only [Keeps_mk]; with_reducible apply KeptOf.of) | split
    | (dsimp only [Keeps_mk]; apply KeptOf.of))

theorem Keeps.State_countReturn {a s : State} (h : Keeps a s) (n : Nat) (r : ChainReturn) :
    Keeps a (State.countReturn s n r) := by
  unfold State.countReturn
  try dsimp only
  repeat' (first
    | with_reducible assumption | (with_reducible intro _) | with_reducible apply Keeps.State_set
    | with_reducible apply Keeps.State_raise | with_reducible apply Keeps.ite | split)

theorem Keeps.State_chainReturn {a s : State} (h : Keeps a s) (n : Nat) (r : ChainReturn) :
    Keeps a (State.chainReturn s n r) := by
  unfold State.chainReturn
  try dsimp only
  repeat' (first
    | with_reducible assumption | (with_reducible intro _) | with_reducible apply Keeps.State_setChain
    | with_reducible apply Keeps.State_countReturn | with_reducible apply Keeps.State_set
    | with_reducible apply Keeps.State_addSat | with_reducible apply Keeps.State_raise
    | with_reducible apply Keeps.State_chainMissing | with_reducible apply Keeps.State_chainWord
    | with_reducible apply Keeps.foldl | with_reducible apply Keeps.foldlP | with_reducible apply Keeps.ite
    | with_reducible apply Keeps.iteP | with_reducible refine Keeps.ofP (by assumption) ?_
    | (dsimp only [Keeps_mk]; with_reducible apply KeptOf.of) | split
    | (dsimp only [Keeps_mk]; apply KeptOf.of))

theorem Keeps.by_execChainReturnEnd {a s : State} (h : Keeps a s) (n : Fin 16) (r : ChainReturn) :
    KeepsX a (execChainReturnEnd n r s) := by
  unfold Sys2Proof.Machine.execChainReturnEnd
  try dsimp only
  repeat' (first
    | with_reducible assumption | (with_reducible intro _) | with_reducible apply Keeps.State_chainReturn
    | with_reducible apply KeepsX.next)

theorem Keeps.by_execChainLatch {a s : State} (h : Keeps a s) (n : Fin 16) :
    KeepsX a (execChainLatch n s) := by
  unfold Sys2Proof.Machine.execChainLatch
  try dsimp only
  repeat' (first
    | with_reducible assumption | (with_reducible intro _) | with_reducible apply Keeps.State_chainReturn
    | with_reducible apply Keeps.State_set | with_reducible apply Keeps.State_emit
    | with_reducible apply KeepsX.next | with_reducible apply KeepsX.ite | with_reducible apply Keeps.ite
    | (dsimp only [Keeps_mk]; with_reducible apply KeptOf.of) | split)

theorem Keeps.by_execLatchMissing {a s : State} (h : Keeps a s) (n : Fin 16) :
    KeepsX a (execLatchMissing n s) := by
  unfold Sys2Proof.Machine.execLatchMissing
  try dsimp only
  repeat' (first
    | with_reducible assumption | (with_reducible intro _) | with_reducible apply Keeps.State_set
    | with_reducible apply Keeps.State_addSat | with_reducible apply Keeps.State_raise
    | with_reducible apply KeepsX.next)

theorem Keeps.by_execChainCountRequest {a s : State} (h : Keeps a s) (n : Fin 16) :
    KeepsX a (execChainCountRequest n s) := by
  unfold Sys2Proof.Machine.execChainCountRequest
  try dsimp only
  repeat' (first
    | with_reducible assumption | (with_reducible intro _) | with_reducible apply Keeps.State_set
    | with_reducible apply KeepsX.next)

theorem Keeps.State_chainConfigure {a s : State} (h : Keeps a s) (n : Nat) :
    Keeps a (State.chainConfigure s n) := by
  unfold State.chainConfigure
  try dsimp only
  repeat' (first
    | with_reducible assumption | (with_reducible intro _) | with_reducible apply Keeps.State_setChain
    | (dsimp only [Keeps_mk]; with_reducible apply KeptOf.of) | (dsimp only [Keeps_mk]; apply KeptOf.of))

theorem Keeps.State_chainFallback {a s : State} (h : Keeps a s) (binding : Nat) :
    Keeps a (State.chainFallback s binding) := by
  unfold State.chainFallback
  try dsimp only
  repeat' (first
    | with_reducible assumption | (with_reducible intro _) | with_reducible apply Keeps.State_setChain
    | with_reducible apply Keeps.ite | (dsimp only [Keeps_mk]; with_reducible apply KeptOf.of) | split
    | (dsimp only [Keeps_mk]; apply KeptOf.of))

theorem Keeps.State_chainUnbound {a s : State} (h : Keeps a s) (d : DieId) (e : Nat) (kind : Nat) (binding :
    Nat) :
    Keeps a (State.chainUnbound s d e kind binding) := by
  unfold State.chainUnbound
  try dsimp only
  repeat' (first
    | with_reducible assumption | (with_reducible intro _) | with_reducible apply Keeps.State_setChain
    | with_reducible apply Keeps.ite | (dsimp only [Keeps_mk]; with_reducible apply KeptOf.of) | split
    | (dsimp only [Keeps_mk]; apply KeptOf.of))

theorem Keeps.State_transportUpdate {a s : State} (h : Keeps a s) (binding : Nat) (value : Nat) (exact : Bool) :
    Keeps a (State.transportUpdate s binding value exact) := by
  unfold State.transportUpdate
  try dsimp only
  repeat' (first
    | with_reducible assumption | (with_reducible intro _) | with_reducible apply Keeps.State_queueUpdate
    | with_reducible apply Keeps.State_setChain | with_reducible apply Keeps.ite
    | (dsimp only [Keeps_mk]; with_reducible apply KeptOf.of) | split
    | (dsimp only [Keeps_mk]; apply KeptOf.of))

theorem Keeps.by_execEmissionHandoff {a s : State} (h : Keeps a s) (d : DieId) (e : Endpoint) :
    KeepsX a (execEmissionHandoff d e s) := by
  unfold Sys2Proof.Machine.execEmissionHandoff
  try dsimp only
  repeat' (first
    | with_reducible assumption | (with_reducible intro _) | with_reducible apply Keeps.State_setDie
    | with_reducible apply Keeps.State_transportUpdate | with_reducible apply KeepsX.next
    | with_reducible apply KeepsX.ite | with_reducible apply Keeps.ite
    | (dsimp only [Keeps_mk]; with_reducible apply KeptOf.of) | split
    | (dsimp only [Keeps_mk]; apply KeptOf.of))

theorem Keeps.State_halfRange {a s : State} (h : Keeps a s) (old : MeterState) :
    Keeps a (State.halfRange s old) := by
  unfold State.halfRange
  try dsimp only
  repeat' (first
    | with_reducible assumption | (with_reducible intro _) | with_reducible apply Keeps.State_set
    | with_reducible apply Keeps.State_raise | with_reducible apply Keeps.foldl
    | with_reducible apply Keeps.foldlP | with_reducible apply Keeps.ite | split)

theorem Keeps.State_pulseTake {a s : State} (h : Keeps a s) (added : List (Nat × List Nat)) (n : Nat) :
    Keeps a (State.pulseTake added s n) := by
  unfold State.pulseTake
  try dsimp only
  repeat' (first
    | with_reducible assumption | (with_reducible intro _) | with_reducible apply Keeps.State_set
    | with_reducible apply Keeps.State_addSat | with_reducible apply Keeps.State_raiseIf
    | with_reducible apply Keeps.foldl | with_reducible apply Keeps.foldlP | with_reducible apply Keeps.ite
    | (dsimp only [Keeps_mk]; with_reducible apply KeptOf.of) | split
    | (dsimp only [Keeps_mk]; apply KeptOf.of))

theorem Keeps.State_histWindow {a s : State} (h : Keeps a s) (rs : List (Nat × MeterResult)) (f : Nat) :
    Keeps a (State.histWindow rs s f) := by
  unfold State.histWindow
  try dsimp only
  repeat' (first
    | with_reducible assumption | (with_reducible intro _) | with_reducible apply Keeps.State_join
    | with_reducible apply Keeps.foldl | with_reducible apply Keeps.foldlP | with_reducible apply Keeps.ite
    | with_reducible apply Keeps.iteP | with_reducible refine Keeps.ofP (by assumption) ?_
    | (dsimp only [Keeps_mk]; with_reducible apply KeptOf.of) | split
    | (dsimp only [Keeps_mk]; apply KeptOf.of))

theorem Keeps.State_calStart {a s : State} (h : Keeps a s) :
    Keeps a (State.calStart s) := by
  unfold State.calStart
  try dsimp only
  repeat' (first
    | with_reducible assumption | (with_reducible intro _) | with_reducible apply Keeps.State_set
    | (dsimp only [Keeps_mk]; with_reducible apply KeptOf.of) | split
    | (dsimp only [Keeps_mk]; apply KeptOf.of))

theorem Keeps.State_calEnd {a s : State} (h : Keeps a s) (offset : Option Int) :
    Keeps a (State.calEnd s offset) := by
  unfold State.calEnd
  try dsimp only
  repeat' (first
    | with_reducible assumption | (with_reducible intro _) | with_reducible apply Keeps.State_draw
    | with_reducible apply Keeps.State_set | with_reducible apply Keeps.State_addWrap
    | with_reducible apply Keeps.State_raise | with_reducible apply Keeps.ite
    | (dsimp only [Keeps_mk]; with_reducible apply KeptOf.of) | split
    | (dsimp only [Keeps_mk]; apply KeptOf.of))

theorem Keeps.State_calRequest {a s : State} (h : Keeps a s) (i : Nat) :
    Keeps a (State.calRequest s i).1 := by
  unfold State.calRequest
  try dsimp only
  repeat' (first
    | with_reducible assumption | (with_reducible intro _) | with_reducible apply Keeps.iteP
    | with_reducible apply Keeps.ite | (dsimp only [Keeps_mk]; with_reducible apply KeptOf.of) | split
    | (dsimp only [Keeps_mk]; apply KeptOf.of))

theorem Keeps.by_execCalibrationAuto {a s : State} (h : Keeps a s) :
    KeepsX a (execCalibrationAuto s) := by
  unfold Sys2Proof.Machine.execCalibrationAuto
  try dsimp only
  repeat' (first
    | with_reducible assumption | (with_reducible intro _) | with_reducible apply Keeps.State_calRequest
    | with_reducible apply KeepsX.next | with_reducible apply KeepsX.ite | with_reducible apply Keeps.ite
    | with_reducible apply Keeps.iteP | with_reducible refine Keeps.ofP (by assumption) ?_
    | (dsimp only [Keeps_mk]; with_reducible apply KeptOf.of) | split
    | (dsimp only [Keeps_mk]; apply KeptOf.of))

theorem Keeps.State_govern {a s : State} (h : Keeps a s) :
    Keeps a (State.govern s) := by
  unfold State.govern
  try dsimp only
  repeat' (first
    | with_reducible assumption | (with_reducible intro _) | with_reducible apply Keeps.foldl
    | with_reducible apply Keeps.foldlP | (dsimp only [Keeps_mk]; with_reducible apply KeptOf.of)
    | (dsimp only [Keeps_mk]; apply KeptOf.of))

theorem Keeps.State_meterClose {a s : State} (h : Keeps a s) (land : MeterIn) :
    Keeps a (State.meterClose s land) := by
  unfold State.meterClose
  try dsimp only
  repeat' (first
    | with_reducible assumption | (with_reducible intro _) | with_reducible apply Keeps.State_addSat
    | with_reducible apply Keeps.State_raiseIf | with_reducible apply Keeps.State_halfRange
    | with_reducible apply Keeps.State_pulseTake | with_reducible apply Keeps.State_histWindow
    | with_reducible apply Keeps.State_calEnd | with_reducible apply Keeps.State_calStart
    | with_reducible apply Keeps.State_govern | with_reducible apply Keeps.State_set
    | with_reducible apply Keeps.State_raise | with_reducible apply Keeps.foldl
    | with_reducible apply Keeps.foldlP | with_reducible apply Keeps.ite
    | (dsimp only [Keeps_mk]; with_reducible apply KeptOf.of) | split
    | (dsimp only [Keeps_mk]; apply KeptOf.of))

theorem Keeps.State_commitAlone {a s : State} (h : Keeps a s) (c : Nat) (r : Commit) (d : DieId) :
    Keeps a (State.commitAlone c r d s) := by
  unfold State.commitAlone
  try dsimp only
  repeat' (first
    | with_reducible assumption | (with_reducible intro _) | with_reducible apply Keeps.State_setDie
    | with_reducible apply Keeps.ite | split)

theorem Keeps.State_commitNow {a s : State} (h : Keeps a s) (c : Nat) (stamp : Nat) (final : Bool) :
    Keeps a (State.commitNow s c stamp final) := by
  unfold State.commitNow
  try dsimp only
  repeat' (first
    | with_reducible assumption | (with_reducible intro _) | with_reducible apply Keeps.State_commitAlone
    | with_reducible apply Keeps.State_setDie | with_reducible apply Keeps.State_journalMetering
    | with_reducible apply Keeps.both | with_reducible apply Keeps.ite
    | (dsimp only [Keeps_mk]; with_reducible apply KeptOf.of) | split
    | (dsimp only [Keeps_mk]; apply KeptOf.of))

theorem Keeps.by_execMeterResultsReady {a s : State} (h : Keeps a s) :
    KeepsX a (execMeterResultsReady s) := by
  unfold Sys2Proof.Machine.execMeterResultsReady
  try dsimp only
  repeat' (first
    | with_reducible assumption | (with_reducible intro _) | with_reducible apply Keeps.State_raise
    | with_reducible apply Keeps.State_setDie | with_reducible apply Keeps.State_journalMetering
    | with_reducible apply Keeps.foldl | with_reducible apply Keeps.foldlP
    | with_reducible apply KeepsX.next | with_reducible apply KeepsX.ite | with_reducible apply Keeps.ite
    | (dsimp only [Keeps_mk]; with_reducible apply KeptOf.of) | split
    | (dsimp only [Keeps_mk]; apply KeptOf.of))

theorem Keeps.State_writeHistory {a s : State} (h : Keeps a s) (f : Nat) :
    Keeps a (State.writeHistory s f) := by
  unfold State.writeHistory
  try dsimp only
  repeat' (first
    | with_reducible assumption | (with_reducible intro _) | with_reducible apply Keeps.State_setDie
    | with_reducible apply Keeps.State_mirror | with_reducible apply Keeps.State_set
    | with_reducible apply Keeps.ite | (dsimp only [Keeps_mk]; with_reducible apply KeptOf.of) | split
    | (dsimp only [Keeps_mk]; apply KeptOf.of))

theorem Keeps.State_historyStart {a s : State} (h : Keeps a s) :
    Keeps a (State.historyStart s) := by
  unfold State.historyStart
  try dsimp only
  repeat' (first
    | with_reducible assumption | (with_reducible intro _) | with_reducible apply Keeps.foldl
    | with_reducible apply Keeps.foldlP | (dsimp only [Keeps_mk]; with_reducible apply KeptOf.of)
    | (dsimp only [Keeps_mk]; apply KeptOf.of))

theorem Keeps.by_execHistoryIntervalEnd {a s : State} (h : Keeps a s) :
    KeepsX a (execHistoryIntervalEnd s) := by
  unfold Sys2Proof.Machine.execHistoryIntervalEnd
  try dsimp only
  repeat' (first
    | with_reducible assumption | (with_reducible intro _) | with_reducible apply Keeps.State_writeHistory
    | with_reducible apply Keeps.State_set | with_reducible apply Keeps.State_raiseIf
    | with_reducible apply Keeps.State_historyStart | with_reducible apply Keeps.foldl
    | with_reducible apply Keeps.foldlP | with_reducible apply KeepsX.next | with_reducible apply KeepsX.ite
    | with_reducible apply Keeps.ite | split)

theorem Keeps.by_execPulseOutput {a s : State} (h : Keeps a s) (n : Fin 8) :
    KeepsX a (execPulseOutput n s) := by
  unfold Sys2Proof.Machine.execPulseOutput
  try dsimp only
  repeat' (first
    | with_reducible assumption | (with_reducible intro _) | with_reducible apply Keeps.State_set
    | with_reducible apply Keeps.State_emit | with_reducible apply KeepsX.next
    | with_reducible apply KeepsX.ite | with_reducible apply Keeps.ite
    | (dsimp only [Keeps_mk]; with_reducible apply KeptOf.of) | split
    | (dsimp only [Keeps_mk]; apply KeptOf.of))

theorem Keeps.State_harmRequest {a s : State} (h : Keeps a s) (i : Nat) :
    Keeps a (State.harmRequest s i).1 := by
  unfold State.harmRequest
  try dsimp only
  repeat' (first
    | with_reducible assumption | (with_reducible intro _) | with_reducible apply Keeps.State_set
    | with_reducible apply Keeps.iteP | with_reducible apply Keeps.ite
    | (dsimp only [Keeps_mk]; with_reducible apply KeptOf.of) | split
    | (dsimp only [Keeps_mk]; apply KeptOf.of))

theorem Keeps.by_execHarmonicDone {a s : State} (h : Keeps a s) (fundamental : Nat) (thd : Nat) (amps : List
    Nat) :
    KeepsX a (execHarmonicDone fundamental thd amps s) := by
  unfold Sys2Proof.Machine.execHarmonicDone
  try dsimp only
  repeat' (first
    | with_reducible assumption | (with_reducible intro _) | with_reducible apply Keeps.State_set
    | with_reducible apply Keeps.State_raise | with_reducible apply Keeps.foldl
    | with_reducible apply Keeps.foldlP | with_reducible apply KeepsX.next | with_reducible apply KeepsX.ite
    | with_reducible apply Keeps.ite | (dsimp only [Keeps_mk]; with_reducible apply KeptOf.of) | split
    | (dsimp only [Keeps_mk]; apply KeptOf.of))

theorem Keeps.State_resultSelect {a s : State} (h : Keeps a s) (i : Nat) :
    Keeps a (State.resultSelect s i) := by
  unfold State.resultSelect
  try dsimp only
  repeat' (first
    | with_reducible assumption | (with_reducible intro _) | with_reducible apply Keeps.State_set
    | with_reducible apply Keeps.State_setS)

theorem Keeps.State_totalSelect {a s : State} (h : Keeps a s) (f : Nat) (p : Nat) (q : Nat) :
    Keeps a (State.totalSelect s f p q) := by
  unfold State.totalSelect
  try dsimp only
  repeat' (first
    | with_reducible assumption | (with_reducible intro _) | with_reducible apply Keeps.State_set)

theorem Keeps.State_resSelWrite {a s : State} (h : Keeps a s) (w : Nat) :
    KeepsE a (State.resSelWrite s w) := by
  unfold State.resSelWrite
  try dsimp only
  repeat' (first
    | with_reducible assumption | (with_reducible intro _) | with_reducible apply Keeps.State_resultSelect
    | with_reducible apply KeepsE.error | with_reducible apply KeepsE.ok | with_reducible apply KeepsE.ite
    | with_reducible apply Keeps.ite | split)

theorem Keeps.State_totSelWrite {a s : State} (h : Keeps a s) (w : Nat) :
    KeepsE a (State.totSelWrite s w) := by
  unfold State.totSelWrite
  try dsimp only
  repeat' (first
    | with_reducible assumption | (with_reducible intro _) | with_reducible apply Keeps.State_totalSelect
    | with_reducible apply KeepsE.error | with_reducible apply KeepsE.ok | with_reducible apply KeepsE.ite
    | with_reducible apply Keeps.ite | split)

theorem Keeps.by_execResultSelect {a s : State} (h : Keeps a s) (p : Port) (w : Word) :
    KeepsX a (execResultSelect p w s) := by
  unfold Sys2Proof.Machine.execResultSelect
  try dsimp only
  repeat' (first
    | with_reducible assumption | (with_reducible intro _) | with_reducible apply Keeps.State_access
    | with_reducible apply Keeps.State_wrote | with_reducible apply Keeps.State_resSelWrite
    | with_reducible refine Keeps.ofE (by assumption) ?_ | with_reducible apply KeepsX.next)

theorem Keeps.by_execTotalSelect {a s : State} (h : Keeps a s) (p : Port) (w : Word) :
    KeepsX a (execTotalSelect p w s) := by
  unfold Sys2Proof.Machine.execTotalSelect
  try dsimp only
  repeat' (first
    | with_reducible assumption | (with_reducible intro _) | with_reducible apply Keeps.State_access
    | with_reducible apply Keeps.State_wrote | with_reducible apply Keeps.State_totSelWrite
    | with_reducible refine Keeps.ofE (by assumption) ?_ | with_reducible apply KeepsX.next)

theorem Keeps.State_theftStart {a s : State} (h : Keeps a s) :
    Keeps a (State.theftStart s) := by
  unfold State.theftStart
  try dsimp only
  repeat' (first
    | with_reducible assumption | (with_reducible intro _) | with_reducible apply Keeps.ite
    | (dsimp only [Keeps_mk]; with_reducible apply KeptOf.of) | split
    | (dsimp only [Keeps_mk]; apply KeptOf.of))

theorem Keeps.State_theftStop {a s : State} (h : Keeps a s) :
    Keeps a (State.theftStop s) := by
  unfold State.theftStop
  try dsimp only
  repeat' (first
    | with_reducible assumption | (with_reducible intro _) | with_reducible apply Keeps.ite
    | (dsimp only [Keeps_mk]; with_reducible apply KeptOf.of) | split
    | (dsimp only [Keeps_mk]; apply KeptOf.of))

theorem Keeps.by_execTheftSecond {a s : State} (h : Keeps a s) (a_ : Nat) (b : Nat) (c : Nat) :
    KeepsX a (execTheftSecond a_ b c s) := by
  unfold Sys2Proof.Machine.execTheftSecond
  try dsimp only
  repeat' (first
    | with_reducible assumption | (with_reducible intro _) | with_reducible apply Keeps.foldl
    | with_reducible apply Keeps.foldlP | with_reducible apply KeepsX.next | with_reducible apply KeepsX.ite
    | with_reducible apply Keeps.ite | (dsimp only [Keeps_mk]; with_reducible apply KeptOf.of) | split
    | (dsimp only [Keeps_mk]; apply KeptOf.of))

theorem Keeps.by_execTheftMinute {a s : State} (h : Keeps a s) :
    KeepsX a (execTheftMinute s) := by
  unfold Sys2Proof.Machine.execTheftMinute
  try dsimp only
  repeat' (first
    | with_reducible assumption | (with_reducible intro _) | with_reducible apply KeepsX.next
    | with_reducible apply KeepsX.ite | with_reducible apply Keeps.ite
    | (dsimp only [Keeps_mk]; with_reducible apply KeptOf.of) | split
    | (dsimp only [Keeps_mk]; apply KeptOf.of))

theorem Keeps.State_theftClear {a s : State} (h : Keeps a s) :
    Keeps a (State.theftClear s).1 := by
  unfold State.theftClear
  try dsimp only
  repeat' (first
    | with_reducible assumption | (with_reducible intro _) | with_reducible apply Keeps.iteP
    | with_reducible apply Keeps.ite | (dsimp only [Keeps_mk]; with_reducible apply KeptOf.of) | split
    | (dsimp only [Keeps_mk]; apply KeptOf.of))

theorem Keeps.State_theftAtStart {a s : State} (h : Keeps a s) :
    Keeps a (State.theftAtStart s) := by
  unfold State.theftAtStart
  try dsimp only
  repeat' (first
    | with_reducible assumption | (with_reducible intro _) | with_reducible apply Keeps.State_set
    | with_reducible apply Keeps.State_raise | with_reducible apply Keeps.State_post
    | with_reducible apply Keeps.ite | (dsimp only [Keeps_mk]; with_reducible apply KeptOf.of) | split
    | (dsimp only [Keeps_mk]; apply KeptOf.of))

theorem Keeps.State_balanceJudge {a s : State} (h : Keeps a s) (d : DieId) (f : Nat) (u : Int) :
    Keeps a (State.balanceJudge s d f u) := by
  unfold State.balanceJudge
  try dsimp only
  repeat' (first
    | with_reducible assumption | (with_reducible intro _) | with_reducible apply Keeps.State_set
    | with_reducible apply Keeps.State_raise | with_reducible apply Keeps.State_post
    | with_reducible apply Keeps.ite | (dsimp only [Keeps_mk]; with_reducible apply KeptOf.of) | split
    | (dsimp only [Keeps_mk]; apply KeptOf.of))

theorem Keeps.State_balanceFeeder {a s : State} (h : Keeps a s) (d : DieId) (f : Nat) :
    Keeps a (State.balanceFeeder d s f) := by
  unfold State.balanceFeeder
  try dsimp only
  repeat' (first
    | with_reducible assumption | (with_reducible intro _) | with_reducible apply Keeps.State_setObj
    | with_reducible apply Keeps.State_set | with_reducible apply Keeps.State_draw
    | with_reducible apply Keeps.State_raise | with_reducible apply Keeps.State_setS
    | with_reducible apply Keeps.State_balanceJudge | with_reducible apply Keeps.ite | split)

theorem Keeps.State_balanceRestart {a s : State} (h : Keeps a s) :
    Keeps a (State.balanceRestart s) := by
  unfold State.balanceRestart
  try dsimp only
  repeat' (first
    | with_reducible assumption | (with_reducible intro _)
    | (dsimp only [Keeps_mk]; with_reducible apply KeptOf.of) | (dsimp only [Keeps_mk]; apply KeptOf.of))

theorem Keeps.by_execBalanceCheck {a s : State} (h : Keeps a s) :
    KeepsX a (execBalanceCheck s) := by
  unfold Sys2Proof.Machine.execBalanceCheck
  try dsimp only
  repeat' (first
    | with_reducible assumption | (with_reducible intro _) | with_reducible apply Keeps.State_balanceFeeder
    | with_reducible apply Keeps.State_balanceRestart | with_reducible apply Keeps.foldl
    | with_reducible apply Keeps.foldlP | with_reducible apply KeepsX.next | with_reducible apply KeepsX.ite
    | with_reducible apply Keeps.ite | split)

theorem Keeps.State_coldChanged {a s : State} (h : Keeps a s) (d : DieId) (e : Nat) (old : Cold) :
    Keeps a (State.coldChanged s d e old) := by
  unfold State.coldChanged
  try dsimp only
  repeat' (first
    | with_reducible assumption | (with_reducible intro _) | with_reducible apply Keeps.State_queueFrame
    | with_reducible apply Keeps.State_chainFallback | with_reducible apply Keeps.ite | split)

theorem Keeps.State_applyEp {a s : State} (h : Keeps a s) (d : DieId) (w : Mgmt) :
    Keeps a (State.applyEp s d w).1 := by
  unfold State.applyEp
  try dsimp only
  repeat' (first
    | with_reducible assumption | (with_reducible intro _) | with_reducible apply Keeps.State_setDie
    | with_reducible apply Keeps.State_coldChanged | with_reducible apply Keeps.State_chainUnbound
    | with_reducible apply Keeps.State_tellBinding | with_reducible apply Keeps.iteP
    | with_reducible apply Keeps.ite | split)

theorem Keeps.State_writeProfile {a s : State} (h : Keeps a s) (p : Nat) (sub : Nat) (v : Nat) :
    Keeps a (State.writeProfile s p sub v).1 := by
  unfold State.writeProfile
  try dsimp only
  repeat' (first
    | with_reducible assumption | (with_reducible intro _) | with_reducible apply Keeps.iteP
    | with_reducible apply Keeps.ite | (dsimp only [Keeps_mk]; with_reducible apply KeptOf.of) | split
    | (dsimp only [Keeps_mk]; apply KeptOf.of))

theorem Keeps.State_writeCurve {a s : State} (h : Keeps a s) (c : Nat) (point : Nat) (v : Nat) :
    Keeps a (State.writeCurve s c point v).1 := by
  unfold State.writeCurve
  try dsimp only
  repeat' (first
    | with_reducible assumption | (with_reducible intro _) | with_reducible apply Keeps.State_set
    | with_reducible apply Keeps.iteP | with_reducible apply Keeps.ite
    | (dsimp only [Keeps_mk]; with_reducible apply KeptOf.of) | split
    | (dsimp only [Keeps_mk]; apply KeptOf.of))

theorem Keeps.State_writeAgg {a s : State} (h : Keeps a s) (g : Nat) (b : List Byte) :
    Keeps a (State.writeAgg s g b).1 := by
  unfold State.writeAgg
  try dsimp only
  repeat' (first
    | with_reducible assumption | (with_reducible intro _) | with_reducible apply Keeps.iteP
    | with_reducible apply Keeps.ite | (dsimp only [Keeps_mk]; with_reducible apply KeptOf.of) | split
    | (dsimp only [Keeps_mk]; apply KeptOf.of))

theorem Keeps.State_authFail {a s : State} (h : Keeps a s) (d : DieId) :
    Keeps a (State.authFail s d) := by
  unfold State.authFail
  try dsimp only
  repeat' (first
    | with_reducible assumption | (with_reducible intro _) | with_reducible apply Keeps.State_addSat
    | with_reducible apply Keeps.State_raise | with_reducible apply Keeps.State_post)

theorem Keeps.State_applyShadow {a s : State} (h : Keeps a s) (d : DieId) :
    Keeps a (State.applyShadow s d).1 := by
  unfold State.applyShadow
  try dsimp only
  repeat' (first
    | with_reducible assumption | (with_reducible intro _) | with_reducible apply Keeps.State_setDie
    | with_reducible apply Keeps.State_applyEp | with_reducible apply Keeps.foldl
    | with_reducible apply Keeps.foldlP | with_reducible apply Keeps.iteP | with_reducible apply Keeps.ite
    | with_reducible refine Keeps.ofP (by assumption) ?_
    | (dsimp only [Keeps_mk]; with_reducible apply KeptOf.of) | split
    | (dsimp only [Keeps_mk]; apply KeptOf.of))

theorem Keeps.State_setRole {a s : State} (h : Keeps a s) (d : DieId) (r : Nat) :
    Keeps a (State.setRole s d r) := by
  unfold State.setRole
  try dsimp only
  repeat' (first
    | with_reducible assumption | (with_reducible intro _) | with_reducible apply Keeps.State_set)

theorem Keeps.State_twinPost {a s : State} (h : Keeps a s) (d : DieId) (code : Nat) (data : List Byte) :
    Keeps a (State.twinPost s d code data) := by
  unfold State.twinPost
  try dsimp only
  repeat' (first
    | with_reducible assumption | (with_reducible intro _) | with_reducible apply Keeps.State_post)

theorem Keeps.State_goProvisional {a s : State} (h : Keeps a s) (d : DieId) :
    Keeps a (State.goProvisional s d) := by
  unfold State.goProvisional
  try dsimp only
  repeat' (first
    | with_reducible assumption | (with_reducible intro _) | with_reducible apply Keeps.State_set
    | with_reducible apply Keeps.State_setSide | with_reducible apply Keeps.State_addSat
    | with_reducible apply Keeps.State_raise | with_reducible apply Keeps.ite
    | (dsimp only [Keeps_mk]; with_reducible apply KeptOf.of) | split
    | (dsimp only [Keeps_mk]; apply KeptOf.of))

theorem Keeps.State_sendMap {a s : State} (h : Keeps a s) (d : DieId) :
    Keeps a (State.sendMap s d) := by
  unfold State.sendMap
  try dsimp only
  repeat' (first
    | with_reducible assumption | (with_reducible intro _) | with_reducible apply Keeps.State_setDie
    | with_reducible apply Keeps.ite | (dsimp only [Keeps_mk]; with_reducible apply KeptOf.of) | split
    | (dsimp only [Keeps_mk]; apply KeptOf.of))

theorem Keeps.State_endMoves {a s : State} (h : Keeps a s) (d : DieId) :
    Keeps a (State.endMoves s d) := by
  unfold State.endMoves
  try dsimp only
  repeat' (first
    | with_reducible assumption | (with_reducible intro _) | with_reducible apply Keeps.State_setDie
    | with_reducible apply Keeps.State_sendMap)

theorem Keeps.State_exclude {a s : State} (h : Keeps a s) (d : DieId) (u : Nat) (on : Bool) :
    Keeps a (State.exclude s d u on) := by
  unfold State.exclude
  try dsimp only
  repeat' (first
    | with_reducible assumption | (with_reducible intro _) | with_reducible apply Keeps.State_set)

theorem Keeps.State_clearExcluded {a s : State} (h : Keeps a s) (d : DieId) :
    Keeps a (State.clearExcluded s d) := by
  unfold State.clearExcluded
  try dsimp only
  repeat' (first
    | with_reducible assumption | (with_reducible intro _) | with_reducible apply Keeps.State_set
    | with_reducible apply Keeps.foldl | with_reducible apply Keeps.foldlP)

theorem Keeps.State_leave {a s : State} (h : Keeps a s) (d : DieId) (r : Nat) :
    Keeps a (State.leave s d r) := by
  unfold State.leave
  try dsimp only
  repeat' (first
    | with_reducible assumption | (with_reducible intro _) | with_reducible apply Keeps.State_setRole
    | with_reducible apply Keeps.State_set | with_reducible apply Keeps.State_clearExcluded
    | with_reducible apply Keeps.State_setSide | with_reducible apply Keeps.State_endMoves
    | with_reducible apply Keeps.State_raise | with_reducible apply Keeps.State_releaseHeld
    | (dsimp only [Keeps_mk]; with_reducible apply KeptOf.of) | (dsimp only [Keeps_mk]; apply KeptOf.of))

theorem Keeps.State_releaseStage {a s : State} (h : Keeps a s) (cause : Nat) :
    Keeps a (State.releaseStage s cause) := by
  unfold State.releaseStage
  try dsimp only
  repeat' (first
    | with_reducible assumption | (with_reducible intro _) | with_reducible apply Keeps.State_setRole
    | with_reducible apply Keeps.State_setSide | with_reducible apply Keeps.State_endMoves
    | with_reducible apply Keeps.State_set | with_reducible apply Keeps.State_raise
    | with_reducible apply Keeps.State_twinPost | with_reducible apply Keeps.State_goProvisional
    | with_reducible apply Keeps.both | with_reducible apply Keeps.ite
    | (dsimp only [Keeps_mk]; with_reducible apply KeptOf.of) | split
    | (dsimp only [Keeps_mk]; apply KeptOf.of))

theorem Keeps.State_dieUnfit {a s : State} (h : Keeps a s) (d : DieId) :
    Keeps a (State.dieUnfit s d) := by
  unfold State.dieUnfit
  try dsimp only
  repeat' (first
    | with_reducible assumption | (with_reducible intro _) | with_reducible apply Keeps.State_releaseStage
    | with_reducible apply Keeps.State_leave | with_reducible apply Keeps.State_setRole
    | with_reducible apply Keeps.ite | split)

theorem Keeps.State_dieDiagnosis {a s : State} (h : Keeps a s) (d : DieId) (cause : Nat) :
    Keeps a (State.dieDiagnosis s d cause) := by
  unfold State.dieDiagnosis
  try dsimp only
  repeat' (first
    | with_reducible assumption | (with_reducible intro _) | with_reducible apply Keeps.State_releaseStage
    | with_reducible apply Keeps.State_leave | with_reducible apply Keeps.State_setSide
    | with_reducible apply Keeps.ite | (dsimp only [Keeps_mk]; with_reducible apply KeptOf.of) | split
    | (dsimp only [Keeps_mk]; apply KeptOf.of))

theorem Keeps.by_execStageRelease {a s : State} (h : Keeps a s) (cause : Fin 7) :
    KeepsX a (execStageRelease cause s) := by
  unfold Sys2Proof.Machine.execStageRelease
  try dsimp only
  repeat' (first
    | with_reducible assumption | (with_reducible intro _) | with_reducible apply Keeps.State_releaseStage
    | with_reducible apply KeepsX.next | with_reducible apply KeepsX.ite | with_reducible apply Keeps.ite
    | split)

theorem Keeps.by_execLockstepMismatch {a s : State} (h : Keeps a s) (d : DieId) :
    KeepsX a (execLockstepMismatch d s) := by
  unfold Sys2Proof.Machine.execLockstepMismatch
  try dsimp only
  repeat' (first
    | with_reducible assumption | (with_reducible intro _) | with_reducible apply Keeps.State_dieDiagnosis
    | with_reducible apply KeepsX.next)

theorem Keeps.by_execWatchdogExpiry {a s : State} (h : Keeps a s) (d : DieId) :
    KeepsX a (execWatchdogExpiry d s) := by
  unfold Sys2Proof.Machine.execWatchdogExpiry
  try dsimp only
  repeat' (first
    | with_reducible assumption | (with_reducible intro _) | with_reducible apply Keeps.State_dieDiagnosis
    | with_reducible apply KeepsX.next)

theorem Keeps.by_execCrossbarFault {a s : State} (h : Keeps a s) (d : DieId) :
    KeepsX a (execCrossbarFault d s) := by
  unfold Sys2Proof.Machine.execCrossbarFault
  try dsimp only
  repeat' (first
    | with_reducible assumption | (with_reducible intro _) | with_reducible apply Keeps.State_dieUnfit
    | with_reducible apply KeepsX.next)

theorem Keeps.by_execSweepOverrun {a s : State} (h : Keeps a s) (d : DieId) :
    KeepsX a (execSweepOverrun d s) := by
  unfold Sys2Proof.Machine.execSweepOverrun
  try dsimp only
  repeat' (first
    | with_reducible assumption | (with_reducible intro _) | with_reducible apply Keeps.State_addSat
    | with_reducible apply Keeps.State_raise | with_reducible apply Keeps.State_dieDiagnosis
    | with_reducible apply KeepsX.next)

theorem Keeps.State_handOver {a s : State} (h : Keeps a s) (d : DieId) :
    Keeps a (State.handOver s d).1 := by
  unfold State.handOver
  try dsimp only
  repeat' (first
    | with_reducible assumption | (with_reducible intro _) | with_reducible apply Keeps.iteP
    | with_reducible apply Keeps.ite | (dsimp only [Keeps_mk]; with_reducible apply KeptOf.of) | split
    | (dsimp only [Keeps_mk]; apply KeptOf.of))

theorem Keeps.State_selfTest {a s : State} (h : Keeps a s) (d : DieId) :
    Keeps a (State.selfTest s d).1 := by
  unfold State.selfTest
  try dsimp only
  repeat' (first
    | with_reducible assumption | (with_reducible intro _) | with_reducible apply Keeps.State_setSide
    | with_reducible apply Keeps.iteP | with_reducible apply Keeps.ite
    | (dsimp only [Keeps_mk]; with_reducible apply KeptOf.of) | split
    | (dsimp only [Keeps_mk]; apply KeptOf.of))

theorem Keeps.State_resyncFail {a s : State} (h : Keeps a s) (d : DieId) (reason : Nat) :
    Keeps a (State.resyncFail s d reason) := by
  unfold State.resyncFail
  try dsimp only
  repeat' (first
    | with_reducible assumption | (with_reducible intro _) | with_reducible apply Keeps.State_setSide
    | with_reducible apply Keeps.State_raise | with_reducible apply Keeps.State_twinPost
    | with_reducible apply Keeps.State_set | with_reducible apply Keeps.ite
    | (dsimp only [Keeps_mk]; with_reducible apply KeptOf.of) | split
    | (dsimp only [Keeps_mk]; apply KeptOf.of))

theorem Keeps.State_linkDown {a s : State} (h : Keeps a s) :
    Keeps a (State.linkDown s) := by
  unfold State.linkDown
  try dsimp only
  repeat' (first
    | with_reducible assumption | (with_reducible intro _) | with_reducible apply Keeps.State_set
    | with_reducible apply Keeps.State_addSat | with_reducible apply Keeps.State_raise
    | with_reducible apply Keeps.State_twinPost | with_reducible apply Keeps.State_leave
    | with_reducible apply Keeps.State_resyncFail | with_reducible apply Keeps.both
    | with_reducible apply Keeps.ite | (dsimp only [Keeps_mk]; with_reducible apply KeptOf.of) | split
    | (dsimp only [Keeps_mk]; apply KeptOf.of))

theorem Keeps.State_linkTrain {a s : State} (h : Keeps a s) (lanes : Nat) :
    Keeps a (State.linkTrain s lanes) := by
  unfold State.linkTrain
  try dsimp only
  repeat' (first
    | with_reducible assumption | (with_reducible intro _) | with_reducible apply Keeps.State_set
    | with_reducible apply Keeps.State_raiseIf | with_reducible apply Keeps.State_sendMap
    | with_reducible apply Keeps.both | with_reducible apply Keeps.ite | split)

theorem Keeps.by_execLinkPacketError {a s : State} (h : Keeps a s) (d : DieId) (again : Bool) :
    KeepsX a (execLinkPacketError d again s) := by
  unfold Sys2Proof.Machine.execLinkPacketError
  try dsimp only
  repeat' (first
    | with_reducible assumption | (with_reducible intro _) | with_reducible apply Keeps.State_linkDown
    | with_reducible apply Keeps.State_addSat | with_reducible apply KeepsX.next
    | with_reducible apply KeepsX.ite | with_reducible apply Keeps.ite
    | (dsimp only [Keeps_mk]; with_reducible apply KeptOf.of) | split
    | (dsimp only [Keeps_mk]; apply KeptOf.of))

theorem Keeps.by_execLaneFailure {a s : State} (h : Keeps a s) (lane : Fin 4) :
    KeepsX a (execLaneFailure lane s) := by
  unfold Sys2Proof.Machine.execLaneFailure
  try dsimp only
  repeat' (first
    | with_reducible assumption | (with_reducible intro _) | with_reducible apply Keeps.State_linkDown
    | with_reducible apply Keeps.State_linkTrain | with_reducible apply KeepsX.next
    | with_reducible apply KeepsX.ite | with_reducible apply Keeps.ite
    | (dsimp only [Keeps_mk]; with_reducible apply KeptOf.of) | split
    | (dsimp only [Keeps_mk]; apply KeptOf.of))

theorem Keeps.by_execLinkDown {a s : State} (h : Keeps a s) :
    KeepsX a (execLinkDown s) := by
  unfold Sys2Proof.Machine.execLinkDown
  try dsimp only
  repeat' (first
    | with_reducible assumption | (with_reducible intro _) | with_reducible apply Keeps.State_linkDown
    | with_reducible apply KeepsX.next)

theorem Keeps.by_execLinkRetrain {a s : State} (h : Keeps a s) (lanes : Fin 3) :
    KeepsX a (execLinkRetrain lanes s) := by
  unfold Sys2Proof.Machine.execLinkRetrain
  try dsimp only
  repeat' (first
    | with_reducible assumption | (with_reducible intro _) | with_reducible apply Keeps.State_linkTrain
    | with_reducible apply KeepsX.next | with_reducible apply KeepsX.ite | with_reducible apply Keeps.ite
    | split)

end Sys2Proof.Machine
end

