-- ==== Sys2Proof/Laws/KeepsTwin.lean ====
section
/-! SUPPORT. What the operations and commands of the ghost light, the keys, the greenroom, the callboard,
continuity, Ethernet and the tests keep. -/

namespace Sys2Proof.Machine

theorem Keeps.State_remapStatus {a s : State} (h : Keeps a s) (d : DieId) (u : Nat) (p : Nat) (result : Nat) :
    Keeps a (State.remapStatus s d u p result) := by
  unfold State.remapStatus
  try dsimp only
  repeat' (first
    | with_reducible assumption | (with_reducible intro _) | with_reducible apply Keeps.State_set)

theorem Keeps.State_startMove {a s : State} (h : Keeps a s) (d : DieId) (u : Nat) (loss : UnitLoss) (wait :
    Nat) (skipped : Nat) :
    Keeps a (State.startMove s d u loss wait skipped) := by
  unfold State.startMove
  try dsimp only
  repeat' (first
    | with_reducible assumption | (with_reducible intro _) | with_reducible apply Keeps.State_remapStatus
    | with_reducible apply Keeps.State_raise | with_reducible apply Keeps.State_dieUnfit
    | with_reducible apply Keeps.State_setDie | with_reducible apply Keeps.State_set
    | (dsimp only [Keeps_mk]; with_reducible apply KeptOf.of) | split
    | (dsimp only [Keeps_mk]; apply KeptOf.of))

theorem Keeps.State_shadowMoves {a s : State} (h : Keeps a s) (d : DieId) :
    Keeps a (State.shadowMoves s d) := by
  unfold State.shadowMoves
  try dsimp only
  repeat' (first
    | with_reducible assumption | (with_reducible intro _) | with_reducible apply Keeps.State_startMove
    | with_reducible apply Keeps.State_setDie | with_reducible apply Keeps.foldl
    | with_reducible apply Keeps.foldlP | with_reducible apply Keeps.ite
    | (dsimp only [Keeps_mk]; with_reducible apply KeptOf.of) | split
    | (dsimp only [Keeps_mk]; apply KeptOf.of))

theorem Keeps.State_moveNow {a s : State} (h : Keeps a s) (d : DieId) (u : Nat) :
    Keeps a (State.moveNow s d u) := by
  unfold State.moveNow
  try dsimp only
  repeat' (first
    | with_reducible assumption | (with_reducible intro _) | with_reducible apply Keeps.State_remapStatus
    | with_reducible apply Keeps.State_raise | with_reducible apply Keeps.State_dieUnfit
    | with_reducible apply Keeps.State_setDie | with_reducible apply Keeps.State_sendMap
    | (dsimp only [Keeps_mk]; with_reducible apply KeptOf.of) | split
    | (dsimp only [Keeps_mk]; apply KeptOf.of))

theorem Keeps.State_moveFailed {a s : State} (h : Keeps a s) (d : DieId) :
    Keeps a (State.moveFailed s d) := by
  unfold State.moveFailed
  try dsimp only
  repeat' (first
    | with_reducible assumption | (with_reducible intro _) | with_reducible apply Keeps.State_moveNow
    | with_reducible apply Keeps.State_setDie | with_reducible apply Keeps.foldl
    | with_reducible apply Keeps.foldlP | with_reducible apply Keeps.ite
    | (dsimp only [Keeps_mk]; with_reducible apply KeptOf.of) | split
    | (dsimp only [Keeps_mk]; apply KeptOf.of))

theorem Keeps.State_unitFail {a s : State} (h : Keeps a s) (d : DieId) (u : Nat) (loss : UnitLoss) :
    Keeps a (State.unitFail s d u loss) := by
  unfold State.unitFail
  try dsimp only
  repeat' (first
    | with_reducible assumption | (with_reducible intro _) | with_reducible apply Keeps.State_setDie
    | with_reducible apply Keeps.State_exclude | with_reducible apply Keeps.State_shadowMoves
    | with_reducible apply Keeps.State_moveNow | with_reducible apply Keeps.ite
    | (dsimp only [Keeps_mk]; with_reducible apply KeptOf.of) | split
    | (dsimp only [Keeps_mk]; apply KeptOf.of))

theorem Keeps.State_landMove {a s : State} (h : Keeps a s) (d : DieId) (m : Moving) :
    Keeps a (State.landMove s d m) := by
  unfold State.landMove
  try dsimp only
  repeat' (first
    | with_reducible assumption | (with_reducible intro _) | with_reducible apply Keeps.State_setDie
    | with_reducible apply Keeps.State_sendMap | with_reducible apply Keeps.State_remapStatus
    | with_reducible apply Keeps.State_set | with_reducible apply Keeps.State_exclude
    | with_reducible apply Keeps.State_raise | with_reducible apply Keeps.foldl
    | with_reducible apply Keeps.foldlP | with_reducible apply Keeps.ite
    | (dsimp only [Keeps_mk]; with_reducible apply KeptOf.of) | split
    | (dsimp only [Keeps_mk]; apply KeptOf.of))

theorem Keeps.State_passEnded {a s : State} (h : Keeps a s) (d : DieId) :
    Keeps a (State.passEnded s d) := by
  unfold State.passEnded
  try dsimp only
  repeat' (first
    | with_reducible assumption | (with_reducible intro _) | with_reducible apply Keeps.State_set
    | with_reducible apply Keeps.State_raise | with_reducible apply Keeps.ite | split)

theorem Keeps.State_latePass {a s : State} (h : Keeps a s) (d : DieId) (m : Moving) :
    Keeps a (State.latePass s d m) := by
  unfold State.latePass
  try dsimp only
  repeat' (first
    | with_reducible assumption | (with_reducible intro _) | with_reducible apply Keeps.State_setDie
    | with_reducible apply Keeps.State_flushTally | with_reducible apply Keeps.State_passEnded
    | with_reducible apply Keeps.foldl | with_reducible apply Keeps.foldlP)

theorem Keeps.by_execRemapSnapshotInstall {a s : State} (h : Keeps a s) (d : DieId) :
    KeepsX a (execRemapSnapshotInstall d s) := by
  unfold Sys2Proof.Machine.execRemapSnapshotInstall
  try dsimp only
  repeat' (first
    | with_reducible assumption | (with_reducible intro _) | with_reducible apply Keeps.State_landMove
    | with_reducible apply Keeps.State_latePass | with_reducible apply KeepsX.next
    | with_reducible apply KeepsX.ite | with_reducible apply Keeps.ite | split)

theorem Keeps.State_holderMove {a s : State} (h : Keeps a s) (d : DieId) (x : Nat × UnitLoss × Nat) :
    Keeps a (State.holderMove d s x) := by
  unfold State.holderMove
  try dsimp only
  repeat' (first
    | with_reducible assumption | (with_reducible intro _) | with_reducible apply Keeps.State_draw
    | with_reducible apply Keeps.State_startMove | with_reducible apply Keeps.ite | split)

theorem Keeps.State_holderMoves {a s : State} (h : Keeps a s) (d : DieId) :
    Keeps a (State.holderMoves s d) := by
  unfold State.holderMoves
  try dsimp only
  repeat' (first
    | with_reducible assumption | (with_reducible intro _) | with_reducible apply Keeps.State_setDie
    | with_reducible apply Keeps.State_holderMove | with_reducible apply Keeps.State_landMove
    | with_reducible apply Keeps.State_post | with_reducible apply Keeps.foldl
    | with_reducible apply Keeps.foldlP | with_reducible apply Keeps.ite
    | (dsimp only [Keeps_mk]; with_reducible apply KeptOf.of) | split
    | (dsimp only [Keeps_mk]; apply KeptOf.of))

theorem Keeps.State_restoreMoves {a s : State} (h : Keeps a s) (d : DieId) :
    Keeps a (State.restoreMoves s d) := by
  unfold State.restoreMoves
  try dsimp only
  repeat' (first
    | with_reducible assumption | (with_reducible intro _) | with_reducible apply Keeps.State_setDie
    | with_reducible apply Keeps.State_landMove | with_reducible apply Keeps.foldl
    | with_reducible apply Keeps.foldlP | (dsimp only [Keeps_mk]; with_reducible apply KeptOf.of)
    | (dsimp only [Keeps_mk]; apply KeptOf.of))

theorem Keeps.by_execUnitFailure {a s : State} (h : Keeps a s) (d : DieId) (u : Fin 256) (loss : UnitLoss) :
    KeepsX a (execUnitFailure d u loss s) := by
  unfold Sys2Proof.Machine.execUnitFailure
  try dsimp only
  repeat' (first
    | with_reducible assumption | (with_reducible intro _) | with_reducible apply Keeps.State_unitFail
    | with_reducible apply KeepsX.next)

theorem Keeps.State_remapCommand {a s : State} (h : Keeps a s) (d : DieId) (w : Nat) :
    Keeps a (State.remapCommand s d w) := by
  unfold State.remapCommand
  try dsimp only
  repeat' (first
    | with_reducible assumption | (with_reducible intro _) | with_reducible apply Keeps.State_unitFail
    | with_reducible apply Keeps.ite | (dsimp only [Keeps_mk]; with_reducible apply KeptOf.of) | split)

theorem Keeps.by_execRemapCommand {a s : State} (h : Keeps a s) (d : DieId) (w : Word) :
    KeepsX a (execRemapCommand d w s) := by
  unfold Sys2Proof.Machine.execRemapCommand
  try dsimp only
  repeat' (first
    | with_reducible assumption | (with_reducible intro _) | with_reducible apply Keeps.State_remapCommand
    | with_reducible apply KeepsX.next)

theorem Keeps.by_execUnitResyncInstall {a s : State} (h : Keeps a s) (d : DieId) (u : Fin 256) :
    KeepsX a (execUnitResyncInstall d u s) := by
  unfold Sys2Proof.Machine.execUnitResyncInstall
  try dsimp only
  repeat' (first
    | with_reducible assumption | (with_reducible intro _) | with_reducible apply Keeps.State_setDie
    | with_reducible apply KeepsX.next | (dsimp only [Keeps_mk]; with_reducible apply KeptOf.of) | split
    | (dsimp only [Keeps_mk]; apply KeptOf.of))

theorem Keeps.State_retireOrFail {a s : State} (h : Keeps a s) (d : DieId) (bank : Nat) (row : Nat) :
    Keeps a (State.retireOrFail s d bank row) := by
  unfold State.retireOrFail
  try dsimp only
  repeat' (first
    | with_reducible assumption | (with_reducible intro _) | with_reducible apply Keeps.State_retireRow
    | with_reducible refine Keeps.ofO (by assumption) ?_ | with_reducible apply Keeps.State_post
    | with_reducible apply Keeps.State_dieUnfit | with_reducible apply KeepsO.some
    | with_reducible apply KeepsO.none | split)

theorem Keeps.State_scrub {a s : State} (h : Keeps a s) (d : DieId) (bank : Nat) (row : Nat) (word : Nat) (bits
    : Nat) :
    Keeps a (State.scrub s d bank row word bits) := by
  unfold State.scrub
  try dsimp only
  repeat' (first
    | with_reducible assumption | (with_reducible intro _) | with_reducible apply Keeps.State_setDie
    | with_reducible apply Keeps.State_set | with_reducible apply Keeps.State_addSat
    | with_reducible apply Keeps.State_retireOrFail | with_reducible apply Keeps.ite
    | (dsimp only [Keeps_mk]; with_reducible apply KeptOf.of) | split
    | (dsimp only [Keeps_mk]; apply KeptOf.of))

theorem Keeps.by_execScrubPass {a s : State} (h : Keeps a s) (d : DieId) (bank : Fin 4) (row : Fin 65536) (word
    : Fin 32) (bits : Fin 3) :
    KeepsX a (execScrubPass d bank row word bits s) := by
  unfold Sys2Proof.Machine.execScrubPass
  try dsimp only
  repeat' (first
    | with_reducible assumption | (with_reducible intro _) | with_reducible apply Keeps.State_scrub
    | with_reducible apply KeepsX.next)

theorem Keeps.State_unrepaired {a s : State} (h : Keeps a s) (d : DieId) (bank : Nat) (row : Nat) (word : Nat) :
    Keeps a (State.unrepaired s d bank row word) := by
  unfold State.unrepaired
  try dsimp only
  repeat' (first
    | with_reducible assumption | (with_reducible intro _) | with_reducible apply Keeps.State_setDie
    | with_reducible apply Keeps.State_post | with_reducible apply Keeps.State_dieDiagnosis
    | (dsimp only [Keeps_mk]; with_reducible apply KeptOf.of) | split
    | (dsimp only [Keeps_mk]; apply KeptOf.of))

theorem Keeps.by_execMramUncorrectable {a s : State} (h : Keeps a s) (d : DieId) (bank : Fin 4) (row : Fin
    65536) (word : Fin 32) (sound : Bool) :
    KeepsX a (execMramUncorrectable d bank row word sound s) := by
  unfold Sys2Proof.Machine.execMramUncorrectable
  try dsimp only
  repeat' (first
    | with_reducible assumption | (with_reducible intro _) | with_reducible apply Keeps.State_addSat
    | with_reducible apply Keeps.State_raise | with_reducible apply Keeps.State_set
    | with_reducible apply Keeps.State_retireRow | with_reducible refine Keeps.ofO (by assumption) ?_
    | with_reducible apply Keeps.State_addWrap | with_reducible apply Keeps.State_retireOrFail
    | with_reducible apply Keeps.State_unrepaired | with_reducible apply KeepsX.next
    | with_reducible apply KeepsX.ite | with_reducible apply Keeps.ite | with_reducible apply KeepsO.some
    | with_reducible apply KeepsO.none | with_reducible apply KeepsO.ite | split)

theorem Keeps.State_strike {a s : State} (h : Keeps a s) (d : DieId) (phys : Nat) :
    Keeps a (State.strike s d phys) := by
  unfold State.strike
  try dsimp only
  repeat' (first
    | with_reducible assumption | (with_reducible intro _) | with_reducible apply Keeps.State_unitStrike
    | with_reducible apply Keeps.State_unitFail | with_reducible apply Keeps.ite
    | with_reducible apply Keeps.iteP | with_reducible refine Keeps.ofP (by assumption) ?_
    | (dsimp only [Keeps_mk]; with_reducible apply KeptOf.of) | split
    | (dsimp only [Keeps_mk]; apply KeptOf.of))

theorem Keeps.by_execArbCutoff {a s : State} (h : Keeps a s) (d : DieId) (a_ : Fin 256) (clocks : Nat) :
    KeepsX a (execArbCutoff d a_ clocks s) := by
  unfold Sys2Proof.Machine.execArbCutoff
  try dsimp only
  repeat' (first
    | with_reducible assumption | (with_reducible intro _) | with_reducible apply Keeps.State_cutOff
    | with_reducible apply Keeps.State_strike | with_reducible apply Keeps.State_setArb
    | with_reducible apply KeepsX.next | with_reducible apply KeepsX.ite | with_reducible apply Keeps.ite
    | split)

theorem Keeps.by_execDataPlaneInput {a s : State} (h : Keeps a s) :
    KeepsX a (execDataPlaneInput s) := by
  unfold Sys2Proof.Machine.execDataPlaneInput
  try dsimp only
  repeat' (first
    | with_reducible assumption | (with_reducible intro _) | with_reducible apply Keeps.State_setDie
    | with_reducible apply Keeps.State_journalData | with_reducible apply KeepsX.next
    | with_reducible apply KeepsX.ite | with_reducible apply Keeps.ite
    | (dsimp only [Keeps_mk]; with_reducible apply KeptOf.of) | split
    | (dsimp only [Keeps_mk]; apply KeptOf.of))

theorem Keeps.State_epochOpen {a s : State} (h : Keeps a s) (d : DieId) (phase : Nat) (ins : List DataIn) :
    Keeps a (State.epochOpen s d phase ins) := by
  unfold State.epochOpen
  try dsimp only
  repeat' (first
    | with_reducible assumption | (with_reducible intro _) | with_reducible apply Keeps.State_setDie
    | with_reducible apply Keeps.State_namedPhase | with_reducible apply Keeps.State_flushTally
    | with_reducible apply Keeps.State_flushNodeOps | with_reducible apply Keeps.foldl
    | with_reducible apply Keeps.foldlP)

theorem Keeps.State_runCounted {a s : State} (h : Keeps a s) (d : DieId) (x : Nat × Nat) :
    Keeps a (State.runCounted d s x) := by
  unfold State.runCounted
  try dsimp only
  repeat' (first
    | with_reducible assumption | (with_reducible intro _) | with_reducible apply Keeps.State_setDie
    | with_reducible apply Keeps.State_flushTally | with_reducible apply Keeps.foldl
    | with_reducible apply Keeps.foldlP | with_reducible apply Keeps.ite
    | (dsimp only [Keeps_mk]; with_reducible apply KeptOf.of) | split
    | (dsimp only [Keeps_mk]; apply KeptOf.of))

theorem Keeps.State_shadowMark {a s : State} (h : Keeps a s) (d : DieId) (phase : Nat) (counts : List (Nat ×
    Nat)) :
    Keeps a (State.shadowMark s d phase counts) := by
  unfold State.shadowMark
  try dsimp only
  repeat' (first
    | with_reducible assumption | (with_reducible intro _) | with_reducible apply Keeps.State_setDie
    | with_reducible apply Keeps.State_setSide | with_reducible apply Keeps.State_runCounted
    | with_reducible apply Keeps.State_epochOpen | with_reducible apply Keeps.foldl
    | with_reducible apply Keeps.foldlP | with_reducible apply Keeps.State_atCycle
    | with_reducible exact Keeps.refl _ | with_reducible apply Keeps.ite
    | (dsimp only [Keeps_mk]; with_reducible apply KeptOf.of) | split
    | (dsimp only [Keeps_mk]; apply KeptOf.of))

theorem Keeps.State_receive {a s : State} (h : Keeps a s) (d : DieId) (p : Packet) :
    Keeps a (State.receive s d p).1 := by
  unfold State.receive
  try dsimp only
  repeat' (first
    | with_reducible assumption | (with_reducible intro _) | with_reducible apply Keeps.State_leave
    | with_reducible apply Keeps.State_setSide | with_reducible apply Keeps.iteP
    | with_reducible apply Keeps.ite | (dsimp only [Keeps_mk]; with_reducible apply KeptOf.of) | split
    | (dsimp only [Keeps_mk]; apply KeptOf.of))

theorem Keeps.State_drainMarks {a s : State} (h : Keeps a s) (n : Nat) : Keeps a (State.drainMarks n s) := by
  induction n generalizing s with
  | zero => exact h
  | succ n ih =>
    unfold State.drainMarks
    split
    · rename_i p rest e
      split
      · rename_i ph counts hc
        have h1 : Keeps a (State.receive { s with journal := { s.journal with link := rest } } p.toDie p).1 :=
            by
          apply Keeps.State_receive
          dsimp only [Keeps_mk]
          exact KeptOf.of h
        dsimp only
        apply ih
        split
        · exact h1.State_shadowMark _ _ _
        · exact h1
      · exact h
    · exact h

theorem Keeps.State_take {a s : State} (h : Keeps a s) (mine : Rec → Bool) {f : State → DieId → Rec → State}
    (hf : ∀ t d r, Keeps a t → Keeps a (f t d r)) : Keeps a (State.take s mine f) := by
  unfold State.take
  split
  · split
    · dsimp only
      apply Keeps.State_drainMarks
      have h1 (p : Packet) (rest : List Packet) : Keeps a
          (State.receive { s with journal := { s.journal with link := rest } } p.toDie p).1 := by
        apply Keeps.State_receive
        dsimp only [Keeps_mk]
        exact KeptOf.of h
      split
      · exact hf _ _ _ (h1 _ _)
      · exact h1 _ _
    · exact h
  · exact h

theorem Keeps.by_execDataWriteRecord {a s : State} (h : Keeps a s) :
    KeepsX a (execDataWriteRecord s) := by
  unfold Sys2Proof.Machine.execDataWriteRecord
  try dsimp only
  repeat' (first
    | with_reducible assumption | (with_reducible intro _) | with_reducible apply Keeps.State_take
    | with_reducible apply Keeps.State_setDie | with_reducible apply Keeps.State_setSide
    | with_reducible apply KeepsX.next | (dsimp only [Keeps_mk]; with_reducible apply KeptOf.of) | split
    | (dsimp only [Keeps_mk]; apply KeptOf.of))

theorem Keeps.by_execManagementWriteRecord {a s : State} (h : Keeps a s) :
    KeepsX a (execManagementWriteRecord s) := by
  unfold Sys2Proof.Machine.execManagementWriteRecord
  try dsimp only
  repeat' (first
    | with_reducible assumption | (with_reducible intro _) | with_reducible apply Keeps.State_take
    | with_reducible apply Keeps.State_setDie | with_reducible apply KeepsX.next
    | (dsimp only [Keeps_mk]; with_reducible apply KeptOf.of) | split
    | (dsimp only [Keeps_mk]; apply KeptOf.of))

theorem Keeps.by_execCueFixRecord {a s : State} (h : Keeps a s) :
    KeepsX a (execCueFixRecord s) := by
  unfold Sys2Proof.Machine.execCueFixRecord
  try dsimp only
  repeat' (first
    | with_reducible assumption | (with_reducible intro _) | with_reducible apply Keeps.State_take
    | with_reducible apply Keeps.State_setCues | with_reducible apply KeepsX.next | split)

theorem Keeps.by_execScheduleOccurrenceRecord {a s : State} (h : Keeps a s) :
    KeepsX a (execScheduleOccurrenceRecord s) := by
  unfold Sys2Proof.Machine.execScheduleOccurrenceRecord
  try dsimp only
  repeat' (first
    | with_reducible assumption | (with_reducible intro _) | with_reducible apply Keeps.State_take
    | with_reducible apply Keeps.State_setCues | with_reducible apply KeepsX.next
    | with_reducible apply KeepsX.ite | with_reducible apply Keeps.ite
    | (dsimp only [Keeps_mk]; with_reducible apply KeptOf.of) | split
    | (dsimp only [Keeps_mk]; apply KeptOf.of))

theorem Keeps.by_execMeteringRecord {a s : State} (h : Keeps a s) :
    KeepsX a (execMeteringRecord s) := by
  unfold Sys2Proof.Machine.execMeteringRecord
  try dsimp only
  repeat' (first
    | with_reducible assumption | (with_reducible intro _) | with_reducible apply Keeps.State_take
    | with_reducible apply Keeps.State_setDie | with_reducible apply KeepsX.next | split)

theorem Keeps.by_execCommitTotalsRecord {a s : State} (h : Keeps a s) :
    KeepsX a (execCommitTotalsRecord s) := by
  unfold Sys2Proof.Machine.execCommitTotalsRecord
  try dsimp only
  repeat' (first
    | with_reducible assumption | (with_reducible intro _) | with_reducible apply Keeps.State_take
    | with_reducible apply Keeps.State_setSide | with_reducible apply Keeps.foldl
    | with_reducible apply Keeps.foldlP | with_reducible apply KeepsX.next
    | (dsimp only [Keeps_mk]; with_reducible apply KeptOf.of) | split
    | (dsimp only [Keeps_mk]; apply KeptOf.of))

theorem Keeps.by_execReservedRecord {a s : State} (h : Keeps a s) (d : DieId) :
    KeepsX a (execReservedRecord d s) := by
  unfold Sys2Proof.Machine.execReservedRecord
  try dsimp only
  repeat' (first
    | with_reducible assumption | (with_reducible intro _) | with_reducible apply Keeps.State_leave
    | with_reducible apply KeepsX.next | with_reducible apply KeepsX.ite | with_reducible apply Keeps.ite
    | split)

theorem Keeps.State_closeDie {a s : State} (h : Keeps a s) (d : DieId) :
    Keeps a (State.closeDie s d) := by
  unfold State.closeDie
  try dsimp only
  repeat' (first
    | with_reducible assumption | (with_reducible intro _) | with_reducible apply Keeps.State_setDie
    | with_reducible apply Keeps.State_set | with_reducible apply Keeps.State_emits
    | with_reducible apply Keeps.State_addSat | with_reducible apply Keeps.State_raiseIf
    | with_reducible apply Keeps.ite | (dsimp only [Keeps_mk]; with_reducible apply KeptOf.of) | split
    | (dsimp only [Keeps_mk]; apply KeptOf.of))

theorem Keeps.State_openDie {a s : State} (h : Keeps a s) (d : DieId) (changed : List Nat) :
    Keeps a (State.openDie s d changed) := by
  unfold State.openDie
  try dsimp only
  repeat' (first
    | with_reducible assumption | (with_reducible intro _) | with_reducible apply Keeps.State_takeRules
    | with_reducible apply Keeps.State_cueBoundary | with_reducible apply Keeps.State_setDie
    | with_reducible apply Keeps.State_flushTally | with_reducible apply Keeps.State_setSide
    | with_reducible apply Keeps.State_draw | with_reducible apply Keeps.State_set
    | with_reducible apply Keeps.State_passEnded | with_reducible apply Keeps.State_flushNodeOps
    | (dsimp only [Keeps_mk]; with_reducible apply KeptOf.of) | (dsimp only [Keeps_mk]; apply KeptOf.of))

theorem Keeps.State_commitMarker {a s : State} (h : Keeps a s) (d : DieId) (gaveUp : Bool) :
    Keeps a (State.commitMarker s d gaveUp) := by
  unfold State.commitMarker
  try dsimp only
  repeat' (first
    | with_reducible assumption | (with_reducible intro _) | with_reducible apply Keeps.State_journalPacket
    | with_reducible apply Keeps.State_set | (dsimp only [Keeps_mk]; with_reducible apply KeptOf.of)
    | (dsimp only [Keeps_mk]; apply KeptOf.of))

theorem Keeps.State_markOn {a s : State} (h : Keeps a s) (d : DieId) (e : Nat) :
    Keeps a (State.markOn s d e) := by
  unfold State.markOn
  try dsimp only
  repeat' (first
    | with_reducible assumption | (with_reducible intro _) | with_reducible apply Keeps.State_setSide
    | with_reducible apply Keeps.State_setDie | with_reducible apply Keeps.State_epochOpen
    | (dsimp only [Keeps_mk]; with_reducible apply KeptOf.of) | (dsimp only [Keeps_mk]; apply KeptOf.of))

theorem Keeps.by_execEpochMark {a s : State} (h : Keeps a s) (e : Fin 1024) :
    KeepsX a (execEpochMark e s) := by
  unfold Sys2Proof.Machine.execEpochMark
  try dsimp only
  repeat' (first
    | with_reducible assumption | (with_reducible intro _) | with_reducible apply Keeps.State_take
    | with_reducible apply Keeps.State_journalPacket | with_reducible apply Keeps.State_markOn
    | with_reducible apply Keeps.State_drainMarks | with_reducible apply Keeps.both
    | with_reducible apply KeepsX.next | with_reducible apply KeepsX.ite | with_reducible apply Keeps.ite
    | split)

theorem Keeps.by_execJournalAck {a s : State} (h : Keeps a s) :
    KeepsX a (execJournalAck s) := by
  unfold Sys2Proof.Machine.execJournalAck
  try dsimp only
  repeat' (first
    | with_reducible assumption | (with_reducible intro _) | with_reducible apply Keeps.State_releaseHeld
    | with_reducible apply KeepsX.next | (dsimp only [Keeps_mk]; with_reducible apply KeptOf.of)
    | (dsimp only [Keeps_mk]; apply KeptOf.of))

theorem Keeps.State_judgeFit {a s : State} (h : Keeps a s) (d : DieId) (w : Option Bool) :
    Keeps a (State.judgeFit s d w) := by
  unfold State.judgeFit
  try dsimp only
  repeat' (first
    | with_reducible assumption | (with_reducible intro _) | with_reducible apply Keeps.State_set)

theorem Keeps.State_judgeSilence {a s : State} (h : Keeps a s) (w : Option Bool) :
    Keeps a (State.judgeSilence s w) := by
  unfold State.judgeSilence
  try dsimp only
  repeat' (first
    | with_reducible assumption | (with_reducible intro _) | with_reducible apply Keeps.State_releaseStage
    | with_reducible apply Keeps.State_raise | with_reducible apply Keeps.ite
    | (dsimp only [Keeps_mk]; with_reducible apply KeptOf.of) | split
    | (dsimp only [Keeps_mk]; apply KeptOf.of))

theorem Keeps.State_settle {a s : State} (h : Keeps a s) (d : DieId) (u : Nat) (result : Nat) :
    Keeps a (State.settle s d u result) := by
  unfold State.settle
  try dsimp only
  repeat' (first
    | with_reducible assumption | (with_reducible intro _) | with_reducible apply Keeps.State_set
    | with_reducible apply Keeps.State_raise | with_reducible apply Keeps.State_unitFail
    | with_reducible apply Keeps.State_setDie | with_reducible apply Keeps.both
    | with_reducible apply Keeps.ite | (dsimp only [Keeps_mk]; with_reducible apply KeptOf.of) | split
    | (dsimp only [Keeps_mk]; apply KeptOf.of))

theorem Keeps.State_disputeStep {a s : State} (h : Keeps a s) (bad : List BadDigest) (d : DieId) (x : Dispute) :
    Keeps a (State.disputeStep bad d s x) := by
  unfold State.disputeStep
  try dsimp only
  repeat' (first
    | with_reducible assumption | (with_reducible intro _) | with_reducible apply Keeps.State_settle
    | with_reducible apply Keeps.ite | (dsimp only [Keeps_mk]; with_reducible apply KeptOf.of) | split
    | (dsimp only [Keeps_mk]; apply KeptOf.of))

theorem Keeps.State_openDispute {a s : State} (h : Keeps a s) (d : DieId) (u : Nat) :
    Keeps a (State.openDispute d s u) := by
  unfold State.openDispute
  try dsimp only
  repeat' (first
    | with_reducible assumption | (with_reducible intro _) | with_reducible apply Keeps.State_setDie
    | with_reducible apply Keeps.State_addSat | with_reducible apply Keeps.State_raise
    | with_reducible apply Keeps.State_twinPost | with_reducible apply Keeps.both
    | with_reducible apply Keeps.ite | (dsimp only [Keeps_mk]; with_reducible apply KeptOf.of) | split
    | (dsimp only [Keeps_mk]; apply KeptOf.of))

theorem Keeps.State_compareDigests {a s : State} (h : Keeps a s) (bad : List BadDigest) :
    Keeps a (State.compareDigests s bad) := by
  unfold State.compareDigests
  try dsimp only
  repeat' (first
    | with_reducible assumption | (with_reducible intro _) | with_reducible apply Keeps.State_set
    | with_reducible apply Keeps.State_addSat | with_reducible apply Keeps.State_raiseIf
    | with_reducible apply Keeps.State_disputeStep | with_reducible apply Keeps.State_openDispute
    | with_reducible apply Keeps.both | with_reducible apply Keeps.foldl | with_reducible apply Keeps.foldlP
    | with_reducible apply Keeps.ite | split)

theorem Keeps.by_execHealthDeadline {a s : State} (h : Keeps a s) (a_ : Option Bool) (b : Option Bool) (bad :
    List BadDigest) :
    KeepsX a (execHealthDeadline a_ b bad s) := by
  unfold Sys2Proof.Machine.execHealthDeadline
  try dsimp only
  repeat' (first
    | with_reducible assumption | (with_reducible intro _) | with_reducible apply Keeps.State_judgeFit
    | with_reducible apply Keeps.State_judgeSilence | with_reducible apply Keeps.State_compareDigests
    | with_reducible apply KeepsX.next | with_reducible apply KeepsX.ite | with_reducible apply Keeps.ite
    | split)

theorem Keeps.State_forwardAlone {a s : State} (h : Keeps a s) (d : DieId) :
    Keeps a (State.forwardAlone s d) := by
  unfold State.forwardAlone
  try dsimp only
  repeat' (first
    | with_reducible assumption | (with_reducible intro _) | with_reducible apply Keeps.State_setDie
    | with_reducible apply Keeps.State_addWrap | with_reducible apply Keeps.ite
    | (dsimp only [Keeps_mk]; with_reducible apply KeptOf.of) | split
    | (dsimp only [Keeps_mk]; apply KeptOf.of))

theorem Keeps.by_execResyncRequest {a s : State} (h : Keeps a s) (d : DieId) :
    KeepsX a (execResyncRequest d s) := by
  unfold Sys2Proof.Machine.execResyncRequest
  try dsimp only
  repeat' (first
    | with_reducible assumption | (with_reducible intro _) | with_reducible apply Keeps.State_raise
    | with_reducible apply Keeps.State_set | with_reducible apply Keeps.State_forwardAlone
    | with_reducible apply KeepsX.next | with_reducible apply KeepsX.ite | with_reducible apply Keeps.ite
    | split)

theorem Keeps.by_execResyncCopyDone {a s : State} (h : Keeps a s) (d : DieId) :
    KeepsX a (execResyncCopyDone d s) := by
  unfold Sys2Proof.Machine.execResyncCopyDone
  try dsimp only
  repeat' (first
    | with_reducible assumption | (with_reducible intro _) | with_reducible apply Keeps.State_set
    | with_reducible apply KeepsX.next | with_reducible apply KeepsX.ite | with_reducible apply Keeps.ite
    | split)

theorem Keeps.by_execResyncRestart {a s : State} (h : Keeps a s) (d : DieId) :
    KeepsX a (execResyncRestart d s) := by
  unfold Sys2Proof.Machine.execResyncRestart
  try dsimp only
  repeat' (first
    | with_reducible assumption | (with_reducible intro _) | with_reducible apply Keeps.State_resyncFail
    | with_reducible apply KeepsX.next | with_reducible apply KeepsX.ite | with_reducible apply Keeps.ite
    | split)

theorem Keeps.State_respond {a s : State} (h : Keeps a s) (session : Nat) (request : Nat) (after : Nat) (b :
    List Byte) :
    Keeps a (State.respond s session request after b) := by
  unfold State.respond
  try dsimp only
  repeat' (first
    | with_reducible assumption | (with_reducible intro _) | with_reducible apply Keeps.State_mirror
    | with_reducible apply Keeps.State_releaseHeld | (dsimp only [Keeps_mk]; with_reducible apply KeptOf.of)
    | (dsimp only [Keeps_mk]; apply KeptOf.of))

theorem Keeps.State_countBusy {a s : State} (h : Keeps a s) (st : Nat) :
    Keeps a (State.countBusy s st) := by
  unfold State.countBusy
  try dsimp only
  repeat' (first
    | with_reducible assumption | (with_reducible intro _) | with_reducible apply Keeps.State_objSat
    | with_reducible apply Keeps.ite | split)

theorem Keeps.State_objViolate {a s : State} (h : Keeps a s) (session : Nat) (idx : Nat) (sub : Nat) (st : Nat)
    :
    Keeps a (State.objViolate s session idx sub st) := by
  unfold State.objViolate
  try dsimp only
  repeat' (first
    | with_reducible assumption | (with_reducible intro _) | with_reducible apply Keeps.State_objSat
    | with_reducible apply Keeps.State_setOct | with_reducible apply Keeps.State_post
    | with_reducible apply Keeps.ite | split)

theorem Keeps.State_countStatus {a s : State} (h : Keeps a s) (session : Nat) (idx : Nat) (sub : Nat) (st :
    Nat) :
    Keeps a (State.countStatus s session idx sub st) := by
  unfold State.countStatus
  try dsimp only
  repeat' (first
    | with_reducible assumption | (with_reducible intro _) | with_reducible apply Keeps.State_countBusy
    | with_reducible apply Keeps.State_objViolate)

theorem Keeps.State_settleItem {a s : State} (h : Keeps a s) (who : Option (Nat × Nat × Nat)) (st : Nat) :
    Keeps a (State.settleItem s who st) := by
  unfold State.settleItem
  try dsimp only
  repeat' (first
    | with_reducible assumption | (with_reducible intro _) | with_reducible apply Keeps.State_respond
    | with_reducible apply Keeps.ite | (dsimp only [Keeps_mk]; with_reducible apply KeptOf.of) | split
    | (dsimp only [Keeps_mk]; apply KeptOf.of))

theorem Keeps.State_dropPointers {a s : State} (h : Keeps a s) (keep : Nat → Bool) :
    Keeps a (State.dropPointers s keep) := by
  unfold State.dropPointers
  try dsimp only
  repeat' (first
    | with_reducible assumption | (with_reducible intro _)
    | (dsimp only [Keeps_mk]; with_reducible apply KeptOf.of) | (dsimp only [Keeps_mk]; apply KeptOf.of))

theorem Keeps.State_closeSessions {a s : State} (h : Keeps a s) (which : Nat → Session → Bool) :
    Keeps a (State.closeSessions s which) := by
  unfold State.closeSessions
  try dsimp only
  repeat' (first
    | with_reducible assumption | (with_reducible intro _) | with_reducible apply Keeps.State_dropPointers
    | with_reducible apply Keeps.ite | (dsimp only [Keeps_mk]; with_reducible apply KeptOf.of) | split
    | (dsimp only [Keeps_mk]; apply KeptOf.of))

theorem Keeps.State_answer {a s : State} (h : Keeps a s) (w : Mgmt) (st : Nat) :
    Keeps a (State.answer s w st) := by
  unfold State.answer
  try dsimp only
  repeat' (first
    | with_reducible assumption | (with_reducible intro _) | with_reducible apply Keeps.State_countStatus
    | with_reducible apply Keeps.State_settleItem | split)

theorem Keeps.State_backupTick {a s : State} (h : Keeps a s) :
    Keeps a (State.backupTick s) := by
  unfold State.backupTick
  try dsimp only
  repeat' (first
    | with_reducible assumption | (with_reducible intro _) | with_reducible apply Keeps.State_set
    | with_reducible apply Keeps.ite | (dsimp only [Keeps_mk]; with_reducible apply KeptOf.of) | split
    | (dsimp only [Keeps_mk]; apply KeptOf.of))

theorem Keeps.by_execRtcTick {a s : State} (h : Keeps a s) :
    KeepsX a (execRtcTick s) := by
  unfold Sys2Proof.Machine.execRtcTick
  try dsimp only
  repeat' (first
    | with_reducible assumption | (with_reducible intro _) | with_reducible apply Keeps.State_backupTick
    | with_reducible apply KeepsX.next | with_reducible apply KeepsX.ite | with_reducible apply Keeps.ite
    | (dsimp only [Keeps_mk]; with_reducible apply KeptOf.of) | split
    | (dsimp only [Keeps_mk]; apply KeptOf.of))

theorem Keeps.State_rtcFreeze {a s : State} (h : Keeps a s) (p : Port) :
    Keeps a (State.rtcFreeze s p) := by
  unfold State.rtcFreeze
  try dsimp only
  repeat' (first
    | with_reducible assumption | (with_reducible intro _) | with_reducible apply Keeps.State_mirror
    | (dsimp only [Keeps_mk]; with_reducible apply KeptOf.of) | (dsimp only [Keeps_mk]; apply KeptOf.of))

theorem Keeps.State_rtcRelease {a s : State} (h : Keeps a s) (p : Port) :
    Keeps a (State.rtcRelease s p) := by
  unfold State.rtcRelease
  try dsimp only
  repeat' (first
    | with_reducible assumption | (with_reducible intro _)
    | (dsimp only [Keeps_mk]; with_reducible apply KeptOf.of) | (dsimp only [Keeps_mk]; apply KeptOf.of))

theorem Keeps.by_execRtcLoRead {a s : State} (h : Keeps a s) (p : Port) :
    KeepsX a (execRtcLoRead p s) := by
  unfold Sys2Proof.Machine.execRtcLoRead
  try dsimp only
  repeat' (first
    | with_reducible assumption | (with_reducible intro _) | with_reducible apply Keeps.State_access
    | with_reducible apply Keeps.State_rtcFreeze | with_reducible apply Keeps.State_emit
    | with_reducible apply KeepsX.next)

theorem Keeps.by_execRtcHiRead {a s : State} (h : Keeps a s) (p : Port) :
    KeepsX a (execRtcHiRead p s) := by
  unfold Sys2Proof.Machine.execRtcHiRead
  try dsimp only
  repeat' (first
    | with_reducible assumption | (with_reducible intro _) | with_reducible apply Keeps.State_access
    | with_reducible apply Keeps.State_rtcRelease | with_reducible apply Keeps.State_emit
    | with_reducible apply KeepsX.next)

theorem Keeps.State_hold {a s : State} (h : Keeps a s) (p : Port) (addr : Nat) (v : Nat) :
    Keeps a (State.hold s p addr v) := by
  unfold State.hold
  try dsimp only
  repeat' (first
    | with_reducible assumption | (with_reducible intro _)
    | (dsimp only [Keeps_mk]; with_reducible apply KeptOf.of) | (dsimp only [Keeps_mk]; apply KeptOf.of))

theorem Keeps.by_execRtcSetHiWrite {a s : State} (h : Keeps a s) (p : Port) (v : Word) :
    KeepsX a (execRtcSetHiWrite p v s) := by
  unfold Sys2Proof.Machine.execRtcSetHiWrite
  try dsimp only
  repeat' (first
    | with_reducible assumption | (with_reducible intro _) | with_reducible apply Keeps.State_access
    | with_reducible apply Keeps.State_hold | with_reducible apply KeepsX.next)

theorem Keeps.State_rtcCommit {a s : State} (h : Keeps a s) (sec : Nat) :
    Keeps a (State.rtcCommit s sec) := by
  unfold State.rtcCommit
  try dsimp only
  repeat' (first
    | with_reducible assumption | (with_reducible intro _) | with_reducible apply Keeps.State_set
    | (dsimp only [Keeps_mk]; with_reducible apply KeptOf.of) | (dsimp only [Keeps_mk]; apply KeptOf.of))

theorem Keeps.by_execRtcSetCommit {a s : State} (h : Keeps a s) (p : Port) (v : Word) :
    KeepsX a (execRtcSetCommit p v s) := by
  unfold Sys2Proof.Machine.execRtcSetCommit
  try dsimp only
  repeat' (first
    | with_reducible assumption | (with_reducible intro _) | with_reducible apply Keeps.State_access
    | with_reducible apply Keeps.State_rtcCommit | with_reducible apply Keeps.State_hold
    | with_reducible apply KeepsX.next)

theorem Keeps.State_rtcApply {a s : State} (h : Keeps a s) (sec : Nat) :
    Keeps a (State.rtcApply s sec) := by
  unfold State.rtcApply
  try dsimp only
  repeat' (first
    | with_reducible assumption | (with_reducible intro _) | with_reducible apply Keeps.State_set
    | with_reducible apply Keeps.State_raise | with_reducible apply Keeps.State_post
    | (dsimp only [Keeps_mk]; with_reducible apply KeptOf.of) | (dsimp only [Keeps_mk]; apply KeptOf.of))

theorem Keeps.by_execRtcSetApply {a s : State} (h : Keeps a s) :
    KeepsX a (execRtcSetApply s) := by
  unfold Sys2Proof.Machine.execRtcSetApply
  try dsimp only
  repeat' (first
    | with_reducible assumption | (with_reducible intro _) | with_reducible apply Keeps.State_rtcApply
    | with_reducible apply KeepsX.next | split)

theorem Keeps.by_execRtcSetFromTai {a s : State} (h : Keeps a s) :
    KeepsX a (execRtcSetFromTai s) := by
  unfold Sys2Proof.Machine.execRtcSetFromTai
  try dsimp only
  repeat' (first
    | with_reducible assumption | (with_reducible intro _) | with_reducible apply Keeps.State_rtcApply
    | with_reducible apply Keeps.State_raise | with_reducible apply KeepsX.next
    | with_reducible apply KeepsX.ite | with_reducible apply Keeps.ite | split)

theorem Keeps.by_execRtcCompensation {a s : State} (h : Keeps a s) (celsius : Int) :
    KeepsX a (execRtcCompensation celsius s) := by
  unfold Sys2Proof.Machine.execRtcCompensation
  try dsimp only
  repeat' (first
    | with_reducible assumption | (with_reducible intro _) | with_reducible apply Keeps.State_setS
    | with_reducible apply KeepsX.next | with_reducible apply KeepsX.ite | with_reducible apply Keeps.ite
    | (dsimp only [Keeps_mk]; with_reducible apply KeptOf.of) | split
    | (dsimp only [Keeps_mk]; apply KeptOf.of))

theorem Keeps.State_setSlot {a s : State} (h : Keeps a s) (c : Nat) (v : KeySlot) :
    Keeps a (State.setSlot s c v) := by
  unfold State.setSlot
  try dsimp only
  repeat' (first
    | with_reducible assumption | (with_reducible intro _) | with_reducible apply Keeps.State_relayKey
    | with_reducible apply Keeps.both | (dsimp only [Keeps_mk]; with_reducible apply KeptOf.of)
    | (dsimp only [Keeps_mk]; apply KeptOf.of))

theorem Keeps.State_storeKey {a s : State} (h : Keeps a s) (c : Nat) (gen : Nat) (v : List Byte) :
    Keeps a (State.storeKey s c gen v) := by
  unfold State.storeKey
  try dsimp only
  repeat' (first
    | with_reducible assumption | (with_reducible intro _) | with_reducible apply Keeps.State_draw
    | with_reducible apply Keeps.State_setSlot | (dsimp only [Keeps_mk]; with_reducible apply KeptOf.of))

theorem Keeps.State_raiseKey {a s : State} (h : Keeps a s) (f : DieId → Fld) :
    Keeps a (State.raiseKey s f) := by
  unfold State.raiseKey
  try dsimp only
  repeat' (first
    | with_reducible assumption | (with_reducible intro _) | with_reducible apply Keeps.State_raise
    | with_reducible apply Keeps.both)

theorem Keeps.State_breakSeal {a s : State} (h : Keeps a s) (c : Nat) :
    Keeps a (State.breakSeal s c) := by
  unfold State.breakSeal
  try dsimp only
  repeat' (first
    | with_reducible assumption | (with_reducible intro _) | with_reducible apply Keeps.State_draw
    | with_reducible apply Keeps.State_setSlot | (dsimp only [Keeps_mk]; with_reducible apply KeptOf.of)
    | (dsimp only [Keeps_mk]; apply KeptOf.of))

theorem Keeps.State_keyInvalidate {a s : State} (h : Keeps a s) (c : Nat) :
    Keeps a (State.keyInvalidate s c) := by
  unfold State.keyInvalidate
  try dsimp only
  repeat' (first
    | with_reducible assumption | (with_reducible intro _) | with_reducible apply Keeps.State_breakSeal
    | with_reducible apply Keeps.State_setOct | with_reducible apply Keeps.State_closeSessions
    | with_reducible apply Keeps.State_raiseKey | with_reducible apply Keeps.State_postIf
    | with_reducible apply Keeps.foldl | with_reducible apply Keeps.foldlP | with_reducible apply Keeps.ite
    | split)

theorem Keeps.by_execKeyInvalidate {a s : State} (h : Keeps a s) (c : Fin 16) :
    KeepsX a (execKeyInvalidate c s) := by
  unfold Sys2Proof.Machine.execKeyInvalidate
  try dsimp only
  repeat' (first
    | with_reducible assumption | (with_reducible intro _) | with_reducible apply Keeps.State_keyInvalidate
    | with_reducible apply KeepsX.next | with_reducible apply KeepsX.ite | with_reducible apply Keeps.ite
    | split)

theorem Keeps.State_keyOp {a s : State} (h : Keeps a s) :
    Keeps a (State.keyOp s) := by
  unfold State.keyOp
  try dsimp only
  repeat' (first
    | with_reducible assumption | (with_reducible intro _) | with_reducible apply Keeps.State_addWrap)

theorem Keeps.State_unsealOne {a s : State} (h : Keeps a s) (c : Nat) :
    Keeps a (State.unsealOne s c) := by
  unfold State.unsealOne
  try dsimp only
  repeat' (first
    | with_reducible assumption | (with_reducible intro _) | with_reducible apply Keeps.State_draw
    | with_reducible apply Keeps.State_setSlot | with_reducible apply Keeps.State_keyInvalidate
    | with_reducible apply Keeps.ite | (dsimp only [Keeps_mk]; with_reducible apply KeptOf.of) | split
    | (dsimp only [Keeps_mk]; apply KeptOf.of))

theorem Keeps.State_unseal {a s : State} (h : Keeps a s) :
    Keeps a (State.unseal s) := by
  unfold State.unseal
  try dsimp only
  repeat' (first
    | with_reducible assumption | (with_reducible intro _) | with_reducible apply Keeps.State_unsealOne
    | with_reducible apply Keeps.foldl | with_reducible apply Keeps.foldlP)

theorem Keeps.State_remask {a s : State} (h : Keeps a s) :
    Keeps a (State.remask s) := by
  unfold State.remask
  try dsimp only
  repeat' (first
    | with_reducible assumption | (with_reducible intro _) | with_reducible apply Keeps.State_draw
    | with_reducible apply Keeps.State_setSlot | with_reducible apply Keeps.State_addWrap
    | with_reducible apply Keeps.both | with_reducible apply Keeps.foldl | with_reducible apply Keeps.foldlP
    | with_reducible apply Keeps.ite | (dsimp only [Keeps_mk]; with_reducible apply KeptOf.of) | split
    | (dsimp only [Keeps_mk]; apply KeptOf.of))

theorem Keeps.by_execKeyRemask {a s : State} (h : Keeps a s) :
    KeepsX a (execKeyRemask s) := by
  unfold Sys2Proof.Machine.execKeyRemask
  try dsimp only
  repeat' (first
    | with_reducible assumption | (with_reducible intro _) | with_reducible apply Keeps.State_remask
    | with_reducible apply Keeps.State_raiseKey | with_reducible apply KeepsX.next
    | with_reducible apply KeepsX.ite | with_reducible apply Keeps.ite
    | (dsimp only [Keeps_mk]; with_reducible apply KeptOf.of) | split
    | (dsimp only [Keeps_mk]; apply KeptOf.of))

theorem Keeps.State_tamperPost {a s : State} (h : Keeps a s) :
    Keeps a (State.tamperPost s) := by
  unfold State.tamperPost
  try dsimp only
  repeat' (first
    | with_reducible assumption | (with_reducible intro _) | with_reducible apply Keeps.State_post)

theorem Keeps.State_abortOps {a s : State} (h : Keeps a s) :
    Keeps a (State.abortOps s) := by
  unfold State.abortOps
  try dsimp only
  repeat' (first
    | with_reducible assumption | (with_reducible intro _) | with_reducible apply Keeps.State_addSat
    | with_reducible apply Keeps.State_raise | with_reducible apply Keeps.State_set
    | with_reducible apply Keeps.State_settleItem | with_reducible apply Keeps.State_remask
    | with_reducible apply Keeps.foldl | with_reducible apply Keeps.foldlP | with_reducible apply Keeps.ite
    | (dsimp only [Keeps_mk]; with_reducible apply KeptOf.of) | split
    | (dsimp only [Keeps_mk]; apply KeptOf.of))

theorem Keeps.State_tamperMark {a s : State} (h : Keeps a s) (bit : Nat) :
    Keeps a (State.tamperMark s bit) := by
  unfold State.tamperMark
  try dsimp only
  repeat' (first
    | with_reducible assumption | (with_reducible intro _) | with_reducible apply Keeps.ite
    | (dsimp only [Keeps_mk]; with_reducible apply KeptOf.of) | split
    | (dsimp only [Keeps_mk]; apply KeptOf.of))

theorem Keeps.State_tamperEvent {a s : State} (h : Keeps a s) (bit : Nat) :
    Keeps a (State.tamperEvent s bit) := by
  unfold State.tamperEvent
  try dsimp only
  repeat' (first
    | with_reducible assumption | (with_reducible intro _) | with_reducible apply Keeps.State_tamperMark
    | with_reducible apply Keeps.State_tamperPost | with_reducible apply Keeps.State_raiseKey
    | with_reducible apply Keeps.State_keyInvalidate | with_reducible apply Keeps.State_closeSessions
    | with_reducible apply Keeps.State_abortOps | with_reducible apply Keeps.ite
    | (dsimp only [Keeps_mk]; with_reducible apply KeptOf.of) | split
    | (dsimp only [Keeps_mk]; apply KeptOf.of))

theorem Keeps.State_sampleInput {a s : State} (h : Keeps a s) (shows : Nat → Bool) (i : Nat) :
    Keeps a (State.sampleInput shows s i) := by
  unfold State.sampleInput
  try dsimp only
  repeat' (first
    | with_reducible assumption | (with_reducible intro _) | with_reducible apply Keeps.State_tamperEvent
    | with_reducible apply Keeps.ite | (dsimp only [Keeps_mk]; with_reducible apply KeptOf.of) | split
    | (dsimp only [Keeps_mk]; apply KeptOf.of))

theorem Keeps.by_execTamperSample {a s : State} (h : Keeps a s) (open_ : Fin 16) (mesh : Bool) :
    KeepsX a (execTamperSample open_ mesh s) := by
  unfold Sys2Proof.Machine.execTamperSample
  try dsimp only
  repeat' (first
    | with_reducible assumption | (with_reducible intro _) | with_reducible apply Keeps.State_sampleInput
    | with_reducible apply Keeps.foldl | with_reducible apply Keeps.foldlP
    | with_reducible apply KeepsX.next | with_reducible apply KeepsX.ite | with_reducible apply Keeps.ite
    | split)

theorem Keeps.State_tamperClear {a s : State} (h : Keeps a s) (v : Nat) :
    Keeps a (State.tamperClear s v).1 := by
  unfold State.tamperClear
  try dsimp only
  repeat' (first
    | with_reducible assumption | (with_reducible intro _) | with_reducible apply Keeps.State_raiseKey
    | with_reducible apply Keeps.iteP | with_reducible apply Keeps.ite
    | (dsimp only [Keeps_mk]; with_reducible apply KeptOf.of) | split
    | (dsimp only [Keeps_mk]; apply KeptOf.of))

theorem Keeps.State_tamperStep {a s : State} (h : Keeps a s) :
    Keeps a (State.tamperStep s) := by
  unfold State.tamperStep
  try dsimp only
  repeat' (first
    | with_reducible assumption | (with_reducible intro _) | with_reducible apply Keeps.State_post
    | with_reducible apply Keeps.State_raiseKey | with_reducible apply Keeps.State_keyInvalidate
    | with_reducible apply Keeps.foldl | with_reducible apply Keeps.foldlP | with_reducible apply Keeps.ite
    | (dsimp only [Keeps_mk]; with_reducible apply KeptOf.of) | split
    | (dsimp only [Keeps_mk]; apply KeptOf.of))

theorem Keeps.State_watchLapsed {a s : State} (h : Keeps a s) :
    Keeps a (State.watchLapsed s) := by
  unfold State.watchLapsed
  try dsimp only
  repeat' (first
    | with_reducible assumption | (with_reducible intro _) | with_reducible apply Keeps.State_raiseKey
    | with_reducible apply Keeps.State_tamperMark | with_reducible apply Keeps.State_tamperPost
    | with_reducible apply Keeps.State_keyInvalidate | with_reducible apply Keeps.State_post
    | with_reducible apply Keeps.ite | split)

theorem Keeps.State_importRefused {a s : State} (h : Keeps a s) (st : Nat) :
    Keeps a (State.importRefused s st).1 := by
  unfold State.importRefused
  try dsimp only
  repeat' (first
    | with_reducible assumption | (with_reducible intro _) | with_reducible apply Keeps.State_addSat
    | with_reducible apply Keeps.State_raise)

theorem Keeps.State_keyImport {a s : State} (h : Keeps a s) (b : List Byte) :
    Keeps a (State.keyImport s b).1 := by
  unfold State.keyImport
  try dsimp only
  repeat' (first
    | with_reducible assumption | (with_reducible intro _) | with_reducible apply Keeps.State_take
    | with_reducible apply Keeps.State_importRefused | with_reducible apply Keeps.State_keyOp
    | with_reducible apply Keeps.State_storeKey | with_reducible apply Keeps.State_setObj
    | with_reducible apply Keeps.State_raise | with_reducible apply Keeps.iteP
    | with_reducible apply Keeps.ite | with_reducible refine Keeps.ofP (by assumption) ?_ | split)

theorem Keeps.State_generateBranch {a s : State} (h : Keeps a s) :
    Keeps a (State.generateBranch s).1 := by
  unfold State.generateBranch
  try dsimp only
  repeat' (first
    | with_reducible assumption | (with_reducible intro _) | with_reducible apply Keeps.State_keyOp
    | with_reducible apply Keeps.State_draw | with_reducible apply Keeps.State_storeKey
    | with_reducible apply Keeps.State_raise | with_reducible apply Keeps.iteP
    | with_reducible apply Keeps.ite | split)

theorem Keeps.State_managementCert {a s : State} (h : Keeps a s) (b : List Byte) :
    Keeps a (State.managementCert s b).1 := by
  unfold State.managementCert
  try dsimp only
  repeat' (first
    | with_reducible assumption | (with_reducible intro _) | with_reducible apply Keeps.State_setOct
    | with_reducible apply Keeps.iteP | with_reducible apply Keeps.ite | split)

theorem Keeps.State_attest {a s : State} (h : Keeps a s) (b : List Byte) (who : Option (Nat × Nat × Nat)) :
    Keeps a (State.attest s b who).1 := by
  unfold State.attest
  try dsimp only
  repeat' (first
    | with_reducible assumption | (with_reducible intro _) | with_reducible apply Keeps.State_take
    | with_reducible apply Keeps.State_setOct | with_reducible apply Keeps.iteP
    | with_reducible apply Keeps.ite | (dsimp only [Keeps_mk]; with_reducible apply KeptOf.of) | split
    | (dsimp only [Keeps_mk]; apply KeptOf.of))

theorem Keeps.by_execAttestationReady {a s : State} (h : Keeps a s) :
    KeepsX a (execAttestationReady s) := by
  unfold Sys2Proof.Machine.execAttestationReady
  try dsimp only
  repeat' (first
    | with_reducible assumption | (with_reducible intro _) | with_reducible apply Keeps.State_keyOp
    | with_reducible apply Keeps.State_setOct | with_reducible apply Keeps.State_raise
    | with_reducible apply Keeps.State_settleItem | with_reducible apply Keeps.State_remask
    | with_reducible apply KeepsX.next | with_reducible apply KeepsX.ite | with_reducible apply Keeps.ite
    | (dsimp only [Keeps_mk]; with_reducible apply KeptOf.of) | split
    | (dsimp only [Keeps_mk]; apply KeptOf.of))

theorem Keeps.State_newSegmentKey {a s : State} (h : Keeps a s) :
    Keeps a (State.newSegmentKey s) := by
  unfold State.newSegmentKey
  try dsimp only
  repeat' (first
    | with_reducible assumption | (with_reducible intro _) | with_reducible apply Keeps.State_keyOp
    | with_reducible apply Keeps.State_draw | with_reducible apply Keeps.State_storeKey
    | (dsimp only [Keeps_mk]; with_reducible apply KeptOf.of) | (dsimp only [Keeps_mk]; apply KeptOf.of))

theorem Keeps.State_segmentChange {a s : State} (h : Keeps a s) :
    Keeps a (State.segmentChange s).1 := by
  unfold State.segmentChange
  try dsimp only
  repeat' (first
    | with_reducible assumption | (with_reducible intro _) | with_reducible apply Keeps.State_storeKey
    | with_reducible apply Keeps.State_newSegmentKey | with_reducible apply Keeps.State_queueFrame
    | with_reducible apply Keeps.foldl | with_reducible apply Keeps.foldlP | with_reducible apply Keeps.iteP
    | with_reducible apply Keeps.ite | (dsimp only [Keeps_mk]; with_reducible apply KeptOf.of) | split
    | (dsimp only [Keeps_mk]; apply KeptOf.of))

theorem Keeps.by_execSegmentKeyPeriod {a s : State} (h : Keeps a s) :
    KeepsX a (execSegmentKeyPeriod s) := by
  unfold Sys2Proof.Machine.execSegmentKeyPeriod
  try dsimp only
  repeat' (first
    | with_reducible assumption | (with_reducible intro _) | with_reducible apply Keeps.State_segmentChange
    | with_reducible apply KeepsX.next | with_reducible apply KeepsX.ite | with_reducible apply Keeps.ite
    | with_reducible apply Keeps.iteP | with_reducible refine Keeps.ofP (by assumption) ?_ | split)

theorem Keeps.by_execSegmentKeyUse {a s : State} (h : Keeps a s) :
    KeepsX a (execSegmentKeyUse s) := by
  unfold Sys2Proof.Machine.execSegmentKeyUse
  try dsimp only
  repeat' (first
    | with_reducible assumption | (with_reducible intro _) | with_reducible apply Keeps.State_raiseKey
    | with_reducible apply KeepsX.next | with_reducible apply KeepsX.ite | with_reducible apply Keeps.ite
    | (dsimp only [Keeps_mk]; with_reducible apply KeptOf.of) | split
    | (dsimp only [Keeps_mk]; apply KeptOf.of))

theorem Keeps.by_execSegmentKeyRetire {a s : State} (h : Keeps a s) :
    KeepsX a (execSegmentKeyRetire s) := by
  unfold Sys2Proof.Machine.execSegmentKeyRetire
  try dsimp only
  repeat' (first
    | with_reducible assumption | (with_reducible intro _) | with_reducible apply Keeps.State_setSlot
    | with_reducible apply KeepsX.next | with_reducible apply KeepsX.ite | with_reducible apply Keeps.ite
    | (dsimp only [Keeps_mk]; with_reducible apply KeptOf.of) | split
    | (dsimp only [Keeps_mk]; apply KeptOf.of))

theorem Keeps.State_deriveSegment {a s : State} (h : Keeps a s) :
    Keeps a (State.deriveSegment s) := by
  unfold State.deriveSegment
  try dsimp only
  repeat' (first
    | with_reducible assumption | (with_reducible intro _) | with_reducible apply Keeps.State_keyOp
    | with_reducible apply Keeps.State_storeKey | with_reducible apply Keeps.State_setSlot
    | with_reducible apply Keeps.State_newSegmentKey
    | (dsimp only [Keeps_mk]; with_reducible apply KeptOf.of) | (dsimp only [Keeps_mk]; apply KeptOf.of))

theorem Keeps.State_joinKeys {a s : State} (h : Keeps a s) :
    Keeps a (State.joinKeys s) := by
  unfold State.joinKeys
  try dsimp only
  repeat' (first
    | with_reducible assumption | (with_reducible intro _) | with_reducible apply Keeps.State_keyOp
    | with_reducible apply Keeps.State_storeKey | with_reducible apply Keeps.State_deriveSegment
    | with_reducible apply Keeps.ite | split)

theorem Keeps.State_renewSegment {a s : State} (h : Keeps a s) :
    Keeps a (State.renewSegment s).1 := by
  unfold State.renewSegment
  try dsimp only
  repeat' (first
    | with_reducible assumption | (with_reducible intro _) | with_reducible apply Keeps.State_deriveSegment
    | with_reducible apply Keeps.State_tellBound | with_reducible apply Keeps.foldl
    | with_reducible apply Keeps.foldlP | with_reducible apply Keeps.iteP | with_reducible apply Keeps.ite
    | (dsimp only [Keeps_mk]; with_reducible apply KeptOf.of) | split
    | (dsimp only [Keeps_mk]; apply KeptOf.of))

theorem Keeps.State_keyDecommission {a s : State} (h : Keeps a s) :
    Keeps a (State.keyDecommission s) := by
  unfold State.keyDecommission
  try dsimp only
  repeat' (first
    | with_reducible assumption | (with_reducible intro _) | with_reducible apply Keeps.State_setSlot
    | with_reducible apply Keeps.State_keyInvalidate | with_reducible apply Keeps.State_setOct
    | with_reducible apply Keeps.ite | (dsimp only [Keeps_mk]; with_reducible apply KeptOf.of) | split
    | (dsimp only [Keeps_mk]; apply KeptOf.of))

theorem Keeps.State_setGreen {a s : State} (h : Keeps a s) (d : DieId) (g : Green) :
    Keeps a (State.setGreen s d g) := by
  unfold State.setGreen
  try dsimp only
  repeat' (first
    | with_reducible assumption | (with_reducible intro _) | with_reducible apply Keeps.State_setDie
    | (dsimp only [Keeps_mk]; with_reducible apply KeptOf.of) | (dsimp only [Keeps_mk]; apply KeptOf.of))

theorem Keeps.State_putImage {a s : State} (h : Keeps a s) (target : Nat) (x : ImageSlot) :
    Keeps a (State.putImage s target x) := by
  unfold State.putImage
  try dsimp only
  repeat' (first
    | with_reducible assumption | (with_reducible intro _) | with_reducible apply Keeps.State_setGreen
    | with_reducible apply Keeps.State_setSlot | (dsimp only [Keeps_mk]; with_reducible apply KeptOf.of)
    | (dsimp only [Keeps_mk]; apply KeptOf.of))

theorem Keeps.State_stageBegin {a s : State} (h : Keeps a s) (b : List Byte) :
    Keeps a (State.stageBegin s b).1 := by
  unfold State.stageBegin
  try dsimp only
  repeat' (first
    | with_reducible assumption | (with_reducible intro _) | with_reducible apply Keeps.State_setGreen
    | with_reducible apply Keeps.State_putImage | with_reducible apply Keeps.both
    | with_reducible apply Keeps.iteP | with_reducible apply Keeps.ite
    | (dsimp only [Keeps_mk]; with_reducible apply KeptOf.of) | split
    | (dsimp only [Keeps_mk]; apply KeptOf.of))

theorem Keeps.State_stageBlock {a s : State} (h : Keeps a s) (b : List Byte) :
    Keeps a (State.stageBlock s b).1 := by
  unfold State.stageBlock
  try dsimp only
  repeat' (first
    | with_reducible assumption | (with_reducible intro _) | with_reducible apply Keeps.State_putImage
    | with_reducible apply Keeps.foldl | with_reducible apply Keeps.foldlP | with_reducible apply Keeps.iteP
    | with_reducible apply Keeps.ite | (dsimp only [Keeps_mk]; with_reducible apply KeptOf.of) | split
    | (dsimp only [Keeps_mk]; apply KeptOf.of))

theorem Keeps.State_stageEnd {a s : State} (h : Keeps a s) :
    Keeps a (State.stageEnd s).1 := by
  unfold State.stageEnd
  try dsimp only
  repeat' (first
    | with_reducible assumption | (with_reducible intro _) | with_reducible apply Keeps.State_setGreen
    | with_reducible apply Keeps.State_putImage | with_reducible apply Keeps.State_raise
    | with_reducible apply Keeps.iteP | with_reducible apply Keeps.ite
    | (dsimp only [Keeps_mk]; with_reducible apply KeptOf.of) | split
    | (dsimp only [Keeps_mk]; apply KeptOf.of))

theorem Keeps.State_endorse {a s : State} (h : Keeps a s) (b : List Byte) :
    Keeps a (State.endorse s b).1 := by
  unfold State.endorse
  try dsimp only
  repeat' (first
    | with_reducible assumption | (with_reducible intro _) | with_reducible apply Keeps.State_setGreen
    | with_reducible apply Keeps.both | with_reducible apply Keeps.iteP | with_reducible apply Keeps.ite
    | (dsimp only [Keeps_mk]; with_reducible apply KeptOf.of) | split
    | (dsimp only [Keeps_mk]; apply KeptOf.of))

theorem Keeps.State_sendSlots {a s : State} (h : Keeps a s) (d : DieId) :
    Keeps a (State.sendSlots s d) := by
  unfold State.sendSlots
  try dsimp only
  repeat' (first
    | with_reducible assumption | (with_reducible intro _)
    | (dsimp only [Keeps_mk]; with_reducible apply KeptOf.of) | (dsimp only [Keeps_mk]; apply KeptOf.of))

theorem Keeps.State_activate_ {a s : State} (h : Keeps a s) (version : Nat) (hw : Option Nat) (t : Nat) :
    Keeps a (State.activate_ s version hw t).1 := by
  unfold State.activate_
  try dsimp only
  repeat' (first
    | with_reducible assumption | (with_reducible intro _) | with_reducible apply Keeps.iteP
    | with_reducible apply Keeps.ite | (dsimp only [Keeps_mk]; with_reducible apply KeptOf.of) | split
    | (dsimp only [Keeps_mk]; apply KeptOf.of))

theorem Keeps.State_restartDie {a s : State} (h : Keeps a s) (d : DieId) :
    Keeps a (State.restartDie s d) := by
  unfold State.restartDie
  try dsimp only
  repeat' (first
    | with_reducible assumption | (with_reducible intro _) | with_reducible apply Keeps.State_leave
    | with_reducible apply Keeps.State_setRole | with_reducible apply Keeps.State_set
    | with_reducible apply Keeps.State_setDie | with_reducible apply Keeps.State_setSide
    | with_reducible apply Keeps.ite | (dsimp only [Keeps_mk]; with_reducible apply KeptOf.of) | split
    | (dsimp only [Keeps_mk]; apply KeptOf.of))

theorem Keeps.State_grnPost {a s : State} (h : Keeps a s) (code : Nat) (data : List Byte) :
    Keeps a (State.grnPost s code data) := by
  unfold State.grnPost
  try dsimp only
  repeat' (first
    | with_reducible assumption | (with_reducible intro _) | with_reducible apply Keeps.State_post)

theorem Keeps.State_activationPrepare {a s : State} (h : Keeps a s) :
    Keeps a (State.activationPrepare s) := by
  unfold State.activationPrepare
  try dsimp only
  repeat' (first
    | with_reducible assumption | (with_reducible intro _) | with_reducible apply Keeps.State_restartDie
    | with_reducible apply Keeps.State_setGreen | with_reducible apply Keeps.State_raise
    | with_reducible apply Keeps.ite | (dsimp only [Keeps_mk]; with_reducible apply KeptOf.of) | split
    | (dsimp only [Keeps_mk]; apply KeptOf.of))

theorem Keeps.State_activationMiss {a s : State} (h : Keeps a s) :
    Keeps a (State.activationMiss s) := by
  unfold State.activationMiss
  try dsimp only
  repeat' (first
    | with_reducible assumption | (with_reducible intro _) | with_reducible apply Keeps.State_setGreen
    | with_reducible apply Keeps.State_restartDie | with_reducible apply Keeps.State_raise
    | with_reducible apply Keeps.State_grnPost | with_reducible apply Keeps.ite
    | (dsimp only [Keeps_mk]; with_reducible apply KeptOf.of) | split
    | (dsimp only [Keeps_mk]; apply KeptOf.of))

theorem Keeps.State_activationMade {a s : State} (h : Keeps a s) (stamp : Nat) :
    Keeps a (State.activationMade s stamp) := by
  unfold State.activationMade
  try dsimp only
  repeat' (first
    | with_reducible assumption | (with_reducible intro _) | with_reducible apply Keeps.State_raise
    | (dsimp only [Keeps_mk]; with_reducible apply KeptOf.of) | (dsimp only [Keeps_mk]; apply KeptOf.of))

theorem Keeps.State_activationReject {a s : State} (h : Keeps a s) (cause : Nat) :
    Keeps a (State.activationReject s cause) := by
  unfold State.activationReject
  try dsimp only
  repeat' (first
    | with_reducible assumption | (with_reducible intro _) | with_reducible apply Keeps.State_setGreen
    | with_reducible apply Keeps.State_restartDie | with_reducible apply Keeps.State_raise
    | with_reducible apply Keeps.State_grnPost | with_reducible apply Keeps.both
    | (dsimp only [Keeps_mk]; with_reducible apply KeptOf.of) | split
    | (dsimp only [Keeps_mk]; apply KeptOf.of))

theorem Keeps.State_activationAccept {a s : State} (h : Keeps a s) :
    Keeps a (State.activationAccept s) := by
  unfold State.activationAccept
  try dsimp only
  repeat' (first
    | with_reducible assumption | (with_reducible intro _) | with_reducible apply Keeps.State_setGreen
    | with_reducible apply Keeps.State_restartDie | with_reducible apply Keeps.State_raise
    | with_reducible apply Keeps.both | (dsimp only [Keeps_mk]; with_reducible apply KeptOf.of) | split
    | (dsimp only [Keeps_mk]; apply KeptOf.of))

theorem Keeps.State_rejectImage {a s : State} (h : Keeps a s) :
    Keeps a (State.rejectImage s).1 := by
  unfold State.rejectImage
  try dsimp only
  repeat' (first
    | with_reducible assumption | (with_reducible intro _) | with_reducible apply Keeps.iteP
    | with_reducible apply Keeps.ite | (dsimp only [Keeps_mk]; with_reducible apply KeptOf.of) | split
    | (dsimp only [Keeps_mk]; apply KeptOf.of))

theorem Keeps.State_acceptImage {a s : State} (h : Keeps a s) :
    Keeps a (State.acceptImage s).1 := by
  unfold State.acceptImage
  try dsimp only
  repeat' (first
    | with_reducible assumption | (with_reducible intro _)
    | with_reducible apply Keeps.State_activationAccept | with_reducible apply Keeps.iteP
    | with_reducible apply Keeps.ite | split)

theorem Keeps.by_execProbationExpiry {a s : State} (h : Keeps a s) :
    KeepsX a (execProbationExpiry s) := by
  unfold Sys2Proof.Machine.execProbationExpiry
  try dsimp only
  repeat' (first
    | with_reducible assumption | (with_reducible intro _)
    | with_reducible apply Keeps.State_activationAccept | with_reducible apply KeepsX.next
    | with_reducible apply KeepsX.ite | with_reducible apply Keeps.ite | split)

theorem Keeps.State_campaignStart {a s : State} (h : Keeps a s) (b : List Byte) :
    Keeps a (State.campaignStart s b).1 := by
  unfold State.campaignStart
  try dsimp only
  repeat' (first
    | with_reducible assumption | (with_reducible intro _) | with_reducible apply Keeps.iteP
    | with_reducible apply Keeps.ite | (dsimp only [Keeps_mk]; with_reducible apply KeptOf.of) | split
    | (dsimp only [Keeps_mk]; apply KeptOf.of))

theorem Keeps.by_execCampaignDone {a s : State} (h : Keeps a s) :
    KeepsX a (execCampaignDone s) := by
  unfold Sys2Proof.Machine.execCampaignDone
  try dsimp only
  repeat' (first
    | with_reducible assumption | (with_reducible intro _) | with_reducible apply Keeps.State_raise
    | with_reducible apply KeepsX.next | with_reducible apply KeepsX.ite | with_reducible apply Keeps.ite
    | (dsimp only [Keeps_mk]; with_reducible apply KeptOf.of) | split
    | (dsimp only [Keeps_mk]; apply KeptOf.of))

theorem Keeps.State_nodeActivate {a s : State} (h : Keeps a s) (b : List Byte) :
    Keeps a (State.nodeActivate s b).1 := by
  unfold State.nodeActivate
  try dsimp only
  repeat' (first
    | with_reducible assumption | (with_reducible intro _) | with_reducible apply Keeps.State_take
    | with_reducible apply Keeps.State_queueFrame | with_reducible apply Keeps.foldl
    | with_reducible apply Keeps.foldlP | with_reducible apply Keeps.iteP | with_reducible apply Keeps.ite
    | split)

theorem Keeps.State_setEth {a s : State} (h : Keeps a s) (e : Nat) (v : EthState) :
    Keeps a (State.setEth s e v) := by
  unfold State.setEth
  try dsimp only
  repeat' (first
    | with_reducible assumption | (with_reducible intro _)
    | (dsimp only [Keeps_mk]; with_reducible apply KeptOf.of) | (dsimp only [Keeps_mk]; apply KeptOf.of))

theorem Keeps.State_ethCount {a s : State} (h : Keeps a s) (e : Nat) (n : Nat) (by_ : Nat) :
    Keeps a (State.ethCount s e n by_) := by
  unfold State.ethCount
  try dsimp only
  repeat' (first
    | with_reducible assumption | (with_reducible intro _) | with_reducible apply Keeps.State_setEth
    | with_reducible apply Keeps.State_set | with_reducible apply Keeps.State_raise
    | with_reducible apply Keeps.ite | (dsimp only [Keeps_mk]; with_reducible apply KeptOf.of) | split
    | (dsimp only [Keeps_mk]; apply KeptOf.of))

theorem Keeps.State_wakes {a s : State} (h : Keeps a s) (e : Nat) (b : List Byte) :
    Keeps a (State.wakes s e b) := by
  unfold State.wakes
  try dsimp only
  repeat' (first
    | with_reducible assumption | (with_reducible intro _) | with_reducible apply Keeps.State_ethCount
    | with_reducible apply Keeps.State_set | with_reducible apply Keeps.State_raise
    | with_reducible apply Keeps.foldl | with_reducible apply Keeps.foldlP | with_reducible apply Keeps.ite
    | split)

theorem Keeps.State_showRing {a s : State} (h : Keeps a s) (e : Nat) :
    Keeps a (State.showRing s e) := by
  unfold State.showRing
  try dsimp only
  repeat' (first
    | with_reducible assumption | (with_reducible intro _) | with_reducible apply Keeps.State_set)

theorem Keeps.State_sendPause {a s : State} (h : Keeps a s) (e : Nat) (quanta : Nat) :
    Keeps a (State.sendPause s e quanta) := by
  unfold State.sendPause
  try dsimp only
  repeat' (first
    | with_reducible assumption | (with_reducible intro _) | with_reducible apply Keeps.State_setEth
    | with_reducible apply Keeps.State_emit | with_reducible apply Keeps.State_ethCount
    | with_reducible apply Keeps.State_set | with_reducible apply Keeps.ite
    | (dsimp only [Keeps_mk]; with_reducible apply KeptOf.of) | split
    | (dsimp only [Keeps_mk]; apply KeptOf.of))

theorem Keeps.State_ringTake {a s : State} (h : Keeps a s) (e : Nat) (taken : Nat) :
    Keeps a (State.ringTake s e taken) := by
  unfold State.ringTake
  try dsimp only
  repeat' (first
    | with_reducible assumption | (with_reducible intro _) | with_reducible apply Keeps.State_setEth
    | with_reducible apply Keeps.State_showRing | (dsimp only [Keeps_mk]; with_reducible apply KeptOf.of)
    | (dsimp only [Keeps_mk]; apply KeptOf.of))

theorem Keeps.State_pauseWork {a s : State} (h : Keeps a s) (e : Nat) :
    Keeps a (State.pauseWork s e) := by
  unfold State.pauseWork
  try dsimp only
  repeat' (first
    | with_reducible assumption | (with_reducible intro _) | with_reducible apply Keeps.State_sendPause
    | with_reducible apply Keeps.ite | split)

theorem Keeps.by_execPauseRefresh {a s : State} (h : Keeps a s) (e : Fin 3) (taken : Nat) :
    KeepsX a (execPauseRefresh e taken s) := by
  unfold Sys2Proof.Machine.execPauseRefresh
  try dsimp only
  repeat' (first
    | with_reducible assumption | (with_reducible intro _) | with_reducible apply Keeps.State_ringTake
    | with_reducible apply Keeps.State_pauseWork | with_reducible apply KeepsX.next)

theorem Keeps.by_execPauseReceive {a s : State} (h : Keeps a s) (e : Fin 3) (quanta : BitVec 16) :
    KeepsX a (execPauseReceive e quanta s) := by
  unfold Sys2Proof.Machine.execPauseReceive
  try dsimp only
  repeat' (first
    | with_reducible assumption | (with_reducible intro _) | with_reducible apply Keeps.State_ethCount
    | with_reducible apply Keeps.State_setEth | with_reducible apply Keeps.State_set
    | with_reducible apply KeepsX.next | with_reducible apply KeepsX.ite | with_reducible apply Keeps.ite
    | (dsimp only [Keeps_mk]; with_reducible apply KeptOf.of) | split
    | (dsimp only [Keeps_mk]; apply KeptOf.of))

theorem Keeps.by_execPauseExpiry {a s : State} (h : Keeps a s) (e : Fin 3) :
    KeepsX a (execPauseExpiry e s) := by
  unfold Sys2Proof.Machine.execPauseExpiry
  try dsimp only
  repeat' (first
    | with_reducible assumption | (with_reducible intro _) | with_reducible apply Keeps.State_set
    | with_reducible apply KeepsX.next | with_reducible apply KeepsX.ite | with_reducible apply Keeps.ite
    | split)

theorem Keeps.State_ringPut {a s : State} (h : Keeps a s) (e : Nat) (cls : Nat) (b : List Byte) :
    Keeps a (State.ringPut s e cls b) := by
  unfold State.ringPut
  try dsimp only
  repeat' (first
    | with_reducible assumption | (with_reducible intro _) | with_reducible apply Keeps.State_ethCount
    | with_reducible apply Keeps.State_raise | with_reducible apply Keeps.State_setEth
    | with_reducible apply Keeps.State_showRing | with_reducible apply Keeps.ite
    | (dsimp only [Keeps_mk]; with_reducible apply KeptOf.of) | split
    | (dsimp only [Keeps_mk]; apply KeptOf.of))

theorem Keeps.State_ethReceive {a s : State} (h : Keeps a s) (e : Nat) (b : List Byte) (symbol : Bool) :
    Keeps a (State.ethReceive s e b symbol) := by
  unfold State.ethReceive
  try dsimp only
  repeat' (first
    | with_reducible assumption | (with_reducible intro _) | with_reducible apply Keeps.State_take
    | with_reducible apply Keeps.State_ethCount | with_reducible apply Keeps.State_wakes
    | with_reducible apply Keeps.State_ringPut | with_reducible apply Keeps.ite | split)

theorem Keeps.by_execEthFrameReceive {a s : State} (h : Keeps a s) (e : Fin 3) (octets : List Byte) (symbol :
    Bool) (taken : Nat) :
    KeepsX a (execEthFrameReceive e octets symbol taken s) := by
  unfold Sys2Proof.Machine.execEthFrameReceive
  try dsimp only
  repeat' (first
    | with_reducible assumption | (with_reducible intro _) | with_reducible apply Keeps.State_ringTake
    | with_reducible apply Keeps.State_ethReceive | with_reducible apply Keeps.State_pauseWork
    | with_reducible apply KeepsX.next | with_reducible apply KeepsX.ite | with_reducible apply Keeps.ite
    | split)

theorem Keeps.State_gclRequest {a s : State} (h : Keeps a s) (e : Nat) :
    Keeps a (State.gclRequest s e).1 := by
  unfold State.gclRequest
  try dsimp only
  repeat' (first
    | with_reducible assumption | (with_reducible intro _) | with_reducible apply Keeps.State_set
    | with_reducible apply Keeps.State_setEth | with_reducible apply Keeps.iteP
    | with_reducible apply Keeps.ite | (dsimp only [Keeps_mk]; with_reducible apply KeptOf.of) | split
    | (dsimp only [Keeps_mk]; apply KeptOf.of))

theorem Keeps.by_execGclChangeRequest {a s : State} (h : Keeps a s) (e : Fin 2) :
    KeepsX a (execGclChangeRequest e s) := by
  unfold Sys2Proof.Machine.execGclChangeRequest
  try dsimp only
  repeat' (first
    | with_reducible assumption | (with_reducible intro _) | with_reducible apply Keeps.State_gclRequest
    | with_reducible apply KeepsX.next | with_reducible refine Keeps.ofP (by assumption) ?_)

theorem Keeps.by_execGclChange {a s : State} (h : Keeps a s) (e : Fin 2) :
    KeepsX a (execGclChange e s) := by
  unfold Sys2Proof.Machine.execGclChange
  try dsimp only
  repeat' (first
    | with_reducible assumption | (with_reducible intro _) | with_reducible apply Keeps.State_setEth
    | with_reducible apply Keeps.State_set | with_reducible apply Keeps.foldl
    | with_reducible apply Keeps.foldlP | with_reducible apply KeepsX.next | with_reducible apply KeepsX.ite
    | with_reducible apply Keeps.ite | (dsimp only [Keeps_mk]; with_reducible apply KeptOf.of) | split
    | (dsimp only [Keeps_mk]; apply KeptOf.of))

theorem Keeps.State_gclEntry {a s : State} (h : Keeps a s) (e : Nat) :
    Keeps a (State.gclEntry s e) := by
  unfold State.gclEntry
  try dsimp only
  repeat' (first
    | with_reducible assumption | (with_reducible intro _) | with_reducible apply Keeps.State_set
    | with_reducible apply Keeps.ite | split)

theorem Keeps.by_execGclEntryEnd {a s : State} (h : Keeps a s) (e : Fin 2) :
    KeepsX a (execGclEntryEnd e s) := by
  unfold Sys2Proof.Machine.execGclEntryEnd
  try dsimp only
  repeat' (first
    | with_reducible assumption | (with_reducible intro _) | with_reducible apply Keeps.State_gclEntry
    | with_reducible apply KeepsX.next)

theorem Keeps.State_stampEntry {a s : State} (h : Keeps a s) (e : Nat) (id : Nat) :
    Keeps a (State.stampEntry s e id) := by
  unfold State.stampEntry
  try dsimp only
  repeat' (first
    | with_reducible assumption | (with_reducible intro _) | with_reducible apply Keeps.State_addSat
    | with_reducible apply Keeps.State_raise | with_reducible apply Keeps.State_setEth
    | with_reducible apply Keeps.State_set | with_reducible apply Keeps.ite
    | (dsimp only [Keeps_mk]; with_reducible apply KeptOf.of) | split
    | (dsimp only [Keeps_mk]; apply KeptOf.of))

theorem Keeps.State_ethSend {a s : State} (h : Keeps a s) (e : Nat) (f : EthFrame) :
    Keeps a (State.ethSend s e f) := by
  unfold State.ethSend
  try dsimp only
  repeat' (first
    | with_reducible assumption | (with_reducible intro _) | with_reducible apply Keeps.State_emit
    | with_reducible apply Keeps.State_ethCount | with_reducible apply Keeps.State_take
    | with_reducible apply Keeps.State_stampEntry | with_reducible apply Keeps.ite | split)

theorem Keeps.State_dropNofit {a s : State} (h : Keeps a s) (n e : Nat) : Keeps a (State.dropNofit n s e) := by
  induction n generalizing s with
  | zero => exact h
  | succ n ih =>
    unfold State.dropNofit
    dsimp only
    split
    · exact ih ((h.State_setEth _ _).State_ethCount _ _ _)
    · exact h

theorem Keeps.State_ethWork {a s : State} (h : Keeps a s) (e : Nat) :
    Keeps a (State.ethWork s e) := by
  unfold State.ethWork
  try dsimp only
  repeat' (first
    | with_reducible assumption | (with_reducible intro _) | with_reducible apply Keeps.State_setEth
    | with_reducible apply Keeps.State_ethSend | with_reducible apply Keeps.ite
    | (dsimp only [Keeps_mk]; with_reducible apply KeptOf.of) | split
    | (dsimp only [Keeps_mk]; apply KeptOf.of))

theorem Keeps.by_execEthFrameTransmit {a s : State} (h : Keeps a s) (e : Fin 3) (handed : List EthFrame) :
    KeepsX a (execEthFrameTransmit e handed s) := by
  unfold Sys2Proof.Machine.execEthFrameTransmit
  try dsimp only
  repeat' (first
    | with_reducible assumption | (with_reducible intro _) | with_reducible apply Keeps.State_ethCount
    | with_reducible apply Keeps.State_setEth | with_reducible apply Keeps.State_dropNofit
    | with_reducible apply Keeps.State_ethWork | with_reducible apply KeepsX.next
    | with_reducible apply KeepsX.ite | with_reducible apply Keeps.ite
    | (dsimp only [Keeps_mk]; with_reducible apply KeptOf.of) | split
    | (dsimp only [Keeps_mk]; apply KeptOf.of))

theorem Keeps.State_txtsRead {a s : State} (h : Keeps a s) (e : Nat) :
    Keeps a (State.txtsRead s e) := by
  unfold State.txtsRead
  try dsimp only
  repeat' (first
    | with_reducible assumption | (with_reducible intro _) | with_reducible apply Keeps.State_set
    | with_reducible apply Keeps.State_setEth | (dsimp only [Keeps_mk]; with_reducible apply KeptOf.of)
    | split | (dsimp only [Keeps_mk]; apply KeptOf.of))

theorem Keeps.by_execTxtsRead {a s : State} (h : Keeps a s) (p : Port) (e : Fin 2) :
    KeepsX a (execTxtsRead p e s) := by
  unfold Sys2Proof.Machine.execTxtsRead
  try dsimp only
  repeat' (first
    | with_reducible assumption | (with_reducible intro _) | with_reducible apply Keeps.State_access
    | with_reducible apply Keeps.State_txtsRead | with_reducible apply Keeps.State_emit
    | with_reducible apply KeepsX.next)

theorem Keeps.State_ptpPort {a s : State} (h : Keeps a s) (st : Nat) :
    Keeps a (State.ptpPort s st) := by
  unfold State.ptpPort
  try dsimp only
  repeat' (first
    | with_reducible assumption | (with_reducible intro _) | with_reducible apply Keeps.State_set
    | with_reducible apply Keeps.State_raise | with_reducible apply Keeps.ite | split)

theorem Keeps.State_ptpHoldover {a s : State} (h : Keeps a s) :
    Keeps a (State.ptpHoldover s) := by
  unfold State.ptpHoldover
  try dsimp only
  repeat' (first
    | with_reducible assumption | (with_reducible intro _) | with_reducible apply Keeps.State_set
    | with_reducible apply Keeps.State_raise | with_reducible apply Keeps.ite | split)

theorem Keeps.State_activate {a s : State} (h : Keeps a s) (e : Nat) :
    Keeps a (State.activate s e) := by
  unfold State.activate
  try dsimp only
  repeat' (first
    | with_reducible assumption | (with_reducible intro _) | with_reducible apply Keeps.State_set)

theorem Keeps.State_failover {a s : State} (h : Keeps a s) (e : Nat) :
    Keeps a (State.failover s e) := by
  unfold State.failover
  try dsimp only
  repeat' (first
    | with_reducible assumption | (with_reducible intro _) | with_reducible apply Keeps.State_setEth
    | with_reducible apply Keeps.State_activate | with_reducible apply Keeps.State_addSat
    | with_reducible apply Keeps.State_raise | with_reducible apply Keeps.State_set
    | with_reducible apply Keeps.State_ptpPort | with_reducible apply Keeps.State_ptpHoldover
    | with_reducible apply Keeps.ite | (dsimp only [Keeps_mk]; with_reducible apply KeptOf.of) | split
    | (dsimp only [Keeps_mk]; apply KeptOf.of))

theorem Keeps.State_activeLost {a s : State} (h : Keeps a s) (e : Nat) :
    Keeps a (State.activeLost s e) := by
  unfold State.activeLost
  try dsimp only
  repeat' (first
    | with_reducible assumption | (with_reducible intro _) | with_reducible apply Keeps.State_set
    | with_reducible apply Keeps.State_failover | with_reducible apply Keeps.State_setEth
    | with_reducible apply Keeps.State_ethCount | with_reducible apply Keeps.State_ptpHoldover
    | with_reducible apply Keeps.ite | (dsimp only [Keeps_mk]; with_reducible apply KeptOf.of) | split
    | (dsimp only [Keeps_mk]; apply KeptOf.of))

theorem Keeps.by_execLinkFailure {a s : State} (h : Keeps a s) (e : Fin 3) (partly : Bool) :
    KeepsX a (execLinkFailure e partly s) := by
  unfold Sys2Proof.Machine.execLinkFailure
  try dsimp only
  repeat' (first
    | with_reducible assumption | (with_reducible intro _) | with_reducible apply Keeps.State_set
    | with_reducible apply Keeps.State_raise | with_reducible apply Keeps.State_activeLost
    | with_reducible apply Keeps.State_ethCount | with_reducible apply KeepsX.next
    | with_reducible apply KeepsX.ite | with_reducible apply Keeps.ite | split)

theorem Keeps.by_execEthLinkUp {a s : State} (h : Keeps a s) (e : Fin 3) (fast : Bool) :
    KeepsX a (execEthLinkUp e fast s) := by
  unfold Sys2Proof.Machine.execEthLinkUp
  try dsimp only
  repeat' (first
    | with_reducible assumption | (with_reducible intro _) | with_reducible apply Keeps.State_set
    | with_reducible apply Keeps.State_raiseIf | with_reducible apply Keeps.State_setEth
    | with_reducible apply Keeps.State_activate | with_reducible apply Keeps.State_failover
    | with_reducible apply KeepsX.next | with_reducible apply KeepsX.ite | with_reducible apply Keeps.ite
    | (dsimp only [Keeps_mk]; with_reducible apply KeptOf.of) | split
    | (dsimp only [Keeps_mk]; apply KeptOf.of))

theorem Keeps.State_failoverForce {a s : State} (h : Keeps a s) :
    Keeps a (State.failoverForce s) := by
  unfold State.failoverForce
  try dsimp only
  repeat' (first
    | with_reducible assumption | (with_reducible intro _) | with_reducible apply Keeps.State_failover
    | with_reducible apply Keeps.State_set | with_reducible apply Keeps.ite | split)

theorem Keeps.by_execFailoverForce {a s : State} (h : Keeps a s) :
    KeepsX a (execFailoverForce s) := by
  unfold Sys2Proof.Machine.execFailoverForce
  try dsimp only
  repeat' (first
    | with_reducible assumption | (with_reducible intro _) | with_reducible apply Keeps.State_failoverForce
    | with_reducible apply KeepsX.next)

theorem Keeps.by_execFailback {a s : State} (h : Keeps a s) :
    KeepsX a (execFailback s) := by
  unfold Sys2Proof.Machine.execFailback
  try dsimp only
  repeat' (first
    | with_reducible assumption | (with_reducible intro _) | with_reducible apply Keeps.State_failover
    | with_reducible apply KeepsX.next | with_reducible apply KeepsX.ite | with_reducible apply Keeps.ite
    | split)

theorem Keeps.State_mdioWrite {a s : State} (h : Keeps a s) (e : Nat) (w : Nat) :
    KeepsE a (State.mdioWrite s e w) := by
  unfold State.mdioWrite
  try dsimp only
  repeat' (first
    | with_reducible assumption | (with_reducible intro _) | with_reducible apply Keeps.State_set
    | with_reducible apply Keeps.State_emit | with_reducible apply KeepsE.error
    | with_reducible apply KeepsE.ok | with_reducible apply KeepsE.ite | with_reducible apply Keeps.ite
    | split)

theorem Keeps.by_execMdioCommand {a s : State} (h : Keeps a s) (p : Port) (e : Fin 3) (w : Word) :
    KeepsX a (execMdioCommand p e w s) := by
  unfold Sys2Proof.Machine.execMdioCommand
  try dsimp only
  repeat' (first
    | with_reducible assumption | (with_reducible intro _) | with_reducible apply Keeps.State_access
    | with_reducible apply Keeps.State_wrote | with_reducible apply Keeps.State_mdioWrite
    | with_reducible refine Keeps.ofE (by assumption) ?_ | with_reducible apply KeepsX.next)

theorem Keeps.by_execMdioDone {a s : State} (h : Keeps a s) (e : Fin 3) (data : BitVec 16) :
    KeepsX a (execMdioDone e data s) := by
  unfold Sys2Proof.Machine.execMdioDone
  try dsimp only
  repeat' (first
    | with_reducible assumption | (with_reducible intro _) | with_reducible apply Keeps.State_set
    | with_reducible apply KeepsX.next | with_reducible apply KeepsX.ite | with_reducible apply Keeps.ite
    | split)

theorem Keeps.State_boardShow {a s : State} (h : Keeps a s) (d : DieId) (r : CbRec) (w : Stored) (fill : Nat) :
    Keeps a (State.boardShow s d r w fill) := by
  unfold State.boardShow
  try dsimp only
  repeat' (first
    | with_reducible assumption | (with_reducible intro _) | with_reducible apply Keeps.State_set
    | with_reducible apply Keeps.State_raiseIf | with_reducible apply Keeps.State_raise
    | with_reducible apply Keeps.State_addWrap | split)

theorem Keeps.State_storeRec {a s : State} (h : Keeps a s) (d : DieId) (r : CbRec) :
    Keeps a (State.storeRec s d r) := by
  unfold State.storeRec
  try dsimp only
  repeat' (first
    | with_reducible assumption | (with_reducible intro _) | with_reducible apply Keeps.State_setDie
    | with_reducible apply Keeps.State_boardShow | with_reducible apply Keeps.State_mirror
    | with_reducible apply Keeps.ite | (dsimp only [Keeps_mk]; with_reducible apply KeptOf.of) | split
    | (dsimp only [Keeps_mk]; apply KeptOf.of))

theorem Keeps.by_execCallboardPost {a s : State} (h : Keeps a s) :
    KeepsX a (execCallboardPost s) := by
  unfold Sys2Proof.Machine.execCallboardPost
  try dsimp only
  repeat' (first
    | with_reducible assumption | (with_reducible intro _) | with_reducible apply Keeps.State_addWrap
    | with_reducible apply Keeps.State_storeRec | with_reducible apply Keeps.State_setDie
    | with_reducible apply KeepsX.next | with_reducible apply KeepsX.ite | with_reducible apply Keeps.ite
    | (dsimp only [Keeps_mk]; with_reducible apply KeptOf.of) | split
    | (dsimp only [Keeps_mk]; apply KeptOf.of))

theorem Keeps.State_takeForwarded {a s : State} (h : Keeps a s) (d : DieId) (r : CbRec) :
    Keeps a (State.takeForwarded d s r) := by
  unfold State.takeForwarded
  try dsimp only
  repeat' (first
    | with_reducible assumption | (with_reducible intro _) | with_reducible apply Keeps.State_storeRec
    | with_reducible apply Keeps.ite | (dsimp only [Keeps_mk]; with_reducible apply KeptOf.of) | split
    | (dsimp only [Keeps_mk]; apply KeptOf.of))

theorem Keeps.State_intakeDrop {a s : State} (h : Keeps a s) (d : DieId) :
    Keeps a (State.intakeDrop s d) := by
  unfold State.intakeDrop
  try dsimp only
  repeat' (first
    | with_reducible assumption | (with_reducible intro _) | with_reducible apply Keeps.State_setDie
    | with_reducible apply Keeps.State_addSat | with_reducible apply Keeps.State_raise
    | (dsimp only [Keeps_mk]; with_reducible apply KeptOf.of) | (dsimp only [Keeps_mk]; apply KeptOf.of))

theorem Keeps.State_clearBoard {a s : State} (h : Keeps a s) (v : Nat) :
    Keeps a (State.clearBoard s v).1 := by
  unfold State.clearBoard
  try dsimp only
  repeat' (first
    | with_reducible assumption | (with_reducible intro _) | with_reducible apply Keeps.State_setDie
    | with_reducible apply Keeps.State_storeRec | with_reducible apply Keeps.State_raise
    | with_reducible apply Keeps.iteP | with_reducible apply Keeps.ite
    | (dsimp only [Keeps_mk]; with_reducible apply KeptOf.of) | split
    | (dsimp only [Keeps_mk]; apply KeptOf.of))

theorem Keeps.by_execMirrorWrite {a s : State} (h : Keeps a s) :
    KeepsX a (execMirrorWrite s) := by
  unfold Sys2Proof.Machine.execMirrorWrite
  try dsimp only
  repeat' (first
    | with_reducible assumption | (with_reducible intro _) | with_reducible apply Keeps.State_setDie
    | with_reducible apply Keeps.State_releaseHeld | with_reducible apply KeepsX.next
    | (dsimp only [Keeps_mk]; with_reducible apply KeptOf.of) | split
    | (dsimp only [Keeps_mk]; apply KeptOf.of))

theorem Keeps.by_execContinuityMessage {a s : State} (h : Keeps a s) :
    KeepsX a (execContinuityMessage s) := by
  unfold Sys2Proof.Machine.execContinuityMessage
  try dsimp only
  repeat' (first
    | with_reducible assumption | (with_reducible intro _) | with_reducible apply Keeps.State_setGreen
    | with_reducible apply Keeps.State_setSlot | with_reducible apply Keeps.State_setDie
    | with_reducible apply Keeps.State_takeForwarded | with_reducible apply Keeps.foldl
    | with_reducible apply Keeps.foldlP | with_reducible apply KeepsX.next
    | (dsimp only [Keeps_mk]; with_reducible apply KeptOf.of) | split
    | (dsimp only [Keeps_mk]; apply KeptOf.of))

theorem Keeps.State_drained {a s : State} (h : Keeps a s) (k : Nat) :
    Keeps a (State.drained s k) := by
  unfold State.drained
  try dsimp only
  repeat' (first
    | with_reducible assumption | (with_reducible intro _) | with_reducible apply Keeps.State_set
    | with_reducible apply Keeps.State_raise | (dsimp only [Keeps_mk]; with_reducible apply KeptOf.of)
    | (dsimp only [Keeps_mk]; apply KeptOf.of))

theorem Keeps.State_blockOff {a s : State} (h : Keeps a s) (k : Nat) :
    Keeps a (State.blockOff s k) := by
  unfold State.blockOff
  try dsimp only
  repeat' (first
    | with_reducible assumption | (with_reducible intro _) | with_reducible apply Keeps.State_radioOff
    | with_reducible apply Keeps.State_plcOff | with_reducible apply Keeps.State_set
    | with_reducible apply Keeps.State_activeLost | with_reducible apply Keeps.ite
    | (dsimp only [Keeps_mk]; with_reducible apply KeptOf.of) | split
    | (dsimp only [Keeps_mk]; apply KeptOf.of))

theorem Keeps.by_execBlockDisable {a s : State} (h : Keeps a s) (b : DrainBlock) :
    KeepsX a (execBlockDisable b s) := by
  unfold Sys2Proof.Machine.execBlockDisable
  try dsimp only
  repeat' (first
    | with_reducible assumption | (with_reducible intro _) | with_reducible apply Keeps.State_blockOff
    | with_reducible apply KeepsX.next)

theorem Keeps.by_execDrained {a s : State} (h : Keeps a s) (b : DrainBlock) :
    KeepsX a (execDrained b s) := by
  unfold Sys2Proof.Machine.execDrained
  try dsimp only
  repeat' (first
    | with_reducible assumption | (with_reducible intro _) | with_reducible apply Keeps.State_drained
    | with_reducible apply KeepsX.next | with_reducible apply KeepsX.ite | with_reducible apply Keeps.ite
    | split)

theorem Keeps.State_endXfers {a s : State} (h : Keeps a s) (key : Nat) :
    Keeps a (State.endXfers s key) := by
  unfold State.endXfers
  try dsimp only
  repeat' (first
    | with_reducible assumption | (with_reducible intro _) | with_reducible apply Keeps.State_unreserve
    | with_reducible apply Keeps.foldl | with_reducible apply Keeps.foldlP | with_reducible apply Keeps.ite
    | (dsimp only [Keeps_mk]; with_reducible apply KeptOf.of) | split
    | (dsimp only [Keeps_mk]; apply KeptOf.of))

theorem Keeps.State_dropItems {a s : State} (h : Keeps a s) (k : Nat) :
    Keeps a (State.dropItems s k) := by
  unfold State.dropItems
  try dsimp only
  repeat' (first
    | with_reducible assumption | (with_reducible intro _) | with_reducible apply Keeps.State_setRadio
    | with_reducible apply Keeps.State_setPlc | with_reducible apply Keeps.State_setEth
    | with_reducible apply Keeps.State_endXfers | with_reducible apply Keeps.State_setQueue
    | with_reducible apply Keeps.State_serve | with_reducible apply Keeps.foldl
    | with_reducible apply Keeps.foldlP | with_reducible apply Keeps.ite
    | (dsimp only [Keeps_mk]; with_reducible apply KeptOf.of) | split
    | (dsimp only [Keeps_mk]; apply KeptOf.of))

theorem Keeps.State_drainLast {a s : State} (h : Keeps a s) (d : DieId) (n : Nat) (q : Option Nat) :
    Keeps a (State.drainLast s d n q) := by
  unfold State.drainLast
  try dsimp only
  repeat' (first
    | with_reducible assumption | (with_reducible intro _) | with_reducible apply Keeps.State_lastDrop
    | with_reducible apply Keeps.State_draw | with_reducible apply Keeps.ite | split)

theorem Keeps.by_execDrainTimeout {a s : State} (h : Keeps a s) (b : DrainBlock) :
    KeepsX a (execDrainTimeout b s) := by
  unfold Sys2Proof.Machine.execDrainTimeout
  try dsimp only
  repeat' (first
    | with_reducible assumption | (with_reducible intro _) | with_reducible apply Keeps.State_dropItems
    | with_reducible apply Keeps.State_addSat | with_reducible apply Keeps.State_raiseIf
    | with_reducible apply Keeps.State_drainLast | with_reducible apply Keeps.State_drained
    | with_reducible apply Keeps.State_post | with_reducible apply KeepsX.next
    | with_reducible apply KeepsX.ite | with_reducible apply Keeps.ite | split)

theorem Keeps.State_blockOn {a s : State} (h : Keeps a s) (k : Nat) :
    Keeps a (State.blockOn s k) := by
  unfold State.blockOn
  try dsimp only
  repeat' (first
    | with_reducible assumption | (with_reducible intro _) | with_reducible apply Keeps.State_set
    | with_reducible apply Keeps.State_setRadio | with_reducible apply Keeps.State_chainConfigure
    | with_reducible apply Keeps.State_activate | with_reducible apply Keeps.State_failover
    | with_reducible apply Keeps.ite | (dsimp only [Keeps_mk]; with_reducible apply KeptOf.of) | split
    | (dsimp only [Keeps_mk]; apply KeptOf.of))

theorem Keeps.State_enableWrite {a s : State} (h : Keeps a s) (k : Nat) :
    KeepsE a (State.enableWrite s k) := by
  unfold State.enableWrite
  try dsimp only
  repeat' (first
    | with_reducible assumption | (with_reducible intro _) | with_reducible apply Keeps.State_blockOn
    | with_reducible apply KeepsE.error | with_reducible apply KeepsE.ok | with_reducible apply KeepsE.ite
    | with_reducible apply Keeps.ite | split)

theorem Keeps.by_execBlockEnable {a s : State} (h : Keeps a s) (p : Port) (b : DrainBlock) :
    KeepsX a (execBlockEnable p b s) := by
  unfold Sys2Proof.Machine.execBlockEnable
  try dsimp only
  repeat' (first
    | with_reducible assumption | (with_reducible intro _) | with_reducible apply Keeps.State_access
    | with_reducible apply Keeps.State_wrote | with_reducible apply Keeps.State_enableWrite
    | with_reducible refine Keeps.ofE (by assumption) ?_ | with_reducible apply KeepsX.next)

theorem Keeps.State_testNext {a s : State} (h : Keeps a s) :
    Keeps a (State.testNext s) := by
  unfold State.testNext
  try dsimp only
  repeat' (first
    | with_reducible assumption | (with_reducible intro _)
    | (dsimp only [Keeps_mk]; with_reducible apply KeptOf.of) | split
    | (dsimp only [Keeps_mk]; apply KeptOf.of))

theorem Keeps.State_testQueue {a s : State} (h : Keeps a s) (x : Nat × Nat) :
    Keeps a (State.testQueue s x) := by
  unfold State.testQueue
  try dsimp only
  repeat' (first
    | with_reducible assumption | (with_reducible intro _) | with_reducible apply Keeps.State_testNext
    | with_reducible apply Keeps.ite | (dsimp only [Keeps_mk]; with_reducible apply KeptOf.of) | split
    | (dsimp only [Keeps_mk]; apply KeptOf.of))

theorem Keeps.State_raiseTest {a s : State} (h : Keeps a s) (f : DieId → Fld) :
    Keeps a (State.raiseTest s f) := by
  unfold State.raiseTest
  try dsimp only
  repeat' (first
    | with_reducible assumption | (with_reducible intro _) | with_reducible apply Keeps.State_raise)

theorem Keeps.State_testRequest {a s : State} (h : Keeps a s) (b : List Byte) :
    Keeps a (State.testRequest s b).1 := by
  unfold State.testRequest
  try dsimp only
  repeat' (first
    | with_reducible assumption | (with_reducible intro _) | with_reducible apply Keeps.State_raiseTest
    | with_reducible apply Keeps.State_testQueue | with_reducible apply Keeps.iteP
    | with_reducible apply Keeps.ite | split)

theorem Keeps.State_testRecord {a s : State} (h : Keeps a s) (t : Nat) (i : Nat) (result : Nat) :
    Keeps a (State.testRecord s t i result) := by
  unfold State.testRecord
  try dsimp only
  repeat' (first
    | with_reducible assumption | (with_reducible intro _) | with_reducible apply Keeps.State_set
    | with_reducible apply Keeps.State_addWrap | with_reducible apply Keeps.State_addSat
    | with_reducible apply Keeps.State_raise | with_reducible apply Keeps.State_raiseIf
    | with_reducible apply Keeps.State_draw | with_reducible apply Keeps.State_post
    | with_reducible apply Keeps.both | with_reducible apply Keeps.ite | split)

theorem Keeps.State_testEnd {a s : State} (h : Keeps a s) (result : Nat) :
    Keeps a (State.testEnd s result) := by
  unfold State.testEnd
  try dsimp only
  repeat' (first
    | with_reducible assumption | (with_reducible intro _) | with_reducible apply Keeps.State_testRecord
    | with_reducible apply Keeps.State_testNext | (dsimp only [Keeps_mk]; with_reducible apply KeptOf.of)
    | split | (dsimp only [Keeps_mk]; apply KeptOf.of))

theorem Keeps.State_verdict {a s : State} (h : Keeps a s) (result : Nat) :
    Keeps a (State.verdict s result) := by
  unfold State.verdict
  try dsimp only
  repeat' (first
    | with_reducible assumption | (with_reducible intro _)
    | (dsimp only [Keeps_mk]; with_reducible apply KeptOf.of) | (dsimp only [Keeps_mk]; apply KeptOf.of))

theorem Keeps.State_testSteps {a s : State} (h : Keeps a s) (n : Nat) :
    Keeps a (State.testSteps s n) := by
  unfold State.testSteps
  try dsimp only
  repeat' (first
    | with_reducible assumption | (with_reducible intro _)
    | (dsimp only [Keeps_mk]; with_reducible apply KeptOf.of) | (dsimp only [Keeps_mk]; apply KeptOf.of))

theorem Keeps.by_execDieFullSelfTest {a s : State} (h : Keeps a s) (d : DieId) :
    KeepsX a (execDieFullSelfTest d s) := by
  unfold Sys2Proof.Machine.execDieFullSelfTest
  try dsimp only
  repeat' (first
    | with_reducible assumption | (with_reducible intro _) | with_reducible apply Keeps.State_handOver
    | with_reducible apply Keeps.State_verdict | with_reducible apply Keeps.State_selfTest
    | with_reducible apply Keeps.State_testSteps | with_reducible apply KeepsX.next
    | with_reducible apply KeepsX.ite | with_reducible apply Keeps.ite | with_reducible apply Keeps.iteP
    | with_reducible refine Keeps.ofP (by assumption) ?_ | split)

theorem Keeps.State_markSpare {a s : State} (h : Keeps a s) (d : DieId) (c : Nat) (bad : Bool) :
    Keeps a (State.markSpare s d c bad) := by
  unfold State.markSpare
  try dsimp only
  repeat' (first
    | with_reducible assumption | (with_reducible intro _) | with_reducible apply Keeps.State_set
    | with_reducible apply Keeps.State_raiseIf)

theorem Keeps.State_spareTest {a s : State} (h : Keeps a s) (c : Nat) (a_ : Bool) (b : Bool) :
    Keeps a (State.spareTest s c a_ b).1 := by
  unfold State.spareTest
  try dsimp only
  repeat' (first
    | with_reducible assumption | (with_reducible intro _) | with_reducible apply Keeps.State_markSpare
    | with_reducible apply Keeps.iteP | with_reducible apply Keeps.ite | split)

theorem Keeps.by_execSpareUnitTest {a s : State} (h : Keeps a s) (c : Fin 32) (a_ : Bool) (b : Bool) :
    KeepsX a (execSpareUnitTest c a_ b s) := by
  unfold Sys2Proof.Machine.execSpareUnitTest
  try dsimp only
  repeat' (first
    | with_reducible assumption | (with_reducible intro _) | with_reducible apply Keeps.State_spareTest
    | with_reducible apply Keeps.State_verdict | with_reducible apply KeepsX.next
    | with_reducible apply KeepsX.ite | with_reducible apply Keeps.ite | with_reducible apply Keeps.iteP
    | with_reducible refine Keeps.ofP (by assumption) ?_ | split)

theorem Keeps.by_execMramScrubTest {a s : State} (h : Keeps a s) (bank : Fin 4) (found : List (DieId × Fin
    65536 × Fin 32 × Fin 3)) (pass : Bool) :
    KeepsX a (execMramScrubTest bank found pass s) := by
  unfold Sys2Proof.Machine.execMramScrubTest
  try dsimp only
  repeat' (first
    | with_reducible assumption | (with_reducible intro _) | with_reducible apply Keeps.State_scrub
    | with_reducible apply Keeps.State_verdict | with_reducible apply Keeps.both
    | with_reducible apply Keeps.foldl | with_reducible apply Keeps.foldlP
    | with_reducible apply KeepsX.next | with_reducible apply KeepsX.ite | with_reducible apply Keeps.ite
    | split)

theorem Keeps.State_idleStep {a s : State} (h : Keeps a s) (idle : Bool) (pass : Bool) :
    Keeps a (State.idleStep s idle pass) := by
  unfold State.idleStep
  try dsimp only
  repeat' (first
    | with_reducible assumption | (with_reducible intro _) | with_reducible apply Keeps.State_testSteps
    | with_reducible apply Keeps.State_verdict | with_reducible apply Keeps.ite | split)

theorem Keeps.by_execRadioCalibration {a s : State} (h : Keeps a s) (r : Fin 4) (pass : Bool) :
    KeepsX a (execRadioCalibration r pass s) := by
  unfold Sys2Proof.Machine.execRadioCalibration
  try dsimp only
  repeat' (first
    | with_reducible assumption | (with_reducible intro _) | with_reducible apply Keeps.State_idleStep
    | with_reducible apply KeepsX.next | with_reducible apply KeepsX.ite | with_reducible apply Keeps.ite
    | split)

theorem Keeps.by_execPlcLineMeasurement {a s : State} (h : Keeps a s) (p : Fin 2) (pass : Bool) :
    KeepsX a (execPlcLineMeasurement p pass s) := by
  unfold Sys2Proof.Machine.execPlcLineMeasurement
  try dsimp only
  repeat' (first
    | with_reducible assumption | (with_reducible intro _) | with_reducible apply Keeps.State_idleStep
    | with_reducible apply KeepsX.next | with_reducible apply KeepsX.ite | with_reducible apply Keeps.ite
    | split)

theorem Keeps.by_execChainCountTest {a s : State} (h : Keeps a s) (n : Fin 16) :
    KeepsX a (execChainCountTest n s) := by
  unfold Sys2Proof.Machine.execChainCountTest
  try dsimp only
  repeat' (first
    | with_reducible assumption | (with_reducible intro _) | with_reducible apply Keeps.State_set
    | with_reducible apply Keeps.State_testSteps | with_reducible apply KeepsX.next
    | with_reducible apply KeepsX.ite | with_reducible apply Keeps.ite | split)

theorem Keeps.by_execOffsetCalibrationTest {a s : State} (h : Keeps a s) (i : Fin 22) :
    KeepsX a (execOffsetCalibrationTest i s) := by
  unfold Sys2Proof.Machine.execOffsetCalibrationTest
  try dsimp only
  repeat' (first
    | with_reducible assumption | (with_reducible intro _) | with_reducible apply Keeps.State_calRequest
    | with_reducible apply Keeps.State_testSteps | with_reducible apply Keeps.State_verdict
    | with_reducible apply KeepsX.next | with_reducible apply KeepsX.ite | with_reducible apply Keeps.ite
    | with_reducible apply Keeps.iteP | with_reducible refine Keeps.ofP (by assumption) ?_ | split)

theorem Keeps.by_execCableDiagnostic {a s : State} (h : Keeps a s) (e : Fin 3) (pass : Bool) :
    KeepsX a (execCableDiagnostic e pass s) := by
  unfold Sys2Proof.Machine.execCableDiagnostic
  try dsimp only
  repeat' (first
    | with_reducible assumption | (with_reducible intro _) | with_reducible apply Keeps.State_verdict
    | with_reducible apply KeepsX.next | with_reducible apply KeepsX.ite | with_reducible apply Keeps.ite
    | split)

theorem Keeps.by_execFalsiaLaneTest {a s : State} (h : Keeps a s) (pass : Bool) :
    KeepsX a (execFalsiaLaneTest pass s) := by
  unfold Sys2Proof.Machine.execFalsiaLaneTest
  try dsimp only
  repeat' (first
    | with_reducible assumption | (with_reducible intro _) | with_reducible apply Keeps.State_verdict
    | with_reducible apply KeepsX.next | with_reducible apply KeepsX.ite | with_reducible apply Keeps.ite
    | split)

theorem Keeps.by_execPhyLoopback {a s : State} (h : Keeps a s) (e : Fin 3) (pass : Bool) :
    KeepsX a (execPhyLoopback e pass s) := by
  unfold Sys2Proof.Machine.execPhyLoopback
  try dsimp only
  repeat' (first
    | with_reducible assumption | (with_reducible intro _) | with_reducible apply Keeps.State_verdict
    | with_reducible apply KeepsX.next | with_reducible apply KeepsX.ite | with_reducible apply Keeps.ite
    | split)

theorem Keeps.State_fullTestEnd {a s : State} (h : Keeps a s) (d : DieId) (pass : Bool) :
    Keeps a (State.fullTestEnd s d pass) := by
  unfold State.fullTestEnd
  try dsimp only
  repeat' (first
    | with_reducible assumption | (with_reducible intro _) | with_reducible apply Keeps.State_testEnd
    | with_reducible apply Keeps.State_moveFailed | with_reducible apply Keeps.State_setRole
    | with_reducible apply Keeps.State_setSide | with_reducible apply Keeps.ite
    | (dsimp only [Keeps_mk]; with_reducible apply KeptOf.of) | split
    | (dsimp only [Keeps_mk]; apply KeptOf.of))

theorem Keeps.State_sparesPeriodic {a s : State} (h : Keeps a s) (bad : List (DieId × Fin 32)) :
    Keeps a (State.sparesPeriodic s bad) := by
  unfold State.sparesPeriodic
  try dsimp only
  repeat' (first
    | with_reducible assumption | (with_reducible intro _) | with_reducible apply Keeps.State_spareTest
    | with_reducible apply Keeps.State_testRecord | with_reducible apply Keeps.foldl
    | with_reducible apply Keeps.foldlP | with_reducible apply Keeps.ite | with_reducible apply Keeps.iteP
    | with_reducible refine Keeps.ofP (by assumption) ?_
    | (dsimp only [Keeps_mk]; with_reducible apply KeptOf.of) | split
    | (dsimp only [Keeps_mk]; apply KeptOf.of))

theorem Keeps.by_execTestPeriodic {a s : State} (h : Keeps a s) (radio : Option (Fin 4)) (bad : List (DieId ×
    Fin 32)) :
    KeepsX a (execTestPeriodic radio bad s) := by
  unfold Sys2Proof.Machine.execTestPeriodic
  try dsimp only
  repeat' (first
    | with_reducible assumption | (with_reducible intro _) | with_reducible apply Keeps.State_sparesPeriodic
    | with_reducible apply Keeps.State_testQueue | with_reducible apply KeepsX.next
    | with_reducible apply KeepsX.ite | with_reducible apply Keeps.ite
    | (dsimp only [Keeps_mk]; with_reducible apply KeptOf.of) | split
    | (dsimp only [Keeps_mk]; apply KeptOf.of))

theorem Keeps.State_offlineWrite {a s : State} (h : Keeps a s) (v : Nat) :
    Keeps a (State.offlineWrite s v).1 := by
  unfold State.offlineWrite
  try dsimp only
  repeat' (first
    | with_reducible assumption | (with_reducible intro _) | with_reducible apply Keeps.iteP
    | with_reducible apply Keeps.ite | (dsimp only [Keeps_mk]; with_reducible apply KeptOf.of) | split
    | (dsimp only [Keeps_mk]; apply KeptOf.of))

theorem Keeps.State_enterOffline {a s : State} (h : Keeps a s) :
    Keeps a (State.enterOffline s) := by
  unfold State.enterOffline
  try dsimp only
  repeat' (first
    | with_reducible assumption | (with_reducible intro _) | with_reducible apply Keeps.State_leave
    | with_reducible apply Keeps.State_setRole | with_reducible apply Keeps.State_set
    | with_reducible apply Keeps.State_raise | with_reducible apply Keeps.State_post
    | with_reducible apply Keeps.both | with_reducible apply Keeps.ite
    | (dsimp only [Keeps_mk]; with_reducible apply KeptOf.of) | split
    | (dsimp only [Keeps_mk]; apply KeptOf.of))

theorem Keeps.by_execTapRelease {a s : State} (h : Keeps a s) :
    KeepsX a (execTapRelease s) := by
  unfold Sys2Proof.Machine.execTapRelease
  try dsimp only
  repeat' (first
    | with_reducible assumption | (with_reducible intro _) | with_reducible apply Keeps.State_set
    | with_reducible apply Keeps.State_raise | with_reducible apply Keeps.both
    | with_reducible apply KeepsX.next | with_reducible apply KeepsX.ite | with_reducible apply Keeps.ite
    | (dsimp only [Keeps_mk]; with_reducible apply KeptOf.of) | split
    | (dsimp only [Keeps_mk]; apply KeptOf.of))

theorem Keeps.State_tapRise {a s : State} (h : Keeps a s) (tms : Bool) (tdi : Bool) :
    Keeps a (State.tapRise s tms tdi) := by
  unfold State.tapRise
  try dsimp only
  repeat' (first
    | with_reducible assumption | (with_reducible intro _) | with_reducible apply Keeps.State_draw
    | with_reducible apply Keeps.ite | (dsimp only [Keeps_mk]; with_reducible apply KeptOf.of) | split
    | (dsimp only [Keeps_mk]; apply KeptOf.of))

theorem Keeps.State_tapFall {a s : State} (h : Keeps a s) :
    Keeps a (State.tapFall s) := by
  unfold State.tapFall
  try dsimp only
  repeat' (first
    | with_reducible assumption | (with_reducible intro _) | with_reducible apply Keeps.ite
    | (dsimp only [Keeps_mk]; with_reducible apply KeptOf.of) | split
    | (dsimp only [Keeps_mk]; apply KeptOf.of))

theorem Keeps.by_execTapClockEdge {a s : State} (h : Keeps a s) (rising : Bool) (tms : Bool) (tdi : Bool) :
    KeepsX a (execTapClockEdge rising tms tdi s) := by
  unfold Sys2Proof.Machine.execTapClockEdge
  try dsimp only
  repeat' (first
    | with_reducible assumption | (with_reducible intro _) | with_reducible apply Keeps.State_tapRise
    | with_reducible apply Keeps.State_tapFall | with_reducible apply KeepsX.next
    | with_reducible apply KeepsX.ite | with_reducible apply Keeps.ite | split)

theorem Keeps.State_setIcuBit {a s : State} (h : Keeps a s) (f : Nat → Fld) (n : Nat) (b : Bool) :
    Keeps a (State.setIcuBit s f n b) := by
  unfold State.setIcuBit
  try dsimp only
  repeat' (first
    | with_reducible assumption | (with_reducible intro _) | with_reducible apply Keeps.State_set)

theorem Keeps.State_latchLines {a s : State} (h : Keeps a s) (d : DieId) :
    Keeps a (State.latchLines d s) := by
  unfold State.latchLines
  try dsimp only
  repeat' (first
    | with_reducible assumption | (with_reducible intro _) | with_reducible apply Keeps.State_set
    | with_reducible apply Keeps.foldl | with_reducible apply Keeps.foldlP)

theorem Keeps.by_execInterruptPending {a s : State} (h : Keeps a s) (d : DieId) :
    KeepsX a (execInterruptPending d s) := by
  unfold Sys2Proof.Machine.execInterruptPending
  try dsimp only
  repeat' (first
    | with_reducible assumption | (with_reducible intro _) | with_reducible apply Keeps.State_latchLines
    | with_reducible apply KeepsX.next)

theorem Keeps.State_icuClaim {a s : State} (h : Keeps a s) (d : DieId) (t : Nat) :
    Keeps a (State.icuClaim s d t).1 := by
  unfold State.icuClaim
  try dsimp only
  repeat' (first
    | with_reducible assumption | (with_reducible intro _) | with_reducible apply Keeps.State_setIcuBit
    | with_reducible apply Keeps.State_set | with_reducible apply Keeps.State_addSat
    | with_reducible apply Keeps.iteP | with_reducible apply Keeps.ite | split)

theorem Keeps.State_icuComplete {a s : State} (h : Keeps a s) (d : DieId) (t : Nat) (n : Nat) :
    Keeps a (State.icuComplete s d t n) := by
  unfold State.icuComplete
  try dsimp only
  repeat' (first
    | with_reducible assumption | (with_reducible intro _) | with_reducible apply Keeps.State_setIcuBit
    | with_reducible apply Keeps.State_set | with_reducible apply Keeps.State_addSat
    | with_reducible apply Keeps.ite | split)

theorem Keeps.State_icuRelease {a s : State} (h : Keeps a s) (d : DieId) :
    Keeps a (State.icuRelease s d) := by
  unfold State.icuRelease
  try dsimp only
  repeat' (first
    | with_reducible assumption | (with_reducible intro _) | with_reducible apply Keeps.State_setIcuBit
    | with_reducible apply Keeps.State_set | with_reducible apply Keeps.foldl
    | with_reducible apply Keeps.foldlP | with_reducible apply Keeps.ite | split)

theorem Keeps.State_writeRoutes {a s : State} (h : Keeps a s) (d : DieId) :
    Keeps a (State.writeRoutes s d) := by
  unfold State.writeRoutes
  try dsimp only
  repeat' (first
    | with_reducible assumption | (with_reducible intro _) | with_reducible apply Keeps.State_draw
    | with_reducible apply Keeps.State_set | with_reducible apply Keeps.foldl
    | with_reducible apply Keeps.foldlP | with_reducible apply Keeps.ite | split)

theorem Keeps.State_ptpTick {a s : State} (h : Keeps a s) :
    Keeps a (State.ptpTick s) := by
  unfold State.ptpTick
  try dsimp only
  repeat' (first
    | with_reducible assumption | (with_reducible intro _)
    | (dsimp only [Keeps_mk]; with_reducible apply KeptOf.of) | (dsimp only [Keeps_mk]; apply KeptOf.of))

theorem Keeps.State_setPair {a s : State} (h : Keeps a s) (lo : Fld) (hi : Fld) (v : Int) :
    Keeps a (State.setPair s lo hi v) := by
  unfold State.setPair
  try dsimp only
  repeat' (first
    | with_reducible assumption | (with_reducible intro _) | with_reducible apply Keeps.State_set)

theorem Keeps.State_ptpPending {a s : State} (h : Keeps a s) (o : Option Int) :
    Keeps a (State.ptpPending s o) := by
  unfold State.ptpPending
  try dsimp only
  repeat' (first
    | with_reducible assumption | (with_reducible intro _) | with_reducible apply Keeps.State_set
    | with_reducible apply Keeps.State_setPair)

theorem Keeps.State_ptpFresh {a s : State} (h : Keeps a s) :
    Keeps a (State.ptpFresh s) := by
  unfold State.ptpFresh
  try dsimp only
  repeat' (first
    | with_reducible assumption | (with_reducible intro _) | with_reducible apply Keeps.State_set
    | (dsimp only [Keeps_mk]; with_reducible apply KeptOf.of) | (dsimp only [Keeps_mk]; apply KeptOf.of))

theorem Keeps.State_ptpAgree {a s : State} (h : Keeps a s) (o : Int) :
    Keeps a (State.ptpAgree s o) := by
  unfold State.ptpAgree
  try dsimp only
  repeat' (first
    | with_reducible assumption | (with_reducible intro _) | with_reducible apply Keeps.State_raiseIf
    | with_reducible apply Keeps.State_set | with_reducible apply Keeps.State_setTaiValid
    | with_reducible apply Keeps.ite | (dsimp only [Keeps_mk]; with_reducible apply KeptOf.of) | split
    | (dsimp only [Keeps_mk]; apply KeptOf.of))

theorem Keeps.State_ptpServo {a s : State} (h : Keeps a s) (o : Int) :
    Keeps a (State.ptpServo s o) := by
  unfold State.ptpServo
  try dsimp only
  repeat' (first
    | with_reducible assumption | (with_reducible intro _) | with_reducible apply Keeps.State_setS
    | with_reducible apply Keeps.State_ptpFresh | with_reducible apply Keeps.State_ptpAgree
    | with_reducible apply Keeps.State_ptpPort | (dsimp only [Keeps_mk]; with_reducible apply KeptOf.of)
    | (dsimp only [Keeps_mk]; apply KeptOf.of))

theorem Keeps.State_ptpStep {a s : State} (h : Keeps a s) (o : Int) :
    Keeps a (State.ptpStep s o) := by
  unfold State.ptpStep
  try dsimp only
  repeat' (first
    | with_reducible assumption | (with_reducible intro _) | with_reducible apply Keeps.State_ptpPending
    | with_reducible apply Keeps.State_ptpFresh | with_reducible apply Keeps.State_set
    | with_reducible apply Keeps.State_addSat | with_reducible apply Keeps.State_setPair
    | with_reducible apply Keeps.State_raise | with_reducible apply Keeps.State_post
    | with_reducible apply Keeps.State_gclEntry | (dsimp only [Keeps_mk]; with_reducible apply KeptOf.of)
    | (dsimp only [Keeps_mk]; apply KeptOf.of))

theorem Keeps.State_ptpRun {a s : State} (h : Keeps a s) (o : Int) :
    Keeps a (State.ptpRun s o).1 := by
  unfold State.ptpRun
  try dsimp only
  repeat' (first
    | with_reducible assumption | (with_reducible intro _) | with_reducible apply Keeps.State_set
    | with_reducible apply Keeps.State_raise | with_reducible apply Keeps.State_post
    | with_reducible apply Keeps.iteP | with_reducible apply Keeps.ite
    | (dsimp only [Keeps_mk]; with_reducible apply KeptOf.of) | split
    | (dsimp only [Keeps_mk]; apply KeptOf.of))

theorem Keeps.State_ptpJudge {a s : State} (h : Keeps a s) (o : Int) :
    Keeps a (State.ptpJudge s o) := by
  unfold State.ptpJudge
  try dsimp only
  repeat' (first
    | with_reducible assumption | (with_reducible intro _) | with_reducible apply Keeps.State_ptpStep
    | with_reducible apply Keeps.State_ptpPending | with_reducible apply Keeps.State_ptpServo
    | with_reducible apply Keeps.State_set | with_reducible apply Keeps.State_addSat
    | with_reducible apply Keeps.State_ptpHoldover | with_reducible apply Keeps.State_ptpRun
    | with_reducible apply Keeps.ite | with_reducible apply Keeps.iteP
    | with_reducible refine Keeps.ofP (by assumption) ?_ | split)

theorem Keeps.State_ptpTake {a s : State} (h : Keeps a s) (o : Int) :
    Keeps a (State.ptpTake s o) := by
  unfold State.ptpTake
  try dsimp only
  repeat' (first
    | with_reducible assumption | (with_reducible intro _) | with_reducible apply Keeps.State_setPair
    | with_reducible apply Keeps.State_ptpJudge | with_reducible apply Keeps.ite | split)

theorem Keeps.by_execPtpOffsetWrite {a s : State} (h : Keeps a s) (o : BitVec 64) :
    KeepsX a (execPtpOffsetWrite o s) := by
  unfold Sys2Proof.Machine.execPtpOffsetWrite
  try dsimp only
  repeat' (first
    | with_reducible assumption | (with_reducible intro _) | with_reducible apply Keeps.State_ptpTake
    | with_reducible apply KeepsX.next)

theorem Keeps.State_ptpInvalid {a s : State} (h : Keeps a s) :
    Keeps a (State.ptpInvalid s) := by
  unfold State.ptpInvalid
  try dsimp only
  repeat' (first
    | with_reducible assumption | (with_reducible intro _) | with_reducible apply Keeps.State_raiseIf
    | with_reducible apply Keeps.State_set | with_reducible apply Keeps.State_setTaiValid)

theorem Keeps.State_ptpDisable {a s : State} (h : Keeps a s) :
    Keeps a (State.ptpDisable s) := by
  unfold State.ptpDisable
  try dsimp only
  repeat' (first
    | with_reducible assumption | (with_reducible intro _) | with_reducible apply Keeps.State_ptpInvalid
    | with_reducible apply Keeps.State_set | with_reducible apply Keeps.State_ptpPort
    | (dsimp only [Keeps_mk]; with_reducible apply KeptOf.of) | (dsimp only [Keeps_mk]; apply KeptOf.of))

theorem Keeps.by_execPtpHoldoverExpiry {a s : State} (h : Keeps a s) :
    KeepsX a (execPtpHoldoverExpiry s) := by
  unfold Sys2Proof.Machine.execPtpHoldoverExpiry
  try dsimp only
  repeat' (first
    | with_reducible assumption | (with_reducible intro _) | with_reducible apply Keeps.State_ptpHoldover
    | with_reducible apply Keeps.State_ptpInvalid | with_reducible apply KeepsX.next
    | with_reducible apply KeepsX.ite | with_reducible apply Keeps.ite | split)

theorem Keeps.State_ptpAuthorise {a s : State} (h : Keeps a s) :
    Keeps a (State.ptpAuthorise s).1 := by
  unfold State.ptpAuthorise
  try dsimp only
  repeat' (first
    | with_reducible assumption | (with_reducible intro _) | with_reducible apply Keeps.State_set
    | with_reducible apply Keeps.iteP | with_reducible apply Keeps.ite | split)

theorem Keeps.by_execAnnounceReceiptTimeout {a s : State} (h : Keeps a s) (st : Fin 7) :
    KeepsX a (execAnnounceReceiptTimeout st s) := by
  unfold Sys2Proof.Machine.execAnnounceReceiptTimeout
  try dsimp only
  repeat' (first
    | with_reducible assumption | (with_reducible intro _) | with_reducible apply Keeps.State_ptpPort
    | with_reducible apply Keeps.State_ptpHoldover | with_reducible apply KeepsX.next
    | with_reducible apply KeepsX.ite | with_reducible apply Keeps.ite | split)

end Sys2Proof.Machine
end

