-- ==== Sys2Proof/Laws/KeepsHost.lean ====
section
/-! SUPPORT. What the operations and commands of the object protocol, the resets, the ports and the boundary
keep. -/

namespace Sys2Proof.Machine

theorem Keeps.State_setAll {a s : State} (h : Keeps a s) (fs : List Fld) (v : Nat) :
    Keeps a (State.setAll s fs v) := by
  unfold State.setAll
  try dsimp only
  repeat' (first
    | with_reducible assumption | (with_reducible intro _) | with_reducible apply Keeps.State_set
    | with_reducible apply Keeps.foldl | with_reducible apply Keeps.foldlP)

theorem Keeps.State_setFieldBit {a s : State} (h : Keeps a s) (f : Fld) (k : Nat) (v : Nat) :
    Keeps a (State.setFieldBit s f k v) := by
  unfold State.setFieldBit
  try dsimp only
  repeat' (first
    | with_reducible assumption | (with_reducible intro _) | with_reducible apply Keeps.State_set)

theorem Keeps.State_setGain {a s : State} (h : Keeps a s) (i : Nat) :
    Keeps a (State.setGain s i) := by
  unfold State.setGain
  try dsimp only
  repeat' (first
    | with_reducible assumption | (with_reducible intro _) | with_reducible apply Keeps.State_set)

theorem Keeps.State_meterChanging {a s : State} (h : Keeps a s) (i : Nat) :
    Keeps a (State.meterChanging s i) := by
  unfold State.meterChanging
  try dsimp only
  repeat' (first
    | with_reducible assumption | (with_reducible intro _)
    | (dsimp only [Keeps_mk]; with_reducible apply KeptOf.of) | (dsimp only [Keeps_mk]; apply KeptOf.of))

theorem Keeps.State_setChainField {a s : State} (h : Keeps a s) (n : Nat) (f : Fld) (v : Nat) :
    Keeps a (State.setChainField s n f v) := by
  unfold State.setChainField
  try dsimp only
  repeat' (first
    | with_reducible assumption | (with_reducible intro _) | with_reducible apply Keeps.State_set
    | with_reducible apply Keeps.State_chainConfigure | with_reducible apply Keeps.ite | split)

theorem Keeps.State_setGateList {a s : State} (h : Keeps a s) (e : Nat) (b : List Byte) :
    Keeps a (State.setGateList s e b) := by
  unfold State.setGateList
  try dsimp only
  repeat' (first
    | with_reducible assumption | (with_reducible intro _) | with_reducible apply Keeps.State_set
    | with_reducible apply Keeps.foldl | with_reducible apply Keeps.foldlP)

theorem Keeps.State_setWake {a s : State} (h : Keeps a s) (f : Nat) (b : List Byte) :
    Keeps a (State.setWake s f b) := by
  unfold State.setWake
  try dsimp only
  repeat' (first
    | with_reducible assumption | (with_reducible intro _) | with_reducible apply Keeps.State_setEth
    | with_reducible apply Keeps.State_setFieldBit | (dsimp only [Keeps_mk]; with_reducible apply KeptOf.of)
    | (dsimp only [Keeps_mk]; apply KeptOf.of))

theorem Keeps.State_setService {a s : State} (h : Keeps a s) (k : Nat) (on : Bool) :
    Keeps a (State.setService s k on).1 := by
  unfold State.setService
  try dsimp only
  repeat' (first
    | with_reducible assumption | (with_reducible intro _) | with_reducible apply Keeps.State_setRadio
    | with_reducible apply Keeps.State_set | with_reducible apply Keeps.State_leave
    | with_reducible apply Keeps.State_setPlc | with_reducible apply Keeps.State_blockOn
    | with_reducible apply Keeps.State_radioLeave | with_reducible apply Keeps.State_plcLeave
    | with_reducible apply Keeps.State_blockOff | with_reducible apply Keeps.iteP
    | with_reducible apply Keeps.ite | (dsimp only [Keeps_mk]; with_reducible apply KeptOf.of) | split
    | (dsimp only [Keeps_mk]; apply KeptOf.of))

theorem Keeps.State_applySetting1 {a s : State} (h : Keeps a s) (idx : Nat) (sub : Nat) (ptr : Nat) (b : List
    Byte) :
    KeepsOP a (State.applySetting1 s idx sub ptr b) := by
  unfold State.applySetting1
  try dsimp only
  repeat' (first
    | with_reducible assumption | (with_reducible intro _) | with_reducible apply Keeps.State_set
    | with_reducible apply Keeps.State_acquirePeriod | with_reducible apply Keeps.State_writeProfile
    | with_reducible apply Keeps.State_writeCurve | with_reducible apply Keeps.State_writeAgg
    | with_reducible apply Keeps.State_take | with_reducible apply Keeps.State_putSlot
    | with_reducible apply Keeps.State_setNode | with_reducible apply Keeps.State_queueFrame
    | with_reducible apply Keeps.State_setChainField | with_reducible apply Keeps.State_setAll
    | with_reducible apply Keeps.State_setGateList | with_reducible apply Keeps.State_setWake
    | with_reducible apply Keeps.State_ptpDisable | with_reducible apply Keeps.foldl
    | with_reducible apply Keeps.foldlP | with_reducible apply KeepsOP.none
    | with_reducible apply KeepsOP.some | with_reducible apply KeepsOP.ite | with_reducible apply Keeps.ite
    | with_reducible apply Keeps.iteP | with_reducible refine Keeps.ofP (by assumption) ?_
    | (dsimp only [Keeps_mk]; with_reducible apply KeptOf.of) | split
    | (dsimp only [Keeps_mk]; apply KeptOf.of))

theorem Keeps.State_applySetting2 {a s : State} (h : Keeps a s) (idx : Nat) (sub : Nat) (b : List Byte) :
    KeepsOP a (State.applySetting2 s idx sub b) := by
  unfold State.applySetting2
  try dsimp only
  repeat' (first
    | with_reducible assumption | (with_reducible intro _) | with_reducible apply Keeps.State_setFieldBit
    | with_reducible apply Keeps.State_setObj | with_reducible apply Keeps.State_meterChanging
    | with_reducible apply Keeps.State_setGain | with_reducible apply Keeps.State_set
    | with_reducible apply KeepsOP.none | with_reducible apply KeepsOP.some
    | with_reducible apply KeepsOP.ite | with_reducible apply Keeps.ite
    | (dsimp only [Keeps_mk]; with_reducible apply KeptOf.of) | split
    | (dsimp only [Keeps_mk]; apply KeptOf.of))

theorem Keeps.State_applySetting {a s : State} (h : Keeps a s) (r : ObjRow) (boot : Bool) (idx : Nat) (sub :
    Nat) (ptr : Nat) (b : List Byte) :
    Keeps a (State.applySetting s r boot idx sub ptr b).1 := by
  unfold State.applySetting
  try dsimp only
  repeat' (first
    | with_reducible assumption | (with_reducible intro _) | with_reducible apply Keeps.State_setService
    | with_reducible apply Keeps.State_applySetting1 | with_reducible refine Keeps.ofOP (by assumption) ?_
    | with_reducible apply Keeps.State_applySetting2 | with_reducible apply Keeps.State_setAll
    | with_reducible apply Keeps.State_setOct | with_reducible apply Keeps.State_setObj
    | with_reducible apply Keeps.iteP | with_reducible apply Keeps.ite
    | with_reducible refine Keeps.ofP (by assumption) ?_ | split)

theorem Keeps.State_commitStart {a s : State} (h : Keeps a s) (v : Nat) (who : Option (Nat × Nat × Nat)) :
    Keeps a (State.commitStart s v who).1 := by
  unfold State.commitStart
  try dsimp only
  repeat' (first
    | with_reducible assumption | (with_reducible intro _) | with_reducible apply Keeps.State_set
    | with_reducible apply Keeps.State_setDie | with_reducible apply Keeps.State_mirror
    | with_reducible apply Keeps.iteP | with_reducible apply Keeps.ite
    | (dsimp only [Keeps_mk]; with_reducible apply KeptOf.of) | split
    | (dsimp only [Keeps_mk]; apply KeptOf.of))

theorem Keeps.by_execPromptCommitEnd {a s : State} (h : Keeps a s) :
    KeepsX a (execPromptCommitEnd s) := by
  unfold Sys2Proof.Machine.execPromptCommitEnd
  try dsimp only
  repeat' (first
    | with_reducible assumption | (with_reducible intro _) | with_reducible apply Keeps.State_set
    | with_reducible apply Keeps.State_setDie | with_reducible apply Keeps.State_mirror
    | with_reducible apply Keeps.State_settleItem | with_reducible apply KeepsX.next
    | (dsimp only [Keeps_mk]; with_reducible apply KeptOf.of) | split
    | (dsimp only [Keeps_mk]; apply KeptOf.of))

theorem Keeps.State_eraseBooks {a s : State} (h : Keeps a s) (v : Nat) :
    Keeps a (State.eraseBooks s v).1 := by
  unfold State.eraseBooks
  try dsimp only
  repeat' (first
    | with_reducible assumption | (with_reducible intro _) | with_reducible apply Keeps.State_setDie
    | with_reducible apply Keeps.State_mirror | with_reducible apply Keeps.iteP
    | with_reducible apply Keeps.ite | (dsimp only [Keeps_mk]; with_reducible apply KeptOf.of) | split
    | (dsimp only [Keeps_mk]; apply KeptOf.of))

theorem Keeps.State_applyEntry {a : State} {x_ : State × List Entry} (h : Keeps a x_.1) (e : Entry) :
    Keeps a (State.applyEntry x_ e).1 := by
  obtain ⟨s, y_⟩ := x_
  dsimp only at h
  unfold State.applyEntry
  try dsimp only
  repeat' (first
    | with_reducible assumption | (with_reducible intro _) | with_reducible apply Keeps.State_setDie
    | with_reducible apply Keeps.State_applySetting | with_reducible apply Keeps.iteP
    | with_reducible apply Keeps.ite | with_reducible refine Keeps.ofP (by assumption) ?_ | split)

theorem Keeps.State_applyFactory {a s : State} (h : Keeps a s) :
    Keeps a (State.applyFactory s) := by
  unfold State.applyFactory
  try dsimp only
  repeat' (first
    | with_reducible assumption | (with_reducible intro _) | with_reducible apply Keeps.State_setDie
    | with_reducible apply Keeps.State_applySetting | with_reducible apply Keeps.State_applyEntry
    | with_reducible apply Keeps.foldl | with_reducible apply Keeps.foldlP | with_reducible apply Keeps.ite
    | with_reducible apply Keeps.iteP | with_reducible refine Keeps.ofP (by assumption) ?_
    | (dsimp only [Keeps_mk]; with_reducible apply KeptOf.of) | split
    | (dsimp only [Keeps_mk]; apply KeptOf.of))

theorem Keeps.State_applyServices {a s : State} (h : Keeps a s) (es : List Entry) :
    Keeps a (State.applyServices s es) := by
  unfold State.applyServices
  try dsimp only
  repeat' (first
    | with_reducible assumption | (with_reducible intro _) | with_reducible apply Keeps.State_setService
    | with_reducible apply Keeps.foldl | with_reducible apply Keeps.foldlP | with_reducible apply Keeps.ite
    | with_reducible apply Keeps.iteP | with_reducible refine Keeps.ofP (by assumption) ?_ | split)

theorem Keeps.State_applyBooks {a s : State} (h : Keeps a s) :
    Keeps a (State.applyBooks s) := by
  unfold State.applyBooks
  try dsimp only
  repeat' (first
    | with_reducible assumption | (with_reducible intro _) | with_reducible apply Keeps.State_applyFactory
    | with_reducible apply Keeps.State_applyEntry | with_reducible apply Keeps.State_applyServices
    | with_reducible apply Keeps.State_setObj | with_reducible apply Keeps.State_post
    | with_reducible apply Keeps.State_postIf | with_reducible apply Keeps.foldl
    | with_reducible apply Keeps.foldlP | with_reducible refine Keeps.ofP (by assumption) ?_ | split)

theorem Keeps.State_touch {a s : State} (h : Keeps a s) (n : Nat) :
    Keeps a (State.touch s n) := by
  unfold State.touch
  try dsimp only
  repeat' (first
    | with_reducible assumption | (with_reducible intro _) | with_reducible apply Keeps.ite
    | (dsimp only [Keeps_mk]; with_reducible apply KeptOf.of) | split
    | (dsimp only [Keeps_mk]; apply KeptOf.of))

theorem Keeps.by_execSessionOpen {a s : State} (h : Keeps a s) (service : Bool) (commissioning : Bool) :
    KeepsX a (execSessionOpen service commissioning s) := by
  unfold Sys2Proof.Machine.execSessionOpen
  try dsimp only
  repeat' (first
    | with_reducible assumption | (with_reducible intro _) | with_reducible apply Keeps.State_objSat
    | with_reducible apply Keeps.State_dropPointers | with_reducible apply KeepsX.next
    | with_reducible apply KeepsX.ite | with_reducible apply Keeps.ite
    | (dsimp only [Keeps_mk]; with_reducible apply KeptOf.of) | split
    | (dsimp only [Keeps_mk]; apply KeptOf.of))

theorem Keeps.by_execSessionIdleTimeout {a s : State} (h : Keeps a s) :
    KeepsX a (execSessionIdleTimeout s) := by
  unfold Sys2Proof.Machine.execSessionIdleTimeout
  try dsimp only
  repeat' (first
    | with_reducible assumption | (with_reducible intro _) | with_reducible apply Keeps.State_closeSessions
    | with_reducible apply KeepsX.next)

theorem Keeps.by_execSessionPeerClose {a s : State} (h : Keeps a s) (n : Fin 33) :
    KeepsX a (execSessionPeerClose n s) := by
  unfold Sys2Proof.Machine.execSessionPeerClose
  try dsimp only
  repeat' (first
    | with_reducible assumption | (with_reducible intro _) | with_reducible apply Keeps.State_closeSessions
    | with_reducible apply KeepsX.next)

theorem Keeps.State_stageWrite {a s : State} (h : Keeps a s) (w : Mgmt) :
    Keeps a (State.stageWrite s w).1 := by
  unfold State.stageWrite
  try dsimp only
  repeat' (first
    | with_reducible assumption | (with_reducible intro _) | with_reducible apply Keeps.State_addSat
    | with_reducible apply Keeps.State_raise | with_reducible apply Keeps.State_setDie
    | with_reducible apply Keeps.State_journalMgmt | with_reducible apply Keeps.iteP
    | with_reducible apply Keeps.ite | (dsimp only [Keeps_mk]; with_reducible apply KeptOf.of) | split
    | (dsimp only [Keeps_mk]; apply KeptOf.of))

theorem Keeps.State_refusedWrite {a s : State} (h : Keeps a s) (idx : Nat) (st : Nat) :
    Keeps a (State.refusedWrite s idx st) := by
  unfold State.refusedWrite
  try dsimp only
  repeat' (first
    | with_reducible assumption | (with_reducible intro _) | with_reducible apply Keeps.State_raise
    | with_reducible apply Keeps.State_authFail | with_reducible apply Keeps.ite | split)

theorem Keeps.State_actNow {a s : State} (h : Keeps a s) (idx : Nat) (b : List Byte) :
    KeepsOP a (State.actNow s idx b) := by
  unfold State.actNow
  try dsimp only
  repeat' (first
    | with_reducible assumption | (with_reducible intro _) | with_reducible apply Keeps.State_stageBegin
    | with_reducible apply Keeps.State_stageBlock | with_reducible apply Keeps.State_stageEnd
    | with_reducible apply Keeps.State_endorse | with_reducible apply KeepsOP.none
    | with_reducible apply KeepsOP.some | with_reducible apply KeepsOP.ite | with_reducible apply Keeps.ite
    | with_reducible apply Keeps.iteP | with_reducible refine Keeps.ofP (by assumption) ?_ | split)

theorem Keeps.State_takeWrite {a s : State} (h : Keeps a s) (session : Nat) (who : Option (Nat × Nat × Nat))
    (idx : Nat) (sub : Nat) (b : List Byte) :
    Keeps a (State.takeWrite s session who idx sub b).1 := by
  unfold State.takeWrite
  try dsimp only
  repeat' (first
    | with_reducible assumption | (with_reducible intro _) | with_reducible apply Keeps.State_refusedWrite
    | with_reducible apply Keeps.State_actNow | with_reducible refine Keeps.ofOP (by assumption) ?_
    | with_reducible apply Keeps.State_stageWrite | with_reducible apply Keeps.iteP
    | with_reducible apply Keeps.ite | with_reducible refine Keeps.ofP (by assumption) ?_
    | (dsimp only [Keeps_mk]; with_reducible apply KeptOf.of) | split
    | (dsimp only [Keeps_mk]; apply KeptOf.of))

theorem Keeps.State_takeEp {a s : State} (h : Keeps a s) (who : Option (Nat × Nat × Nat)) (e : Nat) (code :
    Nat) (b : List Byte) :
    Keeps a (State.takeEp s who e code b).1 := by
  unfold State.takeEp
  try dsimp only
  repeat' (first
    | with_reducible assumption | (with_reducible intro _) | with_reducible apply Keeps.State_stageWrite
    | with_reducible apply Keeps.iteP | with_reducible apply Keeps.ite
    | with_reducible refine Keeps.ofP (by assumption) ?_
    | (dsimp only [Keeps_mk]; with_reducible apply KeptOf.of) | split)

theorem Keeps.State_replyOnly {a s : State} (h : Keeps a s) (session : Nat) (request : Nat) (b : List Byte) :
    Keeps a (State.replyOnly s session request b) := by
  unfold State.replyOnly
  try dsimp only
  repeat' (first
    | with_reducible assumption | (with_reducible intro _) | with_reducible apply Keeps.State_releaseHeld
    | (dsimp only [Keeps_mk]; with_reducible apply KeptOf.of) | (dsimp only [Keeps_mk]; apply KeptOf.of))

theorem Keeps.State_malformed {a s : State} (h : Keeps a s) (session : Nat) (m : List Byte) :
    Keeps a (State.malformed s session m) := by
  unfold State.malformed
  try dsimp only
  repeat' (first
    | with_reducible assumption | (with_reducible intro _) | with_reducible apply Keeps.State_objSat
    | with_reducible apply Keeps.State_replyOnly | with_reducible apply Keeps.ite | split)

theorem Keeps.State_repeated {a s : State} (h : Keeps a s) (session : Nat) (m : Remembered) :
    Keeps a (State.repeated s session m) := by
  unfold State.repeated
  try dsimp only
  repeat' (first
    | with_reducible assumption | (with_reducible intro _) | with_reducible apply Keeps.State_objSat
    | with_reducible apply Keeps.State_set | with_reducible apply Keeps.State_replyOnly
    | with_reducible apply Keeps.State_emit | with_reducible apply Keeps.ite | split)

theorem Keeps.State_remember {a s : State} (h : Keeps a s) (session : Nat) (request : Nat) :
    Keeps a (State.remember s session request) := by
  unfold State.remember
  try dsimp only
  repeat' (first
    | with_reducible assumption | (with_reducible intro _)
    | (dsimp only [Keeps_mk]; with_reducible apply KeptOf.of) | (dsimp only [Keeps_mk]; apply KeptOf.of))

theorem Keeps.State_serveRead {a s : State} (h : Keeps a s) (session : Nat) (request : Nat) (items : List (Nat
    × Nat)) :
    Keeps a (State.serveRead s session request items) := by
  unfold State.serveRead
  try dsimp only
  repeat' (first
    | with_reducible assumption | (with_reducible intro _) | with_reducible apply Keeps.State_respond
    | with_reducible apply Keeps.State_countStatus | with_reducible apply Keeps.foldl
    | with_reducible apply Keeps.foldlP | with_reducible apply Keeps.ite | split)

theorem Keeps.State_serveEpRead {a s : State} (h : Keeps a s) (session : Nat) (request : Nat) (first : Nat)
    (count : Nat) (code : Nat) :
    Keeps a (State.serveEpRead s session request first count code) := by
  unfold State.serveEpRead
  try dsimp only
  repeat' (first
    | with_reducible assumption | (with_reducible intro _) | with_reducible apply Keeps.State_respond
    | with_reducible apply Keeps.State_countStatus | with_reducible apply Keeps.ite | split)

theorem Keeps.State_takenAll {a s : State} (h : Keeps a s) (session : Nat) (request : Nat) (type : Nat) (items
    : List (List Byte × Option Nat)) :
    Keeps a (State.takenAll s session request type items) := by
  unfold State.takenAll
  try dsimp only
  repeat' (first
    | with_reducible assumption | (with_reducible intro _) | with_reducible apply Keeps.State_respond
    | with_reducible apply Keeps.ite | (dsimp only [Keeps_mk]; with_reducible apply KeptOf.of) | split
    | (dsimp only [Keeps_mk]; apply KeptOf.of))

theorem Keeps.State_countTaken {a s : State} (h : Keeps a s) (session : Nat) (idx : Nat) (sub : Nat) (st :
    Option Nat) :
    Keeps a (State.countTaken s session idx sub st) := by
  unfold State.countTaken
  try dsimp only
  repeat' (first
    | with_reducible assumption | (with_reducible intro _) | with_reducible apply Keeps.State_countStatus
    | split)

theorem Keeps.State_takeItems {a s : State} (h : Keeps a s) (session request : Nat)
    (l : List (Nat × Nat × List Byte)) (n : Nat) : Keeps a (State.takeItems session request l n s).1 := by
  induction l generalizing n s with
  | nil => exact h
  | cons x l ih => exact ih ((h.State_takeWrite _ _ _ _ _).State_countTaken _ _ _ _) _

theorem Keeps.State_takeEps {a s : State} (h : Keeps a s) (session request : Nat)
    (l : List (Nat × Nat × List Byte)) (n : Nat) : Keeps a (State.takeEps session request l n s).1 := by
  induction l generalizing n s with
  | nil => exact h
  | cons x l ih => exact ih ((h.State_takeEp _ _ _ _).State_countTaken _ _ _ _) _

theorem Keeps.State_serveWrite {a s : State} (h : Keeps a s) (session : Nat) (request : Nat) (items : List (Nat
    × Nat × List Byte)) :
    Keeps a (State.serveWrite s session request items) := by
  unfold State.serveWrite
  try dsimp only
  repeat' (first
    | with_reducible assumption | (with_reducible intro _) | with_reducible apply Keeps.State_takeItems
    | with_reducible apply Keeps.State_takenAll | split)

theorem Keeps.State_serveEpWrite {a s : State} (h : Keeps a s) (session : Nat) (request : Nat) (items : List
    (Nat × Nat × List Byte)) :
    Keeps a (State.serveEpWrite s session request items) := by
  unfold State.serveEpWrite
  try dsimp only
  repeat' (first
    | with_reducible assumption | (with_reducible intro _) | with_reducible apply Keeps.State_takeEps
    | with_reducible apply Keeps.State_takenAll | split)

theorem Keeps.State_admitRequest {a s : State} (h : Keeps a s) (session : Nat) (m : List Byte) {serve : State →
    State}
    (hf : ∀ t, Keeps a t → Keeps a (serve t)) : Keeps a (s.admitRequest session m serve) := by
  unfold State.admitRequest
  have g : Keeps a { s with remembered := s.stillRemembered } := by
    dsimp only [Keeps_mk]
    exact KeptOf.of h
  dsimp only
  split
  · exact g.State_repeated _ _
  · split
    · exact (g.State_countBusy _).State_replyOnly _ _ _
    · exact hf _ (g.State_remember _ _)

theorem Keeps.State_receiveMessage {a s : State} (h : Keeps a s) (session : Nat) (m : List Byte)
    {mine : Request → Option (State → State)}
    (hm : ∀ q f, mine q = some f → ∀ t, Keeps a t → Keeps a (f t)) :
    Keeps a (s.receiveMessage session m mine) := by
  unfold State.receiveMessage
  split
  · exact h
  · split
    · exact (h.State_touch _).State_malformed _ _
    · split
      · exact h
      · rename_i e
        exact (h.State_touch _).State_admitRequest _ _ (hm _ _ e)

theorem Keeps.by_execRead {a s : State} (h : Keeps a s) (session : Fin 33) (m : List Byte) :
    KeepsX a (execRead session m s) := by
  unfold Sys2Proof.Machine.execRead
  refine KeepsX.next (h.State_receiveMessage _ _ fun q f e t ht => ?_)
  split at e
  · cases e
    exact ht.State_serveRead _ _ _
  · cases e

theorem Keeps.by_execWrite {a s : State} (h : Keeps a s) (session : Fin 33) (m : List Byte) :
    KeepsX a (execWrite session m s) := by
  unfold Sys2Proof.Machine.execWrite
  refine KeepsX.next (h.State_receiveMessage _ _ fun q f e t ht => ?_)
  split at e
  · cases e
    exact ht.State_serveWrite _ _ _
  · cases e

theorem Keeps.by_execEpRead {a s : State} (h : Keeps a s) (session : Fin 33) (m : List Byte) :
    KeepsX a (execEpRead session m s) := by
  unfold Sys2Proof.Machine.execEpRead
  refine KeepsX.next (h.State_receiveMessage _ _ fun q f e t ht => ?_)
  split at e
  · cases e
    exact ht.State_serveEpRead _ _ _ _ _
  · cases e

theorem Keeps.by_execEpWrite {a s : State} (h : Keeps a s) (session : Fin 33) (m : List Byte) :
    KeepsX a (execEpWrite session m s) := by
  unfold Sys2Proof.Machine.execEpWrite
  refine KeepsX.next (h.State_receiveMessage _ _ fun q f e t ht => ?_)
  split at e
  · cases e
    exact ht.State_serveEpWrite _ _ _
  · cases e

theorem Keeps.State_objectWrite {a s : State} (h : Keeps a s) (session : Nat) (request : Nat) (idx : Nat) (sub
    : Nat) (b : List Byte) :
    Keeps a (State.objectWrite s session request idx sub b) := by
  unfold State.objectWrite
  try dsimp only
  repeat' (first
    | with_reducible assumption | (with_reducible intro _) | with_reducible apply Keeps.State_touch
    | with_reducible apply Keeps.State_admitRequest | with_reducible apply Keeps.State_serveWrite
    | with_reducible apply Keeps.ite | split)

theorem Keeps.State_companyShow {a s : State} (h : Keeps a s) (c : Command) (result : Nat) (stamp : Nat) :
    Keeps a (State.companyShow s c result stamp) := by
  unfold State.companyShow
  try dsimp only
  repeat' (first
    | with_reducible assumption | (with_reducible intro _)
    | (dsimp only [Keeps_mk]; with_reducible apply KeptOf.of) | (dsimp only [Keeps_mk]; apply KeptOf.of))

theorem Keeps.State_companyRun {a s : State} (h : Keeps a s) (c : Command) :
    Keeps a (State.companyRun s c).1 := by
  unfold State.companyRun
  try dsimp only
  repeat' (first
    | with_reducible assumption | (with_reducible intro _) | with_reducible apply Keeps.State_stageWrite
    | with_reducible apply Keeps.State_takeWrite | with_reducible apply Keeps.State_activate_
    | with_reducible apply Keeps.iteP | with_reducible apply Keeps.ite
    | with_reducible refine Keeps.ofP (by assumption) ?_
    | (dsimp only [Keeps_mk]; with_reducible apply KeptOf.of) | split)

theorem Keeps.State_markLate {a s : State} (h : Keeps a s) (late : Bool) :
    Keeps a (State.markLate s late) := by
  unfold State.markLate
  try dsimp only
  repeat' (first
    | with_reducible assumption | (with_reducible intro _) | with_reducible apply Keeps.ite
    | (dsimp only [Keeps_mk]; with_reducible apply KeptOf.of) | split
    | (dsimp only [Keeps_mk]; apply KeptOf.of))

theorem Keeps.State_companyTake {a s : State} (h : Keeps a s) (m : CompanyMsg) :
    Keeps a (State.companyTake s m).1 := by
  unfold State.companyTake
  try dsimp only
  repeat' (first
    | with_reducible assumption | (with_reducible intro _) | with_reducible apply Keeps.State_markLate
    | with_reducible apply Keeps.State_companyRun | with_reducible apply Keeps.iteP
    | with_reducible apply Keeps.ite | with_reducible refine Keeps.ofP (by assumption) ?_
    | (dsimp only [Keeps_mk]; with_reducible apply KeptOf.of) | split
    | (dsimp only [Keeps_mk]; apply KeptOf.of))

theorem Keeps.State_companyReceive {a s : State} (h : Keeps a s) (m : CompanyMsg) :
    Keeps a (State.companyReceive s m).1 := by
  unfold State.companyReceive
  try dsimp only
  repeat' (first
    | with_reducible assumption | (with_reducible intro _) | with_reducible apply Keeps.State_companyTake
    | with_reducible apply Keeps.State_companyShow | with_reducible apply Keeps.State_objSat
    | with_reducible apply Keeps.iteP | with_reducible apply Keeps.ite
    | with_reducible refine Keeps.ofP (by assumption) ?_ | split)

theorem Keeps.State_serveCompany {a s : State} (h : Keeps a s) (session : Nat) (request : Nat) (b : List Byte) :
    Keeps a (State.serveCompany s session request b) := by
  unfold State.serveCompany
  try dsimp only
  repeat' (first
    | with_reducible assumption | (with_reducible intro _) | with_reducible apply Keeps.State_objSat
    | with_reducible apply Keeps.State_respond | with_reducible apply Keeps.State_companyReceive
    | with_reducible apply Keeps.State_countBusy | with_reducible apply Keeps.ite
    | with_reducible apply Keeps.iteP | with_reducible refine Keeps.ofP (by assumption) ?_ | split)

theorem Keeps.by_execCompany {a s : State} (h : Keeps a s) (session : Option (Fin 33)) (m : List Byte) :
    KeepsX a (execCompany session m s) := by
  unfold Sys2Proof.Machine.execCompany
  split
  · refine KeepsX.next (h.State_receiveMessage _ _ fun q f e t ht => ?_)
    split at e
    · cases e
      exact ht.State_serveCompany _ _ _
    · cases e
  · refine KeepsX.ite (fun _ => KeepsX.next h) fun _ => ?_
    split
    · split
      · exact KeepsX.next (h.State_companyReceive _)
      · exact KeepsX.next (h.State_objSat _)
    · exact KeepsX.next h

theorem Keeps.State_companyDue {a s : State} (h : Keeps a s) :
    Keeps a (State.companyDue s) := by
  unfold State.companyDue
  try dsimp only
  repeat' (first
    | with_reducible assumption | (with_reducible intro _) | with_reducible apply Keeps.State_post
    | with_reducible apply Keeps.State_markLate | with_reducible apply Keeps.State_companyRun
    | with_reducible apply Keeps.State_companyShow | with_reducible apply Keeps.foldl
    | with_reducible apply Keeps.foldlP | with_reducible apply Keeps.ite | with_reducible apply Keeps.iteP
    | with_reducible refine Keeps.ofP (by assumption) ?_
    | (dsimp only [Keeps_mk]; with_reducible apply KeptOf.of) | split
    | (dsimp only [Keeps_mk]; apply KeptOf.of))

theorem Keeps.State_companySend {a s : State} (h : Keeps a s) (b : List Byte) :
    Keeps a (State.companySend s b).1 := by
  unfold State.companySend
  try dsimp only
  repeat' (first
    | with_reducible assumption | (with_reducible intro _) | with_reducible apply Keeps.State_companyReceive
    | with_reducible apply Keeps.State_emits | with_reducible apply Keeps.State_emit
    | with_reducible apply Keeps.iteP | with_reducible apply Keeps.ite
    | with_reducible refine Keeps.ofP (by assumption) ?_
    | (dsimp only [Keeps_mk]; with_reducible apply KeptOf.of) | split
    | (dsimp only [Keeps_mk]; apply KeptOf.of))

theorem Keeps.State_sendAnswered {a s : State} (h : Keeps a s) (n : Nat) (f : CompanySend → CompanySend) :
    Keeps a (State.sendAnswered s n f) := by
  unfold State.sendAnswered
  try dsimp only
  repeat' (first
    | with_reducible assumption | (with_reducible intro _) | with_reducible apply Keeps.ite
    | (dsimp only [Keeps_mk]; with_reducible apply KeptOf.of) | split
    | (dsimp only [Keeps_mk]; apply KeptOf.of))

theorem Keeps.by_execCompanyResponse {a s : State} (h : Keeps a s) (target : BitVec 14) (status : BitVec 8) :
    KeepsX a (execCompanyResponse target status s) := by
  unfold Sys2Proof.Machine.execCompanyResponse
  try dsimp only
  repeat' (first
    | with_reducible assumption | (with_reducible intro _) | with_reducible apply Keeps.State_sendAnswered
    | with_reducible apply KeepsX.next | with_reducible apply KeepsX.ite | with_reducible apply Keeps.ite
    | (dsimp only [Keeps_mk]; with_reducible apply KeptOf.of) | split
    | (dsimp only [Keeps_mk]; apply KeptOf.of))

theorem Keeps.State_numbered {a s : State} (h : Keeps a s) :
    Keeps a (State.numbered s) := by
  unfold State.numbered
  try dsimp only
  repeat' (first
    | with_reducible assumption | (with_reducible intro _) | with_reducible apply Keeps.State_setObj
    | with_reducible apply Keeps.ite | split)

theorem Keeps.State_joinCompany {a s : State} (h : Keeps a s) :
    Keeps a (State.joinCompany s).1 := by
  unfold State.joinCompany
  try dsimp only
  repeat' (first
    | with_reducible assumption | (with_reducible intro _) | with_reducible apply Keeps.State_setObj
    | with_reducible apply Keeps.State_closeSessions | with_reducible apply Keeps.State_joinKeys
    | with_reducible apply Keeps.iteP | with_reducible apply Keeps.ite | split)

theorem Keeps.State_leaveCompany {a s : State} (h : Keeps a s) (v : Nat) :
    Keeps a (State.leaveCompany s v).1 := by
  unfold State.leaveCompany
  try dsimp only
  repeat' (first
    | with_reducible assumption | (with_reducible intro _) | with_reducible apply Keeps.State_setObj
    | with_reducible apply Keeps.iteP | with_reducible apply Keeps.ite | split)

theorem Keeps.State_leftCompany {a s : State} (h : Keeps a s) :
    Keeps a (State.leftCompany s) := by
  unfold State.leftCompany
  try dsimp only
  repeat' (first
    | with_reducible assumption | (with_reducible intro _)
    | with_reducible apply Keeps.State_keyDecommission | with_reducible apply Keeps.State_closeSessions
    | with_reducible apply Keeps.State_setObj | with_reducible apply Keeps.ite
    | (dsimp only [Keeps_mk]; with_reducible apply KeptOf.of) | split
    | (dsimp only [Keeps_mk]; apply KeptOf.of))

theorem Keeps.by_onTrue {a s : State} (h : Keeps a s) (v : Nat) {act : State × Nat} (g : Keeps a act.1) :
    Keeps a (onTrue v s act).1 := by
  unfold onTrue
  split
  · exact g
  · exact h

theorem Keeps.by_yesNo {a : State} {x_ : State × Bool} (h : Keeps a x_.1) (no : Nat) :
    Keeps a (yesNo no x_).1 := by
  obtain ⟨s, y_⟩ := x_
  dsimp only at h
  unfold Sys2Proof.Machine.yesNo
  try dsimp only
  repeat' (first
    | with_reducible assumption | (with_reducible intro _) | with_reducible apply Keeps.iteP
    | with_reducible apply Keeps.ite | split)

theorem Keeps.State_swapObject {a s : State} (h : Keeps a s) (r : Nat) (v : Nat) :
    Keeps a (State.swapObject s r v).1 := by
  unfold State.swapObject
  try dsimp only
  repeat' (first
    | with_reducible assumption | (with_reducible intro _) | with_reducible apply Keeps.State_swapRequest
    | with_reducible apply Keeps.iteP | with_reducible apply Keeps.ite | split)

theorem Keeps.State_leaveObject {a s : State} (h : Keeps a s) (n : Nat) :
    Keeps a (State.leaveObject s n).1 := by
  unfold State.leaveObject
  try dsimp only
  repeat' (first
    | with_reducible assumption | (with_reducible intro _) | with_reducible apply Keeps.State_nodeLeaves
    | with_reducible apply Keeps.iteP | with_reducible apply Keeps.ite | split)

theorem Keeps.State_restartObject {a s : State} (h : Keeps a s) (v : Nat) :
    Keeps a (State.restartObject s v).1 := by
  unfold State.restartObject
  try dsimp only
  repeat' (first
    | with_reducible assumption | (with_reducible intro _) | with_reducible apply Keeps.iteP
    | with_reducible apply Keeps.ite | (dsimp only [Keeps_mk]; with_reducible apply KeptOf.of) | split
    | (dsimp only [Keeps_mk]; apply KeptOf.of))

theorem Keeps.State_applyAction1 {a s : State} (h : Keeps a s) (w : Mgmt) :
    KeepsOP a (State.applyAction1 s w) := by
  unfold State.applyAction1
  try dsimp only
  repeat' (first
    | with_reducible assumption | (with_reducible intro _) | with_reducible apply Keeps.State_commitStart
    | with_reducible apply Keeps.State_eraseBooks | with_reducible apply Keeps.State_setObj
    | with_reducible apply Keeps.State_numbered | with_reducible apply Keeps.by_onTrue
    | with_reducible apply Keeps.State_joinCompany | with_reducible apply Keeps.State_leaveCompany
    | with_reducible apply Keeps.State_companySend | with_reducible apply Keeps.State_rtcCommit
    | with_reducible apply Keeps.by_yesNo | with_reducible apply Keeps.State_ptpAuthorise
    | with_reducible apply Keeps.State_handOver | with_reducible apply Keeps.State_selfTest
    | with_reducible apply KeepsOP.none | with_reducible apply KeepsOP.some
    | with_reducible apply KeepsOP.ite | with_reducible apply Keeps.ite | with_reducible apply Keeps.iteP
    | with_reducible refine Keeps.ofP (by assumption) ?_
    | (dsimp only [Keeps_mk]; with_reducible apply KeptOf.of) | split
    | (dsimp only [Keeps_mk]; apply KeptOf.of))

theorem Keeps.State_applyAction2 {a s : State} (h : Keeps a s) (w : Mgmt) :
    KeepsOP a (State.applyAction2 s w) := by
  unfold State.applyAction2
  try dsimp only
  repeat' (first
    | with_reducible assumption | (with_reducible intro _) | with_reducible apply Keeps.State_swapObject
    | with_reducible apply Keeps.by_onTrue | with_reducible apply Keeps.State_leaveObject
    | with_reducible apply Keeps.State_set | with_reducible apply Keeps.by_yesNo
    | with_reducible apply Keeps.State_calRequest | with_reducible apply Keeps.State_harmRequest
    | with_reducible apply Keeps.State_theftClear | with_reducible apply Keeps.State_gclRequest
    | with_reducible apply Keeps.State_setOct | with_reducible apply Keeps.State_managementCert
    | with_reducible apply Keeps.State_keyImport | with_reducible apply Keeps.State_generateBranch
    | with_reducible apply Keeps.State_keyInvalidate | with_reducible apply Keeps.State_segmentChange
    | with_reducible apply Keeps.State_renewSegment | with_reducible apply Keeps.State_attest
    | with_reducible apply Keeps.State_tamperClear | with_reducible apply Keeps.State_activate_
    | with_reducible apply Keeps.State_rejectImage | with_reducible apply Keeps.State_acceptImage
    | with_reducible apply Keeps.State_campaignStart | with_reducible apply Keeps.State_nodeActivate
    | with_reducible apply Keeps.State_clearBoard | with_reducible apply Keeps.State_testRequest
    | with_reducible apply Keeps.State_offlineWrite | with_reducible apply Keeps.State_restartObject
    | with_reducible apply KeepsOP.none | with_reducible apply KeepsOP.some
    | with_reducible apply KeepsOP.ite | with_reducible apply Keeps.ite | with_reducible apply Keeps.iteP
    | with_reducible refine Keeps.ofP (by assumption) ?_ | split)

theorem Keeps.State_applyValue {a s : State} (h : Keeps a s) (w : Mgmt) :
    Keeps a (State.applyValue s w).1 := by
  unfold State.applyValue
  try dsimp only
  repeat' (first
    | with_reducible assumption | (with_reducible intro _) | with_reducible apply Keeps.State_applySetting
    | with_reducible apply Keeps.iteP | with_reducible apply Keeps.ite
    | with_reducible refine Keeps.ofP (by assumption) ?_
    | (dsimp only [Keeps_mk]; with_reducible apply KeptOf.of) | split
    | (dsimp only [Keeps_mk]; apply KeptOf.of))

theorem Keeps.State_applyObject {a s : State} (h : Keeps a s) (d : DieId) (w : Mgmt) :
    Keeps a (State.applyObject s d w).1 := by
  unfold State.applyObject
  try dsimp only
  repeat' (first
    | with_reducible assumption | (with_reducible intro _) | with_reducible apply Keeps.State_setDie
    | with_reducible apply Keeps.State_applyAction1 | with_reducible refine Keeps.ofOP (by assumption) ?_
    | with_reducible apply Keeps.State_applyAction2 | with_reducible apply Keeps.State_applyValue
    | with_reducible refine Keeps.ofP (by assumption) ?_ | split)

theorem Keeps.State_applyOne {a : State} {x_ : State × List Nat} (h : Keeps a x_.1) (d : DieId) (w : Mgmt) :
    Keeps a (State.applyOne d x_ w).1 := by
  obtain ⟨s, y_⟩ := x_
  dsimp only at h
  unfold State.applyOne
  try dsimp only
  repeat' (first
    | with_reducible assumption | (with_reducible intro _) | with_reducible apply Keeps.State_answer
    | with_reducible apply Keeps.State_applyEp | with_reducible apply Keeps.State_applyObject
    | with_reducible apply Keeps.iteP | with_reducible apply Keeps.ite
    | with_reducible refine Keeps.ofP (by assumption) ?_ | split)

theorem Keeps.State_applyStaged {a s : State} (h : Keeps a s) (d : DieId) :
    Keeps a (State.applyStaged s d).1 := by
  unfold State.applyStaged
  try dsimp only
  repeat' (first
    | with_reducible assumption | (with_reducible intro _) | with_reducible apply Keeps.State_setDie
    | with_reducible apply Keeps.State_applyOne | with_reducible apply Keeps.foldl
    | with_reducible apply Keeps.foldlP | with_reducible refine Keeps.ofP (by assumption) ?_
    | (dsimp only [Keeps_mk]; with_reducible apply KeptOf.of) | (dsimp only [Keeps_mk]; apply KeptOf.of))

theorem Keeps.State_dieQueues {a s : State} (h : Keeps a s) (d : DieId) :
    Keeps a (State.dieQueues s d) := by
  unfold State.dieQueues
  try dsimp only
  repeat' (first
    | with_reducible assumption | (with_reducible intro _) | with_reducible apply Keeps.State_rewind
    | with_reducible apply Keeps.foldl | with_reducible apply Keeps.foldlP
    | (dsimp only [Keeps_mk]; with_reducible apply KeptOf.of) | (dsimp only [Keeps_mk]; apply KeptOf.of))

theorem Keeps.State_dieRegs {a s : State} (h : Keeps a s) (d : DieId) : Keeps a (State.dieRegs s d) := by
  have g : Keeps a { s with regs := Tbl.keepRegs s.regs d.space (d.space + 2 ^ 30) resetRegs } := by
    obtain ⟨h1, h2, h3, h4, h5, h6⟩ := h
    exact ⟨h1, h2, h3, h4, fun x => Tbl.wf_splice (by omega) (h5 x) wf_resetRegs, h6⟩
  have k (l : List (Fld × Nat)) (t : State) (ht : Keeps a t) :
      Keeps a (l.foldl (fun s x => s.set x.1 x.2) t) := ht.foldl fun b x hb => hb.State_set _ _
  have put (t : State) (es : List (Nat × Nat)) (ht : Keeps a t) :
      Keeps a { t with regs := Tbl.putAll 0 t.regs es } := by
    obtain ⟨h1, h2, h3, h4, h5, h6⟩ := ht
    exact ⟨h1, h2, h3, h4, fun x => Tbl.wf_putAll _ (h5 x), h6⟩
  exact put _ _ (k _ _ g)

theorem Keeps.State_partLoads {a s : State} (h : Keeps a s) :
    Keeps a (State.partLoads s) := by
  unfold State.partLoads
  try dsimp only
  repeat' (first
    | with_reducible assumption | (with_reducible intro _) | with_reducible apply Keeps.State_set
    | with_reducible apply Keeps.foldl | with_reducible apply Keeps.foldlP | split)

theorem Keeps.State_resetModule {a s : State} (h : Keeps a s) :
    Keeps (a.withCycle 0) (State.resetModule s) := by
  unfold State.resetModule
  apply Keeps.State_partLoads
  obtain ⟨h1, h2, h3, ⟨l, h4⟩, h5, h6, h7, h8, _⟩ := h
  refine ⟨h1, h2, h3, ⟨l, h4⟩, fun x => ?_, fun _ => ?_, fun _ => ?_, fun x => ?_, rfl⟩
  · exact Tbl.wf_putAll _ (Tbl.wf_splice (by omega) wf_resetRegs (Tbl.wf_dropRange _ _ (h5 x)))
  · have (l : List (Nat × Nat)) (t : Tbl Nat) (ht : Tbl.wf 0 t = true) :
        Tbl.wf 0 (l.foldl (fun t x => Tbl.put 0 t (objKey x.1 x.2) (s.obj x.1 x.2)) t) = true := by
      induction l generalizing t with
      | nil => exact ht
      | cons e l ih => exact ih _ (Tbl.wf_put _ _ ht)
    exact this _ _ wf_resetObjs
  · have (l : List (Nat × Nat)) (t : Tbl (List Byte)) (ht : Tbl.wf [] t = true) :
        Tbl.wf [] (l.foldl (fun t x => Tbl.put [] t (objKey x.1 x.2) (s.oct x.1 x.2)) t) = true := by
      induction l generalizing t with
      | nil => exact ht
      | cons e l ih => exact ih _ (Tbl.wf_put _ _ ht)
    exact this _ _ wf_resetOcts
  · have hx := h8 x
    simp only [CounterOk, State.withCycle] at hx ⊢
    omega

theorem Keeps.State_identity {a s : State} (h : Keeps a s) :
    Keeps a (State.identity s) := by
  unfold State.identity
  try dsimp only
  repeat' (first
    | with_reducible assumption | (with_reducible intro _) | with_reducible apply Keeps.State_set
    | with_reducible apply Keeps.foldl | with_reducible apply Keeps.foldlP)

theorem Keeps.State_ghostLeaves {a s : State} (h : Keeps a s) (onBackup : Bool) :
    Keeps a (State.ghostLeaves s onBackup) := by
  unfold State.ghostLeaves
  try dsimp only
  repeat' (first
    | with_reducible assumption | (with_reducible intro _) | with_reducible apply Keeps.State_set
    | with_reducible apply Keeps.State_raiseIf | with_reducible apply Keeps.foldl
    | with_reducible apply Keeps.foldlP | (dsimp only [Keeps_mk]; with_reducible apply KeptOf.of)
    | (dsimp only [Keeps_mk]; apply KeptOf.of))

theorem Keeps.State_startModule {a s : State} (h : Keeps a s) (cause : Nat) (testEn : Bool) :
    Keeps a (State.startModule s cause testEn) := by
  unfold State.startModule
  try dsimp only
  repeat' (first
    | with_reducible assumption | (with_reducible intro _) | with_reducible apply Keeps.State_ghostLeaves
    | with_reducible apply Keeps.State_set | with_reducible apply Keeps.State_identity
    | with_reducible apply Keeps.State_drained | with_reducible apply Keeps.State_govern
    | with_reducible apply Keeps.ite | (dsimp only [Keeps_mk]; with_reducible apply KeptOf.of) | split
    | (dsimp only [Keeps_mk]; apply KeptOf.of))

theorem Keeps.by_execSupplyGood {a s : State} (h : Keeps a s) (testEn : Bool) :
    KeepsX a (execSupplyGood testEn s) := by
  unfold Sys2Proof.Machine.execSupplyGood
  try dsimp only
  repeat' (first
    | with_reducible assumption | (with_reducible intro _) | with_reducible apply Keeps.State_startModule
    | with_reducible apply KeepsX.next | with_reducible apply KeepsX.ite | with_reducible apply Keeps.ite
    | split)

theorem Keeps.by_execVinMonitor {a s : State} (h : Keeps a s) (mv : BitVec 16) :
    KeepsX a (execVinMonitor mv s) := by
  unfold Sys2Proof.Machine.execVinMonitor
  try dsimp only
  repeat' (first
    | with_reducible assumption | (with_reducible intro _) | with_reducible apply Keeps.State_set
    | with_reducible apply Keeps.State_raiseIf | with_reducible apply KeepsX.next
    | with_reducible apply KeepsX.ite | with_reducible apply Keeps.ite | split)

theorem Keeps.State_loadShed {a s : State} (h : Keeps a s) :
    Keeps a (State.loadShed s) := by
  unfold State.loadShed
  try dsimp only
  repeat' (first
    | with_reducible assumption | (with_reducible intro _)
    | (dsimp only [Keeps_mk]; with_reducible apply KeptOf.of) | (dsimp only [Keeps_mk]; apply KeptOf.of))

theorem Keeps.State_failSequence {a s : State} (h : Keeps a s) (m : MeterIn) (restart : Bool) :
    Keeps a (State.failSequence s m restart) := by
  unfold State.failSequence
  try dsimp only
  repeat' (first
    | with_reducible assumption | (with_reducible intro _) | with_reducible apply Keeps.State_meterClose
    | with_reducible apply Keeps.State_commitNow | with_reducible apply Keeps.State_raise
    | with_reducible apply Keeps.State_set | with_reducible apply Keeps.State_loadShed
    | with_reducible apply Keeps.ite | (dsimp only [Keeps_mk]; with_reducible apply KeptOf.of) | split
    | (dsimp only [Keeps_mk]; apply KeptOf.of))

theorem Keeps.by_execPowerFail {a s : State} (h : Keeps a s) (m : MeterIn) :
    KeepsX a (execPowerFail m s) := by
  unfold Sys2Proof.Machine.execPowerFail
  try dsimp only
  repeat' (first
    | with_reducible assumption | (with_reducible intro _) | with_reducible apply Keeps.State_failSequence
    | with_reducible apply KeepsX.next | with_reducible apply KeepsX.ite | with_reducible apply Keeps.ite
    | split)

theorem Keeps.State_pfailNote {a s : State} (h : Keeps a s) (ms : Nat) (a_ : Bool) (b : Bool) (short : Bool) :
    Keeps a (State.pfailNote s ms a_ b short) := by
  unfold State.pfailNote
  try dsimp only
  repeat' (first
    | with_reducible assumption | (with_reducible intro _) | with_reducible apply Keeps.State_set
    | with_reducible apply Keeps.ite | split)

theorem Keeps.by_execModuleReset {a s : State} (h : Keeps a s) (below : Bool) (na nb : Nat) {t : State}
    (e : execModuleReset below na nb s = .next t) : ∃ n, Keeps (a.withCycle n) t := by
  unfold Sys2Proof.Machine.execModuleReset at e
  split at e
  · cases e
    exact ⟨_, h⟩
  · dsimp only at e
    split at e
    · cases e
      exact ⟨_, h⟩
    · cases e
      have k (ma mb : Die) : Keeps a { s with dieA := ma, dieB := mb } := by
        dsimp only [Keeps_mk]
        exact KeptOf.of h
      have g := ((k (s.dieA.flush na) (s.dieB.flush nb)).State_pfailNote
        ((s.now - ‹Nat›) / 25000) (decide (s.dieA.dirty.length ≤ na)) (decide (s.dieB.dirty.length ≤ nb))
        ((below && !s.power.restart) && decide (s.now - ‹Nat› < 500000))).State_resetModule
      exact ⟨0, Keeps.ite (fun _ => g.State_startModule _ _) fun _ => g⟩

theorem Keeps.State_ghostEvent {a s : State} (h : Keeps a s) (bit : Nat) (f : Fld) :
    Keeps a (State.ghostEvent s bit f) := by
  unfold State.ghostEvent
  try dsimp only
  repeat' (first
    | with_reducible assumption | (with_reducible intro _) | with_reducible apply Keeps.State_raise
    | with_reducible apply Keeps.ite | (dsimp only [Keeps_mk]; with_reducible apply KeptOf.of) | split
    | (dsimp only [Keeps_mk]; apply KeptOf.of))

theorem Keeps.by_execBackupSwitch {a s : State} (h : Keeps a s) (vstby : BitVec 13) (vbat : BitVec 13) :
    KeepsX a (execBackupSwitch vstby vbat s) := by
  unfold Sys2Proof.Machine.execBackupSwitch
  try dsimp only
  repeat' (first
    | with_reducible assumption | (with_reducible intro _) | with_reducible apply Keeps.State_addSat
    | with_reducible apply Keeps.State_set | with_reducible apply Keeps.State_ghostEvent
    | with_reducible apply Keeps.State_theftStart | with_reducible apply KeepsX.next
    | with_reducible apply KeepsX.ite | with_reducible apply Keeps.ite
    | (dsimp only [Keeps_mk]; with_reducible apply KeptOf.of) | split
    | (dsimp only [Keeps_mk]; apply KeptOf.of))

theorem Keeps.by_execStandbyReturn {a s : State} (h : Keeps a s) (vstby : BitVec 13) (vbat : BitVec 13) :
    KeepsX a (execStandbyReturn vstby vbat s) := by
  unfold Sys2Proof.Machine.execStandbyReturn
  try dsimp only
  repeat' (first
    | with_reducible assumption | (with_reducible intro _) | with_reducible apply Keeps.State_theftStop
    | with_reducible apply KeepsX.next | with_reducible apply KeepsX.ite | with_reducible apply Keeps.ite
    | (dsimp only [Keeps_mk]; with_reducible apply KeptOf.of) | split
    | (dsimp only [Keeps_mk]; apply KeptOf.of))

theorem Keeps.by_execGhostLightReset {a s : State} (h : Keeps a s) : KeepsX a (execGhostLightReset s) := by
  unfold Sys2Proof.Machine.execGhostLightReset
  have g (lo hi : Nat) (hle : lo ≤ hi) (es : List (Nat × Nat)) :
      Keeps a { s with regs := Tbl.putAll 0 (Tbl.keepRegs s.regs lo hi resetRegs) es } := by
    obtain ⟨h1, h2, h3, h4, h5, h6⟩ := h
    exact ⟨h1, h2, h3, h4, fun x => Tbl.wf_putAll _ (Tbl.wf_splice (by omega) (h5 x) wf_resetRegs), h6⟩
  split
  · exact KeepsX.next h
  · apply KeepsX.next
    apply Keeps.State_ghostEvent
    dsimp only [Keeps_mk]
    apply KeptOf.of
    apply Keeps.State_set
    exact g _ _ (by omega) _

theorem Keeps.by_execGhostLightLeavesReset {a s : State} (h : Keeps a s) (vstby : BitVec 13) (vbat : BitVec 13)
    :
    KeepsX a (execGhostLightLeavesReset vstby vbat s) := by
  unfold Sys2Proof.Machine.execGhostLightLeavesReset
  try dsimp only
  repeat' (first
    | with_reducible assumption | (with_reducible intro _) | with_reducible apply Keeps.State_ghostLeaves
    | with_reducible apply KeepsX.next | with_reducible apply KeepsX.ite | with_reducible apply Keeps.ite
    | split)

theorem Keeps.by_execVbatMeasure {a s : State} (h : Keeps a s) (vstby : BitVec 13) (vbat : BitVec 13) :
    KeepsX a (execVbatMeasure vstby vbat s) := by
  unfold Sys2Proof.Machine.execVbatMeasure
  try dsimp only
  repeat' (first
    | with_reducible assumption | (with_reducible intro _) | with_reducible apply Keeps.State_set
    | with_reducible apply Keeps.State_ghostEvent | with_reducible apply KeepsX.next
    | with_reducible apply KeepsX.ite | with_reducible apply Keeps.ite
    | (dsimp only [Keeps_mk]; with_reducible apply KeptOf.of) | split
    | (dsimp only [Keeps_mk]; apply KeptOf.of))

theorem Keeps.by_execChargeFault {a s : State} (h : Keeps a s) :
    KeepsX a (execChargeFault s) := by
  unfold Sys2Proof.Machine.execChargeFault
  try dsimp only
  repeat' (first
    | with_reducible assumption | (with_reducible intro _) | with_reducible apply Keeps.State_ghostEvent
    | with_reducible apply KeepsX.next | with_reducible apply KeepsX.ite | with_reducible apply Keeps.ite
    | split)

theorem Keeps.State_step_ {a s : State} (h : Keeps a s) (n : Nat) :
    Keeps a (State.step_ s n) := by
  unfold State.step_
  try dsimp only
  repeat' (first
    | with_reducible assumption | (with_reducible intro _) | with_reducible apply Keeps.State_set)

theorem Keeps.by_execDieBoot {a s : State} (h : Keeps a s) (d : DieId) (sound0 : Bool) (sound1 : Bool) :
    KeepsX a (execDieBoot d sound0 sound1 s) := by
  unfold Sys2Proof.Machine.execDieBoot
  try dsimp only
  repeat' (first
    | with_reducible assumption | (with_reducible intro _) | with_reducible apply Keeps.State_setDie
    | with_reducible apply Keeps.State_dieRegs | with_reducible apply Keeps.State_dieQueues
    | with_reducible apply Keeps.State_sendMap | with_reducible apply Keeps.State_set
    | with_reducible apply Keeps.State_step_ | with_reducible apply Keeps.State_relayKeys
    | with_reducible apply Keeps.State_setRole | with_reducible apply Keeps.State_setGreen
    | with_reducible apply Keeps.State_setSide | with_reducible apply Keeps.State_writeRoutes
    | with_reducible apply Keeps.State_raiseIf | with_reducible apply Keeps.State_postIf
    | with_reducible apply KeepsX.next | with_reducible apply KeepsX.ite | with_reducible apply Keeps.ite
    | (dsimp only [Keeps_mk]; with_reducible apply KeptOf.of) | split
    | (dsimp only [Keeps_mk]; apply KeptOf.of))

theorem Keeps.State_energyGap {a s : State} (h : Keeps a s) (stamp : Nat) :
    Keeps a (State.energyGap s stamp) := by
  unfold State.energyGap
  try dsimp only
  repeat' (first
    | with_reducible assumption | (with_reducible intro _) | with_reducible apply Keeps.State_set
    | with_reducible apply Keeps.State_raise | with_reducible apply Keeps.State_objSat
    | with_reducible apply Keeps.State_post | (dsimp only [Keeps_mk]; with_reducible apply KeptOf.of)
    | (dsimp only [Keeps_mk]; apply KeptOf.of))

theorem Keeps.State_ghostNews {a s : State} (h : Keeps a s) :
    Keeps a (State.ghostNews s) := by
  unfold State.ghostNews
  try dsimp only
  repeat' (first
    | with_reducible assumption | (with_reducible intro _) | with_reducible apply Keeps.State_raiseIf
    | with_reducible apply Keeps.State_setObj | (dsimp only [Keeps_mk]; with_reducible apply KeptOf.of)
    | (dsimp only [Keeps_mk]; apply KeptOf.of))

theorem Keeps.by_execCounterLoad {a s : State} (h : Keeps a s) (bad : List (DieId × Fin 2)) {t : State}
    (e : execCounterLoad bad s = .next t) : ∃ n, Keeps (a.withCycle n) t := by
  unfold Sys2Proof.Machine.execCounterLoad at e
  have g (u : State) (hu : Keeps a u) (m : MeterState) (n k : Nat) : Keeps (a.withCycle n) { u with
      meter := m, clk := { u.clk with cycle := n },
      power := { u.power with loaded := true, savedCycle := k } } := by
    obtain ⟨h1, h2, h3, h4, h5, h6, h7, h8, _⟩ := hu
    exact ⟨h1, h2, h3, h4, h5, h6, h7, h8, rfl⟩
  split at e
  · cases e
    exact ⟨_, h⟩
  · extract_lets _ _ _ c saved s1 s2 backlog _ _ s3 s4 s5 s6 at e
    injection e with e
    have k3 : Keeps (a.withCycle (saved + 2)) s3 :=
      (g _ (((h.State_set _ _).State_addSat _ _).State_set _ _) _ _ _).foldl fun b x hb => hb.State_addSat _ _
    have k5 : Keeps (a.withCycle (saved + 2)) s5 :=
      (((k3.State_step_ _).State_set _ _).State_raise _).State_post _ _ _ _
    have k6 : Keeps (a.withCycle (saved + 2)) s6 := Keeps.ite (fun _ => k5) fun _ => k5.State_energyGap _
    rw [← e]
    exact ⟨_, k6.State_ghostNews.State_theftAtStart⟩

theorem Keeps.State_unsealStep {a s : State} (h : Keeps a s) :
    Keeps a (State.unsealStep s) := by
  unfold State.unsealStep
  try dsimp only
  repeat' (first
    | with_reducible assumption | (with_reducible intro _) | with_reducible apply Keeps.State_setObj
    | with_reducible apply Keeps.State_tamperStep | with_reducible apply Keeps.State_watchLapsed
    | with_reducible apply Keeps.State_set | with_reducible apply Keeps.State_unseal
    | with_reducible apply Keeps.ite | split)

theorem Keeps.by_execStartSelfTest {a s : State} (h : Keeps a s) (d : DieId) (pass : Bool) :
    KeepsX a (execStartSelfTest d pass s) := by
  unfold Sys2Proof.Machine.execStartSelfTest
  try dsimp only
  repeat' (first
    | with_reducible assumption | (with_reducible intro _) | with_reducible apply Keeps.State_unsealStep
    | with_reducible apply Keeps.State_set | with_reducible apply Keeps.State_step_
    | with_reducible apply KeepsX.next | with_reducible apply KeepsX.ite | with_reducible apply Keeps.ite
    | (dsimp only [Keeps_mk]; with_reducible apply KeptOf.of) | split
    | (dsimp only [Keeps_mk]; apply KeptOf.of))

theorem Keeps.State_loadLink {a s : State} (h : Keeps a s) :
    Keeps a (State.loadLink s) := by
  unfold State.loadLink
  try dsimp only
  repeat' (first
    | with_reducible assumption | (with_reducible intro _)
    | (dsimp only [Keeps_mk]; with_reducible apply KeptOf.of) | (dsimp only [Keeps_mk]; apply KeptOf.of))

theorem Keeps.State_chooseDie {a s : State} (h : Keeps a s) (d : DieId) :
    Keeps a (State.chooseDie s d) := by
  unfold State.chooseDie
  try dsimp only
  repeat' (first
    | with_reducible assumption | (with_reducible intro _) | with_reducible apply Keeps.State_set
    | with_reducible apply Keeps.State_loadLink | with_reducible apply Keeps.State_applyBooks
    | with_reducible apply Keeps.State_step_ | (dsimp only [Keeps_mk]; with_reducible apply KeptOf.of)
    | (dsimp only [Keeps_mk]; apply KeptOf.of))

theorem Keeps.State_failedToTest {a s : State} (h : Keeps a s) (d : DieId) :
    Keeps a (State.failedToTest s d) := by
  unfold State.failedToTest
  try dsimp only
  repeat' (first
    | with_reducible assumption | (with_reducible intro _) | with_reducible apply Keeps.State_setRole
    | with_reducible apply Keeps.ite | split)

theorem Keeps.by_execStageChoice {a s : State} (h : Keeps a s) :
    KeepsX a (execStageChoice s) := by
  unfold Sys2Proof.Machine.execStageChoice
  try dsimp only
  repeat' (first
    | with_reducible assumption | (with_reducible intro _) | with_reducible apply Keeps.State_step_
    | with_reducible apply Keeps.State_chooseDie | with_reducible apply Keeps.State_set
    | with_reducible apply Keeps.State_raise | with_reducible apply Keeps.State_failedToTest
    | with_reducible apply Keeps.both | with_reducible apply KeepsX.next | with_reducible apply KeepsX.ite
    | with_reducible apply Keeps.ite | split)

theorem Keeps.by_execHotRestore {a s : State} (h : Keeps a s) :
    KeepsX a (execHotRestore s) := by
  unfold Sys2Proof.Machine.execHotRestore
  try dsimp only
  repeat' (first
    | with_reducible assumption | (with_reducible intro _) | with_reducible apply Keeps.State_setDie
    | with_reducible apply Keeps.State_step_ | with_reducible apply KeepsX.next
    | with_reducible apply KeepsX.ite | with_reducible apply Keeps.ite
    | (dsimp only [Keeps_mk]; with_reducible apply KeptOf.of) | split
    | (dsimp only [Keeps_mk]; apply KeptOf.of))

theorem Keeps.by_execTestEnd {a s : State} (h : Keeps a s) (full : Option (DieId × Bool)) :
    KeepsX a (execTestEnd full s) := by
  unfold Sys2Proof.Machine.execTestEnd
  try dsimp only
  repeat' (first
    | with_reducible assumption | (with_reducible intro _) | with_reducible apply Keeps.State_testEnd
    | with_reducible apply Keeps.State_fullTestEnd | with_reducible apply Keeps.State_setRole
    | with_reducible apply Keeps.State_chooseDie | with_reducible apply KeepsX.next
    | with_reducible apply KeepsX.ite | with_reducible apply Keeps.ite | split)

theorem Keeps.State_windowWord {a s : State} (h : Keeps a s) (f : Nat → Option Byte) (off : Nat) :
    Keeps a (State.windowWord s f off).1 := by
  unfold State.windowWord
  try dsimp only
  repeat' (first
    | with_reducible assumption | (with_reducible intro _) | with_reducible apply Keeps.State_draw
    | with_reducible apply Keeps.iteP | with_reducible apply Keeps.ite | split)

theorem Keeps.State_setShadow {a s : State} (h : Keeps a s) (p : Port) (low : Nat) (v : Nat) :
    Keeps a (State.setShadow s p low v) := by
  unfold State.setShadow
  try dsimp only
  repeat' (first
    | with_reducible assumption | (with_reducible intro _)
    | (dsimp only [Keeps_mk]; with_reducible apply KeptOf.of) | (dsimp only [Keeps_mk]; apply KeptOf.of))

theorem Keeps.State_clearRC {a s : State} (h : Keeps a s) (addr : Nat) (r : RegDesc) :
    Keeps a (State.clearRC s addr r) := by
  unfold State.clearRC
  try dsimp only
  repeat' (first
    | with_reducible assumption | (with_reducible intro _) | with_reducible apply Keeps.State_set
    | with_reducible apply Keeps.foldl | with_reducible apply Keeps.foldlP | with_reducible apply Keeps.ite
    | split)

theorem Keeps.State_clearHwm {a s : State} (h : Keeps a s) (d : DieId) :
    Keeps a (State.clearHwm s d) := by
  unfold State.clearHwm
  try dsimp only
  repeat' (first
    | with_reducible assumption | (with_reducible intro _) | with_reducible apply Keeps.State_setQueue
    | with_reducible apply Keeps.ite | (dsimp only [Keeps_mk]; with_reducible apply KeptOf.of) | split
    | (dsimp only [Keeps_mk]; apply KeptOf.of))

theorem Keeps.State_readReg {a s : State} (h : Keeps a s) (p : Port) (b : Block) (r : RegDesc) (off : Nat) :
    Keeps a (State.readReg s p b r off).1 := by
  unfold State.readReg
  try dsimp only
  repeat' (first
    | with_reducible assumption | (with_reducible intro _) | with_reducible apply Keeps.State_setShadow
    | with_reducible apply Keeps.State_clearRC | with_reducible apply Keeps.State_icuClaim
    | with_reducible apply Keeps.State_rtcFreeze | with_reducible apply Keeps.State_rtcRelease
    | with_reducible apply Keeps.State_txtsRead | with_reducible apply Keeps.State_slotNext
    | with_reducible apply Keeps.State_planNext | with_reducible apply Keeps.State_clearHwm
    | with_reducible apply Keeps.iteP | with_reducible apply Keeps.ite
    | with_reducible refine Keeps.ofP (by assumption) ?_ | split)

theorem Keeps.State_badRead {a s : State} (h : Keeps a s) (a_ : Access) (kind : Nat) :
    Keeps a (State.badRead s a_ kind).1 := by
  unfold State.badRead
  try dsimp only
  repeat' (first
    | with_reducible assumption | (with_reducible intro _) | with_reducible apply Keeps.State_violate)

theorem Keeps.State_readAt {a s : State} (h : Keeps a s) (a_ : Access) (bad : Bool) :
    Keeps a (State.readAt s a_ bad).1 := by
  unfold State.readAt
  try dsimp only
  repeat' (first
    | with_reducible assumption | (with_reducible intro _) | with_reducible apply Keeps.State_hostFailed
    | with_reducible apply Keeps.State_badRead | with_reducible apply Keeps.State_windowWord
    | with_reducible apply Keeps.State_readReg | with_reducible apply Keeps.iteP
    | with_reducible apply Keeps.ite | with_reducible refine Keeps.ofP (by assumption) ?_ | split)

theorem Keeps.State_store {a s : State} (h : Keeps a s) (addr : Nat) (r : RegDesc) (w : Nat) :
    Keeps a (State.store s addr r w) := by
  unfold State.store
  try dsimp only
  repeat' (first
    | with_reducible assumption | (with_reducible intro _) | with_reducible apply Keeps.State_set
    | with_reducible apply Keeps.foldl | with_reducible apply Keeps.foldlP | split)

theorem Keeps.State_field {a s : State} (h : Keeps a s) (f : Fld) (w : Nat) :
    Keeps a (State.field s f w) := by
  unfold State.field
  try dsimp only
  repeat' (first
    | with_reducible assumption | (with_reducible intro _) | with_reducible apply Keeps.State_set)

theorem Keeps.State_icuWrite {a s : State} (h : Keeps a s) (d : DieId) (off : Nat) (w : Nat) :
    KeepsO a (State.icuWrite s d off w) := by
  unfold State.icuWrite
  try dsimp only
  repeat' (first
    | with_reducible assumption | (with_reducible intro _) | with_reducible apply Keeps.State_set
    | with_reducible apply Keeps.State_icuComplete | with_reducible apply KeepsO.none
    | with_reducible apply KeepsO.some | with_reducible apply KeepsO.ite | with_reducible apply Keeps.ite
    | split)

theorem Keeps.State_qcmWrite {a s : State} (h : Keeps a s) (d : DieId) (off : Nat) (w : Nat) :
    KeepsOE a (State.qcmWrite s d off w) := by
  unfold State.qcmWrite
  try dsimp only
  repeat' (first
    | with_reducible assumption | (with_reducible intro _) | with_reducible apply Keeps.State_timeoutTake
    | with_reducible refine Keeps.ofE (by assumption) ?_ | with_reducible apply Keeps.State_flushTake
    | with_reducible apply Keeps.State_arbWrite | with_reducible apply Keeps.State_setArb
    | with_reducible apply KeepsOE.none | with_reducible apply KeepsOE.some
    | with_reducible apply KeepsOE.ite | with_reducible apply KeepsE.error | with_reducible apply KeepsE.ok
    | with_reducible apply KeepsE.ite | with_reducible apply Keeps.ite
    | (dsimp only [Keeps_mk]; with_reducible apply KeptOf.of) | split
    | (dsimp only [Keeps_mk]; apply KeptOf.of))

theorem Keeps.State_cycWrite {a s : State} (h : Keeps a s) (w : Nat) :
    Keeps a (State.cycWrite s w) := by
  unfold State.cycWrite
  try dsimp only
  repeat' (first
    | with_reducible assumption | (with_reducible intro _) | with_reducible apply Keeps.State_field
    | with_reducible apply Keeps.State_acquirePeriod)

theorem Keeps.State_twnCommand {a s : State} (h : Keeps a s) (d : DieId) (code : Nat) :
    Keeps a (State.twnCommand s d code) := by
  unfold State.twnCommand
  try dsimp only
  repeat' (first
    | with_reducible assumption | (with_reducible intro _) | with_reducible apply Keeps.State_handOver
    | with_reducible apply Keeps.State_selfTest | with_reducible apply Keeps.State_addSat
    | with_reducible apply Keeps.ite | with_reducible apply Keeps.iteP
    | with_reducible refine Keeps.ofP (by assumption) ?_ | split)

theorem Keeps.State_putEnable {a s : State} (h : Keeps a s) (k : Nat) (on : Bool) :
    Keeps a (State.putEnable s k on) := by
  unfold State.putEnable
  try dsimp only
  repeat' (first
    | with_reducible assumption | (with_reducible intro _) | with_reducible apply Keeps.State_blockOn
    | with_reducible apply Keeps.State_blockOff | with_reducible apply Keeps.ite | split)

theorem Keeps.State_lineWrite {a s : State} (h : Keeps a s) (b : Block) (off : Nat) (w : Nat) :
    KeepsOE a (State.lineWrite s b off w) := by
  unfold State.lineWrite
  try dsimp only
  repeat' (first
    | with_reducible assumption | (with_reducible intro _) | with_reducible apply Keeps.State_field
    | with_reducible apply Keeps.State_putEnable | with_reducible apply Keeps.State_radioLeave
    | with_reducible apply Keeps.State_slotWrite | with_reducible refine Keeps.ofE (by assumption) ?_
    | with_reducible apply Keeps.State_swapRequest | with_reducible apply Keeps.State_plcLeave
    | with_reducible apply Keeps.State_setChainField | with_reducible apply Keeps.State_set
    | with_reducible apply KeepsOE.none | with_reducible apply KeepsOE.some
    | with_reducible apply KeepsOE.ite | with_reducible apply KeepsE.error | with_reducible apply KeepsE.ok
    | with_reducible apply KeepsE.ite | with_reducible apply Keeps.ite | split)

theorem Keeps.State_inputBits {a s : State} (h : Keeps a s) (f : Fld) (w : Nat) :
    Keeps a (State.inputBits s f w) := by
  unfold State.inputBits
  try dsimp only
  repeat' (first
    | with_reducible assumption | (with_reducible intro _) | with_reducible apply Keeps.State_meterChanging
    | with_reducible apply Keeps.State_field | with_reducible apply Keeps.foldl
    | with_reducible apply Keeps.foldlP | with_reducible apply Keeps.ite | split)

theorem Keeps.State_mtrWrite {a s : State} (h : Keeps a s) (off : Nat) (w : Nat) :
    KeepsOE a (State.mtrWrite s off w) := by
  unfold State.mtrWrite
  try dsimp only
  repeat' (first
    | with_reducible assumption | (with_reducible intro _) | with_reducible apply Keeps.State_field
    | with_reducible apply Keeps.State_putEnable | with_reducible apply Keeps.State_inputBits
    | with_reducible apply Keeps.State_resSelWrite | with_reducible refine Keeps.ofE (by assumption) ?_
    | with_reducible apply Keeps.State_totSelWrite | with_reducible apply Keeps.State_harmRequest
    | with_reducible apply Keeps.State_calRequest | with_reducible apply KeepsOE.none
    | with_reducible apply KeepsOE.some | with_reducible apply KeepsOE.ite
    | with_reducible apply KeepsE.error | with_reducible apply KeepsE.ok | with_reducible apply KeepsE.ite
    | with_reducible apply Keeps.ite | with_reducible apply Keeps.iteP
    | with_reducible refine Keeps.ofP (by assumption) ?_ | split)

theorem Keeps.State_wakeWrite {a s : State} (h : Keeps a s) (e : Nat) (off : Nat) (w : Nat) :
    Keeps a (State.wakeWrite s e off w) := by
  unfold State.wakeWrite
  try dsimp only
  repeat' (first
    | with_reducible assumption | (with_reducible intro _) | with_reducible apply Keeps.State_setEth
    | with_reducible apply Keeps.ite | (dsimp only [Keeps_mk]; with_reducible apply KeptOf.of) | split
    | (dsimp only [Keeps_mk]; apply KeptOf.of))

theorem Keeps.State_ethWrite {a s : State} (h : Keeps a s) (p : Port) (e : Nat) (off : Nat) (w : Nat) :
    KeepsOE a (State.ethWrite s p e off w) := by
  unfold State.ethWrite
  try dsimp only
  repeat' (first
    | with_reducible assumption | (with_reducible intro _) | with_reducible apply Keeps.State_field
    | with_reducible apply Keeps.State_putEnable | with_reducible apply Keeps.State_failoverForce
    | with_reducible apply Keeps.State_mdioWrite | with_reducible refine Keeps.ofE (by assumption) ?_
    | with_reducible apply Keeps.State_gclRequest | with_reducible apply Keeps.State_hold
    | with_reducible apply Keeps.State_set | with_reducible apply Keeps.State_wakeWrite
    | with_reducible apply KeepsOE.none | with_reducible apply KeepsOE.some
    | with_reducible apply KeepsOE.ite | with_reducible apply KeepsE.error | with_reducible apply KeepsE.ok
    | with_reducible apply KeepsE.ite | with_reducible apply Keeps.ite | with_reducible apply Keeps.iteP
    | with_reducible refine Keeps.ofP (by assumption) ?_ | split)

theorem Keeps.State_ptpWrite {a s : State} (h : Keeps a s) (p : Port) (off : Nat) (w : Nat) :
    KeepsO a (State.ptpWrite s p off w) := by
  unfold State.ptpWrite
  try dsimp only
  repeat' (first
    | with_reducible assumption | (with_reducible intro _) | with_reducible apply Keeps.State_field
    | with_reducible apply Keeps.State_set | with_reducible apply Keeps.State_ptpDisable
    | with_reducible apply Keeps.State_hold | with_reducible apply Keeps.State_ptpTake
    | with_reducible apply KeepsO.none | with_reducible apply KeepsO.some | with_reducible apply KeepsO.ite
    | with_reducible apply Keeps.ite | split)

theorem Keeps.State_serveAny {a s : State} (h : Keeps a s) (session : Nat) (m : List Byte) :
    Keeps a (State.serveAny s session m) := by
  unfold State.serveAny
  refine h.State_receiveMessage _ _ fun q f e t ht => ?_
  split at e <;> cases e
  · exact ht.State_serveRead _ _ _
  · exact ht.State_serveWrite _ _ _
  · exact ht.State_serveEpRead _ _ _ _ _
  · exact ht.State_serveEpWrite _ _ _
  · exact ht.State_serveCompany _ _ _

theorem Keeps.State_doorbell {a s : State} (h : Keeps a s) (n : Nat) :
    Keeps a (State.doorbell s n) := by
  unfold State.doorbell
  try dsimp only
  repeat' (first
    | with_reducible assumption | (with_reducible intro _) | with_reducible apply Keeps.State_set
    | with_reducible apply Keeps.State_serveAny | with_reducible apply Keeps.ite | split)

theorem Keeps.State_special {a s : State} (h : Keeps a s) (p : Port) (b : Block) (off w : Nat) :
    KeepsOE a (State.special s p b off w) := by
  have om {o : Option State} (g : KeepsO a o) : KeepsOE a (o.map .ok) := by
    intro x hx t ht
    cases o with
    | none => cases hx
    | some y => cases hx; cases ht; exact g _ rfl
  have ok {t : State} (g : Keeps a t) : KeepsOE a (some (.ok t)) := KeepsOE.some (KeepsE.ok g)
  unfold State.special
  split
  · exact om (h.State_icuWrite _ _ _)
  · split
    · exact ok (h.State_remapCommand _ _)
    · exact KeepsOE.none a
  · exact h.State_qcmWrite _ _ _
  · split
    · exact ok (h.State_cycWrite _)
    · exact KeepsOE.none a
  · split
    · exact ok (h.State_twnCommand _ _)
    · exact KeepsOE.none a
  · split
    · exact ok (h.State_doorbell _)
    · exact KeepsOE.none a
  · split
    · exact ok ((h.State_rtcCommit _).State_hold _ _ _)
    · split
      · exact ok (h.State_hold _ _ _)
      · exact KeepsOE.none a
  · exact h.State_mtrWrite _ _
  · exact h.State_ethWrite _ _ _ _
  · exact om (h.State_ptpWrite _ _ _)
  · exact h.State_lineWrite _ _ _

theorem Keeps.State_writeReg {a s : State} (h : Keeps a s) (x : Access) (b : Block) (r : RegDesc)
    (off k w : Nat) : KeepsE a (State.writeReg s x b r off k w) := by
  unfold State.writeReg
  dsimp only
  split
  · exact KeepsE.error _ _
  · split
    · exact KeepsE.error _ _
    · split
      · exact KeepsE.error _ _
      · have g : Keeps a (if endsLine (b.base + off) then Machine.both State.latchLines s else s) :=
          Keeps.ite (fun _ => h.both fun d t ht => ht.State_latchLines d) fun _ => h
        generalize (if endsLine (b.base + off) then Machine.both State.latchLines s else s) = u at g ⊢
        generalize (if k = 0 then w else aliasWord k (s.wordAt b off &&& r.rwMask) w &&& r.rwMask) = v
        cases e : u.special x.port b off v with
        | none => exact KeepsE.ok (g.State_store _ _ _)
        | some y => exact g.State_special _ _ _ _ _ e

theorem Keeps.State_violWrite {a s : State} (h : Keeps a s) (w : Nat) (off : Nat) (k : Nat) (v : Nat) :
    KeepsE a (State.violWrite s w off k v) := by
  unfold State.violWrite
  try dsimp only
  repeat' (first
    | with_reducible assumption | (with_reducible intro _) | with_reducible apply Keeps.State_set
    | with_reducible apply KeepsE.error | with_reducible apply KeepsE.ok | with_reducible apply KeepsE.ite
    | with_reducible apply Keeps.ite | split)

theorem Keeps.State_writeAt {a s : State} (h : Keeps a s) (a_ : Access) (v : Nat) :
    Keeps a (State.writeAt s a_ v).1 := by
  unfold State.writeAt
  try dsimp only
  repeat' (first
    | with_reducible assumption | (with_reducible intro _) | with_reducible apply Keeps.State_violate
    | with_reducible apply Keeps.State_hostFailed | with_reducible apply Keeps.State_violWrite
    | with_reducible refine Keeps.ofE (by assumption) ?_ | with_reducible apply Keeps.State_writeReg
    | with_reducible apply Keeps.iteP | with_reducible apply Keeps.ite | split)

theorem Keeps.State_noTarget {a s : State} (h : Keeps a s) (p : Port) (addr : Nat) :
    Keeps a (State.noTarget s p addr) := by
  unfold State.noTarget
  try dsimp only
  repeat' (first
    | with_reducible assumption | (with_reducible intro _) | with_reducible apply Keeps.State_hostFailed
    | with_reducible apply Keeps.ite | split)

theorem Keeps.State_readWord {a s : State} (h : Keeps a s) (p : Port) (bound : Option DieId) (addr : Nat) (bad
    : Bool) :
    Keeps a (State.readWord s p bound addr bad).1 := by
  unfold State.readWord
  try dsimp only
  repeat' (first
    | with_reducible assumption | (with_reducible intro _) | with_reducible apply Keeps.State_noTarget
    | with_reducible apply Keeps.State_readAt | with_reducible refine Keeps.ofP (by assumption) ?_ | split)

theorem Keeps.State_writeWord {a s : State} (h : Keeps a s) (p : Port) (bound : Option DieId) (addr : Nat) (v :
    Nat) :
    Keeps a (State.writeWord s p bound addr v).1 := by
  unfold State.writeWord
  try dsimp only
  repeat' (first
    | with_reducible assumption | (with_reducible intro _) | with_reducible apply Keeps.State_noTarget
    | with_reducible apply Keeps.State_writeAt | with_reducible refine Keeps.ofP (by assumption) ?_ | split)

theorem Keeps.State_portRead {a s : State} (h : Keeps a s) (p : Port) (addr : Nat) :
    Keeps a (State.portRead s p addr) := by
  unfold State.portRead
  try dsimp only
  repeat' (first
    | with_reducible assumption | (with_reducible intro _) | with_reducible apply Keeps.State_readWord
    | with_reducible apply Keeps.State_emit | with_reducible apply Keeps.ite
    | with_reducible apply Keeps.iteP | with_reducible refine Keeps.ofP (by assumption) ?_ | split)

theorem Keeps.State_portWrite {a s : State} (h : Keeps a s) (p : Port) (addr : Nat) (v : Nat) :
    Keeps a (State.portWrite s p addr v) := by
  unfold State.portWrite
  try dsimp only
  repeat' (first
    | with_reducible assumption | (with_reducible intro _) | with_reducible apply Keeps.State_writeWord
    | with_reducible apply Keeps.State_emit | with_reducible apply Keeps.ite
    | with_reducible apply Keeps.iteP | with_reducible refine Keeps.ofP (by assumption) ?_ | split)

theorem Keeps.State_onReg {a s : State} (h : Keeps a s) (addr : Nat) (isFor : Block → RegDesc → Nat → Bool)
    {act : State → State} (hf : ∀ t, Keeps a t → Keeps a (act t)) :
    Keeps a (s.onReg addr isFor act) := by
  unfold State.onReg
  split
  · exact h
  · split
    · split
      · exact hf s h
      · exact h
    · exact h

theorem Keeps.by_execLowWordRead {a s : State} (h : Keeps a s) (p : Port) (addr : Word) :
    KeepsX a (execLowWordRead p addr s) := by
  unfold Sys2Proof.Machine.execLowWordRead
  try dsimp only
  repeat' (first
    | with_reducible assumption | (with_reducible intro _) | with_reducible apply Keeps.State_onReg
    | with_reducible apply Keeps.State_portRead | with_reducible apply KeepsX.next)

theorem Keeps.by_execHighWordRead {a s : State} (h : Keeps a s) (p : Port) (addr : Word) :
    KeepsX a (execHighWordRead p addr s) := by
  unfold Sys2Proof.Machine.execHighWordRead
  try dsimp only
  repeat' (first
    | with_reducible assumption | (with_reducible intro _) | with_reducible apply Keeps.State_onReg
    | with_reducible apply Keeps.State_portRead | with_reducible apply KeepsX.next)

theorem Keeps.by_execHighWordWrite {a s : State} (h : Keeps a s) (p : Port) (addr : Word) (v : Word) :
    KeepsX a (execHighWordWrite p addr v s) := by
  unfold Sys2Proof.Machine.execHighWordWrite
  try dsimp only
  repeat' (first
    | with_reducible assumption | (with_reducible intro _) | with_reducible apply Keeps.State_onReg
    | with_reducible apply Keeps.State_portWrite | with_reducible apply KeepsX.next)

theorem Keeps.by_execLowWordWrite {a s : State} (h : Keeps a s) (p : Port) (addr : Word) (v : Word) :
    KeepsX a (execLowWordWrite p addr v s) := by
  unfold Sys2Proof.Machine.execLowWordWrite
  try dsimp only
  repeat' (first
    | with_reducible assumption | (with_reducible intro _) | with_reducible apply Keeps.State_onReg
    | with_reducible apply Keeps.State_portWrite | with_reducible apply KeepsX.next)

theorem Keeps.by_execReadClear {a s : State} (h : Keeps a s) (p : Port) (addr : Word) :
    KeepsX a (execReadClear p addr s) := by
  unfold Sys2Proof.Machine.execReadClear
  try dsimp only
  repeat' (first
    | with_reducible assumption | (with_reducible intro _) | with_reducible apply Keeps.State_onReg
    | with_reducible apply Keeps.State_portRead | with_reducible apply KeepsX.next)

theorem Keeps.by_execRegisterWrite {a s : State} (h : Keeps a s) (p : Port) (addr : Word) (v : Word) :
    KeepsX a (execRegisterWrite p addr v s) := by
  unfold Sys2Proof.Machine.execRegisterWrite
  try dsimp only
  repeat' (first
    | with_reducible assumption | (with_reducible intro _) | with_reducible apply Keeps.State_portWrite
    | with_reducible apply KeepsX.next | with_reducible apply KeepsX.ite | with_reducible apply Keeps.ite
    | split)

theorem Keeps.by_execIcuClaim {a s : State} (h : Keeps a s) (p : Port) (d : DieId) (t : Fin 6) :
    KeepsX a (execIcuClaim p d t s) := by
  unfold Sys2Proof.Machine.execIcuClaim
  try dsimp only
  repeat' (first
    | with_reducible assumption | (with_reducible intro _) | with_reducible apply Keeps.State_portRead
    | with_reducible apply KeepsX.next | with_reducible apply KeepsX.ite | with_reducible apply Keeps.ite
    | split)

theorem Keeps.by_execIcuComplete {a s : State} (h : Keeps a s) (p : Port) (d : DieId) (t : Fin 6) (v : Word) :
    KeepsX a (execIcuComplete p d t v s) := by
  unfold Sys2Proof.Machine.execIcuComplete
  try dsimp only
  repeat' (first
    | with_reducible assumption | (with_reducible intro _) | with_reducible apply Keeps.State_portWrite
    | with_reducible apply KeepsX.next | with_reducible apply KeepsX.ite | with_reducible apply Keeps.ite
    | split)

theorem Keeps.by_execIcuPendSet {a s : State} (h : Keeps a s) (p : Port) (d : DieId) (i : Fin 8) (v : Word) :
    KeepsX a (execIcuPendSet p d i v s) := by
  unfold Sys2Proof.Machine.execIcuPendSet
  try dsimp only
  repeat' (first
    | with_reducible assumption | (with_reducible intro _) | with_reducible apply Keeps.State_portWrite
    | with_reducible apply KeepsX.next | with_reducible apply KeepsX.ite | with_reducible apply Keeps.ite
    | split)

theorem Keeps.by_execIcuPendClear {a s : State} (h : Keeps a s) (p : Port) (d : DieId) (i : Fin 8) (v : Word) :
    KeepsX a (execIcuPendClear p d i v s) := by
  unfold Sys2Proof.Machine.execIcuPendClear
  try dsimp only
  repeat' (first
    | with_reducible assumption | (with_reducible intro _) | with_reducible apply Keeps.State_portWrite
    | with_reducible apply KeepsX.next | with_reducible apply KeepsX.ite | with_reducible apply Keeps.ite
    | split)

theorem Keeps.by_execMsgDoorbell {a s : State} (h : Keeps a s) (p : Port) (v : Word) :
    KeepsX a (execMsgDoorbell p v s) := by
  unfold Sys2Proof.Machine.execMsgDoorbell
  try dsimp only
  repeat' (first
    | with_reducible assumption | (with_reducible intro _) | with_reducible apply Keeps.State_portWrite
    | with_reducible apply KeepsX.next | with_reducible apply KeepsX.ite | with_reducible apply Keeps.ite
    | split)

theorem Keeps.State_placeResponse {a s : State} (h : Keeps a s) (b : List Byte) :
    Keeps a (State.placeResponse s b) := by
  unfold State.placeResponse
  try dsimp only
  repeat' (first
    | with_reducible assumption | (with_reducible intro _) | with_reducible apply Keeps.State_set
    | with_reducible apply Keeps.State_raise | with_reducible apply Keeps.foldl
    | with_reducible apply Keeps.foldlP)

theorem Keeps.by_execMsgResponse {a s : State} (h : Keeps a s) :
    KeepsX a (execMsgResponse s) := by
  unfold Sys2Proof.Machine.execMsgResponse
  try dsimp only
  repeat' (first
    | with_reducible assumption | (with_reducible intro _) | with_reducible apply Keeps.State_replySent
    | with_reducible apply Keeps.State_placeResponse | with_reducible apply KeepsX.next
    | (dsimp only [Keeps_mk]; with_reducible apply KeptOf.of) | split
    | (dsimp only [Keeps_mk]; apply KeptOf.of))

theorem Keeps.State_readBurst {a s : State} (h : Keeps a s) (addr n : Nat) (bad : List (Fin 64)) :
    Keeps a (s.readBurst addr n bad).state := by
  have (l : List Nat) (x : Burst) (hx : Keeps a x.state) :
      Keeps a (l.foldl (fun x k => x.read s.holder addr bad k) x).state := by
    induction l generalizing x with
    | nil => exact hx
    | cons k l ih =>
      apply ih
      unfold Burst.read
      dsimp only
      split
      · exact hx
      · exact hx.State_readWord _ _ _ _
  exact this _ _ h

theorem Keeps.State_writeBurst {a s : State} (h : Keeps a s) (addr : Nat) (data : List Word) :
    Keeps a (s.writeBurst addr data).state := by
  have (l : List (Word × Nat)) (x : Burst) (hx : Keeps a x.state) :
      Keeps a (l.foldl (fun x v => x.write s.holder addr v.1 v.2) x).state := by
    induction l generalizing x with
    | nil => exact hx
    | cons k l ih =>
      apply ih
      unfold Burst.write
      dsimp only
      split
      · exact hx
      · exact hx.State_writeWord _ _ _ _
  exact this _ _ h

theorem Keeps.Burst_finish {a : State} {x : Burst} (h : Keeps a x.state) (die : Option DieId) :
    Keeps a (x.finish die) := h.State_emit _

theorem Keeps.State_heldLow {a s : State} (h : Keeps a s) (t : Nat) :
    Keeps a (State.heldLow s t) := by
  unfold State.heldLow
  try dsimp only
  repeat' (first
    | with_reducible assumption | (with_reducible intro _) | with_reducible apply Keeps.State_set)

theorem Keeps.State_malformedBus {a s : State} (h : Keeps a s) (addr : Nat) (n : Nat) (die : Option DieId) :
    Keeps a (State.malformedBus s addr n die) := by
  unfold State.malformedBus
  try dsimp only
  repeat' (first
    | with_reducible assumption | (with_reducible intro _) | with_reducible apply Keeps.State_hostFailed
    | with_reducible apply Keeps.State_emit)

theorem Keeps.by_execHostRead {a s : State} (h : Keeps a s) (known : Bool) (addr : Word) (n : Fin 64)
    (held : Fin 401) (bad : List (Fin 64)) : KeepsX a (execHostRead known addr n held bad s) := by
  unfold Sys2Proof.Machine.execHostRead
  dsimp only
  split
  · exact KeepsX.next h
  · split
    · exact KeepsX.next (h.State_malformedBus _ _ _)
    · exact KeepsX.next (Keeps.Burst_finish ((h.State_heldLow _).State_readBurst _ _ _) _)

theorem Keeps.by_execHostWrite {a s : State} (h : Keeps a s) (addr : Word) (data : List Word) (held : Fin 401) :
    KeepsX a (execHostWrite addr data held s) := by
  unfold Sys2Proof.Machine.execHostWrite
  dsimp only
  split
  · exact KeepsX.next h
  · split
    · exact KeepsX.next (h.State_malformedBus _ _ _)
    · exact KeepsX.next (Keeps.Burst_finish ((h.State_heldLow _).State_writeBurst _ _) _)

theorem Keeps.State_completed {a s : State} (h : Keeps a s) (write : Bool) (addr n : Nat) (data : List Word) :
    Keeps a (s.completed write addr n data).state := by
  unfold State.completed
  split
  · exact h.State_writeBurst _ _
  · exact h.State_readBurst _ _ _

theorem Keeps.by_execHostAbort {a s : State} (h : Keeps a s) (write : Bool) (addr : Word) (n : Fin 65)
    (data : List Word) : KeepsX a (execHostAbort write addr n data s) := by
  unfold Sys2Proof.Machine.execHostAbort
  dsimp only
  split
  · exact KeepsX.next h
  · apply KeepsX.next
    apply Keeps.State_raise
    apply Keeps.State_addSat
    split
    · exact h
    · exact h.State_completed _ _ _ _

theorem Keeps.by_execStallCap {a s : State} (h : Keeps a s) (write taken : Bool) (addr : Word) (n : Fin 64)
    (data : List Word) (last : Word) : KeepsX a (execStallCap write taken addr n data last s) := by
  unfold Sys2Proof.Machine.execStallCap
  dsimp only
  have g := h.State_completed write addr.toNat
    (if write = true then (data.take n.val).length else n.val) (data.take n.val)
  refine KeepsX.ite (fun _ => KeepsX.next h) fun _ => KeepsX.ite
    (fun _ => KeepsX.next (h.State_malformedBus _ _ _)) fun _ => KeepsX.ite (fun _ => KeepsX.next h) fun _ => ?_
  cases (s.completed write addr.toNat (if write = true then (data.take n.val).length else n.val)
    (data.take n.val)).failed with
  | some _ => exact KeepsX.next (Keeps.Burst_finish g _)
  | none =>
    refine KeepsX.next (Keeps.Burst_finish (Keeps.State_heldLow (Keeps.State_addSat (Keeps.ite (fun _ =>
      Keeps.State_hostFailed ?_ _ _) fun _ => ?_) _ _) _) _) <;>
    exact Keeps.iteP (fun _ => g) fun _ => Keeps.iteP (fun _ => g.State_writeWord _ _ _ _)
      fun _ => g.State_readWord _ _ _ _

theorem Keeps.State_tmoDrop {a s : State} (h : Keeps a s) (d : DieId) (level : Nat) (q : Nat) :
    Keeps a (State.tmoDrop s d level q) := by
  unfold State.tmoDrop
  try dsimp only
  repeat' (first
    | with_reducible assumption | (with_reducible intro _) | with_reducible apply Keeps.State_addSat
    | with_reducible apply Keeps.State_lastDrop | with_reducible apply Keeps.State_raise
    | with_reducible apply Keeps.State_post | with_reducible apply Keeps.ite | split)

theorem Keeps.State_objectTimeout {a s : State} (h : Keeps a s) (session : Nat) (request : Nat) (words : List
    (BitVec 64)) :
    Keeps a (State.objectTimeout s session request words) := by
  unfold State.objectTimeout
  try dsimp only
  repeat' (first
    | with_reducible assumption | (with_reducible intro _) | with_reducible apply Keeps.State_settleItem
    | with_reducible apply Keeps.State_respond | with_reducible apply Keeps.foldl
    | with_reducible apply Keeps.foldlP | split)

theorem Keeps.State_errorResponse {a s : State} (h : Keeps a s) (d : DieId) (x : Send) :
    Keeps a (State.errorResponse s d x) := by
  unfold State.errorResponse
  try dsimp only
  repeat' (first
    | with_reducible assumption | (with_reducible intro _) | with_reducible apply Keeps.State_deliver
    | with_reducible apply Keeps.State_draw | (dsimp only [Keeps_mk]; with_reducible apply KeptOf.of))

theorem Keeps.State_reservationBack {a s : State} (h : Keeps a s) (w : Waiter) (level : Nat) :
    Keeps a (State.reservationBack s w level) := by
  unfold State.reservationBack
  try dsimp only
  repeat' (first
    | with_reducible assumption | (with_reducible intro _) | with_reducible apply Keeps.State_errorResponse
    | with_reducible apply Keeps.State_unclaim | with_reducible apply Keeps.ite | split)

theorem Keeps.State_digestLost {a s : State} (h : Keeps a s) (d : DieId) (level : Nat) (inst : Nat) (plane :
    Nat) :
    Keeps a (State.digestLost s d level inst plane) := by
  unfold State.digestLost
  try dsimp only
  repeat' (first
    | with_reducible assumption | (with_reducible intro _) | with_reducible apply Keeps.State_draw
    | with_reducible apply Keeps.State_setDie | with_reducible apply Keeps.ite
    | (dsimp only [Keeps_mk]; with_reducible apply KeptOf.of) | split
    | (dsimp only [Keeps_mk]; apply KeptOf.of))

theorem Keeps.State_itemLost {a s : State} (h : Keeps a s) (d : DieId) (x : Send) :
    Keeps a (State.itemLost s d x) := by
  unfold State.itemLost
  try dsimp only
  repeat' (first
    | with_reducible assumption | (with_reducible intro _) | with_reducible apply Keeps.State_addSat
    | with_reducible apply Keeps.State_intakeDrop | with_reducible apply Keeps.State_objectTimeout | split)

theorem Keeps.State_sendLapse {a s : State} (h : Keeps a s) (d : DieId) :
    Keeps a (State.sendLapse s d) := by
  unfold State.sendLapse
  try dsimp only
  repeat' (first
    | with_reducible assumption | (with_reducible intro _) | with_reducible apply Keeps.State_tmoDrop
    | with_reducible apply Keeps.ite | (dsimp only [Keeps_mk]; with_reducible apply KeptOf.of) | split
    | (dsimp only [Keeps_mk]; apply KeptOf.of))

theorem Keeps.State_discardWaiter {a s : State} (h : Keeps a s) (d : DieId) (level inst : Nat)
    (w : Waiter ⊕ (Nat × Nat × Nat × Nat)) : Keeps a (s.discardWaiter d level inst w) := by
  unfold State.discardWaiter
  split
  all_goals try dsimp only
  all_goals repeat' (first
    | with_reducible assumption | (with_reducible intro _) | with_reducible apply Keeps.State_serve
    | with_reducible apply Keeps.State_strike | with_reducible apply Keeps.State_digestLost
    | with_reducible apply Keeps.State_itemLost | with_reducible apply Keeps.State_tmoDrop
    | with_reducible apply Keeps.State_reservationBack | with_reducible apply Keeps.State_setArb
    | with_reducible apply Keeps.State_draw | with_reducible apply Keeps.ite
    | (dsimp only [Keeps_mk]; with_reducible apply KeptOf.of) | split)

theorem Keeps.State_expire {a s : State} (h : Keeps a s) (d : DieId) (level : Nat) (inst : Nat) :
    Keeps a (State.expire s d level inst) := by
  unfold State.expire
  try dsimp only
  repeat' (first
    | with_reducible assumption | (with_reducible intro _) | with_reducible apply Keeps.State_discardWaiter
    | with_reducible apply Keeps.State_sendLapse | with_reducible apply Keeps.ite | split)

theorem Keeps.by_execLevelTimeout {a s : State} (h : Keeps a s) (d : DieId) (level : Fin 6) (inst : Fin 512) :
    KeepsX a (execLevelTimeout d level inst s) := by
  unfold Sys2Proof.Machine.execLevelTimeout
  try dsimp only
  repeat' (first
    | with_reducible assumption | (with_reducible intro _) | with_reducible apply Keeps.State_expire
    | with_reducible apply KeepsX.next | with_reducible apply KeepsX.ite | with_reducible apply Keeps.ite
    | (dsimp only [Keeps_mk]; with_reducible apply KeptOf.of) | split
    | (dsimp only [Keeps_mk]; apply KeptOf.of))

theorem Keeps.State_endEdge {a s : State} (h : Keeps a s) :
    Keeps a (State.endEdge s) := by
  unfold State.endEdge
  try dsimp only
  repeat' (first
    | with_reducible assumption | (with_reducible intro _) | with_reducible apply Keeps.State_expire
    | with_reducible apply Keeps.foldl | with_reducible apply Keeps.foldlP
    | (dsimp only [Keeps_mk]; with_reducible apply KeptOf.of) | (dsimp only [Keeps_mk]; apply KeptOf.of))

theorem Keeps.State_closeTurn {a s : State} (h : Keeps a s) (d : DieId) :
    Keeps a (State.closeTurn s d) := by
  unfold State.closeTurn
  try dsimp only
  repeat' (first
    | with_reducible assumption | (with_reducible intro _) | with_reducible apply Keeps.State_setDie
    | with_reducible apply Keeps.State_epochOpen | with_reducible apply Keeps.State_closeDie
    | with_reducible apply Keeps.foldl | with_reducible apply Keeps.foldlP
    | with_reducible apply Keeps.State_atCycle | with_reducible exact Keeps.refl _
    | (dsimp only [Keeps_mk]; with_reducible apply KeptOf.of) | split
    | (dsimp only [Keeps_mk]; apply KeptOf.of))

theorem Keeps.State_openTurn {a s : State} (h : Keeps a s) (d : DieId) :
    Keeps a (State.openTurn s d) := by
  unfold State.openTurn
  try dsimp only
  repeat' (first
    | with_reducible assumption | (with_reducible intro _) | with_reducible apply Keeps.State_setDie
    | with_reducible apply Keeps.State_holderMoves | with_reducible apply Keeps.State_applyStaged
    | with_reducible apply Keeps.State_applyShadow | with_reducible apply Keeps.State_openDie
    | with_reducible apply Keeps.ite | with_reducible apply Keeps.iteP
    | with_reducible refine Keeps.ofP (by assumption) ?_ | split)

theorem Keeps.State_shadowTurn {a s : State} (h : Keeps a s) (d : DieId) :
    Keeps a (State.shadowTurn s d) := by
  unfold State.shadowTurn
  try dsimp only
  repeat' (first
    | with_reducible assumption | (with_reducible intro _) | with_reducible apply Keeps.State_closeTurn
    | with_reducible apply Keeps.State_openTurn | with_reducible apply Keeps.State_atCycle
    | with_reducible exact Keeps.refl _)

theorem Keeps.State_commitClose {a s : State} (h : Keeps a s) (d : DieId) (k0 : Side) (cycle : Nat) (packets :
    Nat) (crc : Nat) :
    Keeps a (State.commitClose s d k0 cycle packets crc) := by
  unfold State.commitClose
  try dsimp only
  repeat' (first
    | with_reducible assumption | (with_reducible intro _) | with_reducible apply Keeps.State_leave
    | with_reducible apply Keeps.State_setSide | with_reducible apply Keeps.State_set
    | with_reducible apply Keeps.State_setDie | with_reducible apply Keeps.State_shadowTurn
    | with_reducible apply Keeps.ite | (dsimp only [Keeps_mk]; with_reducible apply KeptOf.of) | split
    | (dsimp only [Keeps_mk]; apply KeptOf.of))

theorem Keeps.by_execCommitClose {a s : State} (h : Keeps a s) :
    KeepsX a (execCommitClose s) := by
  unfold Sys2Proof.Machine.execCommitClose
  try dsimp only
  repeat' (first
    | with_reducible assumption | (with_reducible intro _) | with_reducible apply Keeps.State_take
    | with_reducible apply Keeps.State_commitClose | with_reducible apply KeepsX.next | split)

theorem Keeps.State_waitExpiry {a s : State} (h : Keeps a s) (d : DieId) :
    Keeps a (State.waitExpiry s d) := by
  unfold State.waitExpiry
  try dsimp only
  repeat' (first
    | with_reducible assumption | (with_reducible intro _) | with_reducible apply Keeps.State_leave
    | with_reducible apply Keeps.State_goProvisional | with_reducible apply Keeps.State_setSide
    | with_reducible apply Keeps.State_shadowTurn | with_reducible apply Keeps.ite
    | (dsimp only [Keeps_mk]; with_reducible apply KeptOf.of) | split
    | (dsimp only [Keeps_mk]; apply KeptOf.of))

theorem Keeps.by_execClosingWaitExpiry {a s : State} (h : Keeps a s) (d : DieId) :
    KeepsX a (execClosingWaitExpiry d s) := by
  unfold Sys2Proof.Machine.execClosingWaitExpiry
  try dsimp only
  repeat' (first
    | with_reducible assumption | (with_reducible intro _) | with_reducible apply Keeps.State_waitExpiry
    | with_reducible apply KeepsX.next)

theorem Keeps.State_cycleSave {a s : State} (h : Keeps a s) :
    Keeps a (State.cycleSave s) := by
  unfold State.cycleSave
  try dsimp only
  repeat' (first
    | with_reducible assumption | (with_reducible intro _) | with_reducible apply Keeps.State_commitNow
    | with_reducible apply Keeps.ite | split)

theorem Keeps.State_switchTo {a s : State} (h : Keeps a s) (d : DieId) (f : DieId) (cause : Nat) (replayed :
    Nat) :
    Keeps a (State.switchTo s d f cause replayed) := by
  unfold State.switchTo
  try dsimp only
  repeat' (first
    | with_reducible assumption | (with_reducible intro _) | with_reducible apply Keeps.State_setRole
    | with_reducible apply Keeps.State_set | with_reducible apply Keeps.State_setSide
    | with_reducible apply Keeps.State_addWrap | with_reducible apply Keeps.State_raise
    | with_reducible apply Keeps.State_icuRelease | with_reducible apply Keeps.both
    | (dsimp only [Keeps_mk]; with_reducible apply KeptOf.of) | (dsimp only [Keeps_mk]; apply KeptOf.of))

theorem Keeps.State_excludeWaiting {a s : State} (h : Keeps a s) (d : DieId) :
    Keeps a (State.excludeWaiting s d) := by
  unfold State.excludeWaiting
  try dsimp only
  repeat' (first
    | with_reducible assumption | (with_reducible intro _) | with_reducible apply Keeps.State_exclude
    | with_reducible apply Keeps.State_shadowMoves | with_reducible apply Keeps.foldl
    | with_reducible apply Keeps.foldlP)

theorem Keeps.State_becomeUnderstudy {a s : State} (h : Keeps a s) (h_ : DieId) :
    Keeps a (State.becomeUnderstudy s h_) := by
  unfold State.becomeUnderstudy
  try dsimp only
  repeat' (first
    | with_reducible assumption | (with_reducible intro _) | with_reducible apply Keeps.State_setRole
    | with_reducible apply Keeps.State_setSide | with_reducible apply Keeps.State_setDie
    | with_reducible apply Keeps.State_excludeWaiting | with_reducible apply Keeps.State_openTurn
    | (dsimp only [Keeps_mk]; with_reducible apply KeptOf.of) | (dsimp only [Keeps_mk]; apply KeptOf.of))

theorem Keeps.State_planned {a s : State} (h : Keeps a s) (h_ : DieId) (cause : Nat) :
    Keeps a (State.planned s h_ cause) := by
  unfold State.planned
  try dsimp only
  repeat' (first
    | with_reducible assumption | (with_reducible intro _) | with_reducible apply Keeps.State_commitMarker
    | with_reducible apply Keeps.State_switchTo | with_reducible apply Keeps.State_raise
    | with_reducible apply Keeps.State_raiseIf | with_reducible apply Keeps.State_setDie
    | with_reducible apply Keeps.State_setSide | with_reducible apply Keeps.State_activationMade
    | with_reducible apply Keeps.State_setRole | with_reducible apply Keeps.State_activationReject
    | with_reducible apply Keeps.State_becomeUnderstudy | with_reducible apply Keeps.ite
    | (dsimp only [Keeps_mk]; with_reducible apply KeptOf.of) | split
    | (dsimp only [Keeps_mk]; apply KeptOf.of))

theorem Keeps.State_replayInputs {a s : State} (h : Keeps a s) (d : DieId) :
    Keeps a (State.replayInputs s d).1 := by
  unfold State.replayInputs
  try dsimp only
  repeat' (first
    | with_reducible assumption | (with_reducible intro _) | with_reducible apply Keeps.State_addSat
    | with_reducible apply Keeps.State_raise | with_reducible apply Keeps.State_twinPost
    | with_reducible apply Keeps.both | with_reducible apply Keeps.iteP | with_reducible apply Keeps.ite
    | (dsimp only [Keeps_mk]; with_reducible apply KeptOf.of) | split
    | (dsimp only [Keeps_mk]; apply KeptOf.of))

theorem Keeps.State_serveAnew {a s : State} (h : Keeps a s) (d : DieId) :
    Keeps a (State.serveAnew s d) := by
  unfold State.serveAnew
  try dsimp only
  repeat' (first
    | with_reducible assumption | (with_reducible intro _) | with_reducible apply Keeps.State_dropPointers
    | (dsimp only [Keeps_mk]; with_reducible apply KeptOf.of) | (dsimp only [Keeps_mk]; apply KeptOf.of))

theorem Keeps.State_takeOver {a s : State} (h : Keeps a s) (f : DieId) (cause : Nat) :
    Keeps a (State.takeOver s f cause) := by
  unfold State.takeOver
  try dsimp only
  repeat' (first
    | with_reducible assumption | (with_reducible intro _) | with_reducible apply Keeps.State_closeTurn
    | with_reducible apply Keeps.State_replayInputs | with_reducible apply Keeps.State_switchTo
    | with_reducible apply Keeps.State_serveAnew | with_reducible apply Keeps.State_setSide
    | with_reducible apply Keeps.State_restoreMoves | with_reducible apply Keeps.State_clearExcluded
    | with_reducible apply Keeps.State_setDie | with_reducible apply Keeps.State_balanceRestart
    | with_reducible apply Keeps.State_activationMade | with_reducible apply Keeps.State_activationReject
    | with_reducible apply Keeps.State_cycleSave | with_reducible apply Keeps.State_openTurn
    | with_reducible apply Keeps.ite | with_reducible apply Keeps.iteP
    | with_reducible refine Keeps.ofP (by assumption) ?_
    | (dsimp only [Keeps_mk]; with_reducible apply KeptOf.of) | split
    | (dsimp only [Keeps_mk]; apply KeptOf.of))

theorem Keeps.State_gateShut {a s : State} (h : Keeps a s) (f : DieId) (cause : Nat) :
    Keeps a (State.gateShut s f cause) := by
  unfold State.gateShut
  try dsimp only
  repeat' (first
    | with_reducible assumption | (with_reducible intro _)
    | with_reducible apply Keeps.State_activationReject | with_reducible apply Keeps.ite
    | (dsimp only [Keeps_mk]; with_reducible apply KeptOf.of) | split
    | (dsimp only [Keeps_mk]; apply KeptOf.of))

theorem Keeps.State_leaveForTest {a s : State} (h : Keeps a s) (o : DieId) :
    Keeps a (State.leaveForTest s o) := by
  unfold State.leaveForTest
  try dsimp only
  repeat' (first
    | with_reducible assumption | (with_reducible intro _) | with_reducible apply Keeps.State_leave
    | with_reducible apply Keeps.State_setSide | with_reducible apply Keeps.ite
    | (dsimp only [Keeps_mk]; with_reducible apply KeptOf.of) | split
    | (dsimp only [Keeps_mk]; apply KeptOf.of))

theorem Keeps.State_sendParts {a s : State} (h : Keeps a s) (h_ : DieId) :
    Keeps a (State.sendParts s h_) := by
  unfold State.sendParts
  try dsimp only
  repeat' (first
    | with_reducible assumption | (with_reducible intro _) | with_reducible apply Keeps.State_setDie
    | with_reducible apply Keeps.ite | (dsimp only [Keeps_mk]; with_reducible apply KeptOf.of) | split
    | (dsimp only [Keeps_mk]; apply KeptOf.of))

theorem Keeps.State_adopt {a s : State} (h : Keeps a s) (h_ : DieId) :
    Keeps a (State.adopt s h_) := by
  unfold State.adopt
  try dsimp only
  repeat' (first
    | with_reducible assumption | (with_reducible intro _) | with_reducible apply Keeps.State_setDie
    | with_reducible apply Keeps.State_setSide | with_reducible apply Keeps.State_set
    | with_reducible apply Keeps.State_openTurn | (dsimp only [Keeps_mk]; with_reducible apply KeptOf.of)
    | (dsimp only [Keeps_mk]; apply KeptOf.of))

theorem Keeps.State_joinNow {a s : State} (h : Keeps a s) (o : DieId) :
    Keeps a (State.joinNow o s) := by
  unfold State.joinNow
  try dsimp only
  repeat' (first
    | with_reducible assumption | (with_reducible intro _) | with_reducible apply Keeps.State_setRole
    | with_reducible apply Keeps.State_set | with_reducible apply Keeps.State_setSide
    | with_reducible apply Keeps.State_raise | with_reducible apply Keeps.State_sendSlots
    | with_reducible apply Keeps.ite | (dsimp only [Keeps_mk]; with_reducible apply KeptOf.of) | split
    | (dsimp only [Keeps_mk]; apply KeptOf.of))

theorem Keeps.State_countResync {a s : State} (h : Keeps a s) (o : DieId) :
    Keeps a (State.countResync o s) := by
  unfold State.countResync
  try dsimp only
  repeat' (first
    | with_reducible assumption | (with_reducible intro _) | with_reducible apply Keeps.State_addSat
    | with_reducible apply Keeps.ite | split)

theorem Keeps.State_stay {a s : State} (h : Keeps a s) (h_ : DieId) :
    Keeps a (State.stay s h_) := by
  unfold State.stay
  try dsimp only
  repeat' (first
    | with_reducible assumption | (with_reducible intro _) | with_reducible apply Keeps.State_leaveForTest
    | with_reducible apply Keeps.State_activationPrepare | with_reducible apply Keeps.State_commitMarker
    | with_reducible apply Keeps.State_sendParts | with_reducible apply Keeps.State_setSide
    | with_reducible apply Keeps.State_adopt | with_reducible apply Keeps.State_openTurn
    | with_reducible apply Keeps.ite | (dsimp only [Keeps_mk]; with_reducible apply KeptOf.of) | split
    | (dsimp only [Keeps_mk]; apply KeptOf.of))

theorem Keeps.State_gate {a s : State} (h : Keeps a s) :
    Keeps a (State.gate s) := by
  unfold State.gate
  try dsimp only
  repeat' (first
    | with_reducible assumption | (with_reducible intro _) | with_reducible apply Keeps.State_takeOver
    | with_reducible apply Keeps.State_cycleSave | with_reducible apply Keeps.State_gateShut
    | with_reducible apply Keeps.State_activationMiss | with_reducible apply Keeps.State_planned
    | with_reducible apply Keeps.State_stay | with_reducible apply Keeps.ite
    | (dsimp only [Keeps_mk]; with_reducible apply KeptOf.of) | split
    | (dsimp only [Keeps_mk]; apply KeptOf.of))

theorem Keeps.State_cloneUnit {a s : State} (h : Keeps a s) (x : Dispute) :
    Keeps a (State.cloneUnit s x) := by
  unfold State.cloneUnit
  try dsimp only
  repeat' (first
    | with_reducible assumption | (with_reducible intro _) | with_reducible apply Keeps.ite
    | (dsimp only [Keeps_mk]; with_reducible apply KeptOf.of) | split
    | (dsimp only [Keeps_mk]; apply KeptOf.of))

theorem Keeps.State_turnDisputes {a s : State} (h : Keeps a s) :
    Keeps a (State.turnDisputes s) := by
  unfold State.turnDisputes
  try dsimp only
  repeat' (first
    | with_reducible assumption | (with_reducible intro _) | with_reducible apply Keeps.State_cloneUnit
    | with_reducible apply Keeps.foldl | with_reducible apply Keeps.foldlP
    | (dsimp only [Keeps_mk]; with_reducible apply KeptOf.of) | (dsimp only [Keeps_mk]; apply KeptOf.of))

theorem Keeps.State_leaveBoot {a s : State} (h : Keeps a s) (d : DieId) :
    Keeps a (State.leaveBoot d s) := by
  unfold State.leaveBoot
  try dsimp only
  repeat' (first
    | with_reducible assumption | (with_reducible intro _) | with_reducible apply Keeps.State_setRole
    | with_reducible apply Keeps.ite | split)

theorem Keeps.State_outputsOn {a s : State} (h : Keeps a s) :
    Keeps a (State.outputsOn s) := by
  unfold State.outputsOn
  try dsimp only
  repeat' (first
    | with_reducible assumption | (with_reducible intro _) | with_reducible apply Keeps.State_setRole
    | with_reducible apply Keeps.State_raise | with_reducible apply Keeps.State_icuRelease
    | with_reducible apply Keeps.State_setSide | with_reducible apply Keeps.State_setDie
    | with_reducible apply Keeps.State_step_ | with_reducible apply Keeps.State_set
    | with_reducible apply Keeps.State_enterGhost | with_reducible apply Keeps.State_setObj
    | with_reducible apply Keeps.State_catchUp | with_reducible apply Keeps.State_openTurn
    | with_reducible apply Keeps.ite | (dsimp only [Keeps_mk]; with_reducible apply KeptOf.of) | split
    | (dsimp only [Keeps_mk]; apply KeptOf.of))

theorem Keeps.State_offlineWork {a s : State} (h : Keeps a s) :
    Keeps a (State.offlineWork s) := by
  unfold State.offlineWork
  try dsimp only
  repeat' (first
    | with_reducible assumption | (with_reducible intro _) | with_reducible apply Keeps.State_applyStaged
    | with_reducible refine Keeps.ofP (by assumption) ?_ | split)

theorem Keeps.State_probationTurn {a s : State} (h : Keeps a s) :
    Keeps a (State.probationTurn s) := by
  unfold State.probationTurn
  try dsimp only
  repeat' (first
    | with_reducible assumption | (with_reducible intro _)
    | with_reducible apply Keeps.State_activationAccept | with_reducible apply Keeps.ite
    | (dsimp only [Keeps_mk]; with_reducible apply KeptOf.of) | split
    | (dsimp only [Keeps_mk]; apply KeptOf.of))

theorem Keeps.State_transportTurn {a s : State} (h : Keeps a s) (b : BoundaryIn) :
    Keeps a (State.transportTurn s b) := by
  unfold State.transportTurn
  try dsimp only
  repeat' (first
    | with_reducible assumption | (with_reducible intro _) | with_reducible apply Keeps.State_radioBoundary
    | with_reducible apply Keeps.State_plcBoundary | with_reducible apply Keeps.State_newPlan
    | with_reducible apply Keeps.State_scheduleGrant | with_reducible apply Keeps.foldl
    | with_reducible apply Keeps.foldlP)

theorem Keeps.State_dieWork {a s : State} (h : Keeps a s) :
    Keeps a (State.dieWork s) := by
  unfold State.dieWork
  try dsimp only
  repeat' (first
    | with_reducible assumption | (with_reducible intro _) | with_reducible apply Keeps.State_closeDie
    | with_reducible apply Keeps.State_joinNow | with_reducible apply Keeps.State_countResync
    | with_reducible apply Keeps.State_leftCompany | with_reducible apply Keeps.State_companyDue
    | with_reducible apply Keeps.State_applyTimeouts | with_reducible apply Keeps.State_cycleSave
    | with_reducible apply Keeps.State_enterOffline | with_reducible apply Keeps.State_offlineWork
    | with_reducible apply Keeps.State_gate | with_reducible apply Keeps.State_turnDisputes
    | with_reducible apply Keeps.State_leaveBoot | with_reducible apply Keeps.State_outputsOn
    | with_reducible apply Keeps.State_probationTurn | with_reducible apply Keeps.both
    | with_reducible apply Keeps.ite | split)

theorem Keeps.State_boundary {a s : State} (h : Keeps a s) (b : BoundaryIn) :
    KeepsUp a (State.boundary s b) := by
  have g : Keeps a (if s.power.failedAt = none then s.meterClose b.meter else s) :=
    Keeps.ite (fun _ => h.State_meterClose _) fun _ => h
  unfold State.boundary
  dsimp only
  generalize (if s.power.failedAt = none then s.meterClose b.meter else s) = u at *
  split
  · obtain ⟨h1, h2, h3, h4, h5, h6, h7, h8, _⟩ := g.State_clockBoundary b.skews
    exact Or.inl ⟨h1, h2, h3, h4, h5, h6, h7, h8, g.2.2.2.2.2.2.2.2⟩
  · refine Or.inr (Keeps.State_transportTurn (Keeps.State_dieWork (Keeps.State_clockBoundary ?_ _)) _)
    exact (g.both fun d t ht => ht.State_waitExpiry d).both fun d t ht => ht.State_wbCheck d

theorem Keeps.by_execCycleBoundary {a s : State} (h : Keeps a s) (b : BoundaryIn) {t : State}
    (e : execCycleBoundary b s = .next t) : KeepsUp a t := by
  have k : Keeps a { s with power := { s.power with restartAsked := false } } := by
    dsimp only [Keeps_mk]
    exact KeptOf.of h
  have g := k.State_failSequence b.meter true
  have u := h.State_boundary b
  unfold Sys2Proof.Machine.execCycleBoundary at e
  generalize State.failSequence _ b.meter true = x at *
  generalize s.boundary b = y at *
  split at e
  · cases e
    exact Or.inl h
  · split at e
    · cases e
      exact Or.inl g
    · cases e
      exact u

theorem Keeps.State_requestBy {a s : State} (h : Keeps a s) (via : Via) (idx : Nat) (sub : Nat) (b : List Byte)
    (addr : Nat) (v : Nat) :
    Keeps a (State.requestBy s via idx sub b addr v) := by
  unfold State.requestBy
  try dsimp only
  repeat' (first
    | with_reducible assumption | (with_reducible intro _) | with_reducible apply Keeps.State_objectWrite
    | with_reducible apply Keeps.State_portWrite | with_reducible apply Keeps.ite | split)

theorem Keeps.by_execHarmonicRequest {a s : State} (h : Keeps a s) (via : Via) (input : BitVec 8) :
    KeepsX a (execHarmonicRequest via input s) := by
  unfold Sys2Proof.Machine.execHarmonicRequest
  try dsimp only
  repeat' (first
    | with_reducible assumption | (with_reducible intro _) | with_reducible apply Keeps.State_requestBy
    | with_reducible apply KeepsX.next)

theorem Keeps.by_execCalibrationRequest {a s : State} (h : Keeps a s) (via : Via) (input : BitVec 8) :
    KeepsX a (execCalibrationRequest via input s) := by
  unfold Sys2Proof.Machine.execCalibrationRequest
  try dsimp only
  repeat' (first
    | with_reducible assumption | (with_reducible intro _) | with_reducible apply Keeps.State_requestBy
    | with_reducible apply KeepsX.next)

theorem Keeps.by_execHandOverCommand {a s : State} (h : Keeps a s) (via : Via) (die : BitVec 8) :
    KeepsX a (execHandOverCommand via die s) := by
  unfold Sys2Proof.Machine.execHandOverCommand
  try dsimp only
  repeat' (first
    | with_reducible assumption | (with_reducible intro _) | with_reducible apply Keeps.State_requestBy
    | with_reducible apply KeepsX.next)

theorem Keeps.by_execSelfTestCommand {a s : State} (h : Keeps a s) (via : Via) (d : DieId) :
    KeepsX a (execSelfTestCommand via d s) := by
  unfold Sys2Proof.Machine.execSelfTestCommand
  try dsimp only
  repeat' (first
    | with_reducible assumption | (with_reducible intro _) | with_reducible apply Keeps.State_requestBy
    | with_reducible apply KeepsX.next)

theorem Keeps.by_execBankSwapRequest {a s : State} (h : Keeps a s) (session : Fin 33) (request : BitVec 32) (v
    : BitVec 32) :
    KeepsX a (execBankSwapRequest session request v s) := by
  unfold Sys2Proof.Machine.execBankSwapRequest
  try dsimp only
  repeat' (first
    | with_reducible assumption | (with_reducible intro _) | with_reducible apply Keeps.State_objectWrite
    | with_reducible apply KeepsX.next)

theorem Keeps.by_execGoCommand {a s : State} (h : Keeps a s) (session : Fin 33) (request : BitVec 32) (b : List
    Byte) :
    KeepsX a (execGoCommand session request b s) := by
  unfold Sys2Proof.Machine.execGoCommand
  try dsimp only
  repeat' (first
    | with_reducible assumption | (with_reducible intro _) | with_reducible apply Keeps.State_objectWrite
    | with_reducible apply KeepsX.next)

theorem Keeps.by_execBlackoutCommand {a s : State} (h : Keeps a s) (session : Fin 33) (request : BitVec 32) (b
    : List Byte) :
    KeepsX a (execBlackoutCommand session request b s) := by
  unfold Sys2Proof.Machine.execBlackoutCommand
  try dsimp only
  repeat' (first
    | with_reducible assumption | (with_reducible intro _) | with_reducible apply Keeps.State_objectWrite
    | with_reducible apply KeepsX.next)

theorem Keeps.by_execTheftLogClear {a s : State} (h : Keeps a s) (session : Fin 33) (request : BitVec 32) :
    KeepsX a (execTheftLogClear session request s) := by
  unfold Sys2Proof.Machine.execTheftLogClear
  try dsimp only
  repeat' (first
    | with_reducible assumption | (with_reducible intro _) | with_reducible apply Keeps.State_objectWrite
    | with_reducible apply KeepsX.next)

theorem Keeps.by_execAcceptPendingStep {a s : State} (h : Keeps a s) (session : Fin 33) (request : BitVec 32) :
    KeepsX a (execAcceptPendingStep session request s) := by
  unfold Sys2Proof.Machine.execAcceptPendingStep
  try dsimp only
  repeat' (first
    | with_reducible assumption | (with_reducible intro _) | with_reducible apply Keeps.State_objectWrite
    | with_reducible apply KeepsX.next)

theorem Keeps.by_execCommitPromptBook {a s : State} (h : Keeps a s) (session : Fin 33) (request : BitVec 32) (v
    : BitVec 32) :
    KeepsX a (execCommitPromptBook session request v s) := by
  unfold Sys2Proof.Machine.execCommitPromptBook
  try dsimp only
  repeat' (first
    | with_reducible assumption | (with_reducible intro _) | with_reducible apply Keeps.State_objectWrite
    | with_reducible apply KeepsX.next)

theorem Keeps.by_execErasePromptBook {a s : State} (h : Keeps a s) (session : Fin 33) (request : BitVec 32) (v
    : BitVec 32) :
    KeepsX a (execErasePromptBook session request v s) := by
  unfold Sys2Proof.Machine.execErasePromptBook
  try dsimp only
  repeat' (first
    | with_reducible assumption | (with_reducible intro _) | with_reducible apply Keeps.State_objectWrite
    | with_reducible apply KeepsX.next)

theorem Keeps.by_execJoin {a s : State} (h : Keeps a s) (session : Fin 33) (request : BitVec 32) :
    KeepsX a (execJoin session request s) := by
  unfold Sys2Proof.Machine.execJoin
  try dsimp only
  repeat' (first
    | with_reducible assumption | (with_reducible intro _) | with_reducible apply Keeps.State_objectWrite
    | with_reducible apply KeepsX.next)

theorem Keeps.by_execDecommission {a s : State} (h : Keeps a s) (session : Fin 33) (request : BitVec 32) (v :
    BitVec 16) :
    KeepsX a (execDecommission session request v s) := by
  unfold Sys2Proof.Machine.execDecommission
  try dsimp only
  repeat' (first
    | with_reducible assumption | (with_reducible intro _) | with_reducible apply Keeps.State_objectWrite
    | with_reducible apply KeepsX.next)

theorem Keeps.by_execCompanyCommandSend {a s : State} (h : Keeps a s) (session : Fin 33) (request : BitVec 32)
    (b : List Byte) :
    KeepsX a (execCompanyCommandSend session request b s) := by
  unfold Sys2Proof.Machine.execCompanyCommandSend
  try dsimp only
  repeat' (first
    | with_reducible assumption | (with_reducible intro _) | with_reducible apply Keeps.State_objectWrite
    | with_reducible apply KeepsX.next)

theorem Keeps.by_execClearSenders {a s : State} (h : Keeps a s) (session : Fin 33) (request : BitVec 32) :
    KeepsX a (execClearSenders session request s) := by
  unfold Sys2Proof.Machine.execClearSenders
  try dsimp only
  repeat' (first
    | with_reducible assumption | (with_reducible intro _) | with_reducible apply Keeps.State_objectWrite
    | with_reducible apply KeepsX.next)

theorem Keeps.by_execHostPortLock {a s : State} (h : Keeps a s) (session : Fin 33) (request : BitVec 32) :
    KeepsX a (execHostPortLock session request s) := by
  unfold Sys2Proof.Machine.execHostPortLock
  try dsimp only
  repeat' (first
    | with_reducible assumption | (with_reducible intro _) | with_reducible apply Keeps.State_objectWrite
    | with_reducible apply KeepsX.next)

theorem Keeps.by_execKeyImport {a s : State} (h : Keeps a s) (session : Fin 33) (request : BitVec 32) (b : List
    Byte) :
    KeepsX a (execKeyImport session request b s) := by
  unfold Sys2Proof.Machine.execKeyImport
  try dsimp only
  repeat' (first
    | with_reducible assumption | (with_reducible intro _) | with_reducible apply Keeps.State_objectWrite
    | with_reducible apply KeepsX.next)

theorem Keeps.by_execGenerateManagementBranch {a s : State} (h : Keeps a s) (session : Fin 33) (request :
    BitVec 32) :
    KeepsX a (execGenerateManagementBranch session request s) := by
  unfold Sys2Proof.Machine.execGenerateManagementBranch
  try dsimp only
  repeat' (first
    | with_reducible assumption | (with_reducible intro _) | with_reducible apply Keeps.State_objectWrite
    | with_reducible apply KeepsX.next)

theorem Keeps.by_execManagementCertificate {a s : State} (h : Keeps a s) (session : Fin 33) (request : BitVec
    32) (b : List Byte) :
    KeepsX a (execManagementCertificate session request b s) := by
  unfold Sys2Proof.Machine.execManagementCertificate
  try dsimp only
  repeat' (first
    | with_reducible assumption | (with_reducible intro _) | with_reducible apply Keeps.State_objectWrite
    | with_reducible apply KeepsX.next)

theorem Keeps.by_execAttestationRequest {a s : State} (h : Keeps a s) (session : Fin 33) (request : BitVec 32)
    (b : List Byte) :
    KeepsX a (execAttestationRequest session request b s) := by
  unfold Sys2Proof.Machine.execAttestationRequest
  try dsimp only
  repeat' (first
    | with_reducible assumption | (with_reducible intro _) | with_reducible apply Keeps.State_objectWrite
    | with_reducible apply KeepsX.next)

theorem Keeps.by_execSegmentKeyChange {a s : State} (h : Keeps a s) (session : Fin 33) (request : BitVec 32) :
    KeepsX a (execSegmentKeyChange session request s) := by
  unfold Sys2Proof.Machine.execSegmentKeyChange
  try dsimp only
  repeat' (first
    | with_reducible assumption | (with_reducible intro _) | with_reducible apply Keeps.State_objectWrite
    | with_reducible apply KeepsX.next)

theorem Keeps.by_execRenewSegmentBranch {a s : State} (h : Keeps a s) (session : Fin 33) (request : BitVec 32) :
    KeepsX a (execRenewSegmentBranch session request s) := by
  unfold Sys2Proof.Machine.execRenewSegmentBranch
  try dsimp only
  repeat' (first
    | with_reducible assumption | (with_reducible intro _) | with_reducible apply Keeps.State_objectWrite
    | with_reducible apply KeepsX.next)

theorem Keeps.by_execTamperAcknowledge {a s : State} (h : Keeps a s) (session : Fin 33) (request : BitVec 32)
    (v : BitVec 16) :
    KeepsX a (execTamperAcknowledge session request v s) := by
  unfold Sys2Proof.Machine.execTamperAcknowledge
  try dsimp only
  repeat' (first
    | with_reducible assumption | (with_reducible intro _) | with_reducible apply Keeps.State_objectWrite
    | with_reducible apply KeepsX.next)

theorem Keeps.by_execStageBegin {a s : State} (h : Keeps a s) (session : Fin 33) (request : BitVec 32) (b :
    List Byte) :
    KeepsX a (execStageBegin session request b s) := by
  unfold Sys2Proof.Machine.execStageBegin
  try dsimp only
  repeat' (first
    | with_reducible assumption | (with_reducible intro _) | with_reducible apply Keeps.State_objectWrite
    | with_reducible apply KeepsX.next)

theorem Keeps.by_execStageBlock {a s : State} (h : Keeps a s) (session : Fin 33) (request : BitVec 32) (b :
    List Byte) :
    KeepsX a (execStageBlock session request b s) := by
  unfold Sys2Proof.Machine.execStageBlock
  try dsimp only
  repeat' (first
    | with_reducible assumption | (with_reducible intro _) | with_reducible apply Keeps.State_objectWrite
    | with_reducible apply KeepsX.next)

theorem Keeps.by_execStageEnd {a s : State} (h : Keeps a s) (session : Fin 33) (request : BitVec 32) :
    KeepsX a (execStageEnd session request s) := by
  unfold Sys2Proof.Machine.execStageEnd
  try dsimp only
  repeat' (first
    | with_reducible assumption | (with_reducible intro _) | with_reducible apply Keeps.State_objectWrite
    | with_reducible apply KeepsX.next)

theorem Keeps.by_execEndorsement {a s : State} (h : Keeps a s) (session : Fin 33) (request : BitVec 32) (b :
    List Byte) :
    KeepsX a (execEndorsement session request b s) := by
  unfold Sys2Proof.Machine.execEndorsement
  try dsimp only
  repeat' (first
    | with_reducible assumption | (with_reducible intro _) | with_reducible apply Keeps.State_objectWrite
    | with_reducible apply KeepsX.next)

theorem Keeps.by_execActivate {a s : State} (h : Keeps a s) (session : Fin 33) (request : BitVec 32) (b : List
    Byte) :
    KeepsX a (execActivate session request b s) := by
  unfold Sys2Proof.Machine.execActivate
  try dsimp only
  repeat' (first
    | with_reducible assumption | (with_reducible intro _) | with_reducible apply Keeps.State_objectWrite
    | with_reducible apply KeepsX.next)

theorem Keeps.by_execRejectImage {a s : State} (h : Keeps a s) (session : Fin 33) (request : BitVec 32) :
    KeepsX a (execRejectImage session request s) := by
  unfold Sys2Proof.Machine.execRejectImage
  try dsimp only
  repeat' (first
    | with_reducible assumption | (with_reducible intro _) | with_reducible apply Keeps.State_objectWrite
    | with_reducible apply KeepsX.next)

theorem Keeps.by_execAcceptImage {a s : State} (h : Keeps a s) (session : Fin 33) (request : BitVec 32) :
    KeepsX a (execAcceptImage session request s) := by
  unfold Sys2Proof.Machine.execAcceptImage
  try dsimp only
  repeat' (first
    | with_reducible assumption | (with_reducible intro _) | with_reducible apply Keeps.State_objectWrite
    | with_reducible apply KeepsX.next)

theorem Keeps.by_execNodeCampaign {a s : State} (h : Keeps a s) (session : Fin 33) (request : BitVec 32) (b :
    List Byte) :
    KeepsX a (execNodeCampaign session request b s) := by
  unfold Sys2Proof.Machine.execNodeCampaign
  try dsimp only
  repeat' (first
    | with_reducible assumption | (with_reducible intro _) | with_reducible apply Keeps.State_objectWrite
    | with_reducible apply KeepsX.next)

theorem Keeps.by_execNodeImageActivate {a s : State} (h : Keeps a s) (session : Fin 33) (request : BitVec 32)
    (b : List Byte) :
    KeepsX a (execNodeImageActivate session request b s) := by
  unfold Sys2Proof.Machine.execNodeImageActivate
  try dsimp only
  repeat' (first
    | with_reducible assumption | (with_reducible intro _) | with_reducible apply Keeps.State_objectWrite
    | with_reducible apply KeepsX.next)

theorem Keeps.by_execClearCallboard {a s : State} (h : Keeps a s) (session : Fin 33) (request : BitVec 32) (v :
    BitVec 32) :
    KeepsX a (execClearCallboard session request v s) := by
  unfold Sys2Proof.Machine.execClearCallboard
  try dsimp only
  repeat' (first
    | with_reducible assumption | (with_reducible intro _) | with_reducible apply Keeps.State_objectWrite
    | with_reducible apply KeepsX.next)

theorem Keeps.by_execTestRequest {a s : State} (h : Keeps a s) (session : Fin 33) (request : BitVec 32) (b :
    List Byte) :
    KeepsX a (execTestRequest session request b s) := by
  unfold Sys2Proof.Machine.execTestRequest
  try dsimp only
  repeat' (first
    | with_reducible assumption | (with_reducible intro _) | with_reducible apply Keeps.State_objectWrite
    | with_reducible apply KeepsX.next)

theorem Keeps.by_execOfflineMode {a s : State} (h : Keeps a s) (session : Fin 33) (request : BitVec 32) (v :
    BitVec 16) :
    KeepsX a (execOfflineMode session request v s) := by
  unfold Sys2Proof.Machine.execOfflineMode
  try dsimp only
  repeat' (first
    | with_reducible assumption | (with_reducible intro _) | with_reducible apply Keeps.State_objectWrite
    | with_reducible apply KeepsX.next)

theorem Keeps.by_execRestart {a s : State} (h : Keeps a s) (session : Fin 33) (request : BitVec 32) (v : BitVec
    16) :
    KeepsX a (execRestart session request v s) := by
  unfold Sys2Proof.Machine.execRestart
  try dsimp only
  repeat' (first
    | with_reducible assumption | (with_reducible intro _) | with_reducible apply Keeps.State_objectWrite
    | with_reducible apply KeepsX.next)

end Sys2Proof.Machine
end

