-- ==== Sys2Proof/Laws/KeepsExec.lean ====
section
/-! SUPPORT. What every command keeps (Sys2Proof.Machine.Keeps). -/

namespace Sys2Proof.Machine

/-- A command that gives a next state keeps the part, the queue and the time, what was sent outward, the
canonical form of the register file and of the object values, and the order of the frame counter; only the
commands of turnsCycle touch the cycle counter. -/
theorem Keeps.of_exec {a s : State} (h : Keeps a s) (c : Instr) (hc : turnsCycle c = false) : KeepsX a (exec c s) := by
  cases c with
  | crossingDetected _ _ _ _ _ => cases hc
  | crossingTimeout => exact Keeps.by_execCrossingTimeout h
  | cycleBoundary _ => cases hc
  | optimeTick => exact Keeps.by_execOptimeTick h
  | rtcTick => exact Keeps.by_execRtcTick h
  | rtcLoRead x0 => exact Keeps.by_execRtcLoRead h x0
  | rtcHiRead x0 => exact Keeps.by_execRtcHiRead h x0
  | rtcSetHiWrite x0 x1 => exact Keeps.by_execRtcSetHiWrite h x0 x1
  | rtcSetCommit x0 x1 => exact Keeps.by_execRtcSetCommit h x0 x1
  | rtcSetApply => exact Keeps.by_execRtcSetApply h
  | rtcSetFromTai => exact Keeps.by_execRtcSetFromTai h
  | rtcCompensation x0 => exact Keeps.by_execRtcCompensation h x0
  | dataPlaneInput => exact Keeps.by_execDataPlaneInput h
  | reportPeriodExpiry x0 => exact Keeps.by_execReportPeriodExpiry h x0
  | writeBehind x0 x1 => exact Keeps.by_execWriteBehind h x0 x1
  | backgroundStatisticsPass x0 => exact Keeps.by_execBackgroundStatisticsPass h x0
  | scrubPass x0 x1 x2 x3 x4 => exact Keeps.by_execScrubPass h x0 x1 x2 x3 x4
  | mramUncorrectable x0 x1 x2 x3 x4 => exact Keeps.by_execMramUncorrectable h x0 x1 x2 x3 x4
  | unitFailure x0 x1 x2 => exact Keeps.by_execUnitFailure h x0 x1 x2
  | remapSnapshotInstall x0 => exact Keeps.by_execRemapSnapshotInstall h x0
  | remapCommand x0 x1 => exact Keeps.by_execRemapCommand h x0 x1
  | followSpotReceive x0 => exact Keeps.by_execFollowSpotReceive h x0
  | eventEvaluation x0 x1 => exact Keeps.by_execEventEvaluation h x0 x1
  | eventCutoff => exact Keeps.by_execEventCutoff h
  | sweepOverrun x0 => exact Keeps.by_execSweepOverrun h x0
  | emissionHandoff x0 x1 => exact Keeps.by_execEmissionHandoff h x0 x1
  | aggregateDeadline x0 x1 => exact Keeps.by_execAggregateDeadline h x0 x1
  | balanceCheck => exact Keeps.by_execBalanceCheck h
  | bankSwapRequest x0 x1 x2 => exact Keeps.by_execBankSwapRequest h x0 x1 x2
  | bankSyncEnd => exact Keeps.by_execBankSyncEnd h
  | goCommand x0 x1 x2 => exact Keeps.by_execGoCommand h x0 x1 x2
  | blackoutCommand x0 x1 x2 => exact Keeps.by_execBlackoutCommand h x0 x1 x2
  | queuePacketSend x0 x1 => exact Keeps.by_execQueuePacketSend h x0 x1
  | creditReturn x0 x1 => exact Keeps.by_execCreditReturn h x0 x1
  | levelTimeout x0 x1 x2 => exact Keeps.by_execLevelTimeout h x0 x1 x2
  | queueFlush x0 x1 => exact Keeps.by_execQueueFlush h x0 x1
  | blockDisable x0 => exact Keeps.by_execBlockDisable h x0
  | drained x0 => exact Keeps.by_execDrained h x0
  | drainTimeout x0 => exact Keeps.by_execDrainTimeout h x0
  | blockEnable x0 x1 => exact Keeps.by_execBlockEnable h x0 x1
  | arbWindowBoundary x0 x1 x2 => exact Keeps.by_execArbWindowBoundary h x0 x1 x2
  | arbGrant x0 x1 x2 x3 x4 x5 => exact Keeps.by_execArbGrant h x0 x1 x2 x3 x4 x5
  | arbPreempt x0 x1 x2 x3 => exact Keeps.by_execArbPreempt h x0 x1 x2 x3
  | arbEmergency x0 x1 x2 x3 => exact Keeps.by_execArbEmergency h x0 x1 x2 x3
  | arbCutoff x0 x1 x2 => exact Keeps.by_execArbCutoff h x0 x1 x2
  | arbWithdraw x0 x1 x2 x3 x4 x5 x6 => exact Keeps.by_execArbWithdraw h x0 x1 x2 x3 x4 x5 x6
  | timeoutWrite x0 x1 x2 x3 => exact Keeps.by_execTimeoutWrite h x0 x1 x2 x3
  | radioSlotStart x0 x1 => exact Keeps.by_execRadioSlotStart h x0 x1
  | radioBadFrame x0 x1 => exact Keeps.by_execRadioBadFrame h x0 x1
  | report x0 x1 => exact Keeps.by_execReport h x0 x1
  | acknowledgement x0 x1 => exact Keeps.by_execAcknowledgement h x0 x1
  | grantRequest x0 x1 x2 => exact Keeps.by_execGrantRequest h x0 x1 x2
  | repairRequest x0 x1 => exact Keeps.by_execRepairRequest h x0 x1
  | rehomeRequest x0 x1 x2 => exact Keeps.by_execRehomeRequest h x0 x1 x2
  | joinRequest x0 x1 x2 x3 => exact Keeps.by_execJoinRequest h x0 x1 x2 x3
  | ackMissing x0 => exact Keeps.by_execAckMissing h x0
  | slotTableSwap x0 x1 => exact Keeps.by_execSlotTableSwap h x0 x1
  | slotDataAccess x0 x1 x2 => exact Keeps.by_execSlotDataAccess h x0 x1 x2
  | radioLeave x0 => exact Keeps.by_execRadioLeave h x0
  | radioLeaveEnd x0 => exact Keeps.by_execRadioLeaveEnd h x0
  | radioFailure x0 => exact Keeps.by_execRadioFailure h x0
  | nodeLeave x0 => exact Keeps.by_execNodeLeave h x0
  | plcWindowStart x0 x1 => exact Keeps.by_execPlcWindowStart h x0 x1
  | plcReport x0 x1 => exact Keeps.by_execPlcReport h x0 x1
  | plcGrantRequest x0 x1 x2 => exact Keeps.by_execPlcGrantRequest h x0 x1 x2
  | plcJoinRequest x0 x1 x2 x3 => exact Keeps.by_execPlcJoinRequest h x0 x1 x2 x3
  | plcReplyMissing x0 x1 => exact Keeps.by_execPlcReplyMissing h x0 x1
  | plcLeave x0 => exact Keeps.by_execPlcLeave h x0
  | plcLineFault x0 => exact Keeps.by_execPlcLineFault h x0
  | planDataRead x0 x1 => exact Keeps.by_execPlanDataRead h x0 x1
  | chainFrameStart x0 => exact Keeps.by_execChainFrameStart h x0
  | chainReturnEnd x0 x1 => exact Keeps.by_execChainReturnEnd h x0 x1
  | chainLatch x0 => exact Keeps.by_execChainLatch h x0
  | latchMissing x0 => exact Keeps.by_execLatchMissing h x0
  | chainCountRequest x0 => exact Keeps.by_execChainCountRequest h x0
  | meterResultsReady => exact Keeps.by_execMeterResultsReady h
  | historyIntervalEnd => exact Keeps.by_execHistoryIntervalEnd h
  | pulseOutput x0 => exact Keeps.by_execPulseOutput h x0
  | harmonicRequest x0 x1 => exact Keeps.by_execHarmonicRequest h x0 x1
  | harmonicDone x0 x1 x2 => exact Keeps.by_execHarmonicDone h x0 x1 x2
  | calibrationRequest x0 x1 => exact Keeps.by_execCalibrationRequest h x0 x1
  | calibrationAuto => exact Keeps.by_execCalibrationAuto h
  | theftSecond x0 x1 x2 => exact Keeps.by_execTheftSecond h x0 x1 x2
  | theftMinute => exact Keeps.by_execTheftMinute h
  | theftLogClear x0 x1 => exact Keeps.by_execTheftLogClear h x0 x1
  | resultSelect x0 x1 => exact Keeps.by_execResultSelect h x0 x1
  | totalSelect x0 x1 => exact Keeps.by_execTotalSelect h x0 x1
  | healthDeadline x0 x1 x2 => exact Keeps.by_execHealthDeadline h x0 x1 x2
  | dataWriteRecord => exact Keeps.by_execDataWriteRecord h
  | managementWriteRecord => exact Keeps.by_execManagementWriteRecord h
  | cueFixRecord => exact Keeps.by_execCueFixRecord h
  | scheduleOccurrenceRecord => exact Keeps.by_execScheduleOccurrenceRecord h
  | meteringRecord => exact Keeps.by_execMeteringRecord h
  | commitTotalsRecord => exact Keeps.by_execCommitTotalsRecord h
  | commitClose => exact Keeps.by_execCommitClose h
  | reservedRecord x0 => exact Keeps.by_execReservedRecord h x0
  | epochMark x0 => exact Keeps.by_execEpochMark h x0
  | journalAck => exact Keeps.by_execJournalAck h
  | mirrorWrite => exact Keeps.by_execMirrorWrite h
  | closingWaitExpiry x0 => exact Keeps.by_execClosingWaitExpiry h x0
  | unitResyncInstall x0 x1 => exact Keeps.by_execUnitResyncInstall h x0 x1
  | stageRelease x0 => exact Keeps.by_execStageRelease h x0
  | resyncRequest x0 => exact Keeps.by_execResyncRequest h x0
  | resyncCopyDone x0 => exact Keeps.by_execResyncCopyDone h x0
  | resyncRestart x0 => exact Keeps.by_execResyncRestart h x0
  | handOverCommand x0 x1 => exact Keeps.by_execHandOverCommand h x0 x1
  | selfTestCommand x0 x1 => exact Keeps.by_execSelfTestCommand h x0 x1
  | linkPacketError x0 x1 => exact Keeps.by_execLinkPacketError h x0 x1
  | laneFailure x0 => exact Keeps.by_execLaneFailure h x0
  | linkDown => exact Keeps.by_execLinkDown h
  | linkRetrain x0 => exact Keeps.by_execLinkRetrain h x0
  | ethFrameReceive x0 x1 x2 x3 => exact Keeps.by_execEthFrameReceive h x0 x1 x2 x3
  | pauseRefresh x0 x1 => exact Keeps.by_execPauseRefresh h x0 x1
  | pauseReceive x0 x1 => exact Keeps.by_execPauseReceive h x0 x1
  | pauseExpiry x0 => exact Keeps.by_execPauseExpiry h x0
  | ethFrameTransmit x0 x1 => exact Keeps.by_execEthFrameTransmit h x0 x1
  | txtsRead x0 x1 => exact Keeps.by_execTxtsRead h x0 x1
  | linkFailure x0 x1 => exact Keeps.by_execLinkFailure h x0 x1
  | failoverForce => exact Keeps.by_execFailoverForce h
  | failback => exact Keeps.by_execFailback h
  | gclChangeRequest x0 => exact Keeps.by_execGclChangeRequest h x0
  | gclChange x0 => exact Keeps.by_execGclChange h x0
  | gclEntryEnd x0 => exact Keeps.by_execGclEntryEnd h x0
  | mdioCommand x0 x1 x2 => exact Keeps.by_execMdioCommand h x0 x1 x2
  | mdioDone x0 x1 => exact Keeps.by_execMdioDone h x0 x1
  | ptpOffsetWrite x0 => exact Keeps.by_execPtpOffsetWrite h x0
  | ptpHoldoverExpiry => exact Keeps.by_execPtpHoldoverExpiry h
  | acceptPendingStep x0 x1 => exact Keeps.by_execAcceptPendingStep h x0 x1
  | sessionOpen x0 x1 => exact Keeps.by_execSessionOpen h x0 x1
  | sessionIdleTimeout => exact Keeps.by_execSessionIdleTimeout h
  | read x0 x1 => exact Keeps.by_execRead h x0 x1
  | write x0 x1 => exact Keeps.by_execWrite h x0 x1
  | epRead x0 x1 => exact Keeps.by_execEpRead h x0 x1
  | epWrite x0 x1 => exact Keeps.by_execEpWrite h x0 x1
  | company x0 x1 => exact Keeps.by_execCompany h x0 x1
  | commitPromptBook x0 x1 x2 => exact Keeps.by_execCommitPromptBook h x0 x1 x2
  | promptCommitEnd => exact Keeps.by_execPromptCommitEnd h
  | erasePromptBook x0 x1 x2 => exact Keeps.by_execErasePromptBook h x0 x1 x2
  | join x0 x1 => exact Keeps.by_execJoin h x0 x1
  | decommission x0 x1 x2 => exact Keeps.by_execDecommission h x0 x1 x2
  | companyCommandSend x0 x1 x2 => exact Keeps.by_execCompanyCommandSend h x0 x1 x2
  | clearSenders x0 x1 => exact Keeps.by_execClearSenders h x0 x1
  | hostPortLock x0 x1 => exact Keeps.by_execHostPortLock h x0 x1
  | hostRead x0 x1 x2 x3 x4 => exact Keeps.by_execHostRead h x0 x1 x2 x3 x4
  | hostWrite x0 x1 x2 => exact Keeps.by_execHostWrite h x0 x1 x2
  | hostAbort x0 x1 x2 x3 => exact Keeps.by_execHostAbort h x0 x1 x2 x3
  | stallCap x0 x1 x2 x3 x4 x5 => exact Keeps.by_execStallCap h x0 x1 x2 x3 x4 x5
  | lowWordRead x0 x1 => exact Keeps.by_execLowWordRead h x0 x1
  | highWordRead x0 x1 => exact Keeps.by_execHighWordRead h x0 x1
  | highWordWrite x0 x1 x2 => exact Keeps.by_execHighWordWrite h x0 x1 x2
  | lowWordWrite x0 x1 x2 => exact Keeps.by_execLowWordWrite h x0 x1 x2
  | readClear x0 x1 => exact Keeps.by_execReadClear h x0 x1
  | registerWrite x0 x1 x2 => exact Keeps.by_execRegisterWrite h x0 x1 x2
  | msgDoorbell x0 x1 => exact Keeps.by_execMsgDoorbell h x0 x1
  | msgResponse => exact Keeps.by_execMsgResponse h
  | interruptPending x0 => exact Keeps.by_execInterruptPending h x0
  | icuClaim x0 x1 x2 => exact Keeps.by_execIcuClaim h x0 x1 x2
  | icuComplete x0 x1 x2 x3 => exact Keeps.by_execIcuComplete h x0 x1 x2 x3
  | icuPendSet x0 x1 x2 x3 => exact Keeps.by_execIcuPendSet h x0 x1 x2 x3
  | icuPendClear x0 x1 x2 x3 => exact Keeps.by_execIcuPendClear h x0 x1 x2 x3
  | keyInvalidate x0 => exact Keeps.by_execKeyInvalidate h x0
  | tamperSample x0 x1 => exact Keeps.by_execTamperSample h x0 x1
  | keyRemask => exact Keeps.by_execKeyRemask h
  | keyImport x0 x1 x2 => exact Keeps.by_execKeyImport h x0 x1 x2
  | generateManagementBranch x0 x1 => exact Keeps.by_execGenerateManagementBranch h x0 x1
  | managementCertificate x0 x1 x2 => exact Keeps.by_execManagementCertificate h x0 x1 x2
  | attestationRequest x0 x1 x2 => exact Keeps.by_execAttestationRequest h x0 x1 x2
  | attestationReady => exact Keeps.by_execAttestationReady h
  | segmentKeyChange x0 x1 => exact Keeps.by_execSegmentKeyChange h x0 x1
  | segmentKeyPeriod => exact Keeps.by_execSegmentKeyPeriod h
  | segmentKeyUse => exact Keeps.by_execSegmentKeyUse h
  | segmentKeyRetire => exact Keeps.by_execSegmentKeyRetire h
  | renewSegmentBranch x0 x1 => exact Keeps.by_execRenewSegmentBranch h x0 x1
  | tamperAcknowledge x0 x1 x2 => exact Keeps.by_execTamperAcknowledge h x0 x1 x2
  | stageBegin x0 x1 x2 => exact Keeps.by_execStageBegin h x0 x1 x2
  | stageBlock x0 x1 x2 => exact Keeps.by_execStageBlock h x0 x1 x2
  | stageEnd x0 x1 => exact Keeps.by_execStageEnd h x0 x1
  | endorsement x0 x1 x2 => exact Keeps.by_execEndorsement h x0 x1 x2
  | activate x0 x1 x2 => exact Keeps.by_execActivate h x0 x1 x2
  | probationExpiry => exact Keeps.by_execProbationExpiry h
  | rejectImage x0 x1 => exact Keeps.by_execRejectImage h x0 x1
  | acceptImage x0 x1 => exact Keeps.by_execAcceptImage h x0 x1
  | nodeCampaign x0 x1 x2 => exact Keeps.by_execNodeCampaign h x0 x1 x2
  | campaignDone => exact Keeps.by_execCampaignDone h
  | nodeImageActivate x0 x1 x2 => exact Keeps.by_execNodeImageActivate h x0 x1 x2
  | dieBoot x0 x1 x2 => exact Keeps.by_execDieBoot h x0 x1 x2
  | callboardPost => exact Keeps.by_execCallboardPost h
  | clearCallboard x0 x1 x2 => exact Keeps.by_execClearCallboard h x0 x1 x2
  | testRequest x0 x1 x2 => exact Keeps.by_execTestRequest h x0 x1 x2
  | dieFullSelfTest x0 => exact Keeps.by_execDieFullSelfTest h x0
  | spareUnitTest x0 x1 x2 => exact Keeps.by_execSpareUnitTest h x0 x1 x2
  | mramScrubTest x0 x1 x2 => exact Keeps.by_execMramScrubTest h x0 x1 x2
  | radioCalibration x0 x1 => exact Keeps.by_execRadioCalibration h x0 x1
  | plcLineMeasurement x0 x1 => exact Keeps.by_execPlcLineMeasurement h x0 x1
  | chainCountTest x0 => exact Keeps.by_execChainCountTest h x0
  | offsetCalibrationTest x0 => exact Keeps.by_execOffsetCalibrationTest h x0
  | cableDiagnostic x0 x1 => exact Keeps.by_execCableDiagnostic h x0 x1
  | falsiaLaneTest x0 => exact Keeps.by_execFalsiaLaneTest h x0
  | phyLoopback x0 x1 => exact Keeps.by_execPhyLoopback h x0 x1
  | testEnd x0 => exact Keeps.by_execTestEnd h x0
  | testPeriodic x0 x1 => exact Keeps.by_execTestPeriodic h x0 x1
  | offlineMode x0 x1 x2 => exact Keeps.by_execOfflineMode h x0 x1 x2
  | tapRelease => exact Keeps.by_execTapRelease h
  | supplyGood x0 => exact Keeps.by_execSupplyGood h x0
  | powerFail x0 => exact Keeps.by_execPowerFail h x0
  | moduleReset _ _ _ => cases hc
  | counterLoad _ => cases hc
  | startSelfTest x0 x1 => exact Keeps.by_execStartSelfTest h x0 x1
  | stageChoice => exact Keeps.by_execStageChoice h
  | hotRestore => exact Keeps.by_execHotRestore h
  | restart x0 x1 x2 => exact Keeps.by_execRestart h x0 x1 x2
  | backupSwitch x0 x1 => exact Keeps.by_execBackupSwitch h x0 x1
  | standbyReturn x0 x1 => exact Keeps.by_execStandbyReturn h x0 x1
  | ghostLightReset => exact Keeps.by_execGhostLightReset h
  | vbatMeasure x0 x1 => exact Keeps.by_execVbatMeasure h x0 x1
  | chargeFault => exact Keeps.by_execChargeFault h
  | vinMonitor x0 => exact Keeps.by_execVinMonitor h x0
  | lockstepMismatch x0 => exact Keeps.by_execLockstepMismatch h x0
  | watchdogExpiry x0 => exact Keeps.by_execWatchdogExpiry h x0
  | crossbarFault x0 => exact Keeps.by_execCrossbarFault h x0
  | continuityMessage => exact Keeps.by_execContinuityMessage h
  | ethLinkUp x0 x1 => exact Keeps.by_execEthLinkUp h x0 x1
  | sessionPeerClose x0 => exact Keeps.by_execSessionPeerClose h x0
  | companyResponse x0 x1 => exact Keeps.by_execCompanyResponse h x0 x1
  | ghostLightLeavesReset x0 x1 => exact Keeps.by_execGhostLightLeavesReset h x0 x1
  | voltageInputPresence x0 x1 => exact Keeps.by_execVoltageInputPresence h x0 x1
  | announceReceiptTimeout x0 => exact Keeps.by_execAnnounceReceiptTimeout h x0
  | tapClockEdge x0 x1 x2 => exact Keeps.by_execTapClockEdge h x0 x1 x2

/-- Every command keeps all of it but the cycle counter. -/
theorem Keeps.of_exec_any {a s t : State} (h : Keeps a s) (c : Instr) (e : exec c s = .next t) :
    ∃ n, Keeps (a.withCycle n) t := by
  have up (g : KeepsUp a t) : ∃ n, Keeps (a.withCycle n) t := by
    rcases g with g | g
    · exact ⟨a.clk.cycle, g⟩
    · exact ⟨_, g⟩
  cases hc : turnsCycle c with
  | false => exact ⟨a.clk.cycle, h.of_exec c hc t e⟩
  | true =>
    cases c with
    | crossingDetected _ _ _ _ _ => exact up (h.by_execCrossingDetected _ _ _ _ _ e)
    | cycleBoundary _ => exact up (h.by_execCycleBoundary _ e)
    | counterLoad _ => exact h.by_execCounterLoad _ e
    | moduleReset _ _ _ => exact h.by_execModuleReset _ _ _ e
    | _ => cases hc

end Sys2Proof.Machine
end

