-- ==== Sys2Proof/Laws/State.lean ====
section
/-! SUPPORT. The named updates of the state, field by field, and what is read after a write. -/

namespace Sys2Proof.Machine

/-! ### set -/

@[simp] theorem State.set_pending (s : State) (f : Fld) (v : Nat) : (s.set f v).pending = s.pending := rfl
@[simp] theorem State.set_now (s : State) (f : Fld) (v : Nat) : (s.set f v).now = s.now := rfl
@[simp] theorem State.set_part (s : State) (f : Fld) (v : Nat) : (s.set f v).part = s.part := rfl
@[simp] theorem State.set_holds (s : State) (f : Fld) (v : Nat) : (s.set f v).holds = s.holds := rfl
@[simp] theorem State.set_portShadows (s : State) (f : Fld) (v : Nat) :
    (s.set f v).portShadows = s.portShadows := rfl
@[simp] theorem State.set_objs (s : State) (f : Fld) (v : Nat) : (s.set f v).objs = s.objs := rfl
@[simp] theorem State.set_octs (s : State) (f : Fld) (v : Nat) : (s.set f v).octs = s.octs := rfl
@[simp] theorem State.set_posts (s : State) (f : Fld) (v : Nat) : (s.set f v).posts = s.posts := rfl
@[simp] theorem State.set_out (s : State) (f : Fld) (v : Nat) : (s.set f v).out = s.out := rfl
@[simp] theorem State.set_free (s : State) (f : Fld) (v : Nat) : (s.set f v).free = s.free := rfl
@[simp] theorem State.set_clk (s : State) (f : Fld) (v : Nat) : (s.set f v).clk = s.clk := rfl
@[simp] theorem State.set_rtc (s : State) (f : Fld) (v : Nat) : (s.set f v).rtc = s.rtc := rfl
@[simp] theorem State.set_ptp (s : State) (f : Fld) (v : Nat) : (s.set f v).ptp = s.ptp := rfl
@[simp] theorem State.set_dieA (s : State) (f : Fld) (v : Nat) : (s.set f v).dieA = s.dieA := rfl
@[simp] theorem State.set_dieB (s : State) (f : Fld) (v : Nat) : (s.set f v).dieB = s.dieB := rfl
@[simp] theorem State.set_holder (s : State) (f : Fld) (v : Nat) : (s.set f v).holder = s.holder := rfl
@[simp] theorem State.set_profiles (s : State) (f : Fld) (v : Nat) : (s.set f v).profiles = s.profiles := rfl
@[simp] theorem State.set_curves (s : State) (f : Fld) (v : Nat) : (s.set f v).curves = s.curves := rfl
@[simp] theorem State.set_aggDefs (s : State) (f : Fld) (v : Nat) : (s.set f v).aggDefs = s.aggDefs := rfl
@[simp] theorem State.set_queues (s : State) (f : Fld) (v : Nat) : (s.set f v).queues = s.queues := rfl
@[simp] theorem State.set_waiters (s : State) (f : Fld) (v : Nat) : (s.set f v).waiters = s.waiters := rfl
@[simp] theorem State.set_expiring (s : State) (f : Fld) (v : Nat) : (s.set f v).expiring = s.expiring := rfl
@[simp] theorem State.set_gateDrops (s : State) (f : Fld) (v : Nat) : (s.set f v).gateDrops = s.gateDrops := rfl
@[simp] theorem State.set_drainFrom (s : State) (f : Fld) (v : Nat) : (s.set f v).drainFrom = s.drainFrom := rfl
@[simp] theorem State.set_arbs (s : State) (f : Fld) (v : Nat) : (s.set f v).arbs = s.arbs := rfl
@[simp] theorem State.set_unitTmo (s : State) (f : Fld) (v : Nat) : (s.set f v).unitTmo = s.unitTmo := rfl
@[simp] theorem State.set_tmoPending (s : State) (f : Fld) (v : Nat) :
    (s.set f v).tmoPending = s.tmoPending := rfl
@[simp] theorem State.set_nodes (s : State) (f : Fld) (v : Nat) : (s.set f v).nodes = s.nodes := rfl
@[simp] theorem State.set_radios (s : State) (f : Fld) (v : Nat) : (s.set f v).radios = s.radios := rfl
@[simp] theorem State.set_plcs (s : State) (f : Fld) (v : Nat) : (s.set f v).plcs = s.plcs := rfl
@[simp] theorem State.set_chains (s : State) (f : Fld) (v : Nat) : (s.set f v).chains = s.chains := rfl
@[simp] theorem State.set_eths (s : State) (f : Fld) (v : Nat) : (s.set f v).eths = s.eths := rfl
@[simp] theorem State.set_frameCounter (s : State) (f : Fld) (v : Nat) :
    (s.set f v).frameCounter = s.frameCounter := rfl
@[simp] theorem State.set_counterSaved (s : State) (f : Fld) (v : Nat) :
    (s.set f v).counterSaved = s.counterSaved := rfl
@[simp] theorem State.set_link (s : State) (f : Fld) (v : Nat) : (s.set f v).link = s.link := rfl
@[simp] theorem State.set_keys (s : State) (f : Fld) (v : Nat) : (s.set f v).keys = s.keys := rfl
@[simp] theorem State.set_segUse (s : State) (f : Fld) (v : Nat) : (s.set f v).segUse = s.segUse := rfl
@[simp] theorem State.set_segNew (s : State) (f : Fld) (v : Nat) : (s.set f v).segNew = s.segNew := rfl
@[simp] theorem State.set_inputs (s : State) (f : Fld) (v : Nat) : (s.set f v).inputs = s.inputs := rfl
@[simp] theorem State.set_meter (s : State) (f : Fld) (v : Nat) : (s.set f v).meter = s.meter := rfl
@[simp] theorem State.set_theft (s : State) (f : Fld) (v : Nat) : (s.set f v).theft = s.theft := rfl
@[simp] theorem State.set_balanceFrom (s : State) (f : Fld) (v : Nat) :
    (s.set f v).balanceFrom = s.balanceFrom := rfl
@[simp] theorem State.set_balanceOver (s : State) (f : Fld) (v : Nat) :
    (s.set f v).balanceOver = s.balanceOver := rfl
@[simp] theorem State.set_balanceWithin (s : State) (f : Fld) (v : Nat) :
    (s.set f v).balanceWithin = s.balanceWithin := rfl
@[simp] theorem State.set_journal (s : State) (f : Fld) (v : Nat) : (s.set f v).journal = s.journal := rfl
@[simp] theorem State.set_mirrors (s : State) (f : Fld) (v : Nat) : (s.set f v).mirrors = s.mirrors := rfl
@[simp] theorem State.set_mirrorCount (s : State) (f : Fld) (v : Nat) :
    (s.set f v).mirrorCount = s.mirrorCount := rfl
@[simp] theorem State.set_sideA (s : State) (f : Fld) (v : Nat) : (s.set f v).sideA = s.sideA := rfl
@[simp] theorem State.set_sideB (s : State) (f : Fld) (v : Nat) : (s.set f v).sideB = s.sideB := rfl
@[simp] theorem State.set_twin (s : State) (f : Fld) (v : Nat) : (s.set f v).twin = s.twin := rfl
@[simp] theorem State.set_replies (s : State) (f : Fld) (v : Nat) : (s.set f v).replies = s.replies := rfl
@[simp] theorem State.set_sessions (s : State) (f : Fld) (v : Nat) : (s.set f v).sessions = s.sessions := rfl
@[simp] theorem State.set_remembered (s : State) (f : Fld) (v : Nat) :
    (s.set f v).remembered = s.remembered := rfl
@[simp] theorem State.set_progress (s : State) (f : Fld) (v : Nat) : (s.set f v).progress = s.progress := rfl
@[simp] theorem State.set_pointers (s : State) (f : Fld) (v : Nat) : (s.set f v).pointers = s.pointers := rfl
@[simp] theorem State.set_company (s : State) (f : Fld) (v : Nat) : (s.set f v).company = s.company := rfl
@[simp] theorem State.set_directory (s : State) (f : Fld) (v : Nat) : (s.set f v).directory = s.directory := rfl
@[simp] theorem State.set_committing (s : State) (f : Fld) (v : Nat) :
    (s.set f v).committing = s.committing := rfl
@[simp] theorem State.set_activation (s : State) (f : Fld) (v : Nat) :
    (s.set f v).activation = s.activation := rfl
@[simp] theorem State.set_campaign (s : State) (f : Fld) (v : Nat) : (s.set f v).campaign = s.campaign := rfl
@[simp] theorem State.set_continuity (s : State) (f : Fld) (v : Nat) :
    (s.set f v).continuity = s.continuity := rfl
@[simp] theorem State.set_tests (s : State) (f : Fld) (v : Nat) : (s.set f v).tests = s.tests := rfl
@[simp] theorem State.set_power (s : State) (f : Fld) (v : Nat) : (s.set f v).power = s.power := rfl
@[simp] theorem State.set_tap (s : State) (f : Fld) (v : Nat) : (s.set f v).tap = s.tap := rfl

/-! ### setObj -/

@[simp] theorem State.setObj_pending (s : State) (i j v : Nat) : (s.setObj i j v).pending = s.pending := rfl
@[simp] theorem State.setObj_now (s : State) (i j v : Nat) : (s.setObj i j v).now = s.now := rfl
@[simp] theorem State.setObj_part (s : State) (i j v : Nat) : (s.setObj i j v).part = s.part := rfl
@[simp] theorem State.setObj_regs (s : State) (i j v : Nat) : (s.setObj i j v).regs = s.regs := rfl
@[simp] theorem State.setObj_holds (s : State) (i j v : Nat) : (s.setObj i j v).holds = s.holds := rfl
@[simp] theorem State.setObj_portShadows (s : State) (i j v : Nat) :
    (s.setObj i j v).portShadows = s.portShadows := rfl
@[simp] theorem State.setObj_objs (s : State) (i j v : Nat) :
    (s.setObj i j v).objs = Tbl.put 0 s.objs (objKey i j) v := rfl
@[simp] theorem State.setObj_octs (s : State) (i j v : Nat) : (s.setObj i j v).octs = s.octs := rfl
@[simp] theorem State.setObj_posts (s : State) (i j v : Nat) : (s.setObj i j v).posts = s.posts := rfl
@[simp] theorem State.setObj_out (s : State) (i j v : Nat) : (s.setObj i j v).out = s.out := rfl
@[simp] theorem State.setObj_free (s : State) (i j v : Nat) : (s.setObj i j v).free = s.free := rfl
@[simp] theorem State.setObj_clk (s : State) (i j v : Nat) : (s.setObj i j v).clk = s.clk := rfl
@[simp] theorem State.setObj_rtc (s : State) (i j v : Nat) : (s.setObj i j v).rtc = s.rtc := rfl
@[simp] theorem State.setObj_ptp (s : State) (i j v : Nat) : (s.setObj i j v).ptp = s.ptp := rfl
@[simp] theorem State.setObj_dieA (s : State) (i j v : Nat) : (s.setObj i j v).dieA = s.dieA := rfl
@[simp] theorem State.setObj_dieB (s : State) (i j v : Nat) : (s.setObj i j v).dieB = s.dieB := rfl
@[simp] theorem State.setObj_holder (s : State) (i j v : Nat) : (s.setObj i j v).holder = s.holder := rfl
@[simp] theorem State.setObj_profiles (s : State) (i j v : Nat) : (s.setObj i j v).profiles = s.profiles := rfl
@[simp] theorem State.setObj_curves (s : State) (i j v : Nat) : (s.setObj i j v).curves = s.curves := rfl
@[simp] theorem State.setObj_aggDefs (s : State) (i j v : Nat) : (s.setObj i j v).aggDefs = s.aggDefs := rfl
@[simp] theorem State.setObj_queues (s : State) (i j v : Nat) : (s.setObj i j v).queues = s.queues := rfl
@[simp] theorem State.setObj_waiters (s : State) (i j v : Nat) : (s.setObj i j v).waiters = s.waiters := rfl
@[simp] theorem State.setObj_expiring (s : State) (i j v : Nat) : (s.setObj i j v).expiring = s.expiring := rfl
@[simp] theorem State.setObj_gateDrops (s : State) (i j v : Nat) :
    (s.setObj i j v).gateDrops = s.gateDrops := rfl
@[simp] theorem State.setObj_drainFrom (s : State) (i j v : Nat) :
    (s.setObj i j v).drainFrom = s.drainFrom := rfl
@[simp] theorem State.setObj_arbs (s : State) (i j v : Nat) : (s.setObj i j v).arbs = s.arbs := rfl
@[simp] theorem State.setObj_unitTmo (s : State) (i j v : Nat) : (s.setObj i j v).unitTmo = s.unitTmo := rfl
@[simp] theorem State.setObj_tmoPending (s : State) (i j v : Nat) :
    (s.setObj i j v).tmoPending = s.tmoPending := rfl
@[simp] theorem State.setObj_nodes (s : State) (i j v : Nat) : (s.setObj i j v).nodes = s.nodes := rfl
@[simp] theorem State.setObj_radios (s : State) (i j v : Nat) : (s.setObj i j v).radios = s.radios := rfl
@[simp] theorem State.setObj_plcs (s : State) (i j v : Nat) : (s.setObj i j v).plcs = s.plcs := rfl
@[simp] theorem State.setObj_chains (s : State) (i j v : Nat) : (s.setObj i j v).chains = s.chains := rfl
@[simp] theorem State.setObj_eths (s : State) (i j v : Nat) : (s.setObj i j v).eths = s.eths := rfl
@[simp] theorem State.setObj_frameCounter (s : State) (i j v : Nat) :
    (s.setObj i j v).frameCounter = s.frameCounter := rfl
@[simp] theorem State.setObj_counterSaved (s : State) (i j v : Nat) :
    (s.setObj i j v).counterSaved = s.counterSaved := rfl
@[simp] theorem State.setObj_link (s : State) (i j v : Nat) : (s.setObj i j v).link = s.link := rfl
@[simp] theorem State.setObj_keys (s : State) (i j v : Nat) : (s.setObj i j v).keys = s.keys := rfl
@[simp] theorem State.setObj_segUse (s : State) (i j v : Nat) : (s.setObj i j v).segUse = s.segUse := rfl
@[simp] theorem State.setObj_segNew (s : State) (i j v : Nat) : (s.setObj i j v).segNew = s.segNew := rfl
@[simp] theorem State.setObj_inputs (s : State) (i j v : Nat) : (s.setObj i j v).inputs = s.inputs := rfl
@[simp] theorem State.setObj_meter (s : State) (i j v : Nat) : (s.setObj i j v).meter = s.meter := rfl
@[simp] theorem State.setObj_theft (s : State) (i j v : Nat) : (s.setObj i j v).theft = s.theft := rfl
@[simp] theorem State.setObj_balanceFrom (s : State) (i j v : Nat) :
    (s.setObj i j v).balanceFrom = s.balanceFrom := rfl
@[simp] theorem State.setObj_balanceOver (s : State) (i j v : Nat) :
    (s.setObj i j v).balanceOver = s.balanceOver := rfl
@[simp] theorem State.setObj_balanceWithin (s : State) (i j v : Nat) :
    (s.setObj i j v).balanceWithin = s.balanceWithin := rfl
@[simp] theorem State.setObj_journal (s : State) (i j v : Nat) : (s.setObj i j v).journal = s.journal := rfl
@[simp] theorem State.setObj_mirrors (s : State) (i j v : Nat) : (s.setObj i j v).mirrors = s.mirrors := rfl
@[simp] theorem State.setObj_mirrorCount (s : State) (i j v : Nat) :
    (s.setObj i j v).mirrorCount = s.mirrorCount := rfl
@[simp] theorem State.setObj_sideA (s : State) (i j v : Nat) : (s.setObj i j v).sideA = s.sideA := rfl
@[simp] theorem State.setObj_sideB (s : State) (i j v : Nat) : (s.setObj i j v).sideB = s.sideB := rfl
@[simp] theorem State.setObj_twin (s : State) (i j v : Nat) : (s.setObj i j v).twin = s.twin := rfl
@[simp] theorem State.setObj_replies (s : State) (i j v : Nat) : (s.setObj i j v).replies = s.replies := rfl
@[simp] theorem State.setObj_sessions (s : State) (i j v : Nat) : (s.setObj i j v).sessions = s.sessions := rfl
@[simp] theorem State.setObj_remembered (s : State) (i j v : Nat) :
    (s.setObj i j v).remembered = s.remembered := rfl
@[simp] theorem State.setObj_progress (s : State) (i j v : Nat) : (s.setObj i j v).progress = s.progress := rfl
@[simp] theorem State.setObj_pointers (s : State) (i j v : Nat) : (s.setObj i j v).pointers = s.pointers := rfl
@[simp] theorem State.setObj_company (s : State) (i j v : Nat) : (s.setObj i j v).company = s.company := rfl
@[simp] theorem State.setObj_directory (s : State) (i j v : Nat) :
    (s.setObj i j v).directory = s.directory := rfl
@[simp] theorem State.setObj_committing (s : State) (i j v : Nat) :
    (s.setObj i j v).committing = s.committing := rfl
@[simp] theorem State.setObj_activation (s : State) (i j v : Nat) :
    (s.setObj i j v).activation = s.activation := rfl
@[simp] theorem State.setObj_campaign (s : State) (i j v : Nat) : (s.setObj i j v).campaign = s.campaign := rfl
@[simp] theorem State.setObj_continuity (s : State) (i j v : Nat) :
    (s.setObj i j v).continuity = s.continuity := rfl
@[simp] theorem State.setObj_tests (s : State) (i j v : Nat) : (s.setObj i j v).tests = s.tests := rfl
@[simp] theorem State.setObj_power (s : State) (i j v : Nat) : (s.setObj i j v).power = s.power := rfl
@[simp] theorem State.setObj_tap (s : State) (i j v : Nat) : (s.setObj i j v).tap = s.tap := rfl

/-! ### setOct -/

@[simp] theorem State.setOct_pending (s : State) (i j : Nat) (v : List Byte) :
    (s.setOct i j v).pending = s.pending := rfl
@[simp] theorem State.setOct_now (s : State) (i j : Nat) (v : List Byte) : (s.setOct i j v).now = s.now := rfl
@[simp] theorem State.setOct_part (s : State) (i j : Nat) (v : List Byte) :
    (s.setOct i j v).part = s.part := rfl
@[simp] theorem State.setOct_regs (s : State) (i j : Nat) (v : List Byte) :
    (s.setOct i j v).regs = s.regs := rfl
@[simp] theorem State.setOct_holds (s : State) (i j : Nat) (v : List Byte) :
    (s.setOct i j v).holds = s.holds := rfl
@[simp] theorem State.setOct_portShadows (s : State) (i j : Nat) (v : List Byte) :
    (s.setOct i j v).portShadows = s.portShadows := rfl
@[simp] theorem State.setOct_objs (s : State) (i j : Nat) (v : List Byte) :
    (s.setOct i j v).objs = s.objs := rfl
@[simp] theorem State.setOct_octs (s : State) (i j : Nat) (v : List Byte) :
    (s.setOct i j v).octs = Tbl.put [] s.octs (objKey i j) v := rfl
@[simp] theorem State.setOct_posts (s : State) (i j : Nat) (v : List Byte) :
    (s.setOct i j v).posts = s.posts := rfl
@[simp] theorem State.setOct_out (s : State) (i j : Nat) (v : List Byte) : (s.setOct i j v).out = s.out := rfl
@[simp] theorem State.setOct_free (s : State) (i j : Nat) (v : List Byte) :
    (s.setOct i j v).free = s.free := rfl
@[simp] theorem State.setOct_clk (s : State) (i j : Nat) (v : List Byte) : (s.setOct i j v).clk = s.clk := rfl
@[simp] theorem State.setOct_rtc (s : State) (i j : Nat) (v : List Byte) : (s.setOct i j v).rtc = s.rtc := rfl
@[simp] theorem State.setOct_ptp (s : State) (i j : Nat) (v : List Byte) : (s.setOct i j v).ptp = s.ptp := rfl
@[simp] theorem State.setOct_dieA (s : State) (i j : Nat) (v : List Byte) :
    (s.setOct i j v).dieA = s.dieA := rfl
@[simp] theorem State.setOct_dieB (s : State) (i j : Nat) (v : List Byte) :
    (s.setOct i j v).dieB = s.dieB := rfl
@[simp] theorem State.setOct_holder (s : State) (i j : Nat) (v : List Byte) :
    (s.setOct i j v).holder = s.holder := rfl
@[simp] theorem State.setOct_profiles (s : State) (i j : Nat) (v : List Byte) :
    (s.setOct i j v).profiles = s.profiles := rfl
@[simp] theorem State.setOct_curves (s : State) (i j : Nat) (v : List Byte) :
    (s.setOct i j v).curves = s.curves := rfl
@[simp] theorem State.setOct_aggDefs (s : State) (i j : Nat) (v : List Byte) :
    (s.setOct i j v).aggDefs = s.aggDefs := rfl
@[simp] theorem State.setOct_queues (s : State) (i j : Nat) (v : List Byte) :
    (s.setOct i j v).queues = s.queues := rfl
@[simp] theorem State.setOct_waiters (s : State) (i j : Nat) (v : List Byte) :
    (s.setOct i j v).waiters = s.waiters := rfl
@[simp] theorem State.setOct_expiring (s : State) (i j : Nat) (v : List Byte) :
    (s.setOct i j v).expiring = s.expiring := rfl
@[simp] theorem State.setOct_gateDrops (s : State) (i j : Nat) (v : List Byte) :
    (s.setOct i j v).gateDrops = s.gateDrops := rfl
@[simp] theorem State.setOct_drainFrom (s : State) (i j : Nat) (v : List Byte) :
    (s.setOct i j v).drainFrom = s.drainFrom := rfl
@[simp] theorem State.setOct_arbs (s : State) (i j : Nat) (v : List Byte) :
    (s.setOct i j v).arbs = s.arbs := rfl
@[simp] theorem State.setOct_unitTmo (s : State) (i j : Nat) (v : List Byte) :
    (s.setOct i j v).unitTmo = s.unitTmo := rfl
@[simp] theorem State.setOct_tmoPending (s : State) (i j : Nat) (v : List Byte) :
    (s.setOct i j v).tmoPending = s.tmoPending := rfl
@[simp] theorem State.setOct_nodes (s : State) (i j : Nat) (v : List Byte) :
    (s.setOct i j v).nodes = s.nodes := rfl
@[simp] theorem State.setOct_radios (s : State) (i j : Nat) (v : List Byte) :
    (s.setOct i j v).radios = s.radios := rfl
@[simp] theorem State.setOct_plcs (s : State) (i j : Nat) (v : List Byte) :
    (s.setOct i j v).plcs = s.plcs := rfl
@[simp] theorem State.setOct_chains (s : State) (i j : Nat) (v : List Byte) :
    (s.setOct i j v).chains = s.chains := rfl
@[simp] theorem State.setOct_eths (s : State) (i j : Nat) (v : List Byte) :
    (s.setOct i j v).eths = s.eths := rfl
@[simp] theorem State.setOct_frameCounter (s : State) (i j : Nat) (v : List Byte) :
    (s.setOct i j v).frameCounter = s.frameCounter := rfl
@[simp] theorem State.setOct_counterSaved (s : State) (i j : Nat) (v : List Byte) :
    (s.setOct i j v).counterSaved = s.counterSaved := rfl
@[simp] theorem State.setOct_link (s : State) (i j : Nat) (v : List Byte) :
    (s.setOct i j v).link = s.link := rfl
@[simp] theorem State.setOct_keys (s : State) (i j : Nat) (v : List Byte) :
    (s.setOct i j v).keys = s.keys := rfl
@[simp] theorem State.setOct_segUse (s : State) (i j : Nat) (v : List Byte) :
    (s.setOct i j v).segUse = s.segUse := rfl
@[simp] theorem State.setOct_segNew (s : State) (i j : Nat) (v : List Byte) :
    (s.setOct i j v).segNew = s.segNew := rfl
@[simp] theorem State.setOct_inputs (s : State) (i j : Nat) (v : List Byte) :
    (s.setOct i j v).inputs = s.inputs := rfl
@[simp] theorem State.setOct_meter (s : State) (i j : Nat) (v : List Byte) :
    (s.setOct i j v).meter = s.meter := rfl
@[simp] theorem State.setOct_theft (s : State) (i j : Nat) (v : List Byte) :
    (s.setOct i j v).theft = s.theft := rfl
@[simp] theorem State.setOct_balanceFrom (s : State) (i j : Nat) (v : List Byte) :
    (s.setOct i j v).balanceFrom = s.balanceFrom := rfl
@[simp] theorem State.setOct_balanceOver (s : State) (i j : Nat) (v : List Byte) :
    (s.setOct i j v).balanceOver = s.balanceOver := rfl
@[simp] theorem State.setOct_balanceWithin (s : State) (i j : Nat) (v : List Byte) :
    (s.setOct i j v).balanceWithin = s.balanceWithin := rfl
@[simp] theorem State.setOct_journal (s : State) (i j : Nat) (v : List Byte) :
    (s.setOct i j v).journal = s.journal := rfl
@[simp] theorem State.setOct_mirrors (s : State) (i j : Nat) (v : List Byte) :
    (s.setOct i j v).mirrors = s.mirrors := rfl
@[simp] theorem State.setOct_mirrorCount (s : State) (i j : Nat) (v : List Byte) :
    (s.setOct i j v).mirrorCount = s.mirrorCount := rfl
@[simp] theorem State.setOct_sideA (s : State) (i j : Nat) (v : List Byte) :
    (s.setOct i j v).sideA = s.sideA := rfl
@[simp] theorem State.setOct_sideB (s : State) (i j : Nat) (v : List Byte) :
    (s.setOct i j v).sideB = s.sideB := rfl
@[simp] theorem State.setOct_twin (s : State) (i j : Nat) (v : List Byte) :
    (s.setOct i j v).twin = s.twin := rfl
@[simp] theorem State.setOct_replies (s : State) (i j : Nat) (v : List Byte) :
    (s.setOct i j v).replies = s.replies := rfl
@[simp] theorem State.setOct_sessions (s : State) (i j : Nat) (v : List Byte) :
    (s.setOct i j v).sessions = s.sessions := rfl
@[simp] theorem State.setOct_remembered (s : State) (i j : Nat) (v : List Byte) :
    (s.setOct i j v).remembered = s.remembered := rfl
@[simp] theorem State.setOct_progress (s : State) (i j : Nat) (v : List Byte) :
    (s.setOct i j v).progress = s.progress := rfl
@[simp] theorem State.setOct_pointers (s : State) (i j : Nat) (v : List Byte) :
    (s.setOct i j v).pointers = s.pointers := rfl
@[simp] theorem State.setOct_company (s : State) (i j : Nat) (v : List Byte) :
    (s.setOct i j v).company = s.company := rfl
@[simp] theorem State.setOct_directory (s : State) (i j : Nat) (v : List Byte) :
    (s.setOct i j v).directory = s.directory := rfl
@[simp] theorem State.setOct_committing (s : State) (i j : Nat) (v : List Byte) :
    (s.setOct i j v).committing = s.committing := rfl
@[simp] theorem State.setOct_activation (s : State) (i j : Nat) (v : List Byte) :
    (s.setOct i j v).activation = s.activation := rfl
@[simp] theorem State.setOct_campaign (s : State) (i j : Nat) (v : List Byte) :
    (s.setOct i j v).campaign = s.campaign := rfl
@[simp] theorem State.setOct_continuity (s : State) (i j : Nat) (v : List Byte) :
    (s.setOct i j v).continuity = s.continuity := rfl
@[simp] theorem State.setOct_tests (s : State) (i j : Nat) (v : List Byte) :
    (s.setOct i j v).tests = s.tests := rfl
@[simp] theorem State.setOct_power (s : State) (i j : Nat) (v : List Byte) :
    (s.setOct i j v).power = s.power := rfl
@[simp] theorem State.setOct_tap (s : State) (i j : Nat) (v : List Byte) : (s.setOct i j v).tap = s.tap := rfl

/-! ### emits -/

@[simp] theorem State.emits_pending (s : State) (l : List Out) : (s.emits l).pending = s.pending := rfl
@[simp] theorem State.emits_now (s : State) (l : List Out) : (s.emits l).now = s.now := rfl
@[simp] theorem State.emits_part (s : State) (l : List Out) : (s.emits l).part = s.part := rfl
@[simp] theorem State.emits_regs (s : State) (l : List Out) : (s.emits l).regs = s.regs := rfl
@[simp] theorem State.emits_holds (s : State) (l : List Out) : (s.emits l).holds = s.holds := rfl
@[simp] theorem State.emits_portShadows (s : State) (l : List Out) :
    (s.emits l).portShadows = s.portShadows := rfl
@[simp] theorem State.emits_objs (s : State) (l : List Out) : (s.emits l).objs = s.objs := rfl
@[simp] theorem State.emits_octs (s : State) (l : List Out) : (s.emits l).octs = s.octs := rfl
@[simp] theorem State.emits_posts (s : State) (l : List Out) : (s.emits l).posts = s.posts := rfl
@[simp] theorem State.emits_out (s : State) (l : List Out) : (s.emits l).out = s.out ++ l := rfl
@[simp] theorem State.emits_free (s : State) (l : List Out) : (s.emits l).free = s.free := rfl
@[simp] theorem State.emits_clk (s : State) (l : List Out) : (s.emits l).clk = s.clk := rfl
@[simp] theorem State.emits_rtc (s : State) (l : List Out) : (s.emits l).rtc = s.rtc := rfl
@[simp] theorem State.emits_ptp (s : State) (l : List Out) : (s.emits l).ptp = s.ptp := rfl
@[simp] theorem State.emits_dieA (s : State) (l : List Out) : (s.emits l).dieA = s.dieA := rfl
@[simp] theorem State.emits_dieB (s : State) (l : List Out) : (s.emits l).dieB = s.dieB := rfl
@[simp] theorem State.emits_holder (s : State) (l : List Out) : (s.emits l).holder = s.holder := rfl
@[simp] theorem State.emits_profiles (s : State) (l : List Out) : (s.emits l).profiles = s.profiles := rfl
@[simp] theorem State.emits_curves (s : State) (l : List Out) : (s.emits l).curves = s.curves := rfl
@[simp] theorem State.emits_aggDefs (s : State) (l : List Out) : (s.emits l).aggDefs = s.aggDefs := rfl
@[simp] theorem State.emits_queues (s : State) (l : List Out) : (s.emits l).queues = s.queues := rfl
@[simp] theorem State.emits_waiters (s : State) (l : List Out) : (s.emits l).waiters = s.waiters := rfl
@[simp] theorem State.emits_expiring (s : State) (l : List Out) : (s.emits l).expiring = s.expiring := rfl
@[simp] theorem State.emits_gateDrops (s : State) (l : List Out) : (s.emits l).gateDrops = s.gateDrops := rfl
@[simp] theorem State.emits_drainFrom (s : State) (l : List Out) : (s.emits l).drainFrom = s.drainFrom := rfl
@[simp] theorem State.emits_arbs (s : State) (l : List Out) : (s.emits l).arbs = s.arbs := rfl
@[simp] theorem State.emits_unitTmo (s : State) (l : List Out) : (s.emits l).unitTmo = s.unitTmo := rfl
@[simp] theorem State.emits_tmoPending (s : State) (l : List Out) : (s.emits l).tmoPending = s.tmoPending := rfl
@[simp] theorem State.emits_nodes (s : State) (l : List Out) : (s.emits l).nodes = s.nodes := rfl
@[simp] theorem State.emits_radios (s : State) (l : List Out) : (s.emits l).radios = s.radios := rfl
@[simp] theorem State.emits_plcs (s : State) (l : List Out) : (s.emits l).plcs = s.plcs := rfl
@[simp] theorem State.emits_chains (s : State) (l : List Out) : (s.emits l).chains = s.chains := rfl
@[simp] theorem State.emits_eths (s : State) (l : List Out) : (s.emits l).eths = s.eths := rfl
@[simp] theorem State.emits_frameCounter (s : State) (l : List Out) :
    (s.emits l).frameCounter = s.frameCounter := rfl
@[simp] theorem State.emits_counterSaved (s : State) (l : List Out) :
    (s.emits l).counterSaved = s.counterSaved := rfl
@[simp] theorem State.emits_link (s : State) (l : List Out) : (s.emits l).link = s.link := rfl
@[simp] theorem State.emits_keys (s : State) (l : List Out) : (s.emits l).keys = s.keys := rfl
@[simp] theorem State.emits_segUse (s : State) (l : List Out) : (s.emits l).segUse = s.segUse := rfl
@[simp] theorem State.emits_segNew (s : State) (l : List Out) : (s.emits l).segNew = s.segNew := rfl
@[simp] theorem State.emits_inputs (s : State) (l : List Out) : (s.emits l).inputs = s.inputs := rfl
@[simp] theorem State.emits_meter (s : State) (l : List Out) : (s.emits l).meter = s.meter := rfl
@[simp] theorem State.emits_theft (s : State) (l : List Out) : (s.emits l).theft = s.theft := rfl
@[simp] theorem State.emits_balanceFrom (s : State) (l : List Out) :
    (s.emits l).balanceFrom = s.balanceFrom := rfl
@[simp] theorem State.emits_balanceOver (s : State) (l : List Out) :
    (s.emits l).balanceOver = s.balanceOver := rfl
@[simp] theorem State.emits_balanceWithin (s : State) (l : List Out) :
    (s.emits l).balanceWithin = s.balanceWithin := rfl
@[simp] theorem State.emits_journal (s : State) (l : List Out) : (s.emits l).journal = s.journal := rfl
@[simp] theorem State.emits_mirrors (s : State) (l : List Out) : (s.emits l).mirrors = s.mirrors := rfl
@[simp] theorem State.emits_mirrorCount (s : State) (l : List Out) :
    (s.emits l).mirrorCount = s.mirrorCount := rfl
@[simp] theorem State.emits_sideA (s : State) (l : List Out) : (s.emits l).sideA = s.sideA := rfl
@[simp] theorem State.emits_sideB (s : State) (l : List Out) : (s.emits l).sideB = s.sideB := rfl
@[simp] theorem State.emits_twin (s : State) (l : List Out) : (s.emits l).twin = s.twin := rfl
@[simp] theorem State.emits_replies (s : State) (l : List Out) : (s.emits l).replies = s.replies := rfl
@[simp] theorem State.emits_sessions (s : State) (l : List Out) : (s.emits l).sessions = s.sessions := rfl
@[simp] theorem State.emits_remembered (s : State) (l : List Out) : (s.emits l).remembered = s.remembered := rfl
@[simp] theorem State.emits_progress (s : State) (l : List Out) : (s.emits l).progress = s.progress := rfl
@[simp] theorem State.emits_pointers (s : State) (l : List Out) : (s.emits l).pointers = s.pointers := rfl
@[simp] theorem State.emits_company (s : State) (l : List Out) : (s.emits l).company = s.company := rfl
@[simp] theorem State.emits_directory (s : State) (l : List Out) : (s.emits l).directory = s.directory := rfl
@[simp] theorem State.emits_committing (s : State) (l : List Out) : (s.emits l).committing = s.committing := rfl
@[simp] theorem State.emits_activation (s : State) (l : List Out) : (s.emits l).activation = s.activation := rfl
@[simp] theorem State.emits_campaign (s : State) (l : List Out) : (s.emits l).campaign = s.campaign := rfl
@[simp] theorem State.emits_continuity (s : State) (l : List Out) : (s.emits l).continuity = s.continuity := rfl
@[simp] theorem State.emits_tests (s : State) (l : List Out) : (s.emits l).tests = s.tests := rfl
@[simp] theorem State.emits_power (s : State) (l : List Out) : (s.emits l).power = s.power := rfl
@[simp] theorem State.emits_tap (s : State) (l : List Out) : (s.emits l).tap = s.tap := rfl

/-! ### emit -/

@[simp] theorem State.emit_pending (s : State) (o : Out) : (s.emit o).pending = s.pending := rfl
@[simp] theorem State.emit_now (s : State) (o : Out) : (s.emit o).now = s.now := rfl
@[simp] theorem State.emit_part (s : State) (o : Out) : (s.emit o).part = s.part := rfl
@[simp] theorem State.emit_regs (s : State) (o : Out) : (s.emit o).regs = s.regs := rfl
@[simp] theorem State.emit_holds (s : State) (o : Out) : (s.emit o).holds = s.holds := rfl
@[simp] theorem State.emit_portShadows (s : State) (o : Out) : (s.emit o).portShadows = s.portShadows := rfl
@[simp] theorem State.emit_objs (s : State) (o : Out) : (s.emit o).objs = s.objs := rfl
@[simp] theorem State.emit_octs (s : State) (o : Out) : (s.emit o).octs = s.octs := rfl
@[simp] theorem State.emit_posts (s : State) (o : Out) : (s.emit o).posts = s.posts := rfl
@[simp] theorem State.emit_out (s : State) (o : Out) : (s.emit o).out = s.out ++ [o] := rfl
@[simp] theorem State.emit_free (s : State) (o : Out) : (s.emit o).free = s.free := rfl
@[simp] theorem State.emit_clk (s : State) (o : Out) : (s.emit o).clk = s.clk := rfl
@[simp] theorem State.emit_rtc (s : State) (o : Out) : (s.emit o).rtc = s.rtc := rfl
@[simp] theorem State.emit_ptp (s : State) (o : Out) : (s.emit o).ptp = s.ptp := rfl
@[simp] theorem State.emit_dieA (s : State) (o : Out) : (s.emit o).dieA = s.dieA := rfl
@[simp] theorem State.emit_dieB (s : State) (o : Out) : (s.emit o).dieB = s.dieB := rfl
@[simp] theorem State.emit_holder (s : State) (o : Out) : (s.emit o).holder = s.holder := rfl
@[simp] theorem State.emit_profiles (s : State) (o : Out) : (s.emit o).profiles = s.profiles := rfl
@[simp] theorem State.emit_curves (s : State) (o : Out) : (s.emit o).curves = s.curves := rfl
@[simp] theorem State.emit_aggDefs (s : State) (o : Out) : (s.emit o).aggDefs = s.aggDefs := rfl
@[simp] theorem State.emit_queues (s : State) (o : Out) : (s.emit o).queues = s.queues := rfl
@[simp] theorem State.emit_waiters (s : State) (o : Out) : (s.emit o).waiters = s.waiters := rfl
@[simp] theorem State.emit_expiring (s : State) (o : Out) : (s.emit o).expiring = s.expiring := rfl
@[simp] theorem State.emit_gateDrops (s : State) (o : Out) : (s.emit o).gateDrops = s.gateDrops := rfl
@[simp] theorem State.emit_drainFrom (s : State) (o : Out) : (s.emit o).drainFrom = s.drainFrom := rfl
@[simp] theorem State.emit_arbs (s : State) (o : Out) : (s.emit o).arbs = s.arbs := rfl
@[simp] theorem State.emit_unitTmo (s : State) (o : Out) : (s.emit o).unitTmo = s.unitTmo := rfl
@[simp] theorem State.emit_tmoPending (s : State) (o : Out) : (s.emit o).tmoPending = s.tmoPending := rfl
@[simp] theorem State.emit_nodes (s : State) (o : Out) : (s.emit o).nodes = s.nodes := rfl
@[simp] theorem State.emit_radios (s : State) (o : Out) : (s.emit o).radios = s.radios := rfl
@[simp] theorem State.emit_plcs (s : State) (o : Out) : (s.emit o).plcs = s.plcs := rfl
@[simp] theorem State.emit_chains (s : State) (o : Out) : (s.emit o).chains = s.chains := rfl
@[simp] theorem State.emit_eths (s : State) (o : Out) : (s.emit o).eths = s.eths := rfl
@[simp] theorem State.emit_frameCounter (s : State) (o : Out) : (s.emit o).frameCounter = s.frameCounter := rfl
@[simp] theorem State.emit_counterSaved (s : State) (o : Out) : (s.emit o).counterSaved = s.counterSaved := rfl
@[simp] theorem State.emit_link (s : State) (o : Out) : (s.emit o).link = s.link := rfl
@[simp] theorem State.emit_keys (s : State) (o : Out) : (s.emit o).keys = s.keys := rfl
@[simp] theorem State.emit_segUse (s : State) (o : Out) : (s.emit o).segUse = s.segUse := rfl
@[simp] theorem State.emit_segNew (s : State) (o : Out) : (s.emit o).segNew = s.segNew := rfl
@[simp] theorem State.emit_inputs (s : State) (o : Out) : (s.emit o).inputs = s.inputs := rfl
@[simp] theorem State.emit_meter (s : State) (o : Out) : (s.emit o).meter = s.meter := rfl
@[simp] theorem State.emit_theft (s : State) (o : Out) : (s.emit o).theft = s.theft := rfl
@[simp] theorem State.emit_balanceFrom (s : State) (o : Out) : (s.emit o).balanceFrom = s.balanceFrom := rfl
@[simp] theorem State.emit_balanceOver (s : State) (o : Out) : (s.emit o).balanceOver = s.balanceOver := rfl
@[simp] theorem State.emit_balanceWithin (s : State) (o : Out) :
    (s.emit o).balanceWithin = s.balanceWithin := rfl
@[simp] theorem State.emit_journal (s : State) (o : Out) : (s.emit o).journal = s.journal := rfl
@[simp] theorem State.emit_mirrors (s : State) (o : Out) : (s.emit o).mirrors = s.mirrors := rfl
@[simp] theorem State.emit_mirrorCount (s : State) (o : Out) : (s.emit o).mirrorCount = s.mirrorCount := rfl
@[simp] theorem State.emit_sideA (s : State) (o : Out) : (s.emit o).sideA = s.sideA := rfl
@[simp] theorem State.emit_sideB (s : State) (o : Out) : (s.emit o).sideB = s.sideB := rfl
@[simp] theorem State.emit_twin (s : State) (o : Out) : (s.emit o).twin = s.twin := rfl
@[simp] theorem State.emit_replies (s : State) (o : Out) : (s.emit o).replies = s.replies := rfl
@[simp] theorem State.emit_sessions (s : State) (o : Out) : (s.emit o).sessions = s.sessions := rfl
@[simp] theorem State.emit_remembered (s : State) (o : Out) : (s.emit o).remembered = s.remembered := rfl
@[simp] theorem State.emit_progress (s : State) (o : Out) : (s.emit o).progress = s.progress := rfl
@[simp] theorem State.emit_pointers (s : State) (o : Out) : (s.emit o).pointers = s.pointers := rfl
@[simp] theorem State.emit_company (s : State) (o : Out) : (s.emit o).company = s.company := rfl
@[simp] theorem State.emit_directory (s : State) (o : Out) : (s.emit o).directory = s.directory := rfl
@[simp] theorem State.emit_committing (s : State) (o : Out) : (s.emit o).committing = s.committing := rfl
@[simp] theorem State.emit_activation (s : State) (o : Out) : (s.emit o).activation = s.activation := rfl
@[simp] theorem State.emit_campaign (s : State) (o : Out) : (s.emit o).campaign = s.campaign := rfl
@[simp] theorem State.emit_continuity (s : State) (o : Out) : (s.emit o).continuity = s.continuity := rfl
@[simp] theorem State.emit_tests (s : State) (o : Out) : (s.emit o).tests = s.tests := rfl
@[simp] theorem State.emit_power (s : State) (o : Out) : (s.emit o).power = s.power := rfl
@[simp] theorem State.emit_tap (s : State) (o : Out) : (s.emit o).tap = s.tap := rfl

/-! ### draw -/

@[simp] theorem State.draw_pending (s : State) : (s.draw).pending = s.pending := rfl
@[simp] theorem State.draw_now (s : State) : (s.draw).now = s.now := rfl
@[simp] theorem State.draw_part (s : State) : (s.draw).part = s.part := rfl
@[simp] theorem State.draw_regs (s : State) : (s.draw).regs = s.regs := rfl
@[simp] theorem State.draw_holds (s : State) : (s.draw).holds = s.holds := rfl
@[simp] theorem State.draw_portShadows (s : State) : (s.draw).portShadows = s.portShadows := rfl
@[simp] theorem State.draw_objs (s : State) : (s.draw).objs = s.objs := rfl
@[simp] theorem State.draw_octs (s : State) : (s.draw).octs = s.octs := rfl
@[simp] theorem State.draw_posts (s : State) : (s.draw).posts = s.posts := rfl
@[simp] theorem State.draw_out (s : State) : (s.draw).out = s.out := rfl
@[simp] theorem State.draw_free (s : State) : (s.draw).free = s.free + 1 := rfl
@[simp] theorem State.draw_clk (s : State) : (s.draw).clk = s.clk := rfl
@[simp] theorem State.draw_rtc (s : State) : (s.draw).rtc = s.rtc := rfl
@[simp] theorem State.draw_ptp (s : State) : (s.draw).ptp = s.ptp := rfl
@[simp] theorem State.draw_dieA (s : State) : (s.draw).dieA = s.dieA := rfl
@[simp] theorem State.draw_dieB (s : State) : (s.draw).dieB = s.dieB := rfl
@[simp] theorem State.draw_holder (s : State) : (s.draw).holder = s.holder := rfl
@[simp] theorem State.draw_profiles (s : State) : (s.draw).profiles = s.profiles := rfl
@[simp] theorem State.draw_curves (s : State) : (s.draw).curves = s.curves := rfl
@[simp] theorem State.draw_aggDefs (s : State) : (s.draw).aggDefs = s.aggDefs := rfl
@[simp] theorem State.draw_queues (s : State) : (s.draw).queues = s.queues := rfl
@[simp] theorem State.draw_waiters (s : State) : (s.draw).waiters = s.waiters := rfl
@[simp] theorem State.draw_expiring (s : State) : (s.draw).expiring = s.expiring := rfl
@[simp] theorem State.draw_gateDrops (s : State) : (s.draw).gateDrops = s.gateDrops := rfl
@[simp] theorem State.draw_drainFrom (s : State) : (s.draw).drainFrom = s.drainFrom := rfl
@[simp] theorem State.draw_arbs (s : State) : (s.draw).arbs = s.arbs := rfl
@[simp] theorem State.draw_unitTmo (s : State) : (s.draw).unitTmo = s.unitTmo := rfl
@[simp] theorem State.draw_tmoPending (s : State) : (s.draw).tmoPending = s.tmoPending := rfl
@[simp] theorem State.draw_nodes (s : State) : (s.draw).nodes = s.nodes := rfl
@[simp] theorem State.draw_radios (s : State) : (s.draw).radios = s.radios := rfl
@[simp] theorem State.draw_plcs (s : State) : (s.draw).plcs = s.plcs := rfl
@[simp] theorem State.draw_chains (s : State) : (s.draw).chains = s.chains := rfl
@[simp] theorem State.draw_eths (s : State) : (s.draw).eths = s.eths := rfl
@[simp] theorem State.draw_frameCounter (s : State) : (s.draw).frameCounter = s.frameCounter := rfl
@[simp] theorem State.draw_counterSaved (s : State) : (s.draw).counterSaved = s.counterSaved := rfl
@[simp] theorem State.draw_link (s : State) : (s.draw).link = s.link := rfl
@[simp] theorem State.draw_keys (s : State) : (s.draw).keys = s.keys := rfl
@[simp] theorem State.draw_segUse (s : State) : (s.draw).segUse = s.segUse := rfl
@[simp] theorem State.draw_segNew (s : State) : (s.draw).segNew = s.segNew := rfl
@[simp] theorem State.draw_inputs (s : State) : (s.draw).inputs = s.inputs := rfl
@[simp] theorem State.draw_meter (s : State) : (s.draw).meter = s.meter := rfl
@[simp] theorem State.draw_theft (s : State) : (s.draw).theft = s.theft := rfl
@[simp] theorem State.draw_balanceFrom (s : State) : (s.draw).balanceFrom = s.balanceFrom := rfl
@[simp] theorem State.draw_balanceOver (s : State) : (s.draw).balanceOver = s.balanceOver := rfl
@[simp] theorem State.draw_balanceWithin (s : State) : (s.draw).balanceWithin = s.balanceWithin := rfl
@[simp] theorem State.draw_journal (s : State) : (s.draw).journal = s.journal := rfl
@[simp] theorem State.draw_mirrors (s : State) : (s.draw).mirrors = s.mirrors := rfl
@[simp] theorem State.draw_mirrorCount (s : State) : (s.draw).mirrorCount = s.mirrorCount := rfl
@[simp] theorem State.draw_sideA (s : State) : (s.draw).sideA = s.sideA := rfl
@[simp] theorem State.draw_sideB (s : State) : (s.draw).sideB = s.sideB := rfl
@[simp] theorem State.draw_twin (s : State) : (s.draw).twin = s.twin := rfl
@[simp] theorem State.draw_replies (s : State) : (s.draw).replies = s.replies := rfl
@[simp] theorem State.draw_sessions (s : State) : (s.draw).sessions = s.sessions := rfl
@[simp] theorem State.draw_remembered (s : State) : (s.draw).remembered = s.remembered := rfl
@[simp] theorem State.draw_progress (s : State) : (s.draw).progress = s.progress := rfl
@[simp] theorem State.draw_pointers (s : State) : (s.draw).pointers = s.pointers := rfl
@[simp] theorem State.draw_company (s : State) : (s.draw).company = s.company := rfl
@[simp] theorem State.draw_directory (s : State) : (s.draw).directory = s.directory := rfl
@[simp] theorem State.draw_committing (s : State) : (s.draw).committing = s.committing := rfl
@[simp] theorem State.draw_activation (s : State) : (s.draw).activation = s.activation := rfl
@[simp] theorem State.draw_campaign (s : State) : (s.draw).campaign = s.campaign := rfl
@[simp] theorem State.draw_continuity (s : State) : (s.draw).continuity = s.continuity := rfl
@[simp] theorem State.draw_tests (s : State) : (s.draw).tests = s.tests := rfl
@[simp] theorem State.draw_power (s : State) : (s.draw).power = s.power := rfl
@[simp] theorem State.draw_tap (s : State) : (s.draw).tap = s.tap := rfl

/-! ### post -/

@[simp] theorem State.post_pending (s : State) (p : Plane) (k c : Nat) (b : List Byte) :
    (s.post p k c b).pending = s.pending := rfl
@[simp] theorem State.post_now (s : State) (p : Plane) (k c : Nat) (b : List Byte) :
    (s.post p k c b).now = s.now := rfl
@[simp] theorem State.post_part (s : State) (p : Plane) (k c : Nat) (b : List Byte) :
    (s.post p k c b).part = s.part := rfl
@[simp] theorem State.post_regs (s : State) (p : Plane) (k c : Nat) (b : List Byte) :
    (s.post p k c b).regs = s.regs := rfl
@[simp] theorem State.post_holds (s : State) (p : Plane) (k c : Nat) (b : List Byte) :
    (s.post p k c b).holds = s.holds := rfl
@[simp] theorem State.post_portShadows (s : State) (p : Plane) (k c : Nat) (b : List Byte) :
    (s.post p k c b).portShadows = s.portShadows := rfl
@[simp] theorem State.post_objs (s : State) (p : Plane) (k c : Nat) (b : List Byte) :
    (s.post p k c b).objs = s.objs := rfl
@[simp] theorem State.post_octs (s : State) (p : Plane) (k c : Nat) (b : List Byte) :
    (s.post p k c b).octs = s.octs := rfl
@[simp] theorem State.post_posts (s : State) (p : Plane) (k c : Nat) (b : List Byte) :
    (s.post p k c b).posts = s.posts ++ [⟨k, c, b, p, s.now⟩] := rfl
@[simp] theorem State.post_out (s : State) (p : Plane) (k c : Nat) (b : List Byte) :
    (s.post p k c b).out = s.out := rfl
@[simp] theorem State.post_free (s : State) (p : Plane) (k c : Nat) (b : List Byte) :
    (s.post p k c b).free = s.free := rfl
@[simp] theorem State.post_clk (s : State) (p : Plane) (k c : Nat) (b : List Byte) :
    (s.post p k c b).clk = s.clk := rfl
@[simp] theorem State.post_rtc (s : State) (p : Plane) (k c : Nat) (b : List Byte) :
    (s.post p k c b).rtc = s.rtc := rfl
@[simp] theorem State.post_ptp (s : State) (p : Plane) (k c : Nat) (b : List Byte) :
    (s.post p k c b).ptp = s.ptp := rfl
@[simp] theorem State.post_dieA (s : State) (p : Plane) (k c : Nat) (b : List Byte) :
    (s.post p k c b).dieA = s.dieA := rfl
@[simp] theorem State.post_dieB (s : State) (p : Plane) (k c : Nat) (b : List Byte) :
    (s.post p k c b).dieB = s.dieB := rfl
@[simp] theorem State.post_holder (s : State) (p : Plane) (k c : Nat) (b : List Byte) :
    (s.post p k c b).holder = s.holder := rfl
@[simp] theorem State.post_profiles (s : State) (p : Plane) (k c : Nat) (b : List Byte) :
    (s.post p k c b).profiles = s.profiles := rfl
@[simp] theorem State.post_curves (s : State) (p : Plane) (k c : Nat) (b : List Byte) :
    (s.post p k c b).curves = s.curves := rfl
@[simp] theorem State.post_aggDefs (s : State) (p : Plane) (k c : Nat) (b : List Byte) :
    (s.post p k c b).aggDefs = s.aggDefs := rfl
@[simp] theorem State.post_queues (s : State) (p : Plane) (k c : Nat) (b : List Byte) :
    (s.post p k c b).queues = s.queues := rfl
@[simp] theorem State.post_waiters (s : State) (p : Plane) (k c : Nat) (b : List Byte) :
    (s.post p k c b).waiters = s.waiters := rfl
@[simp] theorem State.post_expiring (s : State) (p : Plane) (k c : Nat) (b : List Byte) :
    (s.post p k c b).expiring = s.expiring := rfl
@[simp] theorem State.post_gateDrops (s : State) (p : Plane) (k c : Nat) (b : List Byte) :
    (s.post p k c b).gateDrops = s.gateDrops := rfl
@[simp] theorem State.post_drainFrom (s : State) (p : Plane) (k c : Nat) (b : List Byte) :
    (s.post p k c b).drainFrom = s.drainFrom := rfl
@[simp] theorem State.post_arbs (s : State) (p : Plane) (k c : Nat) (b : List Byte) :
    (s.post p k c b).arbs = s.arbs := rfl
@[simp] theorem State.post_unitTmo (s : State) (p : Plane) (k c : Nat) (b : List Byte) :
    (s.post p k c b).unitTmo = s.unitTmo := rfl
@[simp] theorem State.post_tmoPending (s : State) (p : Plane) (k c : Nat) (b : List Byte) :
    (s.post p k c b).tmoPending = s.tmoPending := rfl
@[simp] theorem State.post_nodes (s : State) (p : Plane) (k c : Nat) (b : List Byte) :
    (s.post p k c b).nodes = s.nodes := rfl
@[simp] theorem State.post_radios (s : State) (p : Plane) (k c : Nat) (b : List Byte) :
    (s.post p k c b).radios = s.radios := rfl
@[simp] theorem State.post_plcs (s : State) (p : Plane) (k c : Nat) (b : List Byte) :
    (s.post p k c b).plcs = s.plcs := rfl
@[simp] theorem State.post_chains (s : State) (p : Plane) (k c : Nat) (b : List Byte) :
    (s.post p k c b).chains = s.chains := rfl
@[simp] theorem State.post_eths (s : State) (p : Plane) (k c : Nat) (b : List Byte) :
    (s.post p k c b).eths = s.eths := rfl
@[simp] theorem State.post_frameCounter (s : State) (p : Plane) (k c : Nat) (b : List Byte) :
    (s.post p k c b).frameCounter = s.frameCounter := rfl
@[simp] theorem State.post_counterSaved (s : State) (p : Plane) (k c : Nat) (b : List Byte) :
    (s.post p k c b).counterSaved = s.counterSaved := rfl
@[simp] theorem State.post_link (s : State) (p : Plane) (k c : Nat) (b : List Byte) :
    (s.post p k c b).link = s.link := rfl
@[simp] theorem State.post_keys (s : State) (p : Plane) (k c : Nat) (b : List Byte) :
    (s.post p k c b).keys = s.keys := rfl
@[simp] theorem State.post_segUse (s : State) (p : Plane) (k c : Nat) (b : List Byte) :
    (s.post p k c b).segUse = s.segUse := rfl
@[simp] theorem State.post_segNew (s : State) (p : Plane) (k c : Nat) (b : List Byte) :
    (s.post p k c b).segNew = s.segNew := rfl
@[simp] theorem State.post_inputs (s : State) (p : Plane) (k c : Nat) (b : List Byte) :
    (s.post p k c b).inputs = s.inputs := rfl
@[simp] theorem State.post_meter (s : State) (p : Plane) (k c : Nat) (b : List Byte) :
    (s.post p k c b).meter = s.meter := rfl
@[simp] theorem State.post_theft (s : State) (p : Plane) (k c : Nat) (b : List Byte) :
    (s.post p k c b).theft = s.theft := rfl
@[simp] theorem State.post_balanceFrom (s : State) (p : Plane) (k c : Nat) (b : List Byte) :
    (s.post p k c b).balanceFrom = s.balanceFrom := rfl
@[simp] theorem State.post_balanceOver (s : State) (p : Plane) (k c : Nat) (b : List Byte) :
    (s.post p k c b).balanceOver = s.balanceOver := rfl
@[simp] theorem State.post_balanceWithin (s : State) (p : Plane) (k c : Nat) (b : List Byte) :
    (s.post p k c b).balanceWithin = s.balanceWithin := rfl
@[simp] theorem State.post_journal (s : State) (p : Plane) (k c : Nat) (b : List Byte) :
    (s.post p k c b).journal = s.journal := rfl
@[simp] theorem State.post_mirrors (s : State) (p : Plane) (k c : Nat) (b : List Byte) :
    (s.post p k c b).mirrors = s.mirrors := rfl
@[simp] theorem State.post_mirrorCount (s : State) (p : Plane) (k c : Nat) (b : List Byte) :
    (s.post p k c b).mirrorCount = s.mirrorCount := rfl
@[simp] theorem State.post_sideA (s : State) (p : Plane) (k c : Nat) (b : List Byte) :
    (s.post p k c b).sideA = s.sideA := rfl
@[simp] theorem State.post_sideB (s : State) (p : Plane) (k c : Nat) (b : List Byte) :
    (s.post p k c b).sideB = s.sideB := rfl
@[simp] theorem State.post_twin (s : State) (p : Plane) (k c : Nat) (b : List Byte) :
    (s.post p k c b).twin = s.twin := rfl
@[simp] theorem State.post_replies (s : State) (p : Plane) (k c : Nat) (b : List Byte) :
    (s.post p k c b).replies = s.replies := rfl
@[simp] theorem State.post_sessions (s : State) (p : Plane) (k c : Nat) (b : List Byte) :
    (s.post p k c b).sessions = s.sessions := rfl
@[simp] theorem State.post_remembered (s : State) (p : Plane) (k c : Nat) (b : List Byte) :
    (s.post p k c b).remembered = s.remembered := rfl
@[simp] theorem State.post_progress (s : State) (p : Plane) (k c : Nat) (b : List Byte) :
    (s.post p k c b).progress = s.progress := rfl
@[simp] theorem State.post_pointers (s : State) (p : Plane) (k c : Nat) (b : List Byte) :
    (s.post p k c b).pointers = s.pointers := rfl
@[simp] theorem State.post_company (s : State) (p : Plane) (k c : Nat) (b : List Byte) :
    (s.post p k c b).company = s.company := rfl
@[simp] theorem State.post_directory (s : State) (p : Plane) (k c : Nat) (b : List Byte) :
    (s.post p k c b).directory = s.directory := rfl
@[simp] theorem State.post_committing (s : State) (p : Plane) (k c : Nat) (b : List Byte) :
    (s.post p k c b).committing = s.committing := rfl
@[simp] theorem State.post_activation (s : State) (p : Plane) (k c : Nat) (b : List Byte) :
    (s.post p k c b).activation = s.activation := rfl
@[simp] theorem State.post_campaign (s : State) (p : Plane) (k c : Nat) (b : List Byte) :
    (s.post p k c b).campaign = s.campaign := rfl
@[simp] theorem State.post_continuity (s : State) (p : Plane) (k c : Nat) (b : List Byte) :
    (s.post p k c b).continuity = s.continuity := rfl
@[simp] theorem State.post_tests (s : State) (p : Plane) (k c : Nat) (b : List Byte) :
    (s.post p k c b).tests = s.tests := rfl
@[simp] theorem State.post_power (s : State) (p : Plane) (k c : Nat) (b : List Byte) :
    (s.post p k c b).power = s.power := rfl
@[simp] theorem State.post_tap (s : State) (p : Plane) (k c : Nat) (b : List Byte) :
    (s.post p k c b).tap = s.tap := rfl

/-! ### setNode -/

@[simp] theorem State.setNode_pending (s : State) (n : Nat) (v : Node) :
    (s.setNode n v).pending = s.pending := rfl
@[simp] theorem State.setNode_now (s : State) (n : Nat) (v : Node) : (s.setNode n v).now = s.now := rfl
@[simp] theorem State.setNode_part (s : State) (n : Nat) (v : Node) : (s.setNode n v).part = s.part := rfl
@[simp] theorem State.setNode_regs (s : State) (n : Nat) (v : Node) : (s.setNode n v).regs = s.regs := rfl
@[simp] theorem State.setNode_holds (s : State) (n : Nat) (v : Node) : (s.setNode n v).holds = s.holds := rfl
@[simp] theorem State.setNode_portShadows (s : State) (n : Nat) (v : Node) :
    (s.setNode n v).portShadows = s.portShadows := rfl
@[simp] theorem State.setNode_objs (s : State) (n : Nat) (v : Node) : (s.setNode n v).objs = s.objs := rfl
@[simp] theorem State.setNode_octs (s : State) (n : Nat) (v : Node) : (s.setNode n v).octs = s.octs := rfl
@[simp] theorem State.setNode_posts (s : State) (n : Nat) (v : Node) : (s.setNode n v).posts = s.posts := rfl
@[simp] theorem State.setNode_out (s : State) (n : Nat) (v : Node) : (s.setNode n v).out = s.out := rfl
@[simp] theorem State.setNode_free (s : State) (n : Nat) (v : Node) : (s.setNode n v).free = s.free := rfl
@[simp] theorem State.setNode_clk (s : State) (n : Nat) (v : Node) : (s.setNode n v).clk = s.clk := rfl
@[simp] theorem State.setNode_rtc (s : State) (n : Nat) (v : Node) : (s.setNode n v).rtc = s.rtc := rfl
@[simp] theorem State.setNode_ptp (s : State) (n : Nat) (v : Node) : (s.setNode n v).ptp = s.ptp := rfl
@[simp] theorem State.setNode_dieA (s : State) (n : Nat) (v : Node) : (s.setNode n v).dieA = s.dieA := rfl
@[simp] theorem State.setNode_dieB (s : State) (n : Nat) (v : Node) : (s.setNode n v).dieB = s.dieB := rfl
@[simp] theorem State.setNode_holder (s : State) (n : Nat) (v : Node) : (s.setNode n v).holder = s.holder := rfl
@[simp] theorem State.setNode_profiles (s : State) (n : Nat) (v : Node) :
    (s.setNode n v).profiles = s.profiles := rfl
@[simp] theorem State.setNode_curves (s : State) (n : Nat) (v : Node) : (s.setNode n v).curves = s.curves := rfl
@[simp] theorem State.setNode_aggDefs (s : State) (n : Nat) (v : Node) :
    (s.setNode n v).aggDefs = s.aggDefs := rfl
@[simp] theorem State.setNode_queues (s : State) (n : Nat) (v : Node) : (s.setNode n v).queues = s.queues := rfl
@[simp] theorem State.setNode_waiters (s : State) (n : Nat) (v : Node) :
    (s.setNode n v).waiters = s.waiters := rfl
@[simp] theorem State.setNode_expiring (s : State) (n : Nat) (v : Node) :
    (s.setNode n v).expiring = s.expiring := rfl
@[simp] theorem State.setNode_gateDrops (s : State) (n : Nat) (v : Node) :
    (s.setNode n v).gateDrops = s.gateDrops := rfl
@[simp] theorem State.setNode_drainFrom (s : State) (n : Nat) (v : Node) :
    (s.setNode n v).drainFrom = s.drainFrom := rfl
@[simp] theorem State.setNode_arbs (s : State) (n : Nat) (v : Node) : (s.setNode n v).arbs = s.arbs := rfl
@[simp] theorem State.setNode_unitTmo (s : State) (n : Nat) (v : Node) :
    (s.setNode n v).unitTmo = s.unitTmo := rfl
@[simp] theorem State.setNode_tmoPending (s : State) (n : Nat) (v : Node) :
    (s.setNode n v).tmoPending = s.tmoPending := rfl
@[simp] theorem State.setNode_radios (s : State) (n : Nat) (v : Node) : (s.setNode n v).radios = s.radios := rfl
@[simp] theorem State.setNode_plcs (s : State) (n : Nat) (v : Node) : (s.setNode n v).plcs = s.plcs := rfl
@[simp] theorem State.setNode_chains (s : State) (n : Nat) (v : Node) : (s.setNode n v).chains = s.chains := rfl
@[simp] theorem State.setNode_eths (s : State) (n : Nat) (v : Node) : (s.setNode n v).eths = s.eths := rfl
@[simp] theorem State.setNode_frameCounter (s : State) (n : Nat) (v : Node) :
    (s.setNode n v).frameCounter = s.frameCounter := rfl
@[simp] theorem State.setNode_counterSaved (s : State) (n : Nat) (v : Node) :
    (s.setNode n v).counterSaved = s.counterSaved := rfl
@[simp] theorem State.setNode_link (s : State) (n : Nat) (v : Node) : (s.setNode n v).link = s.link := rfl
@[simp] theorem State.setNode_keys (s : State) (n : Nat) (v : Node) : (s.setNode n v).keys = s.keys := rfl
@[simp] theorem State.setNode_segUse (s : State) (n : Nat) (v : Node) : (s.setNode n v).segUse = s.segUse := rfl
@[simp] theorem State.setNode_segNew (s : State) (n : Nat) (v : Node) : (s.setNode n v).segNew = s.segNew := rfl
@[simp] theorem State.setNode_inputs (s : State) (n : Nat) (v : Node) : (s.setNode n v).inputs = s.inputs := rfl
@[simp] theorem State.setNode_meter (s : State) (n : Nat) (v : Node) : (s.setNode n v).meter = s.meter := rfl
@[simp] theorem State.setNode_theft (s : State) (n : Nat) (v : Node) : (s.setNode n v).theft = s.theft := rfl
@[simp] theorem State.setNode_balanceFrom (s : State) (n : Nat) (v : Node) :
    (s.setNode n v).balanceFrom = s.balanceFrom := rfl
@[simp] theorem State.setNode_balanceOver (s : State) (n : Nat) (v : Node) :
    (s.setNode n v).balanceOver = s.balanceOver := rfl
@[simp] theorem State.setNode_balanceWithin (s : State) (n : Nat) (v : Node) :
    (s.setNode n v).balanceWithin = s.balanceWithin := rfl
@[simp] theorem State.setNode_journal (s : State) (n : Nat) (v : Node) :
    (s.setNode n v).journal = s.journal := rfl
@[simp] theorem State.setNode_mirrors (s : State) (n : Nat) (v : Node) :
    (s.setNode n v).mirrors = s.mirrors := rfl
@[simp] theorem State.setNode_mirrorCount (s : State) (n : Nat) (v : Node) :
    (s.setNode n v).mirrorCount = s.mirrorCount := rfl
@[simp] theorem State.setNode_sideA (s : State) (n : Nat) (v : Node) : (s.setNode n v).sideA = s.sideA := rfl
@[simp] theorem State.setNode_sideB (s : State) (n : Nat) (v : Node) : (s.setNode n v).sideB = s.sideB := rfl
@[simp] theorem State.setNode_twin (s : State) (n : Nat) (v : Node) : (s.setNode n v).twin = s.twin := rfl
@[simp] theorem State.setNode_replies (s : State) (n : Nat) (v : Node) :
    (s.setNode n v).replies = s.replies := rfl
@[simp] theorem State.setNode_sessions (s : State) (n : Nat) (v : Node) :
    (s.setNode n v).sessions = s.sessions := rfl
@[simp] theorem State.setNode_remembered (s : State) (n : Nat) (v : Node) :
    (s.setNode n v).remembered = s.remembered := rfl
@[simp] theorem State.setNode_progress (s : State) (n : Nat) (v : Node) :
    (s.setNode n v).progress = s.progress := rfl
@[simp] theorem State.setNode_pointers (s : State) (n : Nat) (v : Node) :
    (s.setNode n v).pointers = s.pointers := rfl
@[simp] theorem State.setNode_company (s : State) (n : Nat) (v : Node) :
    (s.setNode n v).company = s.company := rfl
@[simp] theorem State.setNode_directory (s : State) (n : Nat) (v : Node) :
    (s.setNode n v).directory = s.directory := rfl
@[simp] theorem State.setNode_committing (s : State) (n : Nat) (v : Node) :
    (s.setNode n v).committing = s.committing := rfl
@[simp] theorem State.setNode_activation (s : State) (n : Nat) (v : Node) :
    (s.setNode n v).activation = s.activation := rfl
@[simp] theorem State.setNode_campaign (s : State) (n : Nat) (v : Node) :
    (s.setNode n v).campaign = s.campaign := rfl
@[simp] theorem State.setNode_continuity (s : State) (n : Nat) (v : Node) :
    (s.setNode n v).continuity = s.continuity := rfl
@[simp] theorem State.setNode_tests (s : State) (n : Nat) (v : Node) : (s.setNode n v).tests = s.tests := rfl
@[simp] theorem State.setNode_power (s : State) (n : Nat) (v : Node) : (s.setNode n v).power = s.power := rfl
@[simp] theorem State.setNode_tap (s : State) (n : Nat) (v : Node) : (s.setNode n v).tap = s.tap := rfl

/-! ### setRadio -/

@[simp] theorem State.setRadio_pending (s : State) (n : Nat) (v : RadioState) :
    (s.setRadio n v).pending = s.pending := rfl
@[simp] theorem State.setRadio_now (s : State) (n : Nat) (v : RadioState) : (s.setRadio n v).now = s.now := rfl
@[simp] theorem State.setRadio_part (s : State) (n : Nat) (v : RadioState) :
    (s.setRadio n v).part = s.part := rfl
@[simp] theorem State.setRadio_regs (s : State) (n : Nat) (v : RadioState) :
    (s.setRadio n v).regs = s.regs := rfl
@[simp] theorem State.setRadio_holds (s : State) (n : Nat) (v : RadioState) :
    (s.setRadio n v).holds = s.holds := rfl
@[simp] theorem State.setRadio_portShadows (s : State) (n : Nat) (v : RadioState) :
    (s.setRadio n v).portShadows = s.portShadows := rfl
@[simp] theorem State.setRadio_objs (s : State) (n : Nat) (v : RadioState) :
    (s.setRadio n v).objs = s.objs := rfl
@[simp] theorem State.setRadio_octs (s : State) (n : Nat) (v : RadioState) :
    (s.setRadio n v).octs = s.octs := rfl
@[simp] theorem State.setRadio_posts (s : State) (n : Nat) (v : RadioState) :
    (s.setRadio n v).posts = s.posts := rfl
@[simp] theorem State.setRadio_out (s : State) (n : Nat) (v : RadioState) : (s.setRadio n v).out = s.out := rfl
@[simp] theorem State.setRadio_free (s : State) (n : Nat) (v : RadioState) :
    (s.setRadio n v).free = s.free := rfl
@[simp] theorem State.setRadio_clk (s : State) (n : Nat) (v : RadioState) : (s.setRadio n v).clk = s.clk := rfl
@[simp] theorem State.setRadio_rtc (s : State) (n : Nat) (v : RadioState) : (s.setRadio n v).rtc = s.rtc := rfl
@[simp] theorem State.setRadio_ptp (s : State) (n : Nat) (v : RadioState) : (s.setRadio n v).ptp = s.ptp := rfl
@[simp] theorem State.setRadio_dieA (s : State) (n : Nat) (v : RadioState) :
    (s.setRadio n v).dieA = s.dieA := rfl
@[simp] theorem State.setRadio_dieB (s : State) (n : Nat) (v : RadioState) :
    (s.setRadio n v).dieB = s.dieB := rfl
@[simp] theorem State.setRadio_holder (s : State) (n : Nat) (v : RadioState) :
    (s.setRadio n v).holder = s.holder := rfl
@[simp] theorem State.setRadio_profiles (s : State) (n : Nat) (v : RadioState) :
    (s.setRadio n v).profiles = s.profiles := rfl
@[simp] theorem State.setRadio_curves (s : State) (n : Nat) (v : RadioState) :
    (s.setRadio n v).curves = s.curves := rfl
@[simp] theorem State.setRadio_aggDefs (s : State) (n : Nat) (v : RadioState) :
    (s.setRadio n v).aggDefs = s.aggDefs := rfl
@[simp] theorem State.setRadio_queues (s : State) (n : Nat) (v : RadioState) :
    (s.setRadio n v).queues = s.queues := rfl
@[simp] theorem State.setRadio_waiters (s : State) (n : Nat) (v : RadioState) :
    (s.setRadio n v).waiters = s.waiters := rfl
@[simp] theorem State.setRadio_expiring (s : State) (n : Nat) (v : RadioState) :
    (s.setRadio n v).expiring = s.expiring := rfl
@[simp] theorem State.setRadio_gateDrops (s : State) (n : Nat) (v : RadioState) :
    (s.setRadio n v).gateDrops = s.gateDrops := rfl
@[simp] theorem State.setRadio_drainFrom (s : State) (n : Nat) (v : RadioState) :
    (s.setRadio n v).drainFrom = s.drainFrom := rfl
@[simp] theorem State.setRadio_arbs (s : State) (n : Nat) (v : RadioState) :
    (s.setRadio n v).arbs = s.arbs := rfl
@[simp] theorem State.setRadio_unitTmo (s : State) (n : Nat) (v : RadioState) :
    (s.setRadio n v).unitTmo = s.unitTmo := rfl
@[simp] theorem State.setRadio_tmoPending (s : State) (n : Nat) (v : RadioState) :
    (s.setRadio n v).tmoPending = s.tmoPending := rfl
@[simp] theorem State.setRadio_nodes (s : State) (n : Nat) (v : RadioState) :
    (s.setRadio n v).nodes = s.nodes := rfl
@[simp] theorem State.setRadio_plcs (s : State) (n : Nat) (v : RadioState) :
    (s.setRadio n v).plcs = s.plcs := rfl
@[simp] theorem State.setRadio_chains (s : State) (n : Nat) (v : RadioState) :
    (s.setRadio n v).chains = s.chains := rfl
@[simp] theorem State.setRadio_eths (s : State) (n : Nat) (v : RadioState) :
    (s.setRadio n v).eths = s.eths := rfl
@[simp] theorem State.setRadio_frameCounter (s : State) (n : Nat) (v : RadioState) :
    (s.setRadio n v).frameCounter = s.frameCounter := rfl
@[simp] theorem State.setRadio_counterSaved (s : State) (n : Nat) (v : RadioState) :
    (s.setRadio n v).counterSaved = s.counterSaved := rfl
@[simp] theorem State.setRadio_link (s : State) (n : Nat) (v : RadioState) :
    (s.setRadio n v).link = s.link := rfl
@[simp] theorem State.setRadio_keys (s : State) (n : Nat) (v : RadioState) :
    (s.setRadio n v).keys = s.keys := rfl
@[simp] theorem State.setRadio_segUse (s : State) (n : Nat) (v : RadioState) :
    (s.setRadio n v).segUse = s.segUse := rfl
@[simp] theorem State.setRadio_segNew (s : State) (n : Nat) (v : RadioState) :
    (s.setRadio n v).segNew = s.segNew := rfl
@[simp] theorem State.setRadio_inputs (s : State) (n : Nat) (v : RadioState) :
    (s.setRadio n v).inputs = s.inputs := rfl
@[simp] theorem State.setRadio_meter (s : State) (n : Nat) (v : RadioState) :
    (s.setRadio n v).meter = s.meter := rfl
@[simp] theorem State.setRadio_theft (s : State) (n : Nat) (v : RadioState) :
    (s.setRadio n v).theft = s.theft := rfl
@[simp] theorem State.setRadio_balanceFrom (s : State) (n : Nat) (v : RadioState) :
    (s.setRadio n v).balanceFrom = s.balanceFrom := rfl
@[simp] theorem State.setRadio_balanceOver (s : State) (n : Nat) (v : RadioState) :
    (s.setRadio n v).balanceOver = s.balanceOver := rfl
@[simp] theorem State.setRadio_balanceWithin (s : State) (n : Nat) (v : RadioState) :
    (s.setRadio n v).balanceWithin = s.balanceWithin := rfl
@[simp] theorem State.setRadio_journal (s : State) (n : Nat) (v : RadioState) :
    (s.setRadio n v).journal = s.journal := rfl
@[simp] theorem State.setRadio_mirrors (s : State) (n : Nat) (v : RadioState) :
    (s.setRadio n v).mirrors = s.mirrors := rfl
@[simp] theorem State.setRadio_mirrorCount (s : State) (n : Nat) (v : RadioState) :
    (s.setRadio n v).mirrorCount = s.mirrorCount := rfl
@[simp] theorem State.setRadio_sideA (s : State) (n : Nat) (v : RadioState) :
    (s.setRadio n v).sideA = s.sideA := rfl
@[simp] theorem State.setRadio_sideB (s : State) (n : Nat) (v : RadioState) :
    (s.setRadio n v).sideB = s.sideB := rfl
@[simp] theorem State.setRadio_twin (s : State) (n : Nat) (v : RadioState) :
    (s.setRadio n v).twin = s.twin := rfl
@[simp] theorem State.setRadio_replies (s : State) (n : Nat) (v : RadioState) :
    (s.setRadio n v).replies = s.replies := rfl
@[simp] theorem State.setRadio_sessions (s : State) (n : Nat) (v : RadioState) :
    (s.setRadio n v).sessions = s.sessions := rfl
@[simp] theorem State.setRadio_remembered (s : State) (n : Nat) (v : RadioState) :
    (s.setRadio n v).remembered = s.remembered := rfl
@[simp] theorem State.setRadio_progress (s : State) (n : Nat) (v : RadioState) :
    (s.setRadio n v).progress = s.progress := rfl
@[simp] theorem State.setRadio_pointers (s : State) (n : Nat) (v : RadioState) :
    (s.setRadio n v).pointers = s.pointers := rfl
@[simp] theorem State.setRadio_company (s : State) (n : Nat) (v : RadioState) :
    (s.setRadio n v).company = s.company := rfl
@[simp] theorem State.setRadio_directory (s : State) (n : Nat) (v : RadioState) :
    (s.setRadio n v).directory = s.directory := rfl
@[simp] theorem State.setRadio_committing (s : State) (n : Nat) (v : RadioState) :
    (s.setRadio n v).committing = s.committing := rfl
@[simp] theorem State.setRadio_activation (s : State) (n : Nat) (v : RadioState) :
    (s.setRadio n v).activation = s.activation := rfl
@[simp] theorem State.setRadio_campaign (s : State) (n : Nat) (v : RadioState) :
    (s.setRadio n v).campaign = s.campaign := rfl
@[simp] theorem State.setRadio_continuity (s : State) (n : Nat) (v : RadioState) :
    (s.setRadio n v).continuity = s.continuity := rfl
@[simp] theorem State.setRadio_tests (s : State) (n : Nat) (v : RadioState) :
    (s.setRadio n v).tests = s.tests := rfl
@[simp] theorem State.setRadio_power (s : State) (n : Nat) (v : RadioState) :
    (s.setRadio n v).power = s.power := rfl
@[simp] theorem State.setRadio_tap (s : State) (n : Nat) (v : RadioState) : (s.setRadio n v).tap = s.tap := rfl

/-! ### setPlc -/

@[simp] theorem State.setPlc_pending (s : State) (n : Nat) (v : PlcState) :
    (s.setPlc n v).pending = s.pending := rfl
@[simp] theorem State.setPlc_now (s : State) (n : Nat) (v : PlcState) : (s.setPlc n v).now = s.now := rfl
@[simp] theorem State.setPlc_part (s : State) (n : Nat) (v : PlcState) : (s.setPlc n v).part = s.part := rfl
@[simp] theorem State.setPlc_regs (s : State) (n : Nat) (v : PlcState) : (s.setPlc n v).regs = s.regs := rfl
@[simp] theorem State.setPlc_holds (s : State) (n : Nat) (v : PlcState) : (s.setPlc n v).holds = s.holds := rfl
@[simp] theorem State.setPlc_portShadows (s : State) (n : Nat) (v : PlcState) :
    (s.setPlc n v).portShadows = s.portShadows := rfl
@[simp] theorem State.setPlc_objs (s : State) (n : Nat) (v : PlcState) : (s.setPlc n v).objs = s.objs := rfl
@[simp] theorem State.setPlc_octs (s : State) (n : Nat) (v : PlcState) : (s.setPlc n v).octs = s.octs := rfl
@[simp] theorem State.setPlc_posts (s : State) (n : Nat) (v : PlcState) : (s.setPlc n v).posts = s.posts := rfl
@[simp] theorem State.setPlc_out (s : State) (n : Nat) (v : PlcState) : (s.setPlc n v).out = s.out := rfl
@[simp] theorem State.setPlc_free (s : State) (n : Nat) (v : PlcState) : (s.setPlc n v).free = s.free := rfl
@[simp] theorem State.setPlc_clk (s : State) (n : Nat) (v : PlcState) : (s.setPlc n v).clk = s.clk := rfl
@[simp] theorem State.setPlc_rtc (s : State) (n : Nat) (v : PlcState) : (s.setPlc n v).rtc = s.rtc := rfl
@[simp] theorem State.setPlc_ptp (s : State) (n : Nat) (v : PlcState) : (s.setPlc n v).ptp = s.ptp := rfl
@[simp] theorem State.setPlc_dieA (s : State) (n : Nat) (v : PlcState) : (s.setPlc n v).dieA = s.dieA := rfl
@[simp] theorem State.setPlc_dieB (s : State) (n : Nat) (v : PlcState) : (s.setPlc n v).dieB = s.dieB := rfl
@[simp] theorem State.setPlc_holder (s : State) (n : Nat) (v : PlcState) :
    (s.setPlc n v).holder = s.holder := rfl
@[simp] theorem State.setPlc_profiles (s : State) (n : Nat) (v : PlcState) :
    (s.setPlc n v).profiles = s.profiles := rfl
@[simp] theorem State.setPlc_curves (s : State) (n : Nat) (v : PlcState) :
    (s.setPlc n v).curves = s.curves := rfl
@[simp] theorem State.setPlc_aggDefs (s : State) (n : Nat) (v : PlcState) :
    (s.setPlc n v).aggDefs = s.aggDefs := rfl
@[simp] theorem State.setPlc_queues (s : State) (n : Nat) (v : PlcState) :
    (s.setPlc n v).queues = s.queues := rfl
@[simp] theorem State.setPlc_waiters (s : State) (n : Nat) (v : PlcState) :
    (s.setPlc n v).waiters = s.waiters := rfl
@[simp] theorem State.setPlc_expiring (s : State) (n : Nat) (v : PlcState) :
    (s.setPlc n v).expiring = s.expiring := rfl
@[simp] theorem State.setPlc_gateDrops (s : State) (n : Nat) (v : PlcState) :
    (s.setPlc n v).gateDrops = s.gateDrops := rfl
@[simp] theorem State.setPlc_drainFrom (s : State) (n : Nat) (v : PlcState) :
    (s.setPlc n v).drainFrom = s.drainFrom := rfl
@[simp] theorem State.setPlc_arbs (s : State) (n : Nat) (v : PlcState) : (s.setPlc n v).arbs = s.arbs := rfl
@[simp] theorem State.setPlc_unitTmo (s : State) (n : Nat) (v : PlcState) :
    (s.setPlc n v).unitTmo = s.unitTmo := rfl
@[simp] theorem State.setPlc_tmoPending (s : State) (n : Nat) (v : PlcState) :
    (s.setPlc n v).tmoPending = s.tmoPending := rfl
@[simp] theorem State.setPlc_nodes (s : State) (n : Nat) (v : PlcState) : (s.setPlc n v).nodes = s.nodes := rfl
@[simp] theorem State.setPlc_radios (s : State) (n : Nat) (v : PlcState) :
    (s.setPlc n v).radios = s.radios := rfl
@[simp] theorem State.setPlc_chains (s : State) (n : Nat) (v : PlcState) :
    (s.setPlc n v).chains = s.chains := rfl
@[simp] theorem State.setPlc_eths (s : State) (n : Nat) (v : PlcState) : (s.setPlc n v).eths = s.eths := rfl
@[simp] theorem State.setPlc_frameCounter (s : State) (n : Nat) (v : PlcState) :
    (s.setPlc n v).frameCounter = s.frameCounter := rfl
@[simp] theorem State.setPlc_counterSaved (s : State) (n : Nat) (v : PlcState) :
    (s.setPlc n v).counterSaved = s.counterSaved := rfl
@[simp] theorem State.setPlc_link (s : State) (n : Nat) (v : PlcState) : (s.setPlc n v).link = s.link := rfl
@[simp] theorem State.setPlc_keys (s : State) (n : Nat) (v : PlcState) : (s.setPlc n v).keys = s.keys := rfl
@[simp] theorem State.setPlc_segUse (s : State) (n : Nat) (v : PlcState) :
    (s.setPlc n v).segUse = s.segUse := rfl
@[simp] theorem State.setPlc_segNew (s : State) (n : Nat) (v : PlcState) :
    (s.setPlc n v).segNew = s.segNew := rfl
@[simp] theorem State.setPlc_inputs (s : State) (n : Nat) (v : PlcState) :
    (s.setPlc n v).inputs = s.inputs := rfl
@[simp] theorem State.setPlc_meter (s : State) (n : Nat) (v : PlcState) : (s.setPlc n v).meter = s.meter := rfl
@[simp] theorem State.setPlc_theft (s : State) (n : Nat) (v : PlcState) : (s.setPlc n v).theft = s.theft := rfl
@[simp] theorem State.setPlc_balanceFrom (s : State) (n : Nat) (v : PlcState) :
    (s.setPlc n v).balanceFrom = s.balanceFrom := rfl
@[simp] theorem State.setPlc_balanceOver (s : State) (n : Nat) (v : PlcState) :
    (s.setPlc n v).balanceOver = s.balanceOver := rfl
@[simp] theorem State.setPlc_balanceWithin (s : State) (n : Nat) (v : PlcState) :
    (s.setPlc n v).balanceWithin = s.balanceWithin := rfl
@[simp] theorem State.setPlc_journal (s : State) (n : Nat) (v : PlcState) :
    (s.setPlc n v).journal = s.journal := rfl
@[simp] theorem State.setPlc_mirrors (s : State) (n : Nat) (v : PlcState) :
    (s.setPlc n v).mirrors = s.mirrors := rfl
@[simp] theorem State.setPlc_mirrorCount (s : State) (n : Nat) (v : PlcState) :
    (s.setPlc n v).mirrorCount = s.mirrorCount := rfl
@[simp] theorem State.setPlc_sideA (s : State) (n : Nat) (v : PlcState) : (s.setPlc n v).sideA = s.sideA := rfl
@[simp] theorem State.setPlc_sideB (s : State) (n : Nat) (v : PlcState) : (s.setPlc n v).sideB = s.sideB := rfl
@[simp] theorem State.setPlc_twin (s : State) (n : Nat) (v : PlcState) : (s.setPlc n v).twin = s.twin := rfl
@[simp] theorem State.setPlc_replies (s : State) (n : Nat) (v : PlcState) :
    (s.setPlc n v).replies = s.replies := rfl
@[simp] theorem State.setPlc_sessions (s : State) (n : Nat) (v : PlcState) :
    (s.setPlc n v).sessions = s.sessions := rfl
@[simp] theorem State.setPlc_remembered (s : State) (n : Nat) (v : PlcState) :
    (s.setPlc n v).remembered = s.remembered := rfl
@[simp] theorem State.setPlc_progress (s : State) (n : Nat) (v : PlcState) :
    (s.setPlc n v).progress = s.progress := rfl
@[simp] theorem State.setPlc_pointers (s : State) (n : Nat) (v : PlcState) :
    (s.setPlc n v).pointers = s.pointers := rfl
@[simp] theorem State.setPlc_company (s : State) (n : Nat) (v : PlcState) :
    (s.setPlc n v).company = s.company := rfl
@[simp] theorem State.setPlc_directory (s : State) (n : Nat) (v : PlcState) :
    (s.setPlc n v).directory = s.directory := rfl
@[simp] theorem State.setPlc_committing (s : State) (n : Nat) (v : PlcState) :
    (s.setPlc n v).committing = s.committing := rfl
@[simp] theorem State.setPlc_activation (s : State) (n : Nat) (v : PlcState) :
    (s.setPlc n v).activation = s.activation := rfl
@[simp] theorem State.setPlc_campaign (s : State) (n : Nat) (v : PlcState) :
    (s.setPlc n v).campaign = s.campaign := rfl
@[simp] theorem State.setPlc_continuity (s : State) (n : Nat) (v : PlcState) :
    (s.setPlc n v).continuity = s.continuity := rfl
@[simp] theorem State.setPlc_tests (s : State) (n : Nat) (v : PlcState) : (s.setPlc n v).tests = s.tests := rfl
@[simp] theorem State.setPlc_power (s : State) (n : Nat) (v : PlcState) : (s.setPlc n v).power = s.power := rfl
@[simp] theorem State.setPlc_tap (s : State) (n : Nat) (v : PlcState) : (s.setPlc n v).tap = s.tap := rfl

/-! ### setChain -/

@[simp] theorem State.setChain_pending (s : State) (n : Nat) (v : ChainState) :
    (s.setChain n v).pending = s.pending := rfl
@[simp] theorem State.setChain_now (s : State) (n : Nat) (v : ChainState) : (s.setChain n v).now = s.now := rfl
@[simp] theorem State.setChain_part (s : State) (n : Nat) (v : ChainState) :
    (s.setChain n v).part = s.part := rfl
@[simp] theorem State.setChain_regs (s : State) (n : Nat) (v : ChainState) :
    (s.setChain n v).regs = s.regs := rfl
@[simp] theorem State.setChain_holds (s : State) (n : Nat) (v : ChainState) :
    (s.setChain n v).holds = s.holds := rfl
@[simp] theorem State.setChain_portShadows (s : State) (n : Nat) (v : ChainState) :
    (s.setChain n v).portShadows = s.portShadows := rfl
@[simp] theorem State.setChain_objs (s : State) (n : Nat) (v : ChainState) :
    (s.setChain n v).objs = s.objs := rfl
@[simp] theorem State.setChain_octs (s : State) (n : Nat) (v : ChainState) :
    (s.setChain n v).octs = s.octs := rfl
@[simp] theorem State.setChain_posts (s : State) (n : Nat) (v : ChainState) :
    (s.setChain n v).posts = s.posts := rfl
@[simp] theorem State.setChain_out (s : State) (n : Nat) (v : ChainState) : (s.setChain n v).out = s.out := rfl
@[simp] theorem State.setChain_free (s : State) (n : Nat) (v : ChainState) :
    (s.setChain n v).free = s.free := rfl
@[simp] theorem State.setChain_clk (s : State) (n : Nat) (v : ChainState) : (s.setChain n v).clk = s.clk := rfl
@[simp] theorem State.setChain_rtc (s : State) (n : Nat) (v : ChainState) : (s.setChain n v).rtc = s.rtc := rfl
@[simp] theorem State.setChain_ptp (s : State) (n : Nat) (v : ChainState) : (s.setChain n v).ptp = s.ptp := rfl
@[simp] theorem State.setChain_dieA (s : State) (n : Nat) (v : ChainState) :
    (s.setChain n v).dieA = s.dieA := rfl
@[simp] theorem State.setChain_dieB (s : State) (n : Nat) (v : ChainState) :
    (s.setChain n v).dieB = s.dieB := rfl
@[simp] theorem State.setChain_holder (s : State) (n : Nat) (v : ChainState) :
    (s.setChain n v).holder = s.holder := rfl
@[simp] theorem State.setChain_profiles (s : State) (n : Nat) (v : ChainState) :
    (s.setChain n v).profiles = s.profiles := rfl
@[simp] theorem State.setChain_curves (s : State) (n : Nat) (v : ChainState) :
    (s.setChain n v).curves = s.curves := rfl
@[simp] theorem State.setChain_aggDefs (s : State) (n : Nat) (v : ChainState) :
    (s.setChain n v).aggDefs = s.aggDefs := rfl
@[simp] theorem State.setChain_queues (s : State) (n : Nat) (v : ChainState) :
    (s.setChain n v).queues = s.queues := rfl
@[simp] theorem State.setChain_waiters (s : State) (n : Nat) (v : ChainState) :
    (s.setChain n v).waiters = s.waiters := rfl
@[simp] theorem State.setChain_expiring (s : State) (n : Nat) (v : ChainState) :
    (s.setChain n v).expiring = s.expiring := rfl
@[simp] theorem State.setChain_gateDrops (s : State) (n : Nat) (v : ChainState) :
    (s.setChain n v).gateDrops = s.gateDrops := rfl
@[simp] theorem State.setChain_drainFrom (s : State) (n : Nat) (v : ChainState) :
    (s.setChain n v).drainFrom = s.drainFrom := rfl
@[simp] theorem State.setChain_arbs (s : State) (n : Nat) (v : ChainState) :
    (s.setChain n v).arbs = s.arbs := rfl
@[simp] theorem State.setChain_unitTmo (s : State) (n : Nat) (v : ChainState) :
    (s.setChain n v).unitTmo = s.unitTmo := rfl
@[simp] theorem State.setChain_tmoPending (s : State) (n : Nat) (v : ChainState) :
    (s.setChain n v).tmoPending = s.tmoPending := rfl
@[simp] theorem State.setChain_nodes (s : State) (n : Nat) (v : ChainState) :
    (s.setChain n v).nodes = s.nodes := rfl
@[simp] theorem State.setChain_radios (s : State) (n : Nat) (v : ChainState) :
    (s.setChain n v).radios = s.radios := rfl
@[simp] theorem State.setChain_plcs (s : State) (n : Nat) (v : ChainState) :
    (s.setChain n v).plcs = s.plcs := rfl
@[simp] theorem State.setChain_eths (s : State) (n : Nat) (v : ChainState) :
    (s.setChain n v).eths = s.eths := rfl
@[simp] theorem State.setChain_frameCounter (s : State) (n : Nat) (v : ChainState) :
    (s.setChain n v).frameCounter = s.frameCounter := rfl
@[simp] theorem State.setChain_counterSaved (s : State) (n : Nat) (v : ChainState) :
    (s.setChain n v).counterSaved = s.counterSaved := rfl
@[simp] theorem State.setChain_link (s : State) (n : Nat) (v : ChainState) :
    (s.setChain n v).link = s.link := rfl
@[simp] theorem State.setChain_keys (s : State) (n : Nat) (v : ChainState) :
    (s.setChain n v).keys = s.keys := rfl
@[simp] theorem State.setChain_segUse (s : State) (n : Nat) (v : ChainState) :
    (s.setChain n v).segUse = s.segUse := rfl
@[simp] theorem State.setChain_segNew (s : State) (n : Nat) (v : ChainState) :
    (s.setChain n v).segNew = s.segNew := rfl
@[simp] theorem State.setChain_inputs (s : State) (n : Nat) (v : ChainState) :
    (s.setChain n v).inputs = s.inputs := rfl
@[simp] theorem State.setChain_meter (s : State) (n : Nat) (v : ChainState) :
    (s.setChain n v).meter = s.meter := rfl
@[simp] theorem State.setChain_theft (s : State) (n : Nat) (v : ChainState) :
    (s.setChain n v).theft = s.theft := rfl
@[simp] theorem State.setChain_balanceFrom (s : State) (n : Nat) (v : ChainState) :
    (s.setChain n v).balanceFrom = s.balanceFrom := rfl
@[simp] theorem State.setChain_balanceOver (s : State) (n : Nat) (v : ChainState) :
    (s.setChain n v).balanceOver = s.balanceOver := rfl
@[simp] theorem State.setChain_balanceWithin (s : State) (n : Nat) (v : ChainState) :
    (s.setChain n v).balanceWithin = s.balanceWithin := rfl
@[simp] theorem State.setChain_journal (s : State) (n : Nat) (v : ChainState) :
    (s.setChain n v).journal = s.journal := rfl
@[simp] theorem State.setChain_mirrors (s : State) (n : Nat) (v : ChainState) :
    (s.setChain n v).mirrors = s.mirrors := rfl
@[simp] theorem State.setChain_mirrorCount (s : State) (n : Nat) (v : ChainState) :
    (s.setChain n v).mirrorCount = s.mirrorCount := rfl
@[simp] theorem State.setChain_sideA (s : State) (n : Nat) (v : ChainState) :
    (s.setChain n v).sideA = s.sideA := rfl
@[simp] theorem State.setChain_sideB (s : State) (n : Nat) (v : ChainState) :
    (s.setChain n v).sideB = s.sideB := rfl
@[simp] theorem State.setChain_twin (s : State) (n : Nat) (v : ChainState) :
    (s.setChain n v).twin = s.twin := rfl
@[simp] theorem State.setChain_replies (s : State) (n : Nat) (v : ChainState) :
    (s.setChain n v).replies = s.replies := rfl
@[simp] theorem State.setChain_sessions (s : State) (n : Nat) (v : ChainState) :
    (s.setChain n v).sessions = s.sessions := rfl
@[simp] theorem State.setChain_remembered (s : State) (n : Nat) (v : ChainState) :
    (s.setChain n v).remembered = s.remembered := rfl
@[simp] theorem State.setChain_progress (s : State) (n : Nat) (v : ChainState) :
    (s.setChain n v).progress = s.progress := rfl
@[simp] theorem State.setChain_pointers (s : State) (n : Nat) (v : ChainState) :
    (s.setChain n v).pointers = s.pointers := rfl
@[simp] theorem State.setChain_company (s : State) (n : Nat) (v : ChainState) :
    (s.setChain n v).company = s.company := rfl
@[simp] theorem State.setChain_directory (s : State) (n : Nat) (v : ChainState) :
    (s.setChain n v).directory = s.directory := rfl
@[simp] theorem State.setChain_committing (s : State) (n : Nat) (v : ChainState) :
    (s.setChain n v).committing = s.committing := rfl
@[simp] theorem State.setChain_activation (s : State) (n : Nat) (v : ChainState) :
    (s.setChain n v).activation = s.activation := rfl
@[simp] theorem State.setChain_campaign (s : State) (n : Nat) (v : ChainState) :
    (s.setChain n v).campaign = s.campaign := rfl
@[simp] theorem State.setChain_continuity (s : State) (n : Nat) (v : ChainState) :
    (s.setChain n v).continuity = s.continuity := rfl
@[simp] theorem State.setChain_tests (s : State) (n : Nat) (v : ChainState) :
    (s.setChain n v).tests = s.tests := rfl
@[simp] theorem State.setChain_power (s : State) (n : Nat) (v : ChainState) :
    (s.setChain n v).power = s.power := rfl
@[simp] theorem State.setChain_tap (s : State) (n : Nat) (v : ChainState) : (s.setChain n v).tap = s.tap := rfl

/-! ### setEth -/

@[simp] theorem State.setEth_pending (s : State) (n : Nat) (v : EthState) :
    (s.setEth n v).pending = s.pending := rfl
@[simp] theorem State.setEth_now (s : State) (n : Nat) (v : EthState) : (s.setEth n v).now = s.now := rfl
@[simp] theorem State.setEth_part (s : State) (n : Nat) (v : EthState) : (s.setEth n v).part = s.part := rfl
@[simp] theorem State.setEth_regs (s : State) (n : Nat) (v : EthState) : (s.setEth n v).regs = s.regs := rfl
@[simp] theorem State.setEth_holds (s : State) (n : Nat) (v : EthState) : (s.setEth n v).holds = s.holds := rfl
@[simp] theorem State.setEth_portShadows (s : State) (n : Nat) (v : EthState) :
    (s.setEth n v).portShadows = s.portShadows := rfl
@[simp] theorem State.setEth_objs (s : State) (n : Nat) (v : EthState) : (s.setEth n v).objs = s.objs := rfl
@[simp] theorem State.setEth_octs (s : State) (n : Nat) (v : EthState) : (s.setEth n v).octs = s.octs := rfl
@[simp] theorem State.setEth_posts (s : State) (n : Nat) (v : EthState) : (s.setEth n v).posts = s.posts := rfl
@[simp] theorem State.setEth_out (s : State) (n : Nat) (v : EthState) : (s.setEth n v).out = s.out := rfl
@[simp] theorem State.setEth_free (s : State) (n : Nat) (v : EthState) : (s.setEth n v).free = s.free := rfl
@[simp] theorem State.setEth_clk (s : State) (n : Nat) (v : EthState) : (s.setEth n v).clk = s.clk := rfl
@[simp] theorem State.setEth_rtc (s : State) (n : Nat) (v : EthState) : (s.setEth n v).rtc = s.rtc := rfl
@[simp] theorem State.setEth_ptp (s : State) (n : Nat) (v : EthState) : (s.setEth n v).ptp = s.ptp := rfl
@[simp] theorem State.setEth_dieA (s : State) (n : Nat) (v : EthState) : (s.setEth n v).dieA = s.dieA := rfl
@[simp] theorem State.setEth_dieB (s : State) (n : Nat) (v : EthState) : (s.setEth n v).dieB = s.dieB := rfl
@[simp] theorem State.setEth_holder (s : State) (n : Nat) (v : EthState) :
    (s.setEth n v).holder = s.holder := rfl
@[simp] theorem State.setEth_profiles (s : State) (n : Nat) (v : EthState) :
    (s.setEth n v).profiles = s.profiles := rfl
@[simp] theorem State.setEth_curves (s : State) (n : Nat) (v : EthState) :
    (s.setEth n v).curves = s.curves := rfl
@[simp] theorem State.setEth_aggDefs (s : State) (n : Nat) (v : EthState) :
    (s.setEth n v).aggDefs = s.aggDefs := rfl
@[simp] theorem State.setEth_queues (s : State) (n : Nat) (v : EthState) :
    (s.setEth n v).queues = s.queues := rfl
@[simp] theorem State.setEth_waiters (s : State) (n : Nat) (v : EthState) :
    (s.setEth n v).waiters = s.waiters := rfl
@[simp] theorem State.setEth_expiring (s : State) (n : Nat) (v : EthState) :
    (s.setEth n v).expiring = s.expiring := rfl
@[simp] theorem State.setEth_gateDrops (s : State) (n : Nat) (v : EthState) :
    (s.setEth n v).gateDrops = s.gateDrops := rfl
@[simp] theorem State.setEth_drainFrom (s : State) (n : Nat) (v : EthState) :
    (s.setEth n v).drainFrom = s.drainFrom := rfl
@[simp] theorem State.setEth_arbs (s : State) (n : Nat) (v : EthState) : (s.setEth n v).arbs = s.arbs := rfl
@[simp] theorem State.setEth_unitTmo (s : State) (n : Nat) (v : EthState) :
    (s.setEth n v).unitTmo = s.unitTmo := rfl
@[simp] theorem State.setEth_tmoPending (s : State) (n : Nat) (v : EthState) :
    (s.setEth n v).tmoPending = s.tmoPending := rfl
@[simp] theorem State.setEth_nodes (s : State) (n : Nat) (v : EthState) : (s.setEth n v).nodes = s.nodes := rfl
@[simp] theorem State.setEth_radios (s : State) (n : Nat) (v : EthState) :
    (s.setEth n v).radios = s.radios := rfl
@[simp] theorem State.setEth_plcs (s : State) (n : Nat) (v : EthState) : (s.setEth n v).plcs = s.plcs := rfl
@[simp] theorem State.setEth_chains (s : State) (n : Nat) (v : EthState) :
    (s.setEth n v).chains = s.chains := rfl
@[simp] theorem State.setEth_frameCounter (s : State) (n : Nat) (v : EthState) :
    (s.setEth n v).frameCounter = s.frameCounter := rfl
@[simp] theorem State.setEth_counterSaved (s : State) (n : Nat) (v : EthState) :
    (s.setEth n v).counterSaved = s.counterSaved := rfl
@[simp] theorem State.setEth_link (s : State) (n : Nat) (v : EthState) : (s.setEth n v).link = s.link := rfl
@[simp] theorem State.setEth_keys (s : State) (n : Nat) (v : EthState) : (s.setEth n v).keys = s.keys := rfl
@[simp] theorem State.setEth_segUse (s : State) (n : Nat) (v : EthState) :
    (s.setEth n v).segUse = s.segUse := rfl
@[simp] theorem State.setEth_segNew (s : State) (n : Nat) (v : EthState) :
    (s.setEth n v).segNew = s.segNew := rfl
@[simp] theorem State.setEth_inputs (s : State) (n : Nat) (v : EthState) :
    (s.setEth n v).inputs = s.inputs := rfl
@[simp] theorem State.setEth_meter (s : State) (n : Nat) (v : EthState) : (s.setEth n v).meter = s.meter := rfl
@[simp] theorem State.setEth_theft (s : State) (n : Nat) (v : EthState) : (s.setEth n v).theft = s.theft := rfl
@[simp] theorem State.setEth_balanceFrom (s : State) (n : Nat) (v : EthState) :
    (s.setEth n v).balanceFrom = s.balanceFrom := rfl
@[simp] theorem State.setEth_balanceOver (s : State) (n : Nat) (v : EthState) :
    (s.setEth n v).balanceOver = s.balanceOver := rfl
@[simp] theorem State.setEth_balanceWithin (s : State) (n : Nat) (v : EthState) :
    (s.setEth n v).balanceWithin = s.balanceWithin := rfl
@[simp] theorem State.setEth_journal (s : State) (n : Nat) (v : EthState) :
    (s.setEth n v).journal = s.journal := rfl
@[simp] theorem State.setEth_mirrors (s : State) (n : Nat) (v : EthState) :
    (s.setEth n v).mirrors = s.mirrors := rfl
@[simp] theorem State.setEth_mirrorCount (s : State) (n : Nat) (v : EthState) :
    (s.setEth n v).mirrorCount = s.mirrorCount := rfl
@[simp] theorem State.setEth_sideA (s : State) (n : Nat) (v : EthState) : (s.setEth n v).sideA = s.sideA := rfl
@[simp] theorem State.setEth_sideB (s : State) (n : Nat) (v : EthState) : (s.setEth n v).sideB = s.sideB := rfl
@[simp] theorem State.setEth_twin (s : State) (n : Nat) (v : EthState) : (s.setEth n v).twin = s.twin := rfl
@[simp] theorem State.setEth_replies (s : State) (n : Nat) (v : EthState) :
    (s.setEth n v).replies = s.replies := rfl
@[simp] theorem State.setEth_sessions (s : State) (n : Nat) (v : EthState) :
    (s.setEth n v).sessions = s.sessions := rfl
@[simp] theorem State.setEth_remembered (s : State) (n : Nat) (v : EthState) :
    (s.setEth n v).remembered = s.remembered := rfl
@[simp] theorem State.setEth_progress (s : State) (n : Nat) (v : EthState) :
    (s.setEth n v).progress = s.progress := rfl
@[simp] theorem State.setEth_pointers (s : State) (n : Nat) (v : EthState) :
    (s.setEth n v).pointers = s.pointers := rfl
@[simp] theorem State.setEth_company (s : State) (n : Nat) (v : EthState) :
    (s.setEth n v).company = s.company := rfl
@[simp] theorem State.setEth_directory (s : State) (n : Nat) (v : EthState) :
    (s.setEth n v).directory = s.directory := rfl
@[simp] theorem State.setEth_committing (s : State) (n : Nat) (v : EthState) :
    (s.setEth n v).committing = s.committing := rfl
@[simp] theorem State.setEth_activation (s : State) (n : Nat) (v : EthState) :
    (s.setEth n v).activation = s.activation := rfl
@[simp] theorem State.setEth_campaign (s : State) (n : Nat) (v : EthState) :
    (s.setEth n v).campaign = s.campaign := rfl
@[simp] theorem State.setEth_continuity (s : State) (n : Nat) (v : EthState) :
    (s.setEth n v).continuity = s.continuity := rfl
@[simp] theorem State.setEth_tests (s : State) (n : Nat) (v : EthState) : (s.setEth n v).tests = s.tests := rfl
@[simp] theorem State.setEth_power (s : State) (n : Nat) (v : EthState) : (s.setEth n v).power = s.power := rfl
@[simp] theorem State.setEth_tap (s : State) (n : Nat) (v : EthState) : (s.setEth n v).tap = s.tap := rfl

/-! ### setQueue -/

@[simp] theorem State.setQueue_pending (s : State) (n : Nat) (v : Queue) :
    (s.setQueue n v).pending = s.pending := rfl
@[simp] theorem State.setQueue_now (s : State) (n : Nat) (v : Queue) : (s.setQueue n v).now = s.now := rfl
@[simp] theorem State.setQueue_part (s : State) (n : Nat) (v : Queue) : (s.setQueue n v).part = s.part := rfl
@[simp] theorem State.setQueue_regs (s : State) (n : Nat) (v : Queue) : (s.setQueue n v).regs = s.regs := rfl
@[simp] theorem State.setQueue_holds (s : State) (n : Nat) (v : Queue) : (s.setQueue n v).holds = s.holds := rfl
@[simp] theorem State.setQueue_portShadows (s : State) (n : Nat) (v : Queue) :
    (s.setQueue n v).portShadows = s.portShadows := rfl
@[simp] theorem State.setQueue_objs (s : State) (n : Nat) (v : Queue) : (s.setQueue n v).objs = s.objs := rfl
@[simp] theorem State.setQueue_octs (s : State) (n : Nat) (v : Queue) : (s.setQueue n v).octs = s.octs := rfl
@[simp] theorem State.setQueue_posts (s : State) (n : Nat) (v : Queue) : (s.setQueue n v).posts = s.posts := rfl
@[simp] theorem State.setQueue_out (s : State) (n : Nat) (v : Queue) : (s.setQueue n v).out = s.out := rfl
@[simp] theorem State.setQueue_free (s : State) (n : Nat) (v : Queue) : (s.setQueue n v).free = s.free := rfl
@[simp] theorem State.setQueue_clk (s : State) (n : Nat) (v : Queue) : (s.setQueue n v).clk = s.clk := rfl
@[simp] theorem State.setQueue_rtc (s : State) (n : Nat) (v : Queue) : (s.setQueue n v).rtc = s.rtc := rfl
@[simp] theorem State.setQueue_ptp (s : State) (n : Nat) (v : Queue) : (s.setQueue n v).ptp = s.ptp := rfl
@[simp] theorem State.setQueue_dieA (s : State) (n : Nat) (v : Queue) : (s.setQueue n v).dieA = s.dieA := rfl
@[simp] theorem State.setQueue_dieB (s : State) (n : Nat) (v : Queue) : (s.setQueue n v).dieB = s.dieB := rfl
@[simp] theorem State.setQueue_holder (s : State) (n : Nat) (v : Queue) :
    (s.setQueue n v).holder = s.holder := rfl
@[simp] theorem State.setQueue_profiles (s : State) (n : Nat) (v : Queue) :
    (s.setQueue n v).profiles = s.profiles := rfl
@[simp] theorem State.setQueue_curves (s : State) (n : Nat) (v : Queue) :
    (s.setQueue n v).curves = s.curves := rfl
@[simp] theorem State.setQueue_aggDefs (s : State) (n : Nat) (v : Queue) :
    (s.setQueue n v).aggDefs = s.aggDefs := rfl
@[simp] theorem State.setQueue_waiters (s : State) (n : Nat) (v : Queue) :
    (s.setQueue n v).waiters = s.waiters := rfl
@[simp] theorem State.setQueue_expiring (s : State) (n : Nat) (v : Queue) :
    (s.setQueue n v).expiring = s.expiring := rfl
@[simp] theorem State.setQueue_gateDrops (s : State) (n : Nat) (v : Queue) :
    (s.setQueue n v).gateDrops = s.gateDrops := rfl
@[simp] theorem State.setQueue_drainFrom (s : State) (n : Nat) (v : Queue) :
    (s.setQueue n v).drainFrom = s.drainFrom := rfl
@[simp] theorem State.setQueue_arbs (s : State) (n : Nat) (v : Queue) : (s.setQueue n v).arbs = s.arbs := rfl
@[simp] theorem State.setQueue_unitTmo (s : State) (n : Nat) (v : Queue) :
    (s.setQueue n v).unitTmo = s.unitTmo := rfl
@[simp] theorem State.setQueue_tmoPending (s : State) (n : Nat) (v : Queue) :
    (s.setQueue n v).tmoPending = s.tmoPending := rfl
@[simp] theorem State.setQueue_nodes (s : State) (n : Nat) (v : Queue) : (s.setQueue n v).nodes = s.nodes := rfl
@[simp] theorem State.setQueue_radios (s : State) (n : Nat) (v : Queue) :
    (s.setQueue n v).radios = s.radios := rfl
@[simp] theorem State.setQueue_plcs (s : State) (n : Nat) (v : Queue) : (s.setQueue n v).plcs = s.plcs := rfl
@[simp] theorem State.setQueue_chains (s : State) (n : Nat) (v : Queue) :
    (s.setQueue n v).chains = s.chains := rfl
@[simp] theorem State.setQueue_eths (s : State) (n : Nat) (v : Queue) : (s.setQueue n v).eths = s.eths := rfl
@[simp] theorem State.setQueue_frameCounter (s : State) (n : Nat) (v : Queue) :
    (s.setQueue n v).frameCounter = s.frameCounter := rfl
@[simp] theorem State.setQueue_counterSaved (s : State) (n : Nat) (v : Queue) :
    (s.setQueue n v).counterSaved = s.counterSaved := rfl
@[simp] theorem State.setQueue_link (s : State) (n : Nat) (v : Queue) : (s.setQueue n v).link = s.link := rfl
@[simp] theorem State.setQueue_keys (s : State) (n : Nat) (v : Queue) : (s.setQueue n v).keys = s.keys := rfl
@[simp] theorem State.setQueue_segUse (s : State) (n : Nat) (v : Queue) :
    (s.setQueue n v).segUse = s.segUse := rfl
@[simp] theorem State.setQueue_segNew (s : State) (n : Nat) (v : Queue) :
    (s.setQueue n v).segNew = s.segNew := rfl
@[simp] theorem State.setQueue_inputs (s : State) (n : Nat) (v : Queue) :
    (s.setQueue n v).inputs = s.inputs := rfl
@[simp] theorem State.setQueue_meter (s : State) (n : Nat) (v : Queue) : (s.setQueue n v).meter = s.meter := rfl
@[simp] theorem State.setQueue_theft (s : State) (n : Nat) (v : Queue) : (s.setQueue n v).theft = s.theft := rfl
@[simp] theorem State.setQueue_balanceFrom (s : State) (n : Nat) (v : Queue) :
    (s.setQueue n v).balanceFrom = s.balanceFrom := rfl
@[simp] theorem State.setQueue_balanceOver (s : State) (n : Nat) (v : Queue) :
    (s.setQueue n v).balanceOver = s.balanceOver := rfl
@[simp] theorem State.setQueue_balanceWithin (s : State) (n : Nat) (v : Queue) :
    (s.setQueue n v).balanceWithin = s.balanceWithin := rfl
@[simp] theorem State.setQueue_journal (s : State) (n : Nat) (v : Queue) :
    (s.setQueue n v).journal = s.journal := rfl
@[simp] theorem State.setQueue_mirrors (s : State) (n : Nat) (v : Queue) :
    (s.setQueue n v).mirrors = s.mirrors := rfl
@[simp] theorem State.setQueue_mirrorCount (s : State) (n : Nat) (v : Queue) :
    (s.setQueue n v).mirrorCount = s.mirrorCount := rfl
@[simp] theorem State.setQueue_sideA (s : State) (n : Nat) (v : Queue) : (s.setQueue n v).sideA = s.sideA := rfl
@[simp] theorem State.setQueue_sideB (s : State) (n : Nat) (v : Queue) : (s.setQueue n v).sideB = s.sideB := rfl
@[simp] theorem State.setQueue_twin (s : State) (n : Nat) (v : Queue) : (s.setQueue n v).twin = s.twin := rfl
@[simp] theorem State.setQueue_replies (s : State) (n : Nat) (v : Queue) :
    (s.setQueue n v).replies = s.replies := rfl
@[simp] theorem State.setQueue_sessions (s : State) (n : Nat) (v : Queue) :
    (s.setQueue n v).sessions = s.sessions := rfl
@[simp] theorem State.setQueue_remembered (s : State) (n : Nat) (v : Queue) :
    (s.setQueue n v).remembered = s.remembered := rfl
@[simp] theorem State.setQueue_progress (s : State) (n : Nat) (v : Queue) :
    (s.setQueue n v).progress = s.progress := rfl
@[simp] theorem State.setQueue_pointers (s : State) (n : Nat) (v : Queue) :
    (s.setQueue n v).pointers = s.pointers := rfl
@[simp] theorem State.setQueue_company (s : State) (n : Nat) (v : Queue) :
    (s.setQueue n v).company = s.company := rfl
@[simp] theorem State.setQueue_directory (s : State) (n : Nat) (v : Queue) :
    (s.setQueue n v).directory = s.directory := rfl
@[simp] theorem State.setQueue_committing (s : State) (n : Nat) (v : Queue) :
    (s.setQueue n v).committing = s.committing := rfl
@[simp] theorem State.setQueue_activation (s : State) (n : Nat) (v : Queue) :
    (s.setQueue n v).activation = s.activation := rfl
@[simp] theorem State.setQueue_campaign (s : State) (n : Nat) (v : Queue) :
    (s.setQueue n v).campaign = s.campaign := rfl
@[simp] theorem State.setQueue_continuity (s : State) (n : Nat) (v : Queue) :
    (s.setQueue n v).continuity = s.continuity := rfl
@[simp] theorem State.setQueue_tests (s : State) (n : Nat) (v : Queue) : (s.setQueue n v).tests = s.tests := rfl
@[simp] theorem State.setQueue_power (s : State) (n : Nat) (v : Queue) : (s.setQueue n v).power = s.power := rfl
@[simp] theorem State.setQueue_tap (s : State) (n : Nat) (v : Queue) : (s.setQueue n v).tap = s.tap := rfl

/-! ### setDie -/

@[simp] theorem State.setDie_pending (s : State) (d : DieId) (v : Die) :
    (s.setDie d v).pending = s.pending := by cases d <;> rfl
@[simp] theorem State.setDie_now (s : State) (d : DieId) (v : Die) :
    (s.setDie d v).now = s.now := by cases d <;> rfl
@[simp] theorem State.setDie_part (s : State) (d : DieId) (v : Die) :
    (s.setDie d v).part = s.part := by cases d <;> rfl
@[simp] theorem State.setDie_regs (s : State) (d : DieId) (v : Die) :
    (s.setDie d v).regs = s.regs := by cases d <;> rfl
@[simp] theorem State.setDie_holds (s : State) (d : DieId) (v : Die) :
    (s.setDie d v).holds = s.holds := by cases d <;> rfl
@[simp] theorem State.setDie_portShadows (s : State) (d : DieId) (v : Die) :
    (s.setDie d v).portShadows = s.portShadows := by cases d <;> rfl
@[simp] theorem State.setDie_objs (s : State) (d : DieId) (v : Die) :
    (s.setDie d v).objs = s.objs := by cases d <;> rfl
@[simp] theorem State.setDie_octs (s : State) (d : DieId) (v : Die) :
    (s.setDie d v).octs = s.octs := by cases d <;> rfl
@[simp] theorem State.setDie_posts (s : State) (d : DieId) (v : Die) :
    (s.setDie d v).posts = s.posts := by cases d <;> rfl
@[simp] theorem State.setDie_out (s : State) (d : DieId) (v : Die) :
    (s.setDie d v).out = s.out := by cases d <;> rfl
@[simp] theorem State.setDie_free (s : State) (d : DieId) (v : Die) :
    (s.setDie d v).free = s.free := by cases d <;> rfl
@[simp] theorem State.setDie_clk (s : State) (d : DieId) (v : Die) :
    (s.setDie d v).clk = s.clk := by cases d <;> rfl
@[simp] theorem State.setDie_rtc (s : State) (d : DieId) (v : Die) :
    (s.setDie d v).rtc = s.rtc := by cases d <;> rfl
@[simp] theorem State.setDie_ptp (s : State) (d : DieId) (v : Die) :
    (s.setDie d v).ptp = s.ptp := by cases d <;> rfl
@[simp] theorem State.setDie_holder (s : State) (d : DieId) (v : Die) :
    (s.setDie d v).holder = s.holder := by cases d <;> rfl
@[simp] theorem State.setDie_profiles (s : State) (d : DieId) (v : Die) :
    (s.setDie d v).profiles = s.profiles := by cases d <;> rfl
@[simp] theorem State.setDie_curves (s : State) (d : DieId) (v : Die) :
    (s.setDie d v).curves = s.curves := by cases d <;> rfl
@[simp] theorem State.setDie_aggDefs (s : State) (d : DieId) (v : Die) :
    (s.setDie d v).aggDefs = s.aggDefs := by cases d <;> rfl
@[simp] theorem State.setDie_queues (s : State) (d : DieId) (v : Die) :
    (s.setDie d v).queues = s.queues := by cases d <;> rfl
@[simp] theorem State.setDie_waiters (s : State) (d : DieId) (v : Die) :
    (s.setDie d v).waiters = s.waiters := by cases d <;> rfl
@[simp] theorem State.setDie_expiring (s : State) (d : DieId) (v : Die) :
    (s.setDie d v).expiring = s.expiring := by cases d <;> rfl
@[simp] theorem State.setDie_gateDrops (s : State) (d : DieId) (v : Die) :
    (s.setDie d v).gateDrops = s.gateDrops := by cases d <;> rfl
@[simp] theorem State.setDie_drainFrom (s : State) (d : DieId) (v : Die) :
    (s.setDie d v).drainFrom = s.drainFrom := by cases d <;> rfl
@[simp] theorem State.setDie_arbs (s : State) (d : DieId) (v : Die) :
    (s.setDie d v).arbs = s.arbs := by cases d <;> rfl
@[simp] theorem State.setDie_unitTmo (s : State) (d : DieId) (v : Die) :
    (s.setDie d v).unitTmo = s.unitTmo := by cases d <;> rfl
@[simp] theorem State.setDie_tmoPending (s : State) (d : DieId) (v : Die) :
    (s.setDie d v).tmoPending = s.tmoPending := by cases d <;> rfl
@[simp] theorem State.setDie_nodes (s : State) (d : DieId) (v : Die) :
    (s.setDie d v).nodes = s.nodes := by cases d <;> rfl
@[simp] theorem State.setDie_radios (s : State) (d : DieId) (v : Die) :
    (s.setDie d v).radios = s.radios := by cases d <;> rfl
@[simp] theorem State.setDie_plcs (s : State) (d : DieId) (v : Die) :
    (s.setDie d v).plcs = s.plcs := by cases d <;> rfl
@[simp] theorem State.setDie_chains (s : State) (d : DieId) (v : Die) :
    (s.setDie d v).chains = s.chains := by cases d <;> rfl
@[simp] theorem State.setDie_eths (s : State) (d : DieId) (v : Die) :
    (s.setDie d v).eths = s.eths := by cases d <;> rfl
@[simp] theorem State.setDie_frameCounter (s : State) (d : DieId) (v : Die) :
    (s.setDie d v).frameCounter = s.frameCounter := by cases d <;> rfl
@[simp] theorem State.setDie_counterSaved (s : State) (d : DieId) (v : Die) :
    (s.setDie d v).counterSaved = s.counterSaved := by cases d <;> rfl
@[simp] theorem State.setDie_link (s : State) (d : DieId) (v : Die) :
    (s.setDie d v).link = s.link := by cases d <;> rfl
@[simp] theorem State.setDie_keys (s : State) (d : DieId) (v : Die) :
    (s.setDie d v).keys = s.keys := by cases d <;> rfl
@[simp] theorem State.setDie_segUse (s : State) (d : DieId) (v : Die) :
    (s.setDie d v).segUse = s.segUse := by cases d <;> rfl
@[simp] theorem State.setDie_segNew (s : State) (d : DieId) (v : Die) :
    (s.setDie d v).segNew = s.segNew := by cases d <;> rfl
@[simp] theorem State.setDie_inputs (s : State) (d : DieId) (v : Die) :
    (s.setDie d v).inputs = s.inputs := by cases d <;> rfl
@[simp] theorem State.setDie_meter (s : State) (d : DieId) (v : Die) :
    (s.setDie d v).meter = s.meter := by cases d <;> rfl
@[simp] theorem State.setDie_theft (s : State) (d : DieId) (v : Die) :
    (s.setDie d v).theft = s.theft := by cases d <;> rfl
@[simp] theorem State.setDie_balanceFrom (s : State) (d : DieId) (v : Die) :
    (s.setDie d v).balanceFrom = s.balanceFrom := by cases d <;> rfl
@[simp] theorem State.setDie_balanceOver (s : State) (d : DieId) (v : Die) :
    (s.setDie d v).balanceOver = s.balanceOver := by cases d <;> rfl
@[simp] theorem State.setDie_balanceWithin (s : State) (d : DieId) (v : Die) :
    (s.setDie d v).balanceWithin = s.balanceWithin := by cases d <;> rfl
@[simp] theorem State.setDie_journal (s : State) (d : DieId) (v : Die) :
    (s.setDie d v).journal = s.journal := by cases d <;> rfl
@[simp] theorem State.setDie_mirrors (s : State) (d : DieId) (v : Die) :
    (s.setDie d v).mirrors = s.mirrors := by cases d <;> rfl
@[simp] theorem State.setDie_mirrorCount (s : State) (d : DieId) (v : Die) :
    (s.setDie d v).mirrorCount = s.mirrorCount := by cases d <;> rfl
@[simp] theorem State.setDie_sideA (s : State) (d : DieId) (v : Die) :
    (s.setDie d v).sideA = s.sideA := by cases d <;> rfl
@[simp] theorem State.setDie_sideB (s : State) (d : DieId) (v : Die) :
    (s.setDie d v).sideB = s.sideB := by cases d <;> rfl
@[simp] theorem State.setDie_twin (s : State) (d : DieId) (v : Die) :
    (s.setDie d v).twin = s.twin := by cases d <;> rfl
@[simp] theorem State.setDie_replies (s : State) (d : DieId) (v : Die) :
    (s.setDie d v).replies = s.replies := by cases d <;> rfl
@[simp] theorem State.setDie_sessions (s : State) (d : DieId) (v : Die) :
    (s.setDie d v).sessions = s.sessions := by cases d <;> rfl
@[simp] theorem State.setDie_remembered (s : State) (d : DieId) (v : Die) :
    (s.setDie d v).remembered = s.remembered := by cases d <;> rfl
@[simp] theorem State.setDie_progress (s : State) (d : DieId) (v : Die) :
    (s.setDie d v).progress = s.progress := by cases d <;> rfl
@[simp] theorem State.setDie_pointers (s : State) (d : DieId) (v : Die) :
    (s.setDie d v).pointers = s.pointers := by cases d <;> rfl
@[simp] theorem State.setDie_company (s : State) (d : DieId) (v : Die) :
    (s.setDie d v).company = s.company := by cases d <;> rfl
@[simp] theorem State.setDie_directory (s : State) (d : DieId) (v : Die) :
    (s.setDie d v).directory = s.directory := by cases d <;> rfl
@[simp] theorem State.setDie_committing (s : State) (d : DieId) (v : Die) :
    (s.setDie d v).committing = s.committing := by cases d <;> rfl
@[simp] theorem State.setDie_activation (s : State) (d : DieId) (v : Die) :
    (s.setDie d v).activation = s.activation := by cases d <;> rfl
@[simp] theorem State.setDie_campaign (s : State) (d : DieId) (v : Die) :
    (s.setDie d v).campaign = s.campaign := by cases d <;> rfl
@[simp] theorem State.setDie_continuity (s : State) (d : DieId) (v : Die) :
    (s.setDie d v).continuity = s.continuity := by cases d <;> rfl
@[simp] theorem State.setDie_tests (s : State) (d : DieId) (v : Die) :
    (s.setDie d v).tests = s.tests := by cases d <;> rfl
@[simp] theorem State.setDie_power (s : State) (d : DieId) (v : Die) :
    (s.setDie d v).power = s.power := by cases d <;> rfl
@[simp] theorem State.setDie_tap (s : State) (d : DieId) (v : Die) :
    (s.setDie d v).tap = s.tap := by cases d <;> rfl

/-! ### setSide -/

@[simp] theorem State.setSide_pending (s : State) (d : DieId) (v : Side) :
    (s.setSide d v).pending = s.pending := by cases d <;> rfl
@[simp] theorem State.setSide_now (s : State) (d : DieId) (v : Side) :
    (s.setSide d v).now = s.now := by cases d <;> rfl
@[simp] theorem State.setSide_part (s : State) (d : DieId) (v : Side) :
    (s.setSide d v).part = s.part := by cases d <;> rfl
@[simp] theorem State.setSide_regs (s : State) (d : DieId) (v : Side) :
    (s.setSide d v).regs = s.regs := by cases d <;> rfl
@[simp] theorem State.setSide_holds (s : State) (d : DieId) (v : Side) :
    (s.setSide d v).holds = s.holds := by cases d <;> rfl
@[simp] theorem State.setSide_portShadows (s : State) (d : DieId) (v : Side) :
    (s.setSide d v).portShadows = s.portShadows := by cases d <;> rfl
@[simp] theorem State.setSide_objs (s : State) (d : DieId) (v : Side) :
    (s.setSide d v).objs = s.objs := by cases d <;> rfl
@[simp] theorem State.setSide_octs (s : State) (d : DieId) (v : Side) :
    (s.setSide d v).octs = s.octs := by cases d <;> rfl
@[simp] theorem State.setSide_posts (s : State) (d : DieId) (v : Side) :
    (s.setSide d v).posts = s.posts := by cases d <;> rfl
@[simp] theorem State.setSide_out (s : State) (d : DieId) (v : Side) :
    (s.setSide d v).out = s.out := by cases d <;> rfl
@[simp] theorem State.setSide_free (s : State) (d : DieId) (v : Side) :
    (s.setSide d v).free = s.free := by cases d <;> rfl
@[simp] theorem State.setSide_clk (s : State) (d : DieId) (v : Side) :
    (s.setSide d v).clk = s.clk := by cases d <;> rfl
@[simp] theorem State.setSide_rtc (s : State) (d : DieId) (v : Side) :
    (s.setSide d v).rtc = s.rtc := by cases d <;> rfl
@[simp] theorem State.setSide_ptp (s : State) (d : DieId) (v : Side) :
    (s.setSide d v).ptp = s.ptp := by cases d <;> rfl
@[simp] theorem State.setSide_dieA (s : State) (d : DieId) (v : Side) :
    (s.setSide d v).dieA = s.dieA := by cases d <;> rfl
@[simp] theorem State.setSide_dieB (s : State) (d : DieId) (v : Side) :
    (s.setSide d v).dieB = s.dieB := by cases d <;> rfl
@[simp] theorem State.setSide_holder (s : State) (d : DieId) (v : Side) :
    (s.setSide d v).holder = s.holder := by cases d <;> rfl
@[simp] theorem State.setSide_profiles (s : State) (d : DieId) (v : Side) :
    (s.setSide d v).profiles = s.profiles := by cases d <;> rfl
@[simp] theorem State.setSide_curves (s : State) (d : DieId) (v : Side) :
    (s.setSide d v).curves = s.curves := by cases d <;> rfl
@[simp] theorem State.setSide_aggDefs (s : State) (d : DieId) (v : Side) :
    (s.setSide d v).aggDefs = s.aggDefs := by cases d <;> rfl
@[simp] theorem State.setSide_queues (s : State) (d : DieId) (v : Side) :
    (s.setSide d v).queues = s.queues := by cases d <;> rfl
@[simp] theorem State.setSide_waiters (s : State) (d : DieId) (v : Side) :
    (s.setSide d v).waiters = s.waiters := by cases d <;> rfl
@[simp] theorem State.setSide_expiring (s : State) (d : DieId) (v : Side) :
    (s.setSide d v).expiring = s.expiring := by cases d <;> rfl
@[simp] theorem State.setSide_gateDrops (s : State) (d : DieId) (v : Side) :
    (s.setSide d v).gateDrops = s.gateDrops := by cases d <;> rfl
@[simp] theorem State.setSide_drainFrom (s : State) (d : DieId) (v : Side) :
    (s.setSide d v).drainFrom = s.drainFrom := by cases d <;> rfl
@[simp] theorem State.setSide_arbs (s : State) (d : DieId) (v : Side) :
    (s.setSide d v).arbs = s.arbs := by cases d <;> rfl
@[simp] theorem State.setSide_unitTmo (s : State) (d : DieId) (v : Side) :
    (s.setSide d v).unitTmo = s.unitTmo := by cases d <;> rfl
@[simp] theorem State.setSide_tmoPending (s : State) (d : DieId) (v : Side) :
    (s.setSide d v).tmoPending = s.tmoPending := by cases d <;> rfl
@[simp] theorem State.setSide_nodes (s : State) (d : DieId) (v : Side) :
    (s.setSide d v).nodes = s.nodes := by cases d <;> rfl
@[simp] theorem State.setSide_radios (s : State) (d : DieId) (v : Side) :
    (s.setSide d v).radios = s.radios := by cases d <;> rfl
@[simp] theorem State.setSide_plcs (s : State) (d : DieId) (v : Side) :
    (s.setSide d v).plcs = s.plcs := by cases d <;> rfl
@[simp] theorem State.setSide_chains (s : State) (d : DieId) (v : Side) :
    (s.setSide d v).chains = s.chains := by cases d <;> rfl
@[simp] theorem State.setSide_eths (s : State) (d : DieId) (v : Side) :
    (s.setSide d v).eths = s.eths := by cases d <;> rfl
@[simp] theorem State.setSide_frameCounter (s : State) (d : DieId) (v : Side) :
    (s.setSide d v).frameCounter = s.frameCounter := by cases d <;> rfl
@[simp] theorem State.setSide_counterSaved (s : State) (d : DieId) (v : Side) :
    (s.setSide d v).counterSaved = s.counterSaved := by cases d <;> rfl
@[simp] theorem State.setSide_link (s : State) (d : DieId) (v : Side) :
    (s.setSide d v).link = s.link := by cases d <;> rfl
@[simp] theorem State.setSide_keys (s : State) (d : DieId) (v : Side) :
    (s.setSide d v).keys = s.keys := by cases d <;> rfl
@[simp] theorem State.setSide_segUse (s : State) (d : DieId) (v : Side) :
    (s.setSide d v).segUse = s.segUse := by cases d <;> rfl
@[simp] theorem State.setSide_segNew (s : State) (d : DieId) (v : Side) :
    (s.setSide d v).segNew = s.segNew := by cases d <;> rfl
@[simp] theorem State.setSide_inputs (s : State) (d : DieId) (v : Side) :
    (s.setSide d v).inputs = s.inputs := by cases d <;> rfl
@[simp] theorem State.setSide_meter (s : State) (d : DieId) (v : Side) :
    (s.setSide d v).meter = s.meter := by cases d <;> rfl
@[simp] theorem State.setSide_theft (s : State) (d : DieId) (v : Side) :
    (s.setSide d v).theft = s.theft := by cases d <;> rfl
@[simp] theorem State.setSide_balanceFrom (s : State) (d : DieId) (v : Side) :
    (s.setSide d v).balanceFrom = s.balanceFrom := by cases d <;> rfl
@[simp] theorem State.setSide_balanceOver (s : State) (d : DieId) (v : Side) :
    (s.setSide d v).balanceOver = s.balanceOver := by cases d <;> rfl
@[simp] theorem State.setSide_balanceWithin (s : State) (d : DieId) (v : Side) :
    (s.setSide d v).balanceWithin = s.balanceWithin := by cases d <;> rfl
@[simp] theorem State.setSide_journal (s : State) (d : DieId) (v : Side) :
    (s.setSide d v).journal = s.journal := by cases d <;> rfl
@[simp] theorem State.setSide_mirrors (s : State) (d : DieId) (v : Side) :
    (s.setSide d v).mirrors = s.mirrors := by cases d <;> rfl
@[simp] theorem State.setSide_mirrorCount (s : State) (d : DieId) (v : Side) :
    (s.setSide d v).mirrorCount = s.mirrorCount := by cases d <;> rfl
@[simp] theorem State.setSide_twin (s : State) (d : DieId) (v : Side) :
    (s.setSide d v).twin = s.twin := by cases d <;> rfl
@[simp] theorem State.setSide_replies (s : State) (d : DieId) (v : Side) :
    (s.setSide d v).replies = s.replies := by cases d <;> rfl
@[simp] theorem State.setSide_sessions (s : State) (d : DieId) (v : Side) :
    (s.setSide d v).sessions = s.sessions := by cases d <;> rfl
@[simp] theorem State.setSide_remembered (s : State) (d : DieId) (v : Side) :
    (s.setSide d v).remembered = s.remembered := by cases d <;> rfl
@[simp] theorem State.setSide_progress (s : State) (d : DieId) (v : Side) :
    (s.setSide d v).progress = s.progress := by cases d <;> rfl
@[simp] theorem State.setSide_pointers (s : State) (d : DieId) (v : Side) :
    (s.setSide d v).pointers = s.pointers := by cases d <;> rfl
@[simp] theorem State.setSide_company (s : State) (d : DieId) (v : Side) :
    (s.setSide d v).company = s.company := by cases d <;> rfl
@[simp] theorem State.setSide_directory (s : State) (d : DieId) (v : Side) :
    (s.setSide d v).directory = s.directory := by cases d <;> rfl
@[simp] theorem State.setSide_committing (s : State) (d : DieId) (v : Side) :
    (s.setSide d v).committing = s.committing := by cases d <;> rfl
@[simp] theorem State.setSide_activation (s : State) (d : DieId) (v : Side) :
    (s.setSide d v).activation = s.activation := by cases d <;> rfl
@[simp] theorem State.setSide_campaign (s : State) (d : DieId) (v : Side) :
    (s.setSide d v).campaign = s.campaign := by cases d <;> rfl
@[simp] theorem State.setSide_continuity (s : State) (d : DieId) (v : Side) :
    (s.setSide d v).continuity = s.continuity := by cases d <;> rfl
@[simp] theorem State.setSide_tests (s : State) (d : DieId) (v : Side) :
    (s.setSide d v).tests = s.tests := by cases d <;> rfl
@[simp] theorem State.setSide_power (s : State) (d : DieId) (v : Side) :
    (s.setSide d v).power = s.power := by cases d <;> rfl
@[simp] theorem State.setSide_tap (s : State) (d : DieId) (v : Side) :
    (s.setSide d v).tap = s.tap := by cases d <;> rfl

/-! ### Reads after writes -/

@[simp] theorem State.get_set_same (s : State) (f : Fld) (v : Nat) : (s.set f v).get f = v % f.size :=
  Tbl.get_put_same _ _ _ _

theorem State.get_set_other (s : State) {f g : Fld} (v : Nat) (h : g.key ≠ f.key) :
    (s.set f v).get g = s.get g := Tbl.get_put_other _ _ _ h

theorem State.get_set (s : State) (f g : Fld) (v : Nat) :
    (s.set f v).get g = if g.key = f.key then v % f.size else s.get g := Tbl.get_put _ _ _ _ _

@[simp] theorem State.obj_setObj_same (s : State) (i j v : Nat) : (s.setObj i j v).obj i j = v :=
  Tbl.get_put_same _ _ _ _

theorem State.obj_setObj_other (s : State) {i j k l : Nat} (v : Nat) (h : objKey k l ≠ objKey i j) :
    (s.setObj i j v).obj k l = s.obj k l := Tbl.get_put_other _ _ _ h

@[simp] theorem State.oct_setOct_same (s : State) (i j : Nat) (v : List Byte) : (s.setOct i j v).oct i j = v :=
  Tbl.get_put_same _ _ _ _

@[simp] theorem State.obj_set (s : State) (f : Fld) (v i j : Nat) : (s.set f v).obj i j = s.obj i j := rfl
@[simp] theorem State.oct_set (s : State) (f : Fld) (v i j : Nat) : (s.set f v).oct i j = s.oct i j := rfl
@[simp] theorem State.get_setObj (s : State) (f : Fld) (i j v : Nat) : (s.setObj i j v).get f = s.get f := rfl
@[simp] theorem State.get_setOct (s : State) (f : Fld) (i j : Nat) (v : List Byte) :
    (s.setOct i j v).get f = s.get f := rfl
@[simp] theorem State.get_emit (s : State) (f : Fld) (o : Out) : (s.emit o).get f = s.get f := rfl
@[simp] theorem State.get_emits (s : State) (f : Fld) (l : List Out) : (s.emits l).get f = s.get f := rfl
@[simp] theorem State.get_draw (s : State) (f : Fld) : s.draw.get f = s.get f := rfl
@[simp] theorem State.get_post (s : State) (f : Fld) (p : Plane) (k c : Nat) (b : List Byte) :
    (s.post p k c b).get f = s.get f := rfl
@[simp] theorem State.get_setDie (s : State) (f : Fld) (d : DieId) (v : Die) :
    (s.setDie d v).get f = s.get f := by cases d <;> rfl
@[simp] theorem State.get_setSide (s : State) (f : Fld) (d : DieId) (v : Side) :
    (s.setSide d v).get f = s.get f := by cases d <;> rfl

@[simp] theorem State.die_set (s : State) (f : Fld) (v : Nat) (d : DieId) : (s.set f v).die d = s.die d := by
  cases d <;> rfl
@[simp] theorem State.side_set (s : State) (f : Fld) (v : Nat) (d : DieId) : (s.set f v).side d = s.side d := by
  cases d <;> rfl
@[simp] theorem State.die_setDie_same (s : State) (d : DieId) (v : Die) : (s.setDie d v).die d = v := by
  cases d <;> rfl
@[simp] theorem State.side_setSide_same (s : State) (d : DieId) (v : Side) : (s.setSide d v).side d = v := by
  cases d <;> rfl
theorem State.die_setDie_other (s : State) {d e : DieId} (v : Die) (h : e ≠ d) :
    (s.setDie d v).die e = s.die e := by cases d <;> cases e <;> simp_all <;> rfl
theorem State.side_setSide_other (s : State) {d e : DieId} (v : Side) (h : e ≠ d) :
    (s.setSide d v).side e = s.side e := by cases d <;> cases e <;> simp_all <;> rfl

@[simp] theorem State.node_setNode_same (s : State) (n : Nat) (v : Node) : (s.setNode n v).node n = v :=
  Tbl.get_put_same _ _ _ _
@[simp] theorem State.radio_setRadio_same (s : State) (n : Nat) (v : RadioState) : (s.setRadio n v).radio n = v :=
  Tbl.get_put_same _ _ _ _
@[simp] theorem State.plc_setPlc_same (s : State) (n : Nat) (v : PlcState) : (s.setPlc n v).plc n = v :=
  Tbl.get_put_same _ _ _ _
@[simp] theorem State.chain_setChain_same (s : State) (n : Nat) (v : ChainState) : (s.setChain n v).chain n = v :=
  Tbl.get_put_same _ _ _ _
@[simp] theorem State.eth_setEth_same (s : State) (n : Nat) (v : EthState) : (s.setEth n v).eth n = v :=
  Tbl.get_put_same _ _ _ _
@[simp] theorem State.queue_setQueue_same (s : State) (n : Nat) (v : Queue) : (s.setQueue n v).queue n = v :=
  Tbl.get_put_same _ _ _ _

end Sys2Proof.Machine
end

