-- ==== Sys2Proof/Laws/Store.lean ====
section
/-! SUPPORT. Reading a die's records after a write of one of them, and the journal operations, which change the
journal alone. -/

namespace Sys2Proof.Machine

theorem Die.hotOf_setHot (d : Die) (e f : Nat) (h : Hot) (n : Nat) :
    (d.setHot e h n).hotOf f = if f = e then h else d.hotOf f := by
  unfold Die.setHot
  split
  · split
    · next h1 h2 => rw [h2]; exact h1.symm
    · rfl
  · simp only [Die.hotOf, Tbl.get_put]

theorem Die.countsOf_setHot (d : Die) (e f : Nat) (h : Hot) (n : Nat) :
    (d.setHot e h n).countsOf f = d.countsOf f := by
  unfold Die.setHot; split <;> rfl

theorem Die.coldOf_setHot (d : Die) (e f : Nat) (h : Hot) (n : Nat) :
    (d.setHot e h n).coldOf f = d.coldOf f := by
  unfold Die.setHot; split <;> rfl

theorem Die.countsOf_setCounts (d : Die) (e f : Nat) (v : Counts) :
    (d.setCounts e v).countsOf f = if f = e then v else d.countsOf f := by
  simp only [Die.setCounts, Die.countsOf, Tbl.get_put]

@[simp] theorem Die.hotOf_setCounts (d : Die) (e f : Nat) (v : Counts) :
    (d.setCounts e v).hotOf f = d.hotOf f := rfl

theorem Die.statsOf_setStats (d : Die) (e f : Nat) (v : Stats) :
    (d.setStats e v).statsOf f = if f = e then v else d.statsOf f := by
  simp only [Die.setStats, Die.statsOf, Tbl.get_put]

theorem Die.statsOf_visit (d : Die) (e f n period : Nat) :
    (d.visit e n period).statsOf f =
      if f = e then visitStats (d.statsOf e) (d.imageOf e) (d.countsOf e) (d.coldOf e).nominal period n
      else d.statsOf f := by
  unfold Die.visit; rw [Die.statsOf_setStats]

/-- R120: a fault word is written to its endpoint alone. -/
theorem Die.hotOf_writeFault (d : Die) (e f w n : Nat) :
    (d.writeFault e w n).hotOf f = if f = e then { d.hotOf e with fault := w } else d.hotOf f := by
  unfold Die.writeFault
  extract_lets h d' c
  split
  · rw [Die.hotOf_setCounts, Die.hotOf_setHot]
  · rw [Die.hotOf_setHot]

theorem Die.countsOf_writeFault (d : Die) (e f w n : Nat) (h : f ≠ e) :
    (d.writeFault e w n).countsOf f = d.countsOf f := by
  unfold Die.writeFault
  extract_lets h' d' c
  split
  · rw [Die.countsOf_setCounts, if_neg h, Die.countsOf_setHot]
  · rw [Die.countsOf_setHot]

/-- R120: an expiry sets no_report of its endpoint alone. -/
theorem Die.hotOf_expire (d : Die) (e f n : Nat) :
    (d.expire e n).hotOf f =
      if f = e then { d.hotOf e with fault := setBit (d.hotOf e).fault faultNoReport } else d.hotOf f := by
  unfold Die.expire
  extract_lets c d1 d2
  exact Die.hotOf_writeFault d e f _ n

/-- R120: an expiry increments missed. -/
theorem Die.missed_expire (d : Die) (e n : Nat) :
    ((d.expire e n).countsOf e).missed = min ((d.countsOf e).missed + 1) 0xFFFF := by
  unfold Die.expire
  extract_lets c d1 d2
  show ((d1.setCounts e _).countsOf e).missed = _
  rw [Die.countsOf_setCounts, if_pos rfl]

theorem Die.countsOf_expire (d : Die) (e f n : Nat) (h : f ≠ e) :
    (d.expire e n).countsOf f = d.countsOf f := by
  unfold Die.expire
  extract_lets c d1 d2
  show (d1.setCounts e _).countsOf f = _
  rw [Die.countsOf_setCounts, if_neg h, Die.countsOf_writeFault _ _ _ _ _ h]

theorem setBit_zero_bitOf (w : Nat) : bitOf (setBit w 0) 0 = 1 := by
  unfold setBit bitOf; split <;> omega

/-- R448: a packet changes the journal alone. -/
theorem State.journalPacket_journal (s : State) (type : Nat) (body : List (BitVec 64)) (content : Rec) :
    ∃ j, s.journalPacket type body content = { s with journal := j } := by
  unfold State.journalPacket
  split
  · exact ⟨s.journal, rfl⟩
  · split
    · exact ⟨s.journal, rfl⟩
    · exact ⟨_, rfl⟩

/-- R451: the packets of an input change the journal alone. -/
theorem State.journalData_journal : ∀ (fuel : Nat) (s : State) (n : Nat) (ins : List DataIn),
    ∃ j, s.journalData fuel n ins = { s with journal := j }
  | 0, s, _, _ => ⟨s.journal, rfl⟩
  | fuel + 1, s, n, ins => by
    unfold State.journalData
    split
    · exact ⟨s.journal, rfl⟩
    · extract_lets k s'
      obtain ⟨j, hj⟩ : ∃ j, s' = { s with journal := j } := State.journalPacket_journal _ _ _ _
      rw [hj]
      obtain ⟨j', hj'⟩ := State.journalData_journal fuel { s with journal := j } n (ins.drop 62)
      exact ⟨j', hj'⟩

end Sys2Proof.Machine
end

