-- ==== Sys2Proof/Laws/Sweep.lean ====
section
/-! SUPPORT. What the evaluation of endpoints can change on a die: the hot records, the emission and exact
bitmaps, the daylight entries, the latches, the pre-lights on their way, the digests, the tally, the units'
contributions and the next aggregates, and nothing else. -/

namespace Sys2Proof.Machine

/-- A die without what the evaluation of endpoints writes. -/
def Die.rest (d : Die) : Die :=
  { d with
    hot := [], dirty := [], daylight := [], preLights := [], heldLights := [], flight := [],
    tally := Tally.zero, digest := [], emission := [], exactEmission := [], exact := [], groups := [],
    aggNext := none, contrib := [] }

/-- From `a` to `b` only what the evaluation of endpoints writes has changed. -/
def Die.Evaluated (a b : Die) : Prop := b.rest = a.rest

theorem Die.Evaluated.refl (d : Die) : Die.Evaluated d d := rfl

theorem Die.Evaluated.trans {a b c : Die} (h : Die.Evaluated a b) (g : Die.Evaluated b c) :
    Die.Evaluated a c := Eq.trans g h

theorem Die.Evaluated.foldl {α : Type} {f : Die → α → Die} (h : ∀ d x, Die.Evaluated d (f d x)) :
    ∀ (l : List α) (d : Die), Die.Evaluated d (l.foldl f d)
  | [], d => .refl d
  | x :: t, d => (h d x).trans (Die.Evaluated.foldl h t (f d x))

theorem Die.setHot_evaluated (d : Die) (e : Nat) (h : Hot) (n : Nat) : Die.Evaluated d (d.setHot e h n) := by
  unfold Die.setHot; split <;> rfl

theorem Die.digestItem_evaluated (d : Die) (u : Nat) (bs : List Byte) :
    Die.Evaluated d (d.digestItem u bs) := rfl

theorem Die.fsReceive_evaluated (d : Die) (m : PreLight) : Die.Evaluated d (d.fsReceive m) := by
  unfold Die.fsReceive; split
  · rfl
  · split <;> rfl

theorem Die.fsDeliver_evaluated (d : Die) (m : PreLight) : Die.Evaluated d (d.fsDeliver m) := by
  unfold Die.fsDeliver; split
  · rfl
  · exact d.fsReceive_evaluated m

theorem Die.fsMessage_evaluated (d : Die) (src link lvl n : Nat) :
    Die.Evaluated d (d.fsMessage src link lvl n) := by
  unfold Die.fsMessage
  refine Die.Evaluated.trans ?_ (Die.digestItem_evaluated _ _ _)
  dsimp only
  split
  · exact Die.Evaluated.trans (b := { d with tally := { d.tally with sent := d.tally.sent + 1 } }) rfl
      (Die.fsDeliver_evaluated _ _)
  · rfl

theorem Die.fsSend_evaluated (d : Die) (e n : Nat) : Die.Evaluated d (d.fsSend e n) := by
  unfold Die.fsSend
  dsimp only
  split
  · exact Die.Evaluated.foldl (fun d x => Die.fsMessage_evaluated d e x _ n) _ _
  · exact .refl d

theorem Die.Evaluated.ite {a b c : Die} {p : Prop} [Decidable p] (h : Die.Evaluated a b)
    (g : Die.Evaluated a c) : Die.Evaluated a (if p then b else c) := by
  split
  · exact h
  · exact g

theorem Die.evaluate_evaluated (d : Die) (e : Nat) (pass fresh changed : Bool) (n : Nat) :
    Die.Evaluated d (d.evaluate e pass fresh changed n) := by
  unfold Die.evaluate
  extract_lets h0 c u p here rise hold pres fsl fs dl dr h1 h2 exact' emit h d1 src d2 d3
  have i1 : Die.Evaluated d d1 := Die.setHot_evaluated _ _ _ _
  have i2 : Die.Evaluated d d2 := Die.Evaluated.ite (i1.trans rfl) i1
  have i3 : Die.Evaluated d d3 := Die.Evaluated.ite (i2.trans (Die.digestItem_evaluated _ _ _)) i2
  exact Die.Evaluated.ite (i3.trans (Die.fsSend_evaluated _ _ _)) i3

theorem Die.evalGroup_evaluated (d : Die) (e n : Nat) : Die.Evaluated d (d.evalGroup e n) := by
  unfold Die.evalGroup
  extract_lets h v h'
  exact Die.Evaluated.ite (.refl d)
    (Die.Evaluated.trans (Die.setHot_evaluated _ _ _ _) (Die.digestItem_evaluated _ _ _))

theorem Die.passSlot_evaluated (fresh changed : List Nat) (n : Nat) (d : Die) (e : Nat) :
    Die.Evaluated d (Die.passSlot fresh changed n d e) := by
  unfold Die.passSlot
  split
  · exact d.evaluate_evaluated _ _ _ _ _
  · split
    · exact Die.evalGroup_evaluated _ _ _
    · exact .refl d

theorem Die.daylightEntry_evaluated (gain step : Nat) (d : Die) (key : Nat) :
    Die.Evaluated d (Die.daylightEntry gain step d key) := by
  unfold Die.daylightEntry
  dsimp only
  split
  · exact .refl d
  · split
    · exact .refl d
    · exact Die.Evaluated.trans rfl (Die.digestItem_evaluated _ _ _)

theorem Die.foldOne_evaluated (n : Nat) (x : Die × List Nat) (m : PreLight) :
    Die.Evaluated x.1 (Die.foldOne n x m).1 := by
  obtain ⟨d, fresh⟩ := x
  unfold Die.foldOne
  dsimp -zeta only
  extract_lets src d2 h
  have i : Die.Evaluated d d2 := Die.Evaluated.ite (.refl d) rfl
  split
  · exact i.trans (Die.setHot_evaluated _ _ _ _)
  · exact i

theorem Die.foldOnes_evaluated (n : Nat) :
    ∀ (l : List PreLight) (x : Die × List Nat), Die.Evaluated x.1 (l.foldl (Die.foldOne n) x).1
  | [], x => .refl x.1
  | m :: t, x => (Die.foldOne_evaluated n x m).trans (Die.foldOnes_evaluated n t (Die.foldOne n x m))

theorem Die.fold_evaluated (d : Die) (live : Nat → Bool) (n : Nat) : Die.Evaluated d (d.fold live n).1 := by
  unfold Die.fold
  extract_lets due d1 now ready d2
  have i : Die.Evaluated d d1 := Die.Evaluated.trans rfl (Die.Evaluated.foldl Die.fsDeliver_evaluated _ _)
  exact (i.trans (b := d1) (c := d2) rfl).trans (Die.foldOnes_evaluated n ready (d2, []))

theorem Die.contribute_evaluated (d : Die) (live : Nat → Bool) (keep : Bool) (r : Option (Tbl Agg)) :
    Die.Evaluated d { (d.clearLatches live).contribute live keep with aggNext := r } := rfl

/-- R155: the pass changes only what the evaluation of endpoints writes. -/
theorem Die.passOf_evaluated (d : Die) (live : Nat → Bool) (changed : List Nat) (n : Nat) (late : Bool) :
    Die.Evaluated d (d.passOf live changed n late) := by
  unfold Die.passOf
  extract_lets d1
  have i1 : Die.Evaluated d d1 := Die.Evaluated.foldl (Die.daylightEntry_evaluated _ _) _ _
  have i2 := i1.trans (Die.fold_evaluated d1 live n)
  clear_value d1
  generalize d1.fold live n = x at i2 ⊢
  obtain ⟨d2, fresh⟩ := x
  dsimp -zeta only
  extract_lets d3
  have i3 : Die.Evaluated d d3 := i2.trans (Die.Evaluated.foldl (Die.passSlot_evaluated fresh changed n) _ _)
  exact i3.trans (Die.contribute_evaluated _ _ _ _)

/-- R182: an event evaluation changes only what the evaluation of endpoints writes. -/
theorem Die.runEvent_evaluated (d : Die) (x : UnitEvent) (n : Nat) : Die.Evaluated d (d.runEvent x n) := by
  unfold Die.runEvent
  split
  · exact Die.Evaluated.foldl (fun d e => d.evaluate_evaluated e _ _ _ n) _ _
  · split
    · exact Die.fsSend_evaluated _ _ _
    · exact .refl _
  · exact Die.Evaluated.foldl (fun d e => d.evaluate_evaluated e _ _ _ n) _ _

end Sys2Proof.Machine
end

