-- ==== Sys2Proof/WellFormed.lean ====
section
/-! DEFINITION. The operands that can reach the module: what the widths of Syntax leave open of the forms
that the rules give. -/

namespace Sys2Proof

/-- R407: what a window brings: three voltage inputs, eighteen current inputs. -/
def meterForm (m : MeterIn) : Bool := decide (m.volts.length = 3 ∧ m.amps.length = 18 ∧ m.overrange < 2 ^ 22)

/-- R301: a grant: its use, and a remainder below the period of its exponent. -/
def grantForm (g : NodeGrant) : Bool := decide (g.use_ ≤ 3 ∧ g.r < 2 ^ g.m)

/-- R287: a PSDU, whose length the 11 bits of the PHR give. -/
def frameForm (f : RxFrame) : Bool := decide (f.psdu.length < 2048)

/-- R378: the words of a return are its bits in 24s; a silent return has none. -/
def returnForm (r : ChainReturn) : Bool :=
  decide (r.words.length = r.bits / 24 ∧ (r.silent = true → r.bits = 0))

/-- R244: a packet of 1 to 64 words. -/
def packetForm (ws : List (BitVec 64)) : Bool := decide (1 ≤ ws.length ∧ ws.length ≤ 64)

def transferForm : Option Transfer → Bool
  | none => true
  | some t => packetForm t.words

/-- R276: an arbiter has the index. -/
def arbiter (a : Nat) : Bool := decide (a ≤ 40 ∨ (64 ≤ a ∧ a ≤ 69) ∨ (72 ≤ a ∧ a ≤ 87))

/-- R46, R261: the instances of a level on one die: 288 units, 32 clusters, 4 regions, else one. -/
def instances (level : Nat) : Nat :=
  if level = 0 then 288 else if level = 1 then 32 else if level = 2 then 4 else 1

/-- R83, R301, R346: what a boundary brings. -/
def boundaryForm (b : BoundaryIn) : Bool :=
  meterForm b.meter && decide (b.skews.length = 3) && b.grants.all (fun g => g.grants.all grantForm) &&
    b.plans.all fun p => decide (p.2.2.length = 256)

/-- The operands of a command are in form. -/
def Instr.wellFormed : Instr → Bool
  | .crossingDetected _ _ _ _ _ => true
  | .crossingTimeout => true
  | .cycleBoundary b => boundaryForm b
  | .optimeTick => true
  | .rtcTick => true
  | .rtcLoRead _ => true
  | .rtcHiRead _ => true
  | .rtcSetHiWrite _ _ => true
  | .rtcSetCommit _ _ => true
  | .rtcSetApply => true
  | .rtcSetFromTai => true
  | .rtcCompensation celsius => decide (-128 ≤ celsius ∧ celsius ≤ 127)
  | .dataPlaneInput => true
  | .reportPeriodExpiry _ => true
  | .writeBehind _ _ => true
  | .backgroundStatisticsPass _ => true
  | .scrubPass _ _ _ _ _ => true
  | .mramUncorrectable _ _ _ _ _ => true
  | .unitFailure _ _ _ => true
  | .remapSnapshotInstall _ => true
  | .remapCommand _ _ => true
  | .followSpotReceive _ => true
  | .eventEvaluation _ _ => true
  | .eventCutoff => true
  | .sweepOverrun _ => true
  | .emissionHandoff _ _ => true
  | .aggregateDeadline _ _ => true
  | .balanceCheck => true
  | .bankSwapRequest _ _ _ => true
  | .bankSyncEnd => true
  | .goCommand _ _ _ => true
  | .blackoutCommand _ _ _ => true
  | .queuePacketSend _ x => packetForm x.words
  | .creditReturn _ _ => true
  | .levelTimeout _ level inst => decide (inst.val < instances level.val)
  | .queueFlush _ _ => true
  | .blockDisable _ => true
  | .drained _ => true
  | .drainTimeout _ => true
  | .blockEnable _ _ => true
  | .arbWindowBoundary _ a _ => arbiter a.val
  | .arbGrant _ a _ requests _ t => arbiter a.val && decide (requests < 2 ^ 16) && transferForm t
  | .arbPreempt _ a _ _ => arbiter a.val
  | .arbEmergency _ a _ t => arbiter a.val && transferForm t
  | .arbCutoff _ a _ => arbiter a.val
  | .arbWithdraw _ a _ _ requests _ t => arbiter a.val && decide (requests < 2 ^ 16) && transferForm t
  | .timeoutWrite _ _ _ _ => true
  | .radioSlotStart _ _ => true
  | .radioBadFrame _ f => frameForm f
  | .report _ f => frameForm f
  | .acknowledgement _ f => frameForm f
  | .grantRequest _ f gs => frameForm f && gs.all grantForm
  | .repairRequest _ f => frameForm f
  | .rehomeRequest _ f gs => frameForm f && gs.all grantForm
  | .joinRequest _ f _ gs => frameForm f && gs.all grantForm
  | .ackMissing _ => true
  | .slotTableSwap _ _ => true
  | .slotDataAccess _ _ _ => true
  | .radioLeave _ => true
  | .radioLeaveEnd _ => true
  | .radioFailure _ => true
  | .nodeLeave n => decide (n ≠ 0)
  | .plcWindowStart _ _ => true
  | .plcReport _ f => frameForm f
  | .plcGrantRequest _ f gs => frameForm f && gs.all grantForm
  | .plcJoinRequest _ f _ gs => frameForm f && gs.all grantForm
  | .plcReplyMissing _ n => decide (n ≠ 0)
  | .plcLeave _ => true
  | .plcLineFault _ => true
  | .planDataRead _ _ => true
  | .chainFrameStart _ => true
  | .chainReturnEnd _ r => returnForm r
  | .chainLatch _ => true
  | .latchMissing _ => true
  | .chainCountRequest _ => true
  | .meterResultsReady => true
  | .historyIntervalEnd => true
  | .pulseOutput _ => true
  | .harmonicRequest _ _ => true
  | .harmonicDone _ _ amps => decide (amps.length = 30)
  | .calibrationRequest _ _ => true
  | .calibrationAuto => true
  | .theftSecond _ _ _ => true
  | .theftMinute => true
  | .theftLogClear _ _ => true
  | .resultSelect _ _ => true
  | .totalSelect _ _ => true
  | .healthDeadline _ _ _ => true
  | .dataWriteRecord => true
  | .managementWriteRecord => true
  | .cueFixRecord => true
  | .scheduleOccurrenceRecord => true
  | .meteringRecord => true
  | .commitTotalsRecord => true
  | .commitClose => true
  | .reservedRecord _ => true
  | .epochMark e => decide (16 ≤ e.val ∧ e.val ≤ 1016)
  | .journalAck => true
  | .mirrorWrite => true
  | .closingWaitExpiry _ => true
  | .unitResyncInstall _ _ => true
  | .stageRelease cause => decide (1 ≤ cause.val)
  | .resyncRequest _ => true
  | .resyncCopyDone _ => true
  | .resyncRestart _ => true
  | .handOverCommand _ _ => true
  | .selfTestCommand _ _ => true
  | .linkPacketError _ _ => true
  | .laneFailure _ => true
  | .linkDown => true
  | .linkRetrain _ => true
  | .ethFrameReceive _ _ _ _ => true
  | .pauseRefresh _ _ => true
  | .pauseReceive _ _ => true
  | .pauseExpiry _ => true
  | .ethFrameTransmit _ handed => handed.all fun x => decide (14 ≤ x.octets.length ∧ x.octets.length ≤ 1514)
  | .txtsRead _ _ => true
  | .linkFailure _ _ => true
  | .failoverForce => true
  | .failback => true
  | .gclChangeRequest _ => true
  | .gclChange _ => true
  | .gclEntryEnd _ => true
  | .mdioCommand _ _ _ => true
  | .mdioDone _ _ => true
  | .ptpOffsetWrite _ => true
  | .ptpHoldoverExpiry => true
  | .acceptPendingStep _ _ => true
  | .sessionOpen _ _ => true
  | .sessionIdleTimeout => true
  | .read _ _ => true
  | .write _ _ => true
  | .epRead _ _ => true
  | .epWrite _ _ => true
  | .company _ _ => true
  | .commitPromptBook _ _ _ => true
  | .promptCommitEnd => true
  | .erasePromptBook _ _ _ => true
  | .join _ _ => true
  | .decommission _ _ _ => true
  | .companyCommandSend _ _ _ => true
  | .clearSenders _ _ => true
  | .hostPortLock _ _ => true
  | .hostRead _ _ n _ bad => bad.all fun k => decide (k.val ≤ n.val)
  | .hostWrite _ data _ => decide (1 ≤ data.length ∧ data.length ≤ 64)
  | .hostAbort _ _ n data => decide (data.length ≤ n.val)
  | .stallCap _ _ _ n data _ => decide (data.length ≤ n.val)
  | .lowWordRead _ _ => true
  | .highWordRead _ _ => true
  | .highWordWrite _ _ _ => true
  | .lowWordWrite _ _ _ => true
  | .readClear _ _ => true
  | .registerWrite _ _ _ => true
  | .msgDoorbell _ _ => true
  | .msgResponse => true
  | .interruptPending _ => true
  | .icuClaim _ _ _ => true
  | .icuComplete _ _ _ _ => true
  | .icuPendSet _ _ _ _ => true
  | .icuPendClear _ _ _ _ => true
  | .keyInvalidate _ => true
  | .tamperSample _ _ => true
  | .keyRemask => true
  | .keyImport _ _ _ => true
  | .generateManagementBranch _ _ => true
  | .managementCertificate _ _ _ => true
  | .attestationRequest _ _ _ => true
  | .attestationReady => true
  | .segmentKeyChange _ _ => true
  | .segmentKeyPeriod => true
  | .segmentKeyUse => true
  | .segmentKeyRetire => true
  | .renewSegmentBranch _ _ => true
  | .tamperAcknowledge _ _ _ => true
  | .stageBegin _ _ _ => true
  | .stageBlock _ _ _ => true
  | .stageEnd _ _ => true
  | .endorsement _ _ _ => true
  | .activate _ _ _ => true
  | .probationExpiry => true
  | .rejectImage _ _ => true
  | .acceptImage _ _ => true
  | .nodeCampaign _ _ _ => true
  | .campaignDone => true
  | .nodeImageActivate _ _ _ => true
  | .dieBoot _ _ _ => true
  | .callboardPost => true
  | .clearCallboard _ _ _ => true
  | .testRequest _ _ _ => true
  | .dieFullSelfTest _ => true
  | .spareUnitTest _ _ _ => true
  | .mramScrubTest _ _ _ => true
  | .radioCalibration _ _ => true
  | .plcLineMeasurement _ _ => true
  | .chainCountTest _ => true
  | .offsetCalibrationTest _ => true
  | .cableDiagnostic _ _ => true
  | .falsiaLaneTest _ => true
  | .phyLoopback _ _ => true
  | .testEnd _ => true
  | .testPeriodic _ _ => true
  | .offlineMode _ _ _ => true
  | .tapRelease => true
  | .supplyGood _ => true
  | .powerFail m => meterForm m
  | .moduleReset _ _ _ => true
  | .counterLoad _ => true
  | .startSelfTest _ _ => true
  | .stageChoice => true
  | .hotRestore => true
  | .restart _ _ _ => true
  | .backupSwitch _ _ => true
  | .standbyReturn _ _ => true
  | .ghostLightReset => true
  | .vbatMeasure _ _ => true
  | .chargeFault => true
  | .vinMonitor _ => true
  | .lockstepMismatch _ => true
  | .watchdogExpiry _ => true
  | .crossbarFault _ => true
  | .continuityMessage => true
  | .ethLinkUp _ _ => true
  | .sessionPeerClose _ => true
  | .companyResponse _ _ => true
  | .ghostLightLeavesReset _ _ => true
  | .voltageInputPresence _ _ => true
  | .announceReceiptTimeout _ => true
  | .tapClockEdge _ _ _ => true

end Sys2Proof
end

