-- ==== Sys2Proof/Tests/Slice0.lean ====
section
/-! SUPPORT. Tests: an ill-formed term for each check of WellFormed, small states that meet the hypotheses of
every statement clause by clause, and what one command does in them. -/

namespace Sys2Proof.Machine

set_option Elab.async false

/-- The command answers a next state, of which something holds. -/
def after (o : Host.Outcome State Fault Refusal) (p : State → Bool) : Bool :=
  match o with
  | .next t => p t
  | .fault _ => false
  | .refused _ => false

/-- A powered module with every register and object at 0 and both dies as delivered. -/
def quiet : State :=
  { State.reset with
    regs := [], objs := [], octs := [],
    power := { Power.off with on := true, ghost := true, loaded := true, booted := [true, true] } }

/-- Of the registers only those named differ. -/
def regsBut (fs : List Fld) (s t : State) : Bool :=
  s.regs.all (fun x => fs.any (fun f => f.key == x.1) || Tbl.get 0 t.regs x.1 == x.2) &&
    t.regs.all (fun x => fs.any (fun f => f.key == x.1) || Tbl.get 0 s.regs x.1 == x.2)

/-- Only the registers named differ, and nothing else. -/
def onlyRegs (fs : List Fld) (s t : State) : Bool := regsBut fs s t && decide ({ t with regs := s.regs } = s)

/-! ## The step -/

theorem witness_step : quiet.pending = [] ∧ Tbl.wf 0 quiet.regs = true ∧
    (match step quiet with
      | .next t => decide (t.now = quiet.now + 1 ∧ t.regs = quiet.regs ∧ t.ptp.integral = quiet.ptp.integral)
      | _ => false) = true ∧
    (match step { quiet with pending := [.keyInvalidate 2, .linkDown] } with
      | .next t => decide (t.pending = [.linkDown] ∧ t.now = quiet.now)
      | _ => false) = true := by decide +kernel

/-- The invariant holds of a state with values in it. -/
theorem witness_inv : Inv quiet ∧ Inv { quiet with regs := [(3, 4), (8, 1)], frameCounter := 4095 + 7, counterSaved := 7 } := by
  refine ⟨⟨by decide +kernel, by decide +kernel, by decide +kernel, ?_⟩,
    by decide +kernel, by decide +kernel, by decide +kernel, ?_⟩ <;> unfold CounterOk <;> decide +kernel

theorem witness_turnsCycle : turnsCycle .linkDown = false ∧
    after (exec .linkDown quiet) (fun t => decide (t.clk.cycle = quiet.clk.cycle ∧ t.pending = quiet.pending ∧ t.out = quiet.out)) =
      true := by decide +kernel

/-! ## Terms out of form, one for each check of WellFormed -/

def wMeter (v a o : Nat) : MeterIn :=
  { volts := List.replicate v (0, 0), amps := List.replicate a (0, 0, 0), neutral := 0, overrange := o, offset := none }

theorem test_formMeter : meterForm (wMeter 3 18 (2 ^ 22 - 1)) = true ∧ (Instr.powerFail (wMeter 2 18 0)).wellFormed = false ∧
    (Instr.powerFail (wMeter 3 17 0)).wellFormed = false ∧ (Instr.powerFail (wMeter 3 18 (2 ^ 22))).wellFormed = false := by
  decide +kernel

def wGrant (use_ m r : Nat) : NodeGrant := { k := 0, use_ := use_, m := m, r := r, run := 0 }

def wRx (n : Nat) : RxFrame := { psdu := List.replicate n 0, phyOk := true, offset := none, snr := 0 }

theorem test_formGrants : (Instr.grantRequest 0 (wRx 5) [wGrant 3 6 63]).wellFormed = true ∧
    (Instr.grantRequest 0 (wRx 5) [wGrant 4 6 63]).wellFormed = false ∧
    (Instr.rehomeRequest 0 (wRx 5) [wGrant 3 6 64]).wellFormed = false ∧
    (Instr.plcJoinRequest 0 (wRx 5) 1 [wGrant 3 0 1]).wellFormed = false := by decide +kernel

theorem test_formFrames : (Instr.report 0 (wRx 2047)).wellFormed = true ∧ (Instr.report 0 (wRx 2048)).wellFormed = false ∧
    (Instr.acknowledgement 0 (wRx 2048)).wellFormed = false ∧ (Instr.plcReport 0 (wRx 2048)).wellFormed = false ∧
    (Instr.plcReplyMissing 0 0).wellFormed = false ∧ (Instr.nodeLeave 0).wellFormed = false := by decide +kernel

theorem test_formReturn :
    (Instr.chainReturnEnd 0 { silent := false, preamble := 0, bits := 47, words := [0] }).wellFormed = true ∧
    (Instr.chainReturnEnd 0 { silent := false, preamble := 0, bits := 48, words := [0] }).wellFormed = false ∧
    (Instr.chainReturnEnd 0 { silent := true, preamble := 0, bits := 1, words := [] }).wellFormed = false := by decide +kernel

def wTransfer (n : Nat) : Transfer := { src := 0, dst := 0, ring := 0, words := List.replicate n 0, kind := .other }

theorem test_formRing :
    (Instr.queuePacketSend .a { src := 0, dst := 0, ring := 0, words := [], kind := .other, counts := false }).wellFormed = false ∧
    (Instr.levelTimeout .a 1 31).wellFormed = true ∧ (Instr.levelTimeout .a 1 32).wellFormed = false ∧
    (Instr.levelTimeout .a 0 288).wellFormed = false ∧ (Instr.arbCutoff .a 40 0).wellFormed = true ∧
    (Instr.arbCutoff .a 41 0).wellFormed = false ∧ (Instr.arbCutoff .a 88 0).wellFormed = false ∧
    (Instr.arbGrant .a 0 0 (2 ^ 16) false none).wellFormed = false ∧
    (Instr.arbEmergency .a 0 0 (some (wTransfer 64))).wellFormed = true ∧
    (Instr.arbEmergency .a 0 0 (some (wTransfer 65))).wellFormed = false := by decide +kernel

def wBound (skews : Nat) (plan : Nat) : BoundaryIn :=
  { skews := List.replicate skews none, grants := [], delivered := [], plans := [(0, 1, List.replicate plan 0)], meter := wMeter 3 18 0 }

theorem test_formBoundary : (Instr.cycleBoundary (wBound 3 256)).wellFormed = true ∧
    (Instr.cycleBoundary (wBound 2 256)).wellFormed = false ∧ (Instr.cycleBoundary (wBound 3 255)).wellFormed = false ∧
    (Instr.cycleBoundary { wBound 3 256 with meter := wMeter 3 17 0 }).wellFormed = false ∧
    (Instr.cycleBoundary { wBound 3 256 with
      grants := [{ node := 1, transport := 0, version := 0, grants := [wGrant 4 0 0] }] }).wellFormed = false := by
  decide +kernel

theorem test_formRanges : (Instr.rtcCompensation (-128)).wellFormed = true ∧ (Instr.rtcCompensation 128).wellFormed = false ∧
    (Instr.harmonicDone 0 0 (List.replicate 29 0)).wellFormed = false ∧ (Instr.epochMark 15).wellFormed = false ∧
    (Instr.epochMark 1016).wellFormed = true ∧ (Instr.stageRelease 0).wellFormed = false ∧
    (Instr.hostRead true 0 3 0 [4]).wellFormed = false ∧ (Instr.hostWrite 0 [] 0).wellFormed = false ∧
    (Instr.hostAbort true 0 0 [1]).wellFormed = false ∧ (Instr.stallCap true true 0 1 [1, 2] 0).wellFormed = false ∧
    (Instr.ethFrameTransmit 0 [{ cls := 0, octets := List.replicate 13 0, oneStep := false, stamp := none }]).wellFormed = false := by
  decide +kernel
/-! ## The clock -/

/-- A locked clock whose last crossing was accepted at tick 1,000,000. -/
def wClock : State :=
  { ((((quiet.set CYC_STATUS.v_present 1).set CYC_STATUS.state stLOCKED).set CYC_PERIOD.period
      128000000).set CYC_CTRL.zc_timeout 24).set CYC_CTRL.hyst 16 with
    clk := { ClockState.reset with cycleStart := 1500000, rateAt := 384000000, detected := [1000000], accepted := some 1000000 },
    now := 1750000 }

/-- The crossing between -2 and 0 that lies 1,563 ticks past n, whatever the fixed delay of the filters. -/
theorem wClock_crossingTime (s : State) (n : Nat) (ho : s.getS CYC_ZC_OFFSET.offset = 0) (hk : s.clk.refSkew = 0) :
    s.crossingTime (2 * (Config.filterDelay + n) + 1) (-2) 0 = n + 1563 := by
  simp [State.crossingTime, ho, hk, openQuot, signed]
  omega

theorem witness_glitch : wClock.power.on = true ∧ wClock.detectorOn = true ∧
    wClock.isCrossing (-2) 0 (-20) 300 = true ∧ wClock.clk.detected = [1000000] ∧
    2 * 256 * (wClock.crossingTime (2 * (Config.filterDelay + 1248436) + 1) (-2) 0 - 1000000) <
      wClock.get CYC_PERIOD.period := by
  rw [wClock_crossingTime _ _ (by decide +kernel) (by decide +kernel)]
  decide +kernel

theorem witness_noCrossing : wClock.isCrossing (-2) 0 (-18) 300 = false := by decide +kernel

/-- At the last phase that LOCKED accepts, and one sixteenth beyond it. -/
theorem witness_locked : wClock.isGlitch 1531250 = false ∧ wClock.get CYC_STATUS.state = stLOCKED ∧
    wClock.crossingTime (2 * (Config.filterDelay + 1529687) + 1) (-2) 0 = 1531250 ∧
    378788 ≤ (1531250 : Int) - 1000000 ∧ (1531250 : Int) - 1000000 ≤ 555556 ∧ (wClock.phaseErr 1531250).natAbs = 1024 := by
  refine ⟨by decide +kernel, by decide +kernel, ?_, by decide, by decide, ?_⟩
  · rw [wClock_crossingTime _ _ (by decide +kernel) (by decide +kernel)]; rfl
  · decide +kernel

theorem witness_lockedLate : wClock.isGlitch 1555557 = false ∧
    wClock.crossingTime (2 * (Config.filterDelay + 1553994) + 1) (-2) 0 = 1555557 ∧
    (555556 : Int) < 1555557 - 1000000 := by
  refine ⟨by decide +kernel, ?_, by decide⟩
  rw [wClock_crossingTime _ _ (by decide +kernel) (by decide +kernel)]; rfl

theorem witness_timeout : wClock.clk.accepted = some 1000000 ∧
    wClock.get CYC_CTRL.zc_timeout * wClock.get CYC_PERIOD.period ≤ 4096 * (wClock.now - 1000000) ∧
    after (exec .crossingTimeout wClock) (fun t => t.get CYC_STATUS.state == stGHOST &&
      t.get CYC_STATUS.ghost == 1 && t.get CYC_GHOST_EVENTS.count == 1 && t.posts.length == 1) = true := by
  decide +kernel

theorem witness_beforeTimeout :
    4096 * (1749999 - 1000000) < wClock.get CYC_CTRL.zc_timeout * wClock.get CYC_PERIOD.period ∧
    after (exec .crossingTimeout { wClock with now := 1749999 }) (fun t =>
      t.get CYC_STATUS.state == stLOCKED) = true := by decide +kernel

theorem test_presence : after (exec (.voltageInputPresence 1 62500) (quiet.set CYC_STATUS.v_present 5)) (fun t =>
    t.get CYC_STATUS.v_present == 7) = true ∧
    after (exec (.voltageInputPresence 0 62499) (quiet.set CYC_STATUS.v_present 5)) (fun t =>
      t.get CYC_STATUS.v_present == 4) = true := by decide +kernel

theorem test_optime : after (exec .optimeTick (quiet.set CYC_OPTIME.optime 0xFFFFFFFF)) (fun t =>
    t.get CYC_OPTIME.optime == 0xFFFFFFFF) = true := by decide +kernel

def wBoundary : BoundaryIn :=
  { skews := [none, none, none], grants := [], delivered := [], plans := [],
    meter := {
      volts := [(0, 0), (0, 0), (0, 0)], amps := List.replicate 18 (0, 0, 0), neutral := 0,
      overrange := 0, offset := none } }

theorem witness_boundary : boundaryForm wBoundary = true ∧ quiet.power.on = true ∧ quiet.power.loaded = true ∧
    quiet.power.restartAsked = false ∧ quiet.power.failedAt = none ∧ State.reset.power.on = false ∧
    { quiet with now := 500000 }.endAt = 500000 * 256 ∧
    after (exec (.cycleBoundary wBoundary) { quiet with now := 499999 }) (fun t => t.clk.cycle == 0) = true := by
  decide +kernel

/-- A tick on an empty queue with two timeouts of one die due at it. -/
theorem witness_tickExpiring : (match step { quiet with expiring := [(.a, 2, 1), (.a, 1, 0)] } with
      | .next t => t.now == 1 && t.expiring == []
      | _ => false) = true := by decide +kernel

/-! ## The real-time clock -/

def wRtc (left : Int) : State := { quiet with rtc := { RtcState.reset with count := 2 ^ 48 - 1, compLeft := left } }

theorem test_rtcTick :
    after (exec .rtcTick (wRtc 0)) (fun t => t.rtc.count == 0 && t.rtc.mirror == 0) = true ∧
    after (exec .rtcTick (wRtc 1)) (fun t => t.rtc.count == 1 && t.rtc.compLeft == 0) = true ∧
    after (exec .rtcTick (wRtc (-1))) (fun t => t.rtc.count == 2 ^ 48 - 1 && t.rtc.compLeft == 0) = true := by
  decide +kernel

def wShadow : State :=
  { quiet with rtc := { RtcState.reset with mirror := 5 * 2 ^ 32 + 7, shadowHost := some ⟨3 * 2 ^ 32, 2⟩ } }

theorem witness_rtcReads : wShadow.rtc.shadow .host = some ⟨3 * 2 ^ 32, 2⟩ ∧ wShadow.rtc.shadow .coresA = none ∧
    after (exec (.rtcHiRead .host) wShadow) (fun t => t.out == [.regRead .host 0xC0030004 3] &&
      t.rtc.shadowHost == none) = true ∧
    after (exec (.rtcHiRead .coresA) wShadow) (fun t => t.out == [.regRead .coresA 0xC0030004 5]) = true ∧
    after (exec (.hostRead true 0xC0030008 0 0 []) wShadow) (fun t => t.out == [.host [2] 0 0 none]) = true := by
  decide +kernel

theorem test_rtcSet : after (exec (.rtcSetHiWrite .coresA 3) quiet) (fun t => t.held .coresA 0xC0030010 == 1) = true ∧
    after (exec (.rtcSetCommit .coresA 9) quiet) (fun t => t.rtc.setPending == some 9 &&
      t.get GHL_RTC_STATUS.set_busy == 1) = true := by decide +kernel

theorem witness_rtcSetApply : after (exec .rtcSetApply { quiet with rtc := { RtcState.reset with setPending := some 9 } })
    (fun t => t.rtc.count == 9 * 32768 && t.posts.length == 1) = true := by decide +kernel

theorem witness_rtcCompensation : (quiet.set GHL_RTC_COMP.enable 1).power.ghost = true ∧
    (quiet.set GHL_RTC_COMP.enable 1).get GHL_RTC_COMP.enable = 1 := by decide +kernel

/-- TAI second 2 with the RTC at second 0. -/
def wTai (limit : Nat) : State :=
  { ((quiet.setObj 0x2045 0 1).setObj 0x2046 0 limit).set CYC_STATUS.map_valid 1 with
    ptp := { PtpState.reset with time := 2000000000 * 2 ^ 32 } }

theorem witness_rtcFollows : (wTai 1999).mapValid = true ∧
    after (exec .rtcSetFromTai (wTai 1999)) (fun t => t.rtc.count == 65536 && t.posts.length == 1) = true ∧
    after (exec .rtcSetFromTai (wTai 2000)) (fun t => t.rtc.count == 0) = true ∧
    after (exec .rtcSetFromTai { wTai 1999 with ptp := { PtpState.reset with time := 2000000041 * 2 ^ 32 } })
      (fun t => t.rtc.count == 0) = true ∧
    after (exec .rtcSetFromTai ((wTai 2000).set GHL_RTC_STATUS.time_lost 1)) (fun t => t.rtc.count == 65536) = true := by
  decide +kernel
/-! ## The endpoint store -/

/-- A die on which endpoint 5 is an output on chain 1, position 3, channel 2, supervised over 100 cycles. -/
def wDie : Die :=
  { Die.delivered with
    hot := [(5, { Hot.delivered with binding := 2 * 2 ^ 29 + 2048 + 14, current := 0x8000 })],
    cold := [(5, { Cold.delivered with kind := 0x01, reportPeriod := 100, minPhys := 0x100, maxPhys := 0x7000 })] }

def wStage (n : Nat) : State :=
  { quiet with dieA := wDie, dieB := wDie, holder := some .a, clk := { ClockState.reset with cycle := n } }

theorem witness_reportPeriod : wDie.supervised 5 = true ∧
    (wDie.coldOf 5).reportPeriod ≤ (wStage 100).clk.cycle - Tbl.get 0 wDie.period 5 ∧
    (wStage 99).clk.cycle - Tbl.get 0 wDie.period 5 < (wDie.coldOf 5).reportPeriod ∧
    after (exec (.reportPeriodExpiry 5) (wStage 100)) (fun t => bitOf (t.dieA.hotOf 5).fault faultNoReport == 1 &&
      (t.dieA.countsOf 5).missed == 1 && Tbl.get 0 t.dieA.period 5 == 100 && t.dieB == t.dieA) = true ∧
    after (exec (.reportPeriodExpiry 5) (wStage 99)) (fun t => t.dieA == wDie) = true := by decide +kernel

theorem witness_input : after (exec .dataPlaneInput { wStage 7 with inputs := [[.sense 5 9], [.sense 6 9]] }) (fun t =>
    t.inputs == [[.sense 6 9]] && t.twin.input == 1 &&
      t.twin.replay == [(7, 1, [.sense 5 9])] && t.dieA.placed == wDie.resolveIn [.sense 5 9] &&
      t.dieB == wDie) = true ∧ (wStage 7).inputs = [] ∧ (wStage 7).sideA.waiting = false := by decide +kernel

def wDirty : State :=
  (({ wStage 20 with dieA := { wDie with dirty := [(5, 1 + 3)] } }).set (EPS_CTRL.wb_enable .a) 1).set
    (EPS_CTRL.wb_max_age .a) 16

theorem witness_writeBehind : wDirty.get (EPS_CTRL.wb_enable .a) = 1 ∧ Tbl.get 0 wDirty.dieA.dirty 5 ≠ 0 ∧
    wDirty.get (EPS_CTRL.wb_max_age .a) < wDirty.dieA.dirtyAge 20 ∧
    after (exec (.writeBehind .a 5) wDirty) (fun t => t.dieA.imageOf 5 == wDie.hotOf 5 && t.dieA.dirty == [] &&
      t.dieA.hot == wDie.hot && t.dieA.cold == wDie.cold && t.get (EPS_WB_AGE_MAX.age .a) == 17 &&
      t.get (EPS_INT_STATUS.wb_overdue .a) == 1 &&
      regsBut [EPS_WB_AGE_MAX.age .a, EPS_INT_STATUS.wb_overdue .a, EPS_STATUS.wb_overdue .a] wDirty t) = true := by
  decide +kernel

theorem witness_statistics : wDie.active 5 = true ∧ wDie.active 4 = false ∧
    after (exec (.backgroundStatisticsPass .a) (wStage 20)) (fun t => (t.dieA.statsOf 5).cycle == 20 &&
      t.dieA.statsOf 4 == Stats.zero && t.setDie .a { t.dieA with stats := [] } == wStage 20) = true := by
  decide +kernel

def wSpare (n : Nat) : State := ((wStage 1).set (EPS_SPARE_B.free .a 3) n).set (TWN_STATUS.link_up .a) 1

theorem witness_scrub : after (exec (.scrubPass .a 3 9 2 0) (wSpare 0)) (fun t =>
      t.get (EPS_SCRUB_POS.bank .a) == 3 && t.get (EPS_SCRUB_POS.row .a) == 9 &&
      regsBut [EPS_SCRUB_POS.bank .a, EPS_SCRUB_POS.row .a] (wSpare 0) t && t.dieB == wDie) = true ∧
    after (exec (.scrubPass .a 3 9 2 2) (wSpare 1)) (fun t => t.get (EPS_ECC_CORR.count .a) == 1 &&
      t.get (EPS_SPARE_B.free .a 3) == 0 && t.get (EPS_INT_STATUS.row_retired .a) == 1 &&
      Tbl.get 0 t.dieA.retired (3 * 65536 + 9) == 512 && t.holder == some .a) = true := by decide +kernel

theorem witness_uncorrectable :
    after (exec (.mramUncorrectable .b 3 9 2 true) ((wSpare 0).set (EPS_SPARE_B.free .b 3) 1 |>.set
      (TWN_STATUS.link_up .b) 1)) (fun t => t.get (EPS_ECC_UNCORR.count .b) == 1 &&
      t.get (EPS_ECC_REPAIRED.count .b) == 1 && t.get (EPS_INT_STATUS.ecc_uncorr .b) == 1 &&
      t.get (EPS_ECC_LAST_ADDR.addr .b) == 0x10000000 + 3 * 0x04000000 + 9 * 1024 + 64 &&
      t.dieB.damaged == [] && t.holder == some .a) = true := by decide +kernel

theorem witness_damaged : ∃ e, recordAt 0 0 0 = some e ∧ (wSpare 0).holder ≠ some .b ∧
    (wSpare 0).roleOf .b ≠ roUNDERSTUDY ∧ (wSpare 0).roleOf .b ≠ roRESYNC ∧
    after (exec (.mramUncorrectable .b 0 0 0 false) (wSpare 0)) (fun t => Tbl.get false t.dieB.damaged e &&
      t.get (EPS_ECC_UNCORR.count .b) == 1 && t.dieB.imageOf e == wDie.hotOf e && t.dieB.hot == wDie.hot &&
      t.posts.length == 1) = true := by
  refine ⟨_, rfl, ?_⟩
  decide +kernel

def wLoss : UnitLoss := { hot := [], scene := [], daylight := [], preLights := 0 }

theorem witness_unitFailure : (wSpare 0).get (EPS_CTRL.auto_remap .b) = 0 ∧
    after (exec (.unitFailure .b 9 wLoss) (wSpare 0)) (fun t => Tbl.get false t.dieB.failed (wDie.phys 9) &&
      t.setDie .b wDie == wSpare 0) = true ∧
    ((wSpare 0).set (EPS_CTRL.auto_remap .b) 1).spareTaken .b 17 = false ∧ wDie.phys 9 ≠ 17 ∧
    after (exec (.unitFailure .b 9 wLoss) ((wSpare 0).set (EPS_CTRL.auto_remap .b) 1)) (fun t => t.dieB.phys 9 == 17 &&
      t.dieB.phys 8 == wDie.phys 8 && Tbl.get false t.dieB.failed (wDie.phys 9) &&
      t.get (EPS_REMAP_STATUS.unit .b) == 9 && t.get (EPS_REMAP_STATUS.phys .b) == 17 &&
      t.get (EPS_REMAP_STATUS.result .b) == 1 && t.get (EPS_INT_STATUS.remap_done .b) == 1 &&
      regsBut [EPS_REMAP_STATUS.unit .b, EPS_REMAP_STATUS.phys .b, EPS_REMAP_STATUS.result .b,
        EPS_INT_STATUS.remap_done .b] ((wSpare 0).set (EPS_CTRL.auto_remap .b) 1) t) = true := by decide +kernel

theorem witness_remapCommand : (0x80000009 : Word).toNat / 2 ^ 31 % 2 = 1 ∧ (0x80000009 : Word).toNat % 256 = 9 ∧
    after (exec (.remapCommand .b 0x80000009) ((wSpare 0).set (EPS_CTRL.auto_remap .b) 1)) (fun t =>
      t.dieB.phys 9 == 17 && t.get (EPS_REMAP_STATUS.result .b) == 1) = true ∧
    after (exec (.remapCommand .b 0x80000009) (wSpare 0)) (fun t => Tbl.get false t.dieB.failed (wDie.phys 9) &&
      t.setDie .b wDie == wSpare 0) = true ∧
    after (exec (.unitFailure .b 9 wLoss) (((wSpare 0).set (EPS_CTRL.auto_remap .b) 1).set (TWN_STATUS.link_up .b) 1))
      (fun t => physIn t.dieA.otherMoved 9 == 17) = true ∧
    after (exec (.remapCommand .b 9) (wSpare 0)) (fun t => t == wSpare 0) = true := by decide +kernel

def wMoving : State :=
  (({ wStage 1 with
    dieB := { wDie with moves := [{ unit := 9, phys := 17, remap := true, wait := 0, skipped := 0, owed := 0, changed := [], part := none, lost := wLoss }] } }).set
      (EPS_STATUS.remap_busy .b) 1).set (TWN_STATUS.link_up .b) 1

theorem witness_remapSnapshot : wMoving.get (TWN_STATUS.link_up .b) = 1 ∧ wMoving.holder ≠ some .b ∧ wMoving.sideB.waiting = false ∧ wDie.waiting = [] ∧
    after (exec (.remapSnapshotInstall .b) wMoving) (fun t => t.dieB.moves == [] && physIn t.dieB.moved 9 == 17 &&
      physIn t.dieA.otherMoved 9 == 17 && t.get (EPS_STATUS.remap_busy .b) == 0 &&
      t.get (EPS_INT_STATUS.remap_done .b) == 1 && t.objs == []) = true ∧
    after (exec (.remapSnapshotInstall .b) (wMoving.set (TWN_STATUS.link_up .b) 0)) (fun t => t.dieB.moves == [] &&
      t.dieA.otherMoved == []) = true := by decide +kernel

/-! ## The sweep -/

def wLight (ls : List PreLight) (m : PreLight) : State :=
  { wStage 1 with dieA := { wDie with flight := [m], preLights := ls } }

theorem witness_followSpot :
    after (exec (.followSpotReceive .a) (wLight [⟨5, 10, 3⟩, ⟨5, 10, 4⟩] ⟨5, 11, 3⟩)) (fun t =>
      t.dieA.preLights == [⟨5, 11, 3⟩, ⟨5, 10, 4⟩] && t.dieA.flight == []) = true ∧
    after (exec (.followSpotReceive .a) (wLight [⟨5, 10, 4⟩] ⟨5, 11, 3⟩)) (fun t =>
      t.dieA.preLights == [⟨5, 10, 4⟩, ⟨5, 11, 3⟩] && t.dieA.hot == wDie.hot) = true ∧
    after (exec (.followSpotReceive .a) { wMoving with dieA := { wMoving.dieB with flight := [⟨9 * 4096, 11, 3⟩] } })
      (fun t => t.dieA.heldLights == [⟨9 * 4096, 11, 3⟩] && t.dieA.preLights == []) = true := by decide +kernel

/-- A full pending store. -/
theorem witness_followSpotFull :
    after (exec (.followSpotReceive .a) (wLight (List.replicate 1024 ⟨5, 10, 4⟩) ⟨5, 11, 3⟩)) (fun t =>
      t.dieA.preLights.length == 1024 && t.get (CUE_FS_DROPPED.count .a) == 1 &&
      t.get (CUE_INT_STATUS.fs_dropped .a) == 1) = true := by decide +kernel

def wEvents : State :=
  { wStage 1 with
    dieA := { wDie with events := [.cue 1 [4100], .cue 0 [5]] }, sideA := { Side.start with mark := some 16 } }

theorem witness_event : wEvents.dieA.cutoff = false ∧ wEvents.sideA.waiting = false ∧ wEvents.sideA.mark ≠ none ∧
    wEvents.dieA.resting 0 = false ∧ takeUnitEvent 0 wEvents.dieA.events = some (.cue 0 [5], [.cue 1 [4100]]) ∧
    after (exec (.eventEvaluation .a 0) wEvents) (fun t => t.dieA.events == [.cue 1 [4100]] &&
      Tbl.get 0 t.dieA.done 0 == 1 && Tbl.get 0 t.sideA.started 0 == 1 && t.dieA.cold == wDie.cold &&
      t.dieA.scene == [] && t.dieA.placed == [] && t.dieB == wDie && t.objs == []) = true ∧
    after (exec (.eventEvaluation .b 0) wEvents) (fun t => t == wEvents) = true ∧
    after (exec .eventCutoff wEvents) (fun t => t.dieA.cutoff && t.dieB.cutoff) = true := by decide +kernel

def wEmit : State :=
  { wStage 1 with dieA := { wDie with emission := [(5, true), (6, true)], exactEmission := [(5, true)] } }

theorem witness_emission : Tbl.get false wEmit.dieA.emission 5 = true ∧
    bindTransport (wDie.hotOf 5).binding = 2 ∧
    after (exec (.emissionHandoff .a 5) wEmit) (fun t => t.dieA.emission == [(6, true)] &&
      t.dieA.exactEmission == [] && Tbl.get 0 (t.chain 1).levels 14 == deviceValue (wDie.hotOf 5) (wDie.coldOf 5) &&
      deviceValue (wDie.hotOf 5) (wDie.coldOf 5) == 0x7000 && t.regs == [] && t.dieB == wDie) = true ∧
    after (exec (.emissionHandoff .b 5) wEmit) (fun t => t == wEmit) = true := by decide +kernel

def wAgg : State := (({ wStage 1 with dieA := { wDie with aggNext := some [(2, Agg.zero)] } }).set (CUE_AGG_STATUS.late .a) 1)

theorem witness_aggregate : wAgg.dieA.aggNext = some [(2, Agg.zero)] ∧
    after (exec (.aggregateDeadline .a (some 64)) wAgg) (fun t => t.dieA.agg == [(2, Agg.zero)] &&
      t.dieA.aggNext == none && t.get (CUE_AGG_STATUS.late .a) == 0 && t.get (CUE_AGG_STATUS.ready_phase .a) == 64) =
      true ∧
    after (exec (.aggregateDeadline .a (some 65)) wAgg) (fun t => t.get (CUE_AGG_STATUS.late .a) == 1) = true ∧
    after (exec (.aggregateDeadline .a none) (wAgg.set (CUE_AGG_STATUS.late .a) 0)) (fun t =>
      onlyRegs [CUE_AGG_STATUS.late .a, CUE_INT_STATUS.agg_late .a] (wAgg.set (CUE_AGG_STATUS.late .a) 0) t &&
      t.get (CUE_AGG_STATUS.late .a) == 1) = true := by decide +kernel

def wBalance (now : Nat) : State :=
  { (((wStage 1).setObj 0x4010 0 2).set MTR_CTRL.enable 1).set MTR_CTRL.feeder_en 4 with
    now := now, clk := { ClockState.reset with cycleStart := now, rateAt := now * 256 },
    dieA := { wDie with meterSums := [(2, { MeterSum.zero with sum := -25, count := 1 })] } }

theorem witness_balance : (wBalance 50000000).obj 0x4010 0 * 25000000 ≤ 50000000 ∧
    (Tbl.get MeterSum.zero (wBalance 50000000).dieA.meterSums 2).count ≠ 0 ∧
    after (exec .balanceCheck (wBalance 50000000)) (fun t => t.balanceFrom == 50000000 && t.dieA.meterSums == [] &&
      t.obj 0x4016 2 == pattern 32 (-2) && t.holder == some .a) = true ∧
    (wBalance 50000000).phase = 0 ∧ { wBalance 50000000 with now := 50000600 }.phase ≠ 0 ∧
    after (exec .balanceCheck { wBalance 50000000 with now := 50000600 }) (fun t => t.balanceFrom == 0) = true ∧
    after (exec .balanceCheck (wBalance 49999999)) (fun t => t == wBalance 49999999) = true := by decide +kernel
/-! ## Requests by objects -/

/-- Die A serves session 3 on the service port; the module is on and both dies are as wDie. -/
def wServe : State :=
  { wStage 3 with sessions := [(3, { service := true, commissioning := false, last := 0 })] }

def mgmt (code sub : Nat) (b : List Byte) : Mgmt :=
  { target := 1, code := code, sub := sub, ptr := 0, value := b, who := none }

/-- The write is applied with status 0, and something holds of the state. -/
def applied (w : Mgmt) (s : State) (p : State → Bool) : Bool :=
  match s.applyObject .a w with
  | (t, some st) => st == stOK && p t
  | (_, none) => false

theorem witness_fresh : wServe.serving = true ∧ wServe.sessionOpen 3 = true ∧ wServe.sessionOpen 4 = false ∧
    wServe.stillRemembered = [] ∧ Unheld wServe := by
  refine ⟨by decide +kernel, by decide +kernel, by decide +kernel, by decide +kernel, by decide +kernel,
    by decide +kernel, ?_⟩
  intro d h; cases d <;> first | (exfalso; revert h; decide +kernel) | decide +kernel

theorem witness_objectStaged : requestObject (.theftLogClear 3 7) = some (3, 7, 0x6065, 0, [1]) ∧
    wServe.writeStatus 3 0x6065 0 [1] = stOK ∧ wServe.dieA.staged.length < 16384 ∧
    after (exec (.theftLogClear 3 7) wServe) (fun t =>
      t.dieA.staged == [{ mgmt 0x6065 0 [1] with who := some (3, 7, 0) }] && t.progress.length == 1 &&
      t.regs == [] && t.out == [] && t.dieA.hot == wDie.hot) = true ∧
    after (exec (.theftLogClear 4 7) wServe) (fun t => t == wServe) = true := by decide +kernel

theorem witness_stageFull : after (.next ({ wServe with
      dieA := { wDie with staged := List.replicate 16384 (mgmt 0 0 []) } }.stageWrite (mgmt 0x6065 0 [1])).1)
    (fun t => t.get (EPS_STAGE_REFUSED.count .a) == 1 && t.dieA.staged.length == 16384) = true := by
  decide +kernel

/-- A go entry for scene 4095, at once. -/
def wGo : List Byte := leBytes 4 0 ++ leBytes 1 1 ++ leBytes 11 0 ++ leBytes 4 4095 ++ leBytes 12 0

theorem witness_applyCue : (GoEntry.ofBytes wGo).ok (leNat (wGo.drop 28)) = true ∧ (GoEntry.ofBytes wGo).op = 1 ∧
    applied (mgmt 0x4402 0 []) wServe (fun t => t.dieA.cues.swapPending && t.regs == []) = true ∧
    applied (mgmt 0x4420 0 wGo) wServe (fun t => t.dieA.cues.goSeq == 1 &&
      t.dieA.cues.goInactive == [{ GoEntry.ofBytes wGo with seq := 1 }] && t.regs == []) = true ∧
    applied (mgmt 0x4422 0 (leBytes 32 0 ++ leBytes 4 9)) wServe (fun t => t.dieA.cues.blackCounter == 9 &&
      t.dieA.cues.goInactive.length == 1) = true := by decide +kernel

theorem witness_applyBook : wServe.dieA.newestSeq = 0 ∧ wServe.committing = none ∧
    applied (mgmt 0x1042 0 (leBytes 4 0)) wServe (fun t => t.dieA.books == [none, none] && t.regs == []) = true ∧
    (wServe.applyObject .a (mgmt 0x1040 0 (leBytes 4 0))).2 = none ∧
    applied (mgmt 0x20C9 0 [1]) (wServe.set PTP_STATUS.jump_pending 1) (fun t =>
      onlyRegs [PTP_STATUS.auth_armed] (wServe.set PTP_STATUS.jump_pending 1) t &&
      t.get PTP_STATUS.auth_armed == 1) = true := by decide +kernel

def wSlot (n : Nat) : KeySlot := { state := 1, gen := 1, salt := [], record := none, value := [BitVec.ofNat 8 n], mask := [] }

def wKeys (ns : List Nat) : State := { wServe with keys := { KeyStore.delivered with slots := ns.map fun n => (n, wSlot n) } }

/-- A join uses the opaque random generator, so only its hypotheses are shown. -/
theorem witness_applyJoin : ((wKeys [3]).setObj 0x1202 0 1).joinState = 1 ∧
    ((wKeys [3]).setObj 0x1202 0 1).slotValid 3 = true := by decide +kernel

theorem witness_applyCompany :
    applied (mgmt 0x1204 0 (leBytes 2 5)) ((wServe.setObj 0x1202 0 2).setObj 0x1200 0 5) (fun t =>
      t.joinState == 3 && t.regs == []) = true ∧
    applied (mgmt 0x1214 0 [1]) { wServe with company := { Company.start with senders := [(7, 9)] } } (fun t =>
      t.company.senders == []) = true ∧
    applied (mgmt 0x1109 0 [1]) wServe (fun t => t.obj 0x1109 0 == 1 && { t with objs := [] } == wServe) = true := by
  decide +kernel

def wFit : State := ((wServe.set (TWN_STATUS.role .a) roSTAGE).set (TWN_STATUS.role .b) roUNDERSTUDY).set (TWN_STATUS.fit .b) 1

theorem witness_applyRoles : wFit.plannedOk = true ∧ wFit.holder = some (DieId.ofNum 1).other ∧
    wFit.roleOf (DieId.ofNum 1) = roUNDERSTUDY ∧
    applied (mgmt 0x2103 0 [1]) wFit (fun t => t.twin.planned.isSome && t.regs == wFit.regs) = true ∧
    applied (mgmt 0x2104 1 [1]) wFit (fun t => t.sideB.toTest && t.regs == wFit.regs) = true := by decide +kernel

theorem witness_applyMeter :
    applied (mgmt 0x6040 0 [21]) wServe (fun t => t.get MTR_STATUS.harm_busy == 1 && t.meter.harm == some (21, 3, 0)) =
      true ∧ wServe.isReference 21 = false ∧
    applied (mgmt 0x6009 0 [21]) wServe (fun t => t.meter.calQueue == [21] && t.regs == []) = true ∧
    applied (mgmt 0x6065 0 [1]) wServe (fun t => t.theft == Theft.empty && t.regs == []) = true := by decide +kernel

/-- The point of P-384 that the private key 5 names, computed outside the model. -/
def pkNat : Nat :=
  0x0411de24a2c251c777573cac5ea025e467f208e51dbff98fc54f6661cbe56583b037882f4a1ca297e60abcdbc3836d84bc8fa696c77440f92d0f5837e90a00e7c5284b447754d5dee88c986533b6901aeb3177686d0ae8fb33184414abe6c1713a

/-- A certificate of that key, with empty names and no signature: the DER of tag, length and content. -/
def wCert : List Byte :=
  [0x30, 117, 0x30, 115, 2, 1, 1, 0x30, 0, 0x30, 0, 0x30, 0, 0x30, 0, 0x30, 0x66, 0x30, 0, 3, 0x62, 0] ++
    natOcts (bigEnd 97 pkNat)

/-- In a company, number 5, with a key of one octet in each of the slots 5, 7 and 8, and the public key in 13. -/
def wKeyed : State :=
  let s := (wServe.setObj 0x1202 0 2).setObj 0x1200 0 5
  { s with
    keys := { KeyStore.delivered with
      slots := [(5, wSlot 5), (7, wSlot 7), (8, wSlot 8), (13, { wSlot 13 with value := natOcts (bigEnd 97 pkNat) })] }
    dieA := { s.dieA with workKeys := [(5, [5]), (7, [7]), (8, [8])] } }

theorem witness_applyCertificate : wKeyed.slotValid 5 = true ∧ certKey wCert = some wKeyed.managementKey := by
  decide +kernel

/-- A blackout command for slot 0 with counter 1; its tag is the HMAC-SHA-384 of module number 5 and the first 48
octets under the key [8], computed outside the model. -/
def wBlack : List Byte :=
  leBytes 4 0 ++ [4] ++ List.replicate 27 0 ++ leBytes 4 1 ++ List.replicate 12 0 ++
    natOcts (bigEnd 16 0xe1c963e6746aa0f019c857f2b3692e45)

/-- What each request writes, in a state whose object takes it. -/
def wRequests : List (Nat × Nat × List Byte) :=
  [(0x4402, 0, leBytes 4 1), (0x4420, 0, wGo), (0x4422, 0, wBlack), (0x6065, 0, [1]), (0x20C9, 0, [1]),
    (0x1040, 0, leBytes 4 0), (0x1042, 0, leBytes 4 0), (0x1203, 0, [1]), (0x1204, 0, leBytes 2 5),
    (0x1210, 0, List.replicate 20 0), (0x1214, 0, [1]), (0x1109, 0, [1]), (0x7010, 0, List.replicate 107 0),
    (0x7012, 0, [1]), (0x7004, 0, wCert), (0x7020, 0, List.replicate 20 0), (0x7018, 0, [1]), (0x701C, 0, [1]),
    (0x7031, 0, leBytes 2 0), (0x7410, 0, leBytes 16 0), (0x7414, 0, [1])] ++
  [(0x7415, 0, [1]), (0x7421, 0, [7, 16, 100, 0]), (0x7423, 0, leBytes 8 0), (0x7801, 0, leBytes 4 0),
    (0x7810, 0, [2, 31, 0, 0]), (0x7820, 0, leBytes 2 5), (0x7C10, 0, leBytes 2 5), (0x6040, 0, [21]),
    (0x6009, 0, [21]), (0x2103, 0, [1]), (0x2104, 1, [1])]

theorem witness_requests : wKeyed.dieA.staged.length < 16384 ∧ wKeyed.serving = true ∧ wKeyed.sessionOpen 3 = true ∧
    wKeyed.stillRemembered = [] ∧
    (wRequests.all fun x => decide (wKeyed.writeStatus 3 x.1 x.2.1 x.2.2 = stOK)) = true := by decide +kernel

/-- A blackout command whose tag is wrong in one bit is refused. -/
theorem test_blackoutTag : wKeyed.writeStatus 3 0x4422 0 (wBlack.take 63 ++ [0x44]) = stRange := by decide +kernel

theorem witness_applyKeys : wServe.segUse = none ∧
    applied (mgmt 0x7031 0 (leBytes 2 2)) { wServe with keys := { KeyStore.delivered with events := 2, latched := 1 } }
      (fun t => t.keys.latched == 0 && t.keys.events == 0) = true := by decide +kernel

def wProbation : State :=
  { wFit with activation := { Activation.none_ with state := 4, version := 2, die := some .a } }

theorem witness_applyGreenroom : wProbation.activation.die = some .a ∧ wProbation.fitDie .b = true ∧
    applied (mgmt 0x7414 0 [1]) wProbation (fun t => t.activation.rejecting && t.twin.planned == some 11) = true ∧
    applied (mgmt 0x7421 0 [7, 16, 100, 0]) { wServe with
      dieA := { wDie with green := { Green.delivered with nodes := [(7, { ImageSlot.empty with state := 2 })] } } }
      (fun t => t.campaign.on && t.campaign.slot == 7 && t.campaign.rounds == 16 && t.regs == []) = true := by
  decide +kernel

theorem witness_applyTests :
    applied (mgmt 0x7801 0 (leBytes 4 0)) wServe (fun t => t.dieA.board.clears == 1 && t.dieA.board.lost == 0 &&
      t.get (CBD_INT_STATUS.cleared .a) == 1) = true ∧
    testInstances 2 = 32 ∧ wServe.testRefused 2 31 = false ∧
    applied (mgmt 0x7810 0 [2, 31, 0, 0]) wServe (fun t => t.tests.queue.contains (2, 31) || t.tests.running == some (2, 31)) =
      true ∧
    applied (mgmt 0x7820 0 (leBytes 2 0)) wServe (fun t => t.tests.offlineAsked) = true ∧
    applied (mgmt 0x7C10 0 (leBytes 2 0)) wServe (fun t => t.power.restartAsked) = true := by decide +kernel

theorem test_bankSync : after (exec .bankSyncEnd { wServe with
      dieA := { wDie with cues := { CueArea.delivered with syncBusy := true, active := 1 } } })
    (fun t => !t.dieA.cues.syncBusy && t.dieA.cues.bank0.seq == 2 && t.dieA.cues.bank1.seq == 1) = true := by
  decide +kernel

/-- A request to begin staging an image for node slot 7. -/
def wImage : List Byte := leBytes 1 8 ++ leBytes 3 0 ++ List.replicate 256 0

theorem witness_stageBegin : wServe.writeStatus 3 0x7401 0 wImage = stOK ∧ leAt wImage 0 1 ≤ 8 ∧
    after (exec (.stageBegin 3 7 wImage) wServe) (fun t => (t.green .a).target == 8 &&
      ((t.green .a).slot 8).state == 1 && ((t.green .a).slot 8).header == wImage.drop 4 && t.regs == []) = true := by
  decide +kernel

def wReceiving : State :=
  { wServe with
    dieA := { wDie with
      green := { Green.delivered with
        target := 0,
        stage := { ImageSlot.empty with
          state := 1, header := List.replicate 56 0 ++ leBytes 4 8 ++ List.replicate 196 0, body := [(3, 9)] } } } }

/-- A block that ends at the end of the image. -/
theorem witness_stageBlock : wReceiving.writeStatus 3 0x7402 0 (leBytes 4 4 ++ [1, 2, 3, 4]) = stOK ∧
    4 + 4 ≤ ((wReceiving.green .a).slot 0).length ∧
    after (exec (.stageBlock 3 7 (leBytes 4 4 ++ [1, 2, 3, 4])) wReceiving) (fun t =>
      ((t.green .a).slot 0).body == [(3, 9), (4, 2), (5, 3), (6, 4), (7, 5)] && t.regs == []) = true := by
  decide +kernel

theorem witness_stageEnd : wReceiving.writeStatus 3 0x7403 0 (leBytes 1 1) = stOK ∧
    ((wReceiving.green .a).slot (wReceiving.green .a).target).state = 1 ∧
    after (exec (.stageEnd 3 7) wReceiving) (fun t => t.get (GRN_INT_STATUS.stage_end .a) == 1 &&
      (t.green .a).failed == 1 && (t.green .a).stage.state == 3 &&
      regsBut [GRN_INT_STATUS.stage_end .a] wReceiving t) = true := by decide +kernel

/-- The ECDSA signature of the staged header under the private key 5, computed outside the model. -/
def wSigned : List Byte :=
  natOcts (bigEnd 96
    0xd8a17e55b8e2f47bc369fd9616695ce273dce4e307830a65f5a4a9aa8967c987aeea7ad365677a13bfd65c3fe5a66939870434d4d07db6b65cf46eabd3161fcfefeb7d04f567d1a469d3e874b39062501bff5087e62b19f991c319050c1c714f)

theorem witness_endorsement :
    ({ wReceiving with keys := wKeyed.keys }).writeStatus 3 0x7406 0 wSigned = stOK ∧
    ({ wReceiving with keys := wKeyed.keys }).slotValid 13 = true ∧
    (wReceiving.green .a).stage.header ≠ [] ∧
    ecdsaVerify (({ wReceiving with keys := wKeyed.keys } : State).keyValue 13) (wReceiving.green .a).stage.header wSigned =
      true ∧
    after (exec (.endorsement 3 7 wSigned) { wReceiving with keys := wKeyed.keys }) (fun t =>
      (t.green .a).endorsement == wSigned && (t.green .b).endorsement == wSigned && t.regs == []) = true := by
  decide +kernel
/-! ## Queues, drains, arbiters and timeouts -/

theorem wQueueSize (q : Nat) : 4 ≤ queueSize q ∧ queueSize q ≤ 4096 := by
  have h : 2 ≤ queueLog q ∧ queueLog q ≤ 12 := by unfold queueLog; omega
  exact ⟨Nat.pow_le_pow_right (n := 2) Nat.two_pos h.1, Nat.pow_le_pow_right (n := 2) Nat.two_pos h.2⟩

/-- A packet of one word from queue 0, which unit 0 owns, to another queue of its plane. -/
def wSend (dst : Fin 65536) (counts : Bool) : Send :=
  { src := 0, dst := dst, ring := 3, words := [5], kind := .other, counts := counts }

/-- Every ring of the queue has this many words debited. -/
def wRings (n : Nat) : Queue :=
  { Queue.empty with rings := [0, 1, 2, 3].map fun r => (r, { Ring.empty with debited := n }) }

theorem wRings_ring (n : Nat) (x : Send) : ((wRings n).ring (sendRing x)).debited = n := by
  have h : sendRing x = 0 ∨ sendRing x = 1 ∨ sendRing x = 2 ∨ sendRing x = 3 := by
    unfold sendRing; split <;> omega
  rcases h with h | h | h | h <;> rw [h] <;> rfl

/-- A notification within the level, a request within it, and both to the cluster above. -/
theorem witness_planes : packetOk [5] = true ∧
    ([0x0201, 0x0001, 0x2001, 0x2201].all fun t => samePlane 0 t) = true ∧ samePlane 0 0x1201 = false ∧
    queueClass 0x0201 = 1 ∧ queueClass 0x0001 = 0 ∧ queueClass 0x2001 = 0 ∧ queueClass 0x2201 = 1 ∧
    mayWait 0 0x0201 = false ∧ travelsInward 0 0x0201 = false ∧ mayWait 0 0x0001 = false ∧ travelsInward 0 0x0001 = false ∧
    mayWait 0 0x2001 = true ∧ mayWait 0 0x2201 = true ∧ travelsInward 0x2201 0x0201 = true ∧
    queueNamed (wSend 0x0201 true).dst = true := by decide

theorem witness_send (t : Fin 65536) : quiet.hasCredits .a (wSend t true) = true ∧
    quiet.queueStopped 0x0201 = false ∧ quiet.queueStopped 0x2001 = false ∧ quiet.canReserve .a 0 = true := by
  have e (k : Nat) : quiet.queue k = Queue.empty := rfl
  have h := (wQueueSize t).1
  have g := (wQueueSize (responseQueue 0)).1
  have u (x : Send) : (Queue.empty.ring (sendRing x)) = Ring.empty := rfl
  refine ⟨?_, by decide, by decide, ?_⟩
  · simp only [State.hasCredits, e, u]
    simp [Ring.credits, Ring.empty, wSend]
    omega
  · simp only [State.canReserve, e]
    simp [Queue.ring, Queue.empty, Tbl.get, Ring.empty]
    omega

/-- The queue has no credits left. -/
def wNoCredit (t : Fin 65536) : State := { quiet with queues := [(queueKey .a t, wRings 4096)] }

theorem wRings_credits (t : Fin 65536) (c : Bool) :
    ((wRings 4096).ring (sendRing (wSend t c))).credits (queueSize t) < (wSend t c).words.length := by
  have h := (wQueueSize t).2
  simp [Ring.credits, wRings_ring, wSend]; omega

theorem wNoCredit_hasCredits (t : Fin 65536) (c : Bool)
    (e : (wNoCredit t).queue (queueKey .a t) = wRings 4096) : (wNoCredit t).hasCredits .a (wSend t c) = false := by
  have g := wRings_credits t c
  have e : (wNoCredit t).queue (queueKey .a (wSend t c).dst) = wRings 4096 := e
  simp only [State.hasCredits, e]
  simp [Nat.not_le.mpr g, show (wSend t c).dst = t from rfl]

theorem witness_noCredit : (wNoCredit 0x0201).hasCredits .a (wSend 0x0201 false) = false ∧
    (wNoCredit 0x0001).hasCredits .a (wSend 0x0001 true) = false ∧
    (wNoCredit 0x2001).hasCredits .a (wSend 0x2001 true) = false ∧
    (wNoCredit 0x2201).hasCredits .a (wSend 0x2201 true) = false ∧ (wNoCredit 0x2001).canReserve .a 0 = true := by
  refine ⟨wNoCredit_hasCredits _ _ (by decide +kernel), wNoCredit_hasCredits _ _ (by decide +kernel),
    wNoCredit_hasCredits _ _ (by decide +kernel), wNoCredit_hasCredits _ _ (by decide +kernel), ?_⟩
  have g := (wQueueSize (responseQueue 0)).1
  have e : (wNoCredit 0x2001).queue (queueKey .a (responseQueue 0)) = Queue.empty := by decide +kernel
  simp only [State.canReserve, e]
  simp [Queue.ring, Queue.empty, Tbl.get, Ring.empty]
  omega

/-- Every word of the response queue is reserved. -/
theorem witness_noReservation :
    { quiet with queues := [(queueKey .a 0x0400, { Queue.empty with reserved := 4096 })] }.canReserve .a 0 = false := by
  have g := (wQueueSize 0x0400).2
  have e : { quiet with queues := [(queueKey .a 0x0400, { Queue.empty with reserved := 4096 })] }.queue
      (queueKey .a (responseQueue 0)) = { Queue.empty with reserved := 4096 } := by decide +kernel
  simp only [State.canReserve, e]
  have h : queueSize (responseQueue 0) ≤ 4096 := g
  simp [Queue.ring, Queue.empty, Tbl.get, Ring.empty]
  omega

/-- Two packets wait in ring 1 of queue 0x1201 of die A. -/
def wFull (taken : Nat) : State :=
  { quiet with queues := [(queueKey .a 0x1201,
      { Queue.empty with
        rings := [(1, { Ring.empty with wr := 4, packets := [([1, 2], .other), ([3, 4], .other)], taken := taken, debited := 4 })] })] }

theorem witness_creditReturn : quiet.waiters = [] ∧ (quiet.queue (queueKey .a 0x1201)).nextRing = none ∧
    ((wFull 0).queue (queueKey .a 0x1201)).nextRing = some 1 ∧
    after (exec (.creditReturn .a 0x1201) (wFull 0)) (fun t => ((t.queue (queueKey .a 0x1201)).ring 1).debited == 3 &&
      ((t.queue (queueKey .a 0x1201)).ring 1).taken == 1 && (t.queue (queueKey .a 0x1201)).reading == some 1) = true ∧
    after (exec (.creditReturn .a 0x1201) (wFull 1)) (fun t =>
      ((t.queue (queueKey .a 0x1201)).ring 1).packets == [([3, 4], .other)] &&
      (t.queue (queueKey .a 0x1201)).reading == none) = true := by
  decide +kernel

/-- The last word read with a flush waiting for it. -/
theorem witness_flushAtEnd : after (exec (.creditReturn .a 0x1201)
      { quiet with queues := [(queueKey .a 0x1201, { (wFull 1).queue (queueKey .a 0x1201) with reading := some 1, flushing := true })] })
    (fun t => ((t.queue (queueKey .a 0x1201)).ring 1).packets == [] && !(t.queue (queueKey .a 0x1201)).flushing) = true := by
  decide +kernel

/-- A management-plane queue of the die with two packets waiting, and with one of them being read. -/
theorem witness_flush : queuePlane 0x1201 = 2 ∧ queueLevel 0x1201 < 4 ∧ queueNamed 0x1201 = true ∧
    0 < ((wFull 0).queue (queueKey .a 0x1201)).words ∧
    ((wFull 0).set (QCM_Q_SEL.queue .a) 0x1201).get (QCM_Q_SEL.queue .a) = 0x1201 ∧
    ((wFull 0).set (QCM_Q_SEL.queue .a) 0x1201).get (TST_MODE.offline .a) = 0 ∧ queuePlane 0x0201 ≠ 2 ∧
    after (exec (.queueFlush .coresA .a) ((wFull 0).set (QCM_Q_SEL.queue .a) 0x1201)) (fun t =>
      t.get (QCM_FLUSH_DISCARDS.count .a) == 4 && t.get (QCM_INT_STATUS.flush_discard .a) == 1 &&
      t.get (QCM_LAST_DROP.queue .a) == 0x1201 && t.get (QCM_LAST_DROP.reason .a) == 3) = true ∧
    after (exec (.queueFlush .coresA .a) (({ wFull 0 with
        queues := [(queueKey .a 0x1201, { (wFull 1).queue (queueKey .a 0x1201) with reading := some 1 })] }).set
        (QCM_Q_SEL.queue .a) 0x1201))
      (fun t => (t.queue (queueKey .a 0x1201)).flushing) = true := by decide +kernel

theorem witness_drain :
    after (exec (.blockDisable (.plc 1)) (quiet.set (PLC_CTRL.enable 1) 1)) (fun t => t.get (PLC_CTRL.enable 1) == 0 &&
      Tbl.get 0 t.drainFrom 5 == 1) = true ∧
    quiet.blockItems 5 = 0 ∧ quiet.blockBusy 5 = false ∧
    after (exec (.drained (.plc 1)) quiet) (fun t => t.get (PLC_CTRL.drained 1) == 1 &&
      t.get (blockDrainIrq 5) == 1 && regsBut [blockDrained 5, blockDrainIrq 5] quiet t) = true ∧
    after (exec (.drainTimeout (.plc 1)) (({ quiet with drainFrom := [(5, 1)] }).set (QCM_TMO_MODULE.cycles .a) 0)) (fun t =>
      t.get (PLC_CTRL.drained 1) == 1 && t.posts.length == 1) = true ∧
    after (exec (.blockEnable .coresA (.plc 1)) (quiet.set (PLC_CTRL.drained 1) 1)) (fun t =>
      t.get (PLC_CTRL.enable 1) == 1 && t.get (PLC_CTRL.drained 1) == 0) = true ∧
    (quiet.set (RAD_PHY.mode 0) 1).radioReady 0 = true := by decide +kernel

/-- The small arbiter of chain 0 and the large one of bank 0, with a holder. -/
def wArb (a : Nat) (held : Nat) : State :=
  match arbRow a with
  | some row => { quiet with arbs := [(arbKey .a a,
      some { arbReset row with counters := [10, 74, 0, 0], holder := some { req := some 0, held := held, xfer := none } })] }
  | none => quiet

/-- A retirement waits at the port of bank 0. -/
def wScrub : State := (wArb 36 0).setDie .a { Die.delivered with retireWaits := [(0, true)] }

theorem witness_arbShares :
    after (exec (.arbWindowBoundary .a 72 0) quiet) (fun t => (t.arb .a 72).any fun x => x.2.counters == [192, 64]) = true ∧
    after (exec (.arbGrant .a 72 0 2 false none) quiet) (fun t => (t.arb .a 72).any fun x =>
      x.2.holder == some { req := some 1, held := 0, xfer := none } && x.2.grants == [0, 1]) = true ∧
    after (exec (.arbGrant .a 72 0 3 false none) quiet) (fun t => (t.arb .a 72).any fun x =>
      x.2.holder == some { req := some 0, held := 0, xfer := none }) = true := by decide +kernel

theorem witness_arbTakesBack :
    after (exec (.arbPreempt .a 72 0 1) (wArb 72 0)) (fun t => (t.arb .a 72).any fun x => x.2.holder == none &&
      x.2.preempts == 1) = true ∧
    (wScrub.emergencyOk .a 36) = true ∧ (wArb 36 0).emergencyOk .a 36 = false ∧
    after (exec (.arbEmergency .a 36 0 none) wScrub) (fun t => (t.arb .a 36).any fun x =>
      x.2.holder == some { req := none, held := 0, xfer := none } && x.2.preempts == 1) = true ∧
    after (exec (.arbCutoff .a 72 1) (wArb 72 512)) (fun t => (t.arb .a 72).any (fun x => x.2.holder == none &&
      x.2.masked == 1 && x.2.flags == 1 && x.2.cutoffs == 1) && t.get (QCM_INT_STATUS.cutoff .a) == 1 &&
      t.posts.length == 1) = true ∧
    after (exec (.arbCutoff .a 72 1) (wArb 72 511)) (fun t => (t.arb .a 72).any fun x => x.2.counters.getD 0 0 == 9 &&
      x.2.holder == some { req := some 0, held := 512, xfer := none }) = true ∧
    (wArb 72 0).privileged .journalCommit 72 0 = false ∧ (wArb 72 0).privileged .emergencyCue 72 0 = true ∧
    after (exec (.arbWithdraw .a 72 0 .journalCommit 0 false none) (wArb 72 0)) (fun t => (t.arb .a 72).any (fun x =>
      x.2.holder == some { req := some 0, held := 0, xfer := none })) = true ∧
    after (exec (.arbWithdraw .a 72 0 .emergencyCue 0 false none) (wArb 72 0)) (fun t => (t.arb .a 72).any (fun x =>
      x.2.holder == none) && t.get (QCM_WITHDRAWALS.count .a) == 1) = true := by decide +kernel

/-- The timeouts of the levels at their defaults. -/
def wTimeouts : State :=
  ((((((wStage 9).set (QCM_TMO_UNIT.ns .a) 1000).set (QCM_TMO_CLUSTER.ns .a) 4000).set (QCM_TMO_REGION.ns .a) 16000).set
    (QCM_TMO_DIE.ns .a) 64000).set (QCM_TMO_MODULE.cycles .a) 1).set (QCM_TMO_COMPANY.cycles .a) 64

theorem witness_timeoutWrite : wTimeouts.tmoRatioOk .a 0 250 = true ∧ wTimeouts.tmoRatioOk .a 5 1024 = true ∧
    after (exec (.timeoutWrite .coresA none 0 250) wTimeouts) (fun t => t.tmoPending == [(0, 250)] &&
      t.regs == wTimeouts.regs) = true ∧
    after (exec (.timeoutWrite .coresA none 0 249) wTimeouts) (fun t => t.tmoPending == [] &&
      t.get (VIOL_INFO.kind (violWindow { dieWrite .coresA .a (tmoOffset 0) with addr := tmoOffset 0 })) == vkRange) = true ∧
    after (exec (.timeoutWrite .coresA (some .a) 0 250) wTimeouts) (fun t => t.tmoPending == []) = true := by
  decide +kernel

/-- A waiter of cluster 1, in a queue of plane `p`, that has waited 4,000 ns, one tick less and one tick more. -/
def wWaits (p : Nat) (now : Nat) : State :=
  { wTimeouts with now := now, waiters := [⟨.a, { src := .ofNat _ (0x2001 + 0x800 * p), dst := .ofNat _ (0x4001 + 0x800 * p), ring := 0,
                                                   words := [1], kind := .other, counts := true }, 0, 9, false⟩] }

/-- Requester 0 of the arbiter of region 1 has waited since tick 0. -/
def wAsks (now : Nat) : State :=
  match arbRow 33 with
  | some row => { wTimeouts with now := now, arbs := [(arbKey .a 33, some { arbReset row with waits := [(0, 0, 9)] })] }
  | none => quiet

theorem witness_levelTimeout :
    (wWaits 0 100).waiters.all (fun w => w.waitsIn .a 1 1 && w.item.kind == .other && !w.reserved) = true ∧
    (wWaits 0 100).arbWaits .a 1 1 = [] ∧ (wWaits 0 101).aged .a 1 0 9 = true ∧ (wWaits 0 101).onEdge .a 1 0 9 = false ∧
    (wWaits 0 100).aged .a 1 0 9 = true ∧ (wWaits 0 100).onEdge .a 1 0 9 = true ∧ (wWaits 0 99).aged .a 1 0 9 = false ∧
    after (exec (.levelTimeout .a 1 1) (wWaits 1 101)) (fun t => t.waiters == [] &&
      t.get (QCM_TMO_DROPS_L.count .a 1) == 1 && t.get (QCM_LAST_DROP.queue .a) == 0x2801 &&
      t.get (QCM_LAST_DROP.reason .a) == 1 && t.get (tmoIrq .a 1) == 1 && t.posts.length == 1 && t.dieA == wDie) = true ∧
    after (exec (.levelTimeout .a 1 1) (wWaits 1 100)) (fun t => t.waiters.length == 1 && t.expiring == [(.a, 1, 1)]) = true := by
  decide +kernel

theorem witness_requesterTimeout : ∃ l i, 0 < l ∧ l < 6 ∧ (wAsks 401).waiters = [] ∧
    (wAsks 401).arbWaits .a l i = [(33, 0, 0, 9)] ∧ (wAsks 401).aged .a l 0 9 = true ∧ (wAsks 401).onEdge .a l 0 9 = false :=
  ⟨1, 8, by decide +kernel⟩
/-! ## The segment radio.  The sealed octets were computed outside the model with AES of another implementation, CCM*
and HKDF written from their standards: node 4 has the key of the octets 0 to 15, slot 3 holds the octet 3. -/

/-- A frame of a node to radio 1: its kind, key and numbers, and its sealed octets. -/
def wFrame (kind key seq src counter : Nat) (body : List Byte) : RxFrame :=
  { psdu := withFcs (leBytes 1 (kind * 16 + 8) ++ leBytes 1 (64 + key * 16 + 5) ++ leBytes 1 seq ++
      leBytes 2 (2 ^ 14) ++ leBytes 2 src ++ leBytes 4 counter ++ body),
    phyOk := true, offset := none, snr := 0 }

/-- Radio 1 is in service and knows node 4, whose last sequence number is 7 and last counter 100. -/
def wRadio : State :=
  let s := ((quiet.set (RAD_CTRL.enable 1) 1).set CYC_STATUS.state stLOCKED).set (RAD_PHY.mode 1) 1
  { s with
    nodes := [(4, { Node.unknown with
      eui := 99, transport := 1, depth := 1, joined := true, rxSeq := some 7, counters := [some 100, none, none, none],
      missRun := 2, longPre := true })]
    link := { s.link with nodes := [(4, (List.range 16).map (BitVec.ofNat 8))] } }

/-- The frame is heard: every premise of HearsFrame. -/
def hears (s : State) (r : Fin 4) (kind : Nat) (f : RxFrame) (body : List Byte) (p : RxHead → Bool) : Bool :=
  s.get (RAD_CTRL.enable r) == 1 && (s.radioHeadOf r f).any fun h => h.toModule && h.kind == kind && h.key != 2 &&
    (s.node h.src).joined &&
    (s.node h.src).counterOk (s.counterOf h.key h.src h.counter h.auth h.sealed_) h.counter &&
    s.openFrame h.key h.src (s.node h.src).eui h.counter h.auth h.sealed_ == some body && p h

theorem witness_badFrame : wRadio.radioHeadOf 1 { wFrame 2 0 8 4 101 [] with phyOk := false } = none ∧
    after (exec (.radioBadFrame 1 { wFrame 2 0 8 4 101 [] with phyOk := false }) wRadio) (fun t =>
      onlyRegs [RAD_RX_BAD.count 1] wRadio t && t.get (RAD_RX_BAD.count 1) == 1) = true ∧
    (wRadio.get (RAD_CTRL.enable 0)) = 0 ∧
    after (exec (.report 1 { wFrame 2 0 8 4 101 [] with phyOk := false }) wRadio) (fun t =>
      t.get (RAD_RX_BAD.count 1) == 1) = true := by decide +kernel

/-- A frame of a node that is not joined, one that does not open, and one that repeats a counter, of each kind. -/
theorem witness_secFail : ∀ kind ∈ [2, 7], (wRadio.radioHeadOf 1 (wFrame kind 0 8 5 101 [])).any (fun h =>
      h.toModule && h.kind == kind && h.key == 0 && !(wRadio.node h.src).joined) = true ∧
    (wRadio.radioHeadOf 1 (wFrame kind 0 8 4 101 [0, 0, 0, 0])).any (fun h => h.toModule && h.kind == kind &&
      h.key == 0 && (wRadio.openFrame h.key h.src (wRadio.node h.src).eui h.counter h.auth h.sealed_).isNone) = true ∧
    (wRadio.radioHeadOf 1 (wFrame kind 0 8 4 100 [])).any (fun h =>
      h.toModule && h.kind == kind && h.key == 0 && !(wRadio.node h.src).counterOk
        (wRadio.counterOf h.key h.src h.counter h.auth h.sealed_) h.counter) = true := by
  decide +kernel

def wReport : RxFrame := wFrame 2 0 8 4 101 [230, 214, 86, 145, 59, 167, 29]
def wAgain : RxFrame := wFrame 2 0 7 4 101 [230, 214, 86, 242, 161, 145, 44]

theorem witness_report :
    hears wRadio 1 2 wReport [1, 5, 0] (fun h => (wRadio.node h.src).rxSeq != some h.seq) = true ∧
    hears wRadio 1 2 wAgain [1, 5, 0] (fun h => (wRadio.node h.src).rxSeq == some h.seq) = true ∧
    after (exec (.report 1 wReport) wRadio) (fun t => t.inputs == [[.report []]] &&
      t.get (RAD_RX_FRAMES.count 1) == 1 && (t.node 4).discards == 1) = true ∧
    after (exec (.report 1 wAgain) wRadio) (fun t => t.inputs == [] && t.get (RAD_DUPLICATES.count 1) == 1) = true := by
  decide +kernel

/-- The same report with one bit of its payload changed does not open. -/
theorem test_report_changed :
    after (exec (.report 1 (wFrame 2 0 8 4 101 [231, 214, 86, 145, 59, 167, 29])) wRadio) (fun t =>
      onlyRegs [RAD_SEC_FAIL.count 1, RAD_INT_STATUS.sec_fail 1] wRadio t) = true := by decide +kernel

/-- Generation 3 of radio 1 announced the cancellation of cue 77. -/
def wCancel : State :=
  { wRadio with
    radios := [(1, { RadioState.empty with gens := [(3, some { id := 77, stamp := 9, cancel := true, node := none })] })] }

theorem witness_nodeRequests :
    hears wRadio 1 7 (wFrame 7 0 8 4 101 [231, 162, 105, 62, 128]) [0] (fun h =>
      (wRadio.node h.src).rxSeq != some h.seq && (wRadio.node h.origin).joined) = true ∧
    after (exec (.grantRequest 1 (wFrame 7 0 8 4 101 [231, 162, 105, 62, 128]) [⟨9, 0, 2, 1, 0⟩]) wRadio) (fun t =>
      (t.node 4).grants == [⟨9, 0, 2, 1, 0⟩] && (t.txQueue 1).any fun x => x.kind == 6 && x.dest == some 4) = true ∧
    hears wRadio 1 7 (wFrame 7 0 8 4 101 [229, 101, 223, 69, 224]) [2] (fun h =>
      (wRadio.node h.src).rxSeq != some h.seq && (wRadio.node h.origin).joined && h.src == h.origin) = true ∧
    after (exec (.rehomeRequest 1 (wFrame 7 0 8 4 101 [229, 101, 223, 69, 224]) [⟨9, 0, 2, 1, 0⟩]) wRadio) (fun t =>
      (t.node 4).transport == 1 && (t.node 4).parent == 0 && (t.node 4).grants == [⟨9, 0, 2, 1, 0⟩]) = true ∧
    hears wCancel 1 7 (wFrame 7 0 8 4 101 [230, 208, 15, 232, 79, 205]) [1, 3] (fun h =>
      (wCancel.node h.src).rxSeq != some h.seq && (wCancel.node h.origin).joined) = true ∧
    (Tbl.get none (wCancel.radio 1).gens 3).any (fun g => g.cancel && g.node == none) = true ∧
    after (exec (.repairRequest 1 (wFrame 7 0 8 4 101 [230, 208, 15, 232, 79, 205])) wCancel) (fun t =>
      t.get (RAD_REPAIRS.count 1) == 1 && (t.txQueue 1).any fun x => x.kind == 5 && x.body == cancelBody 3 77 false) = true ∧
    after (exec (.repairRequest 1 (wFrame 7 0 8 4 101 [230, 208, 15, 232, 79, 205]))
        { wCancel with clk := { wCancel.clk with cycle := 9 } }) (fun t =>
      (t.txQueue 1).any fun x => x.kind == 5 && x.body == cancelBody 3 77 true) = true := by
  decide +kernel

/-- The scheduler: of two grants of one slot that meet every fourth superframe one is admitted; a dedicated down
grant, for a relay, is not given to a sleepy node. -/
theorem test_admit : wRadio.takeable 4 1 [⟨9, 0, 2, 1, 0⟩, ⟨9, 0, 1, 1, 0⟩, ⟨9, 0, 2, 4, 0⟩] = [⟨9, 0, 2, 1, 0⟩] ∧
    { wRadio with nodes := [(4, { Node.unknown with joined := true, transport := 1, sleepy := true })] }.takeable 4 1
      [⟨9, 1, 2, 1, 0⟩] = [] := by decide +kernel

/-- The depth limit is 1, and slot 3 holds the key that join keys derive from. -/
def wOpen : State :=
  { wRadio.setObj 0x500B 0 1 with keys := { KeyStore.delivered with slots := [(3, wSlot 3)] } }

def wJoin : RxFrame :=
  wFrame 8 2 8 0 101 [185, 147, 167, 152, 169, 121, 116, 217, 117, 15, 187, 6, 121, 8, 254, 209]

def wJoinBody : List Byte := leBytes 8 98 ++ [2, 1, 30, 0]

/-- A join request through node 4, which is a relay where the depth limit is 2. -/
def wJoinVia : RxFrame :=
  { psdu := withFcs (leBytes 1 136 ++ leBytes 1 109 ++ leBytes 1 9 ++ leBytes 2 (2 ^ 14) ++ leBytes 2 4 ++
      leBytes 1 1 ++ leBytes 2 4 ++ leBytes 4 102 ++ [95, 88, 176, 161, 14, 242, 142, 182, 191, 205, 120, 246, 135, 110, 27, 71]),
    phyOk := true, offset := none, snr := 0 }

theorem witness_join : (wOpen.radioHeadOf 1 wJoin).any (fun h => h.toModule && h.kind == 8 && h.key == 2 &&
      h.origin == 0 && h.src == 0 && h.seq == 8 &&
      wOpen.openFrame 2 h.src 98 h.counter h.auth h.sealed_ == some wJoinBody) = true ∧
    (JoinReq.ofBytes wJoinBody).eui = 98 ∧ Tbl.get 0 (wOpen.radio 1).joinSeq 98 = 0 ∧
    wOpen.addressOf 98 = none ∧ wOpen.freeAddress = some 1 ∧ wOpen.parentOk 1 0 = true ∧
    after (exec (.joinRequest 1 wJoin 98 []) wOpen) (fun t => (t.node 1).joined && (t.node 1).eui == 98 &&
      (t.node 1).mains && (t.node 1).drift == 30 && t.get (RAD_INT_STATUS.join 1) == 1) = true ∧
    after (exec (.joinRequest 1 wJoin 98 [])
        { wOpen with radios := [(1, { RadioState.empty with joinSeq := [(98, 9)] })] }) (fun t =>
      t.nodes == wOpen.nodes && t.get (RAD_DUPLICATES.count 1) == 1) = true ∧
    (wRadio.radioHeadOf 1 wJoin).any (fun h => (wRadio.openFrame 2 h.src 98 h.counter h.auth h.sealed_).isNone) = true := by
  decide +kernel

theorem witness_joinVia : ((wOpen.setObj 0x500B 0 2).radioHeadOf 1 wJoinVia).any (fun h => h.toModule &&
      h.kind == 8 && h.key == 2 && h.origin == 4 && h.src == 4 && (wOpen.node 4).joined &&
      (wOpen.node 4).rxSeq != some h.seq && (wOpen.node 4).depth + 1 == 2 && wOpen.parentOk 1 4 &&
      wOpen.openFrame 2 h.src 98 h.counter h.auth h.sealed_ == some wJoinBody) = true ∧
    after (exec (.joinRequest 1 wJoinVia 98 []) (wOpen.setObj 0x500B 0 2)) (fun t => (t.node 1).parent == 4 &&
      (t.node 1).depth == 2) = true := by decide +kernel

def wItem (kind retries : Nat) : TxItem :=
  { dest := some 4, kind := kind, prio := 3, body := [], tag := 0, key := 0, eui := 0, copies := 1, retries := retries,
    seq := none }

def wFlight (retries : Nat) : State :=
  { wRadio.set (RAD_RETRY.limit 1) 3 with
    radios := [(1, { RadioState.empty with
      flight := some { node := 4, hop := 4, seq := 9, rendezvous := false, items := [wItem 6 retries] },
      queue := [wItem 11 0] })] }

def wAck : RxFrame := { psdu := withFcs [0x10, 9, 0, 0x80], phyOk := true, offset := none, snr := 0 }

theorem witness_acknowledged : fcsOk wAck.psdu = true ∧ wAck.psdu.length = 6 ∧
    after (exec (.acknowledgement 1 wAck) (wFlight 0)) (fun t => (t.radio 1).flight == none &&
      (t.node 4).missRun == 0 && !(t.node 4).longPre && !(t.node 4).repeated && t.get (RAD_RX_FRAMES.count 1) == 1) = true := by
  decide +kernel

/-- A rendezvous with node 4 after `run` missed ones, sent `copies` times to a node of the given miss mode. -/
def wRendezvous (run mode : Nat) : State :=
  { wFlight 0 with
    radios := [(1, { RadioState.empty with
      flight := some { node := 4, hop := 4, seq := 9, rendezvous := true, items := [wItem 6 0] } })]
    nodes := [(4, { wRadio.node 4 with missRun := run, longPre := false, sleep := [1, 1, BitVec.ofNat 8 mode] })] }

theorem witness_rendezvous :
    (∀ m ∈ [0, 1], after (exec (.ackMissing 1) (wRendezvous 1 m)) (fun t => t.get (RAD_RDV_MISSED.count 1) == 1 &&
      (t.node 4).missRun == 2 && t.get (RAD_INT_STATUS.long_mode 1) == 1 && (t.node 4).repeated == (m == 1) &&
      (t.node 4).longPre == (m == 0)) = true) ∧
    after (exec (.ackMissing 1) (wRendezvous 0 1)) (fun t => (t.node 4).missRun == 1 &&
      !(t.node 4).repeated && t.get (RAD_INT_STATUS.long_mode 1) == 0) = true ∧
    after (exec (.ackMissing 1) ((wFlight 2).set (RAD_CTRL.drained 1) 1)) (fun t =>
      t.get (RAD_DROPS.count 1) == 1 && (t.radio 1).flight == none) = true := by decide +kernel

theorem witness_ackMissing :
    after (exec (.ackMissing 1) (wFlight 2)) (fun t => t.get (RAD_RETRIES.count 1) == 1 &&
      (t.radio 1).queue.contains { wItem 6 3 with seq := some 9 } && (t.radio 1).queue.contains (wItem 11 0) &&
      regsBut [RAD_RETRIES.count 1] (wFlight 2) t) = true ∧
    after (exec (.ackMissing 1) (wFlight 3)) (fun t => t.get (RAD_DROPS.count 1) == 1 &&
      t.get (RAD_INT_STATUS.drop 1) == 1 && (t.radio 1).queue == [wItem 11 0] && (t.radio 1).flight == none) = true := by
  decide +kernel

def wSlots (mode : Nat) : State :=
  { (wRadio.set (RAD_STATUS.inact_ver 1) 5).set (RAD_PHY.mode 1) mode with
    radios := [(1, { RadioState.empty with inactive := [(0, 2 ^ 28 + 2 ^ 27), (1, 2 ^ 31)], active := [(0, 2 ^ 28)] })] }

theorem witness_swap : (wSlots 1).slotTableOk 1 ((wSlots 1).radio 1) = true ∧
    (wSlots 1).swapConflict 1 ((wSlots 1).radio 1) = false ∧
    after (exec (.slotTableSwap 1 5) (wSlots 1)) (fun t => (t.radio 1).swapBy == some 4 &&
      t.get (RAD_STATUS.swap_pending 1) == 1) = true ∧
    after (exec (.slotTableSwap 1 6) (wSlots 1)) (fun t => t.get (RAD_INT_STATUS.swap_refused 1) == 1 &&
      (t.radio 1).swapRefused == 1) = true ∧
    (wRadio.set (RAD_STATUS.inact_ver 1) 5).slotTableOk 1 RadioState.empty = false := by decide +kernel

theorem witness_slotData :
    after (exec (.slotDataAccess .coresA 1 none) ((wSlots 1).set (RAD_SLOT_ADDR.index 1) 511)) (fun t =>
      t.get (RAD_SLOT_ADDR.index 1) == 0 && t.out.length == 1) = true ∧
    after (exec (.slotDataAccess .coresA 1 (some 0x4FFFFFFF)) (wSlots 1)) (fun t =>
      Tbl.get 0 (t.radio 1).inactive 0 == 0x48000000 && t.get (RAD_SLOT_ADDR.index 1) == 1) = true ∧
    after (exec (.slotDataAccess .coresA 1 (some 0x4FFFFFFF)) ((wSlots 1).set (RAD_SLOT_ADDR.bank 1) 1)) (fun t =>
      (t.radio 1) == ((wSlots 1).radio 1)) = true := by decide +kernel

theorem witness_leave :
    after (exec (.radioLeave 1) wRadio) (fun t => (t.radio 1).leaveBy == some 128 &&
      (t.radio 1).moveTo == some (some 0) &&
      t.get (RAD_CTRL.leaving 1) == 1 && t.get (RAD_CTRL.enable 1) == 1) = true ∧
    after (exec (.radioLeaveEnd 1) { wRadio with
      radios := [(1, { RadioState.empty with leaveBy := some 0, queue := [wItem 6 0] })] }) (fun t =>
      t.get (RAD_CTRL.enable 1) == 0 && (t.radio 1).leaveBy == none && (t.radio 1).queue == [wItem 6 0]) = true ∧
    after (exec (.radioLeaveEnd 1) { wRadio with
      radios := [(1, { RadioState.empty with leaveBy := some 1 })] }) (fun t => t.get (RAD_CTRL.enable 1) == 1) = true ∧
    after (exec (.radioFailure 1) wRadio) (fun t => t.get (RAD_CTRL.enable 1) == 0 && t.posts.length == 1 &&
      (t.radio 1).moveTo == some none) = true ∧
    after (exec (.nodeLeave 4) wRadio) (fun t => !(t.node 4).joined &&
      (t.txQueue 1).any (fun x => x.kind == 11 && x.dest == some 4 && x.body == [4])) = true ∧
    (wRadio.node 5).joined = false := by decide +kernel

/-- Radio 1 in the slot of index j of superframe 0 at 50 Hz: slot 0 is a beacon, slot 1 a broadcast; a broadcast
waits, to be sent `copies` times. -/
def wSlot7 (j copies : Nat) : State :=
  { ((wRadio.set (RAD_DUTY.limit 1) 1000).set CYC_PERIOD.period (500000 * 256)) with
    clk := { ClockState.reset with rateAt := 0 }, now := j * 62500 + 500
    radios := [(1, { RadioState.empty with
      active := [(0, 2 ^ 28), (1, 5 * 2 ^ 28)],
      queue := [{ wItem 5 0 with dest := none, key := 1, copies := copies, body := [1, 2] }] })] }

/-- A guard time of a whole slot defers the beacon. -/
def wTight : State := (wSlot7 0 1).set (RAD_GUARD.guard 1) 2500

theorem witness_beacon : (wSlot7 0 1).shed = false ∧ (wSlot7 0 1).clk.cycle % 64 = 0 ∧
    slotKind ((wSlot7 0 1).slotEntry 1 0) = 1 ∧ (wSlot7 0 1).phase / 128 = 0 ∧
    ((wSlot7 0 1).radio 1).tx.2 ≤ (wSlot7 0 1).now ∧ (wSlot7 0 1).get (RAD_CTRL.enable 1) = 1 ∧
    (wSlot7 0 1).fitsNow ((wSlot7 0 1).slotNeed 1 26 false 0) 1 = true ∧
    wTight.fitsNow (wTight.slotNeed 1 26 false 0) 1 = false ∧
    after (exec (.radioSlotStart 1 0) (wSlot7 0 1)) (fun t => t.out.length == 1 && t.frameCounter == 1 &&
      (t.radio 1).bcastSeq == 1) = true ∧
    after (exec (.radioSlotStart 1 0) wTight) (fun t => t.out == [] && t.get (RAD_DEFERS.count 1) == 1) = true ∧
    after (exec (.radioSlotStart 1 0) (wSlot7 1 1)) (fun t => t == wSlot7 1 1) = true ∧
    { wSlots 1 with power := { quiet.power with failedAt := some 0 } }.shed = true := by decide +kernel

theorem witness_slots :
    (wSlot7 1 2).phase / 128 = 1 ∧ slotKind ((wSlot7 1 2).slotEntry 1 ((wSlot7 1 2).slotIndex 1)) = 5 ∧
    (wSlot7 1 2).campaign.on = false ∧ (wSlot7 1 2).dutyFull 1 = false ∧
    (wSlot7 1 2).fitsNow ((wSlot7 1 2).slotNeed 1 17 false 0) 1 = true ∧
    (wSlot7 7 1).phase / 128 = 7 ∧ slotKind ((wSlot7 7 1).slotEntry 1 ((wSlot7 7 1).slotIndex 7)) = 0 ∧
    after (exec (.radioSlotStart 1 7) (wSlot7 7 1)) (fun t => t.out == []) = true ∧
    (∀ n ∈ [1, 2], after (exec (.radioSlotStart 1 1) (wSlot7 1 n)) (fun t => t.out.length == 1 &&
      (t.radio 1).bcastSeq == 1 && (t.radio 1).queue.length == n - 1) = true) := by decide +kernel
/-! ## The powerline channels -/

/-- A frame of a node to port 1. -/
def wLine (kind key seq src counter : Nat) (body : List Byte) : RxFrame :=
  { psdu := withFcs (leBytes 1 (kind * 16 + 8) ++ leBytes 1 (128 + key * 16 + 5) ++ leBytes 1 seq ++
      leBytes 2 (2 ^ 14) ++ leBytes 2 src ++ leBytes 4 counter ++ body),
    phyOk := true, offset := none, snr := 0 }

def wPlc : State :=
  { ((wRadio.set (PLC_CTRL.enable 1) 1).set CYC_PERIOD.period 128000000).set (PLC_RETRY.limit 1) 2 with
    plcs := [(1, { PlcState.empty with plan := [(0, 2 ^ 28 + 31 * 2 ^ 23), (1, 6 * 2 ^ 28), (2, 2 * 2 ^ 28 + 31 * 2 ^ 23)] })] }

theorem witness_lineBad : wPlc.plcHeadOf 1 { wLine 2 0 8 4 101 [] with phyOk := false } = none ∧
    wPlc.get (PLC_CTRL.enable 0) = 0 ∧
    after (exec (.plcReport 1 { wLine 2 0 8 4 101 [] with phyOk := false }) wPlc) (fun t =>
      onlyRegs [PLC_RX_BAD.count 1] wPlc t && t.get (PLC_RX_BAD.count 1) == 1) = true ∧
    after (exec (.plcJoinRequest 1 { wLine 2 0 8 4 101 [] with phyOk := false } 5 []) wPlc) (fun t =>
      onlyRegs [PLC_RX_BAD.count 1] wPlc t) = true := by decide +kernel

/-- The frame is heard on the line: every premise of HearsOnLine. -/
def hearsLine (s : State) (p : Fin 2) (kind : Nat) (f : RxFrame) (body : List Byte) (q : RxHead → Bool) : Bool :=
  s.get (PLC_CTRL.enable p) == 1 && (s.plcHeadOf p f).any fun h => h.toModule && h.kind == kind && h.key == 0 &&
    (s.node h.src).joined && (s.node h.src).counterOk 0 h.counter &&
    s.openFrame 0 h.src (s.node h.src).eui h.counter h.auth h.sealed_ == some body && q h

theorem witness_lineSecFail : ∀ kind ∈ [2, 7], (wPlc.plcHeadOf 1 (wLine kind 0 8 5 101 [])).any (fun h =>
      h.toModule && h.kind == kind && h.key == 0 && !(wPlc.node h.src).joined) = true ∧
    (wPlc.plcHeadOf 1 (wLine kind 0 8 4 100 [])).any (fun h => !(wPlc.node h.src).counterOk 0 h.counter) = true ∧
    (wPlc.plcHeadOf 1 (wLine kind 0 8 4 101 [0, 0, 0, 0])).any (fun h =>
      (wPlc.openFrame 0 h.src (wPlc.node h.src).eui h.counter h.auth h.sealed_).isNone) = true := by
  decide +kernel

def wLineReport : RxFrame := wLine 2 0 8 4 101 [225, 210, 83, 107, 221, 125, 203, 7]
def wLineAgain : RxFrame := wLine 2 0 7 4 101 [225, 210, 83, 107, 219, 198, 31, 73]

theorem witness_lineReport :
    hearsLine wPlc 1 2 wLineReport [6, 1, 5, 0] (fun h => (wPlc.node h.src).rxSeq != some h.seq) = true ∧
    hearsLine wPlc 1 2 wLineAgain [6, 1, 5, 0] (fun h => (wPlc.node h.src).rxSeq == some h.seq) = true ∧
    after (exec (.plcReport 1 wLineReport) wPlc) (fun t => t.inputs == [[.report []]] &&
      (t.plc 1).acks == [(4, 8, 0x8000)]) = true ∧
    after (exec (.plcReport 1 wLineAgain) wPlc) (fun t => t.inputs == [] && t.get (PLC_DUPLICATES.count 1) == 1 &&
      (t.plc 1).acks == [(4, 7, 0x8000)]) = true := by decide +kernel

/-- Generation 3 of port 1 announced the cancellation of cue 77. -/
def wPlcCancel : State :=
  { wPlc with plcs := [(1, { PlcState.empty with gens := [(3, some { id := 77, stamp := 9, cancel := true, node := none })] })] }

def wLineGrant (seq : Nat) (body : List Byte) : RxFrame := wLine 7 0 seq 4 101 body

theorem witness_lineGrants :
    hearsLine wPlc 1 7 (wLineGrant 8 [231, 217, 244, 130, 13]) [0] (fun h =>
      (wPlc.node h.src).rxSeq != some h.seq) = true ∧
    after (exec (.plcGrantRequest 1 (wLineGrant 8 [231, 217, 244, 130, 13]) [⟨9, 0, 2, 1, 0⟩]) wPlc) (fun t =>
      (t.node 4).transport == 5 && (t.txQueue 5).any fun x => x.kind == 6 && x.dest == some 4) = true ∧
    hearsLine wPlc 1 7 (wLineGrant 8 [229, 93, 255, 238, 32]) [2] (fun h =>
      (wPlc.node h.src).rxSeq != some h.seq) = true ∧
    hearsLine wPlc 1 7 (wLineGrant 7 [231, 110, 171, 95, 25]) [0] (fun h =>
      (wPlc.node h.src).rxSeq == some h.seq) = true ∧
    hearsLine wPlcCancel 1 7 (wLineGrant 8 [230, 208, 9, 245, 179, 222]) [1, 3] (fun h =>
      (wPlcCancel.node h.src).rxSeq != some h.seq) = true ∧
    (Tbl.get none (wPlcCancel.plc 1).gens 3).any (fun g => g.cancel && g.node == none) = true ∧
    after (exec (.plcGrantRequest 1 (wLineGrant 8 [230, 208, 9, 245, 179, 222]) []) wPlcCancel) (fun t =>
      t.get (PLC_REPAIRS.count 1) == 1 && (t.txQueue 1).any fun x => x.body == cancelBody 3 77 false) = true := by
  decide +kernel

/-- The depth limit is 1, and slot 3 holds the key that join keys derive from. -/
def wPlcOpen : State := { wPlc.setObj 0x500B 0 1 with keys := wOpen.keys }

def wLineJoin : RxFrame := wLine 8 2 8 0 101 [185, 147, 167, 152, 169, 121, 116, 217, 117, 15, 187, 6, 150, 39, 56, 190]

theorem witness_lineJoin : (wPlcOpen.plcHeadOf 1 wLineJoin).any (fun h => h.toModule && h.kind == 8 && h.key == 2 &&
      h.seq == 8 && wPlcOpen.openFrame 2 h.src 98 h.counter h.auth h.sealed_ == some wJoinBody) = true ∧
    wPlcOpen.addressOf 98 = none ∧ wPlcOpen.freeAddress = some 1 ∧ Tbl.get 0 (wPlcOpen.plc 1).joinSeq 98 = 0 ∧
    after (exec (.plcJoinRequest 1 wLineJoin 98 []) wPlcOpen) (fun t => (t.node 1).joined && (t.node 1).transport == 5 &&
      t.get (PLC_INT_STATUS.join 1) == 1) = true ∧
    after (exec (.plcJoinRequest 1 wLineJoin 98 [])
        { wPlcOpen with plcs := [(1, { PlcState.empty with joinSeq := [(98, 9)] })] }) (fun t =>
      t.nodes == wPlcOpen.nodes && t.get (PLC_DUPLICATES.count 1) == 1) = true := by decide +kernel

/-- Window w of a plan: broadcast, covered, acknowledgement, idle. -/
def wWindow (w : Nat) : State :=
  { wPlc with clk := { ClockState.reset with rateAt := 0 }, now := w * 125000 + 500 }

theorem witness_windows : (wWindow 0).shed = false ∧ ((wWindow 0).plc 1).heldUntil ≤ (wWindow 0).now ∧
    (∀ w : Fin 4, (wWindow w).phase / 256 = w) ∧ (wWindow 0).campaign.on = false ∧
    wPlc.get CYC_STATUS.state = stLOCKED ∧ wPlc.get (PLC_STATUS.ghost_sync 1) = 0 ∧
    planKind (Tbl.get 0 (wPlc.plc 1).plan (wPlc.windowIndex 0)) = 1 ∧
    planKind (Tbl.get 0 (wPlc.plc 1).plan (wPlc.windowIndex 1)) = 6 ∧
    planKind (Tbl.get 0 (wPlc.plc 1).plan (wPlc.windowIndex 2)) = 2 ∧
    planKind (Tbl.get 0 (wPlc.plc 1).plan (wPlc.windowIndex 3)) = 0 ∧
    wPlc.plcRun 1 26 ≤ min (planRun (2 ^ 28 + 31 * 2 ^ 23)) 32 ∧ wPlc.plcFitsNow 1 26 (wPlc.plcRun 1 26) = true ∧
    wPlc.plcRun 1 32 ≤ min (planRun (2 * 2 ^ 28 + 31 * 2 ^ 23)) 32 ∧ wPlc.plcFitsNow 1 32 (wPlc.plcRun 1 32) = true ∧
    (wPlc.set CYC_PERIOD.period 1).plcFitsNow 1 26 ((wPlc.set CYC_PERIOD.period 1).plcRun 1 26) = false ∧
    after (exec (.plcWindowStart 1 0) ((wWindow 0).set CYC_PERIOD.period 1)) (fun t => t.out == [] &&
      t.get (PLC_DEFERS.count 1) == 1) = true ∧
    after (exec (.plcWindowStart 1 0) ((wWindow 0).set (PLC_PHY.atten 1) 6)) (fun t => t.out.length == 1 &&
      t.out.all (fun o => match o with | .powerline 1 6 _ => true | _ => false) && t.frameCounter == 1 &&
      t.get (PLC_STATUS.line_held 1) == 1) = true ∧
    after (exec (.plcWindowStart 1 2) { wWindow 2 with
        plcs := [(1, { wPlc.plc 1 with acks := [(4, 8, 0x8000)] })] }) (fun t => t.out.length == 1 &&
      (t.plc 1).acks == []) = true ∧
    after (exec (.plcWindowStart 1 1) ((wWindow 1).set (PLC_STATUS.line_held 1) 1)) (fun t =>
      t.get (PLC_STATUS.line_held 1) == 0) = true ∧
    after (exec (.plcWindowStart 1 1) (wWindow 2)) (fun t => t == wWindow 2) = true := by decide +kernel

def wGroup (repeats : Nat) : State :=
  { wPlc with
    plcs := [(1, { PlcState.empty with groups := [{ node := 4, seq := 6, records := [[0x13, 1, 2]], repeats := repeats },
      { node := 5, seq := 1, records := [], repeats := 0 }] })] }

theorem witness_unconfirmed :
    after (exec (.plcReplyMissing 1 4) (wGroup 1)) (fun t => t.get (PLC_RETRIES.count 1) == 1 &&
      (t.plc 1).groups.all (fun g => g.node == 5) && (t.plc 1).queue.all (fun x => x.kind == 3 && x.dest == some 4 &&
        x.tag == 3 && x.seq == some 6 && x.retries == 2) && (t.plc 1).queue.length == 1 && (t.node 4).retries == 1) =
      true ∧
    after (exec (.plcReplyMissing 1 4) (wGroup 2)) (fun t => t.get (PLC_DROPS.count 1) == 1 &&
      t.get (PLC_INT_STATUS.drop 1) == 1 && (t.plc 1).groups.all (fun g => g.node == 5) && (t.plc 1).queue == []) = true ∧
    after (exec (.plcReplyMissing 1 4) ((wGroup 1).set (PLC_CTRL.drained 1) 1)) (fun t =>
      t.get (PLC_DROPS.count 1) == 1) = true ∧
    after (exec (.plcReplyMissing 1 6) (wGroup 2)) (fun t => t == wGroup 2) = true := by decide +kernel

theorem witness_portLeave : (wPlc.setObj 0x5404 0 1).plcShared = true ∧ wPlc.plcShared = false ∧
    after (exec (.plcLeave 1) (wPlc.setObj 0x5404 0 1)) (fun t => (t.plc 1).leaveBy == some 128 &&
      t.get (PLC_CTRL.leaving 1) == 1 && t.get (PLC_CTRL.enable 1) == 1) = true ∧
    after (exec (.plcLeave 1) wPlc) (fun t => t.get (PLC_CTRL.enable 1) == 0 && t.get (PLC_CTRL.leaving 1) == 0) = true ∧
    after (exec (.plcLineFault 1) (wPlc.setObj 0x5404 0 1)) (fun t => (t.plc 1).moveTo == some (some 4)) = true ∧
    after (exec (.plcLineFault 1) wPlc) (fun t => t.get (PLC_CTRL.enable 1) == 0 && t.posts.length == 1 &&
      t.get (PLC_INT_STATUS.line_fault 1) == 1) = true ∧
    after (exec (.planDataRead .host 1) (wPlc.set (PLC_PLAN_ADDR.index 1) 255)) (fun t =>
      t.get (PLC_PLAN_ADDR.index 1) == 0 && t.plcs == wPlc.plcs && t.out.length == 1) = true := by decide +kernel

/-! ## The footlight chains -/

/-- At phase 256 of cycle 0 chain 2 has two devices; position 0 waits for its configure, position 1 shows level 9 on channel 3. -/
def wChain (count : Nat) : State :=
  { ((((wStage 4).set (FLC_CTRL.enable 2) 1).set (FLC_CTRL.devices 2) 2).set MCTL_STATUS.outputs_en 1).set
      (FLC_CTRL.count 2) count with
    clk := { (wStage 4).clk with cycle := 0, cycleStart := 0, cycleLen := 500000 * 256, rateAt := 0, ratePhase := 0 }
    now := 125000
    chains := [(2, { ChainState.empty with configure := [0], levels := [(7, 9)] })] }

theorem witness_chainStart : (wChain 0).phase = 256 ∧ (wChain 0).noStage = false ∧ (((wChain 0).chain 2).dev 1).temp = none ∧
    after (exec (.chainFrameStart 2) (wChain 0)) (fun t =>
      t.out == [.chainFrame 2 [share 0 0 0 0 3 0, share 0 0 0 9 0 0]] && (t.chain 2).configure == [] &&
      (t.chain 2).fallback == [0] && (t.chain 2).levels == [(7, 9)] && t.get (FLC_STATUS.in_frame 2) == 1 &&
      2 * t.get (FLC_LATCH_AT.us 2) == 2 * 64 + 105 * 2) = true ∧
    after (exec (.chainFrameStart 2) { wChain 0 with chains := [(2, { ChainState.empty with fallback := [1] })] })
      (fun t => t.out == [.chainFrame 2 [share 0 0 0 0 0 0, share 0 0 0 0 2 0]] && (t.chain 2).fallback == []) = true ∧
    after (exec (.chainFrameStart 2) (wChain 1)) (fun t => t.get (FLC_LATCH_AT.us 2) == 26944 &&
      t.out == [.chainFrame 2 (List.replicate 512 (share 0 0 0 0 0xE 0))]) = true ∧
    after (exec (.chainFrameStart 3) (wChain 0)) (fun t => t == wChain 0) = true ∧
    after (exec (.chainFrameStart 2) { wChain 0 with now := 124000 }) (fun t => t.out == []) = true ∧
    { wChain 0 with holder := none }.noStage = true ∧
    after (exec (.chainCountRequest 2) (wChain 0)) (fun t => t.get (FLC_CTRL.count 2) == 1) = true := by decide +kernel

def wInFrame (count : Bool) : State :=
  { (wChain 0).set (FLC_STATUS.in_frame 2) 1 with
    chains := [(2, { ChainState.empty with frame := some { count := count, devices := 2, snapshot := [], commands := [] } })] }

def wWord : BitVec 24 := BitVec.ofNat 24 (0x12305 * 16 + crc4 20 0x12305 0)

theorem witness_chainReturn : statusOk wWord.toNat = true ∧ statusFlag wWord.toNat 7 = false ∧
    statusFlag wWord.toNat 6 = false ∧
    after (exec (.chainReturnEnd 2 { silent := false, preamble := 0xAC35, bits := 48, words := [wWord, wWord] }) (wInFrame false))
      (fun t => t.get (FLC_STATUS.returned 2) == 2 && ((t.chain 2).dev 1).valid && ((t.chain 2).dev 1).word == wWord.toNat &&
        ((t.chain 2).dev 0).silent == 0 && t.get (FLC_STATUS.frame_error 2) == 0) = true ∧
    after (exec (.chainReturnEnd 2 { silent := false, preamble := 0xAC35, bits := 49, words := [wWord, wWord] }) (wInFrame false))
      (fun t => t.get (FLC_STATUS.length_error 2) == 1 && t.get (FLC_STATUS.frame_error 2) == 0 &&
        t.get (FLC_LEN_ERRORS.count 2) == 1 && ((t.chain 2).dev 1).silent == 1) = true ∧
    after (exec (.chainReturnEnd 2 { silent := false, preamble := 0xAC34, bits := 48, words := [wWord, wWord] }) (wInFrame false))
      (fun t => t.get (FLC_STATUS.frame_error 2) == 1 && t.get (FLC_STATUS.length_error 2) == 0 &&
        t.get (FLC_INT_STATUS.frame_error 2) == 1) = true ∧
    after (exec (.chainReturnEnd 2 { silent := true, preamble := 0, bits := 0, words := [] }) (wInFrame false))
      (fun t => t.get (FLC_STATUS.frame_error 2) == 0 && t.get (FLC_LEN_ERRORS.count 2) == 0 &&
        ((t.chain 2).dev 0).silent == 1 && (t.chain 2).frame == none) = true := by decide +kernel

theorem witness_countReturn :
    after (exec (.chainReturnEnd 2 { silent := false, preamble := 0xAC35, bits := 40960 - 56 * 512, words := [] }) (wInFrame true))
      (fun t => t.get (FLC_COUNT.valid 2) == 1 && t.get (FLC_COUNT.devices 2) == 512 &&
        t.get (FLC_INT_STATUS.count_done 2) == 1) = true ∧
    after (exec (.chainReturnEnd 2 { silent := false, preamble := 0xAC35, bits := 40960 - 56 * 513, words := [] }) (wInFrame true))
      (fun t => t.get (FLC_COUNT.valid 2) == 0) = true ∧
    after (exec (.chainReturnEnd 2 { silent := false, preamble := 0xAC35, bits := 40959, words := [] }) (wInFrame true))
      (fun t => t.get (FLC_COUNT.valid 2) == 0 && t.inputs == []) = true := by decide +kernel

theorem witness_chainLatch : ((wChain 0).chain 2).frame = none ∧
    after (exec (.chainLatch 2) ((wChain 0).set (FLC_STATUS.in_frame 2) 1)) (fun t => t.out == [.chainLatch 2] &&
      t.get (FLC_STATUS.in_frame 2) == 0 && t.get (FLC_STATUS.latch_seen 2) == 1) = true ∧
    after (exec (.latchMissing 2) ((wChain 0).set (FLC_STATUS.latch_seen 2) 1)) (fun t =>
      t.get (FLC_LATCH_MISSING.count 2) == 1 && t.get (FLC_STATUS.latch_seen 2) == 0 &&
      t.get (FLC_INT_STATUS.latch_missing 2) == 1) = true := by decide +kernel
/-! ## Feeder metering -/

def wResult (c : Nat) : MeterResult := { MeterResult.zero with cycle := c, v := 230000, i := 5, p := -7, q := 3, pf := -2, freq := 5000, flags := 1 }

def wResults (ready : Bool) : State :=
  { (wStage 6).setObj 0x600A 0 3 with
    clk := { (wStage 6).clk with cycleStart := 0, cycleLen := 500000 * 256, rateAt := 0, ratePhase := 0 }
    now := 15626
    meter := { MeterState.reset with ready := ready, last := [(2, wResult 5)], sums := [(2, [1])], counts := [(2, 1)] } }

theorem witness_meterReady : Tbl.wf MeterResult.zero (wResults true).meter.last = true ∧
    after (exec .meterResultsReady (wResults true)) (fun t => Tbl.get MeterResult.zero t.meter.results 2 == wResult 5 &&
      !t.meter.ready && t.get MTR_INT_STATUS.cycle_ready == 1 && t.meter.sums == [] && t.meter.counts == []) = true ∧
    (5 - 1 + 1) % max 1 ((wResults true).obj 0x600A 0) ≠ 0 ∧
    after (exec .meterResultsReady (wResults true |>.setObj 0x600A 0 2)) (fun t =>
      Tbl.get MeterResult.zero t.meter.results 2 == wResult 5 && t.meter.sums == []) = true ∧
    (wResults true).phase = 32 ∧ { wResults true with now := 15000 }.phase < 32 ∧
    after (exec .meterResultsReady { wResults true with now := 15000 }) (fun t => t.meter.ready) = true ∧
    after (exec .meterResultsReady (wResults false)) (fun t => t == wResults false) = true := by decide +kernel

/-- An interval of one second that ends now, and one tick before. -/
def wHistory (start : Nat) : State :=
  { (((wStage 6).set MTR_CTRL.enable 1).set MTR_CTRL.feeder_en 4).setObj 0x6050 0 1 with
    clk := { (wStage 6).clk with cycleStart := start },
    meter := { MeterState.reset with hist := [(2, { HistAcc.empty with pMax := some 90, vMin := [some 1, some 1, some 1], vMax := [some 2, some 2, some 2] })] } }

theorem witness_historyDue : (wHistory 25000000).historyDue = true ∧ (wHistory 24999999).historyDue = false ∧
    (List.range 6).filter (fun f => decide (bitOf ((wHistory 0).get MTR_CTRL.feeder_en) f = 1)) = [2] := by
  decide +kernel

def wPulse (free : Nat) : State :=
  { ((quiet.set (MTR_PULSE_CFG.enable 7) 1).set (MTR_PULSE_TIM.backlog 7) 1).set (MTR_PULSE_TIM.width 7) 50 with
    now := 1000, meter := { MeterState.reset with free := [(7, free)] } }

theorem witness_pulse :
    after (exec (.pulseOutput 7) (wPulse 1000)) (fun t => t.out == [.pulse 7 50] &&
      t.get (MTR_PULSE_TIM.backlog 7) == 0 && Tbl.get 0 t.meter.free 7 == 1000 + 100 * 25000) = true ∧
    after (exec (.pulseOutput 7) (wPulse 1001)) (fun t => t == wPulse 1001) = true := by decide +kernel

theorem witness_harmonicRequest :
    after (exec (.harmonicRequest (.register .coresA) 21) quiet) (fun t => t.meter.harm == some (21, 0, 0) &&
      t.get MTR_STATUS.harm_busy == 1) = true ∧
    after (exec (.harmonicRequest (.register .coresA) 21) (quiet.set MTR_STATUS.harm_busy 1)) (fun t =>
      t == quiet.set MTR_STATUS.harm_busy 1) = true ∧
    quiet.isReference 18 = true ∧ quiet.isReference 21 = false ∧
    after (exec (.calibrationRequest (.register .coresA) 21) quiet) (fun t => t.meter.calQueue == [21] && t.regs == []) =
      true ∧
    after (exec (.calibrationRequest (.register .coresA) 18) quiet) (fun t => t == quiet) = true := by decide +kernel

def wHarmonic (n : Nat) : State := { quiet with meter := { MeterState.reset with harm := some (21, 0, n) } }

theorem witness_harmonicDone :
    after (exec (.harmonicDone (2 ^ 32 - 1) (2 ^ 16 - 1) (List.replicate 30 7)) (wHarmonic 8)) (fun t =>
      t.meter.harm == none && t.get MTR_HARM_STATUS.valid == 1 && t.get MTR_HARM_STATUS.input == 21 &&
      t.get MTR_HARM_FUND.rms == 2 ^ 32 - 1 && t.get MTR_HARM_THD.thd == 65535 && t.get (MTR_HARM.amp 29) == 7) = true ∧
    after (exec (.harmonicDone 1 1 []) (wHarmonic 7)) (fun t => t == wHarmonic 7) = true := by decide +kernel

def wAuto (now : Nat) : State :=
  { quiet.set MTR_CAL_AUTO.hours 1 with now := now, meter := { MeterState.reset with calNext := 43 } }

theorem witness_calibrationAuto :
    after (exec .calibrationAuto (wAuto (3600 * 25000000))) (fun t => t.meter.calQueue == [21] && t.meter.calNext == 0) =
      true ∧
    after (exec .calibrationAuto (wAuto (3600 * 25000000 - 1))) (fun t => t.meter.calQueue == []) = true := by
  decide +kernel

def wTheft (secAbove : Nat) : State :=
  { quiet with
    rtc := { RtcState.reset with count := 120 * 32768 },
    theft := { Theft.empty with
      running := true, next := 251, threshold := 5000, secAbove := secAbove,
      seconds := 60, scale := [2 ^ 173, 2 ^ 173, 2 ^ 173] } }

theorem witness_theft :
    after (exec (.theftSecond (5 * 2 ^ 32) (6 * 2 ^ 32) 0) (wTheft 0)) (fun t => t.theft.seconds == 61 && t.theft.sums == [5000, 6000, 0] &&
      t.theft.secAbove == 1) = true ∧
    after (exec .theftMinute (wTheft 1)) (fun t => t.theft.next == 0 && t.theft.minutes == 1 && t.theft.seq == 1 &&
      t.theft.firstFlow == 120 && t.theft.lastSave == 120 && (Tbl.get [] t.theft.records 251).take 4 == leBytes 4 120 &&
      t.theft.sums == [0, 0, 0]) = true ∧
    after (exec .theftMinute (wTheft 0)) (fun t => t.theft.records == [] && t.theft.minutes == 0 && t.theft.seconds == 0) = true ∧
    quiet.theft.running = false := by decide +kernel

theorem witness_selections :
    after (exec (.resultSelect .coresA 21) { quiet with meter := { MeterState.reset with results := [(21, wResult 9)] } })
      (fun t => t.get MTR_RES_SEL.input == 21 && t.get MTR_RES_V.mv == 230000 && t.get MTR_RES_P.p == 2 ^ 32 - 7 &&
        t.get MTR_RES_PF.pf == 65534 && t.get MTR_RES_CYCLE.cycle == 9) = true ∧
    after (exec (.resultSelect .coresA 22) quiet) (fun t => t.get MTR_RES_SEL.input == 0 && t.posts.length == 1) = true ∧
    after (exec (.totalSelect .coresA 0x345) { quiet with meter := { MeterState.reset with totals := [(15 * 5 + 4, 2 ^ 32 + 1000)] } })
      (fun t => t.get MTR_TOT_LO.mwh_lo == 1000 && t.get MTR_TOT_HI.mwh_hi == 1 && t.get MTR_TOT_WIN.wh == 4294968) = true ∧
    after (exec (.totalSelect .coresA 0x400) quiet) (fun t => t.get MTR_TOT_SEL.phase == 0 && t.posts.length == 1) = true := by
  decide +kernel
/-! ## The understudy and the Falsia link -/

def wTwin : State :=
  { (((((wStage 8).set (TWN_STATUS.role .a) roSTAGE).set (TWN_STATUS.role .b) roUNDERSTUDY).set
      (TWN_STATUS.link_up .a) 1).set (TWN_STATUS.link_up .b) 1).set (TWN_MATCH_RUN.run .a) 6 with
    dieA := { wDie with closed := [(4, 77)], closedCycle := 7, done := [(3, 2)] },
    dieB := { wDie with closed := [(4, 77)], closedCycle := 7, done := [(3, 2)] },
    sideB := { Side.start with expect := 5, totals := [(3, 2)] }
    clk := { ClockState.reset with cycle := 8, rateAt := 0 }, now := 7813 }

/-- The same at a step of the phase. -/
def wAt (step : Nat) : State := { wTwin with now := (step * 500000 + 1023) / 1024 }

theorem witness_phases : wTwin.phase = 16 ∧ (wAt 16).phase = 16 ∧ (wAt 1016).phase = 1016 ∧ (wAt 15).phase = 15 := by
  decide +kernel

def wOneOff (u : Nat) : State := { wTwin with dieB := { wDie with closed := Tbl.put 0 [(4, 77)] u 9, closedCycle := 7, done := [(3, 2)] } }

theorem witness_digestsAgree : wTwin.holder = some .a ∧ wTwin.twin.disputes = [] ∧ wTwin.roleOf .b = roUNDERSTUDY ∧
    wTwin.dieA.closedCycle = wTwin.clk.cycle - 1 ∧ wTwin.dieB.closedCycle = wTwin.clk.cycle - 1 ∧
    wTwin.sideB.counted ≠ some (wTwin.clk.cycle - 1) ∧ wTwin.get (TWN_STATUS.provisional .b) = 0 ∧
    wTwin.dieA.moves = [] ∧ (∀ u, u < 256 → wTwin.excluded .b u = false) ∧
    after (exec (.healthDeadline (some false) (some false) []) wTwin) (fun t => t.holder == some .a &&
      t.get (TWN_STATUS.fit .b) == 1 && t.get (TWN_STATUS.fit .a) == 0 && t.get (TWN_MATCH_RUN.run .a) == 7 &&
      t.get (TWN_MATCH_RUN.run .b) == 1 && t.twin.silent == 0 && t.posts == []) = true := by decide +kernel

theorem witness_digestsDiffer : (∀ v, v < 256 → (Tbl.get 0 (wOneOff 255).dieA.closed v =
      Tbl.get 0 (wOneOff 255).dieB.closed v ↔ v ≠ 255)) ∧
    after (exec (.healthDeadline (some false) (some true) []) (wOneOff 255)) (fun t => t.get (TWN_STATUS.fit .b) == 0 &&
      t.get (TWN_MATCH_RUN.run .a) == 0 && t.get (TWN_MISMATCHES.count .b) == 1 &&
      t.twin.disputes == [{ unit := 255, cycle := 7, again := false, tried := false, clones := none, settled := false }] &&
      t.get (TWN_DISPUTES.count .a) == 1 && t.get (TWN_INT_STATUS.dispute .b) == 1 && t.posts.length == 1) = true := by
  decide +kernel

theorem witness_silence :
    after (exec (.healthDeadline none (some false) []) { wAt 17 with twin := { Twin.start with silent := 1 } }) (fun t =>
      t.holder == some .a) = true ∧
    after (exec (.healthDeadline none (some false) []) { wTwin with twin := { Twin.start with silent := 1 } }) (fun t =>
      t.holder == none && t.journal.stopped && t.twin.release == some (.a, 6) && t.roleOf .a == roTEST &&
      t.get (TWN_HO_CAUSE.cause .a) == 6 && t.get (TWN_INT_STATUS.holder_silent .b) == 1 &&
      t.get (TWN_MATCH_RUN.run .a) == 0) = true := by decide +kernel

def wLink (seq : Nat) (r : Rec) : State :=
  { wTwin with journal := { Journal.start with link := [{ toDie := .b, seq := seq, words := [], content := r }] } }

theorem witness_dataRecord :
    after (exec .dataWriteRecord (wLink 5 (.dataWrite 9 [.sense 5 1]))) (fun t => t.journal.link == [] &&
      t.sideB.expect == 6 && t.sideB.packets == 1 && t.dieB.placed == [.sense 5 1] && t.sideB.input == 9 &&
      t.regs == wTwin.regs && t.dieA == wTwin.dieA && t.dieB.hot == wDie.hot) = true ∧
    after (exec .dataWriteRecord (wLink 4 (.dataWrite 9 [.sense 5 1]))) (fun t => t.roleOf .b == roRESYNC &&
      t.journal.link == [] && t.get (TWN_INT_STATUS.other_left .a) == 1) = true ∧
    after (exec .managementWriteRecord (wLink 5 (.dataWrite 9 []))) (fun t => t == wLink 5 (.dataWrite 9 [])) = true := by
  decide +kernel

/-- A cue that a schedule entry or a go gave, not yet fixed. -/
def wTaken (src : CueSrc) (stamp : Option Nat) : Cue :=
  { src := src, op := 1, stamp := stamp, tai := none, phase := none, arm := false, exact := false, perceptual := false,
    curtain := none, override_ := 0, level := 0, target := 0, last := 0, ranges := none, fade := 0, curve := false,
    armed := none, counted := false, deferred := false, late := false }

def wFixing (r : Rec) (c : CueArea) : State := { wLink 5 r with dieB := { wDie with cues := c } }

theorem witness_cueFix :
    after (exec .cueFixRecord (wFixing (.cueFix (.go 7) 90 1 false)
        { CueArea.delivered with queue := [wTaken (.go 7) none, wTaken (.sched 2) (some 4)] })) (fun t =>
      (t.cues .b).queue.length == 2 && (t.cues .b).queue.any (fun c => c.src == .go 7 && c.stamp == some 90) &&
      (t.cues .b).queue.contains (wTaken (.sched 2) (some 4)) && t.sideB.expect == 6) = true ∧
    after (exec .cueFixRecord (wFixing (.cueFix (.go 7) 90 1 false)
        { CueArea.delivered with pendingGo := [wTaken (.go 7) none] })) (fun t =>
      (t.cues .b).pendingGo.any fun c => c.src == .go 7 && c.stamp == some 90) = true ∧
    after (exec .cueFixRecord (wLink 4 (.cueFix (.go 7) 90 1 false))) (fun t => t.roleOf .b == roRESYNC) = true := by
  decide +kernel

/-- An occurrence of entry 2, a daily one at midnight: kept where the die has fixed none of its day, and left where it has. -/
def wOccurs (last : Option Nat) : State :=
  wFixing (.occurrence 2 77) { CueArea.delivered with occ := [(2, { Occ.none_ with lastDay := last })] }

theorem witness_occurrence : (wOccurs none).dayOf Sched.zero 77 = 0 ∧
    after (exec .scheduleOccurrenceRecord (wOccurs none)) (fun t => ((t.cues .b).occAt 2).tai == some 77) = true ∧
    after (exec .scheduleOccurrenceRecord (wOccurs (some 0))) (fun t => t.cues .b == (wOccurs (some 0)).cues .b &&
      t.sideB.expect == 6) = true := by decide +kernel

theorem witness_otherRecords :
    after (exec .managementWriteRecord (wLink 5 (.manage (mgmt 0x2103 0 [1])))) (fun t =>
      t.dieB.staged == [mgmt 0x2103 0 [1]] && t.sideB.expect == 6) = true ∧
    after (exec .scheduleOccurrenceRecord (wLink 5 (.occurrence 2 77))) (fun t =>
      ((t.cues .b).occAt 2).tai == some 77 && t.dieA == wTwin.dieA) = true ∧
    after (exec .meteringRecord (wLink 5 .fragment)) (fun t => t.sideB.expect == 6) = true ∧
    after (exec .meteringRecord (wLink 5 (.meterCommit { Commit.delivered with stamp := 8 }))) (fun t =>
      t.dieB.commitAt (stampCycle 8 - 1) == some { Commit.delivered with stamp := 8 }) = true ∧
    after (exec .commitTotalsRecord (wLink 5 (.commitTotals 1 [(200, 3)]))) (fun t =>
      Tbl.get 0 t.sideB.totals 200 == 3 && t.regs == wTwin.regs) = true ∧
    after (exec (.reservedRecord .b) wTwin) (fun t => t.roleOf .b == roRESYNC) = true ∧
    after (exec (.reservedRecord .a) wTwin) (fun t => t == wTwin) = true := by decide +kernel

theorem witness_epochMark :
    after (exec (.epochMark 16) { wTwin with dieA := { wDie with placed := [.sense 5 1] }, sideA := { Side.start with started := [(3, 1)] } })
      (fun t => t.sideA.mark == some 16 && t.sideA.started == [] && t.dieA.placed == [] && t.dieA.ready == [] &&
        t.journal.seq == 1) = true ∧
    after (exec (.epochMark 1016) { wAt 1016 with sideA := { Side.start with mark := some 1015 } })
      (fun t => t.sideA.mark == some 1016) = true ∧
    after (exec (.epochMark 15) (wAt 15)) (fun t => t == wAt 15) = true ∧
    after (exec (.epochMark 17) wTwin) (fun t => t == wTwin) = true ∧
    after (exec (.epochMark 16) { wTwin with sideA := { Side.start with waiting := true } }) (fun t =>
      t == { wTwin with sideA := { Side.start with waiting := true } }) = true := by decide +kernel

def wClose (cycle packets : Nat) (k : Side) : State :=
  { wLink 5 (.commitClose true cycle packets 0 0 false 0 0) with sideB := k }

def wShadowSide (lapses : List (Nat × Tbl Nat)) : Side :=
  { Side.start with expect := 5, totals := [(3, 2)], packets := 3, waiting := true, lapses := lapses }

theorem witness_commitClose :
    (∀ u, u < 256 → Tbl.get 0 (wShadowSide []).totals u = Tbl.get 0 wTwin.dieB.done u) ∧
    Nat.xor (wShadowSide []).crc crc32Ones = 0 ∧ (wClose 8 3 (wShadowSide [])).dieCycle .b = 8 ∧
    after (exec .commitClose (wClose 8 2 (wShadowSide []))) (fun t => t.roleOf .b == roRESYNC) = true ∧
    after (exec .commitClose (wClose 8 3 (wShadowSide []))) (fun t => t.dieB.closedCycle == 8 && t.sideB.packets == 0) = true := by decide +kernel

theorem witness_commitConfirms :
    after (exec .commitClose (wClose 7 3 (wShadowSide [(7, [(3, 2)])]))) (fun t => t.dieB.emission == [] &&
      t.dieB.exactEmission == [] && t.get (TWN_STATUS.provisional .b) == 0 && t.sideB.lapses == [] &&
      t.dieB.closedCycle == 7 && t.get (TWN_COMMIT_LO.cycle_lo .b) == 7) = true := by decide +kernel

theorem witness_closingWait :
    after (exec (.closingWaitExpiry .b) { wTwin with sideB := { Side.start with waiting := true, run := 3 } }) (fun t =>
      !t.sideB.waiting && t.dieB.closedCycle == 8) = true ∧
    after (exec (.closingWaitExpiry .b) { wTwin with sideB := { Side.start with waiting := true, run := 4 } }) (fun t =>
      t.roleOf .b == roRESYNC) = true ∧
    after (exec (.closingWaitExpiry .b) wTwin) (fun t => t == wTwin) = true := by decide +kernel

def wRec : CbRec := { CbRec.empty with source := 7, code := 9 }

theorem witness_mirrors :
    after (exec .journalAck { wTwin with journal := { Journal.start with unacked := [3] }, twin := { Twin.start with held := [] } })
      (fun t => t.journal.unacked == [] && t.twin.held == []) = true ∧
    after (exec .mirrorWrite { wTwin with mirrors := [(.b, .history 5 [7]), (.b, .requests [])] }) (fun t =>
      Tbl.get [] t.dieB.history 5 == [7] && t.mirrors == [(.b, .requests [])] && t.regs == wTwin.regs &&
      t.dieA.history == wDie.history) = true ∧
    after (exec .mirrorWrite { wTwin with mirrors := [(.a, .books [none] 5)] }) (fun t => t.dieA.books == [none] &&
      t.dieA.everSeq == 5) = true ∧
    after (exec .mirrorWrite wTwin) (fun t => t == wTwin) = true ∧
    after (exec .continuityMessage wTwin) (fun t => t == wTwin) = true := by decide +kernel

theorem witness_continuity :
    after (exec .continuityMessage { wTwin with continuity := [(.b, .records [wRec])] }) (fun t => t.continuity == [] &&
      t.dieB.board.fill == wDie.board.fill + 1 && (t.dieB.board.at_ wDie.board.fill).code == 9) = true ∧
    wDie.board.fill < 262142 ∧ wDie.board.stored = false ∧
    after (exec .continuityMessage { wTwin with continuity := [(.b, .sessions [(3, { service := true, commissioning := false, last := 0 })])] }) (fun t =>
      t.dieB.sessionCopy == [(3, { service := true, commissioning := false, last := 0 })] && t.dieA == wTwin.dieA) = true := by decide +kernel

def wPart : UnitPart :=
  { hot := [], scene := [], exact := [], daylight := [], groups := [], preLights := [], emission := [], exactEmission := [], events := [] }

def wInstall (w : Bool) : State :=
  { wTwin with
    dieB := { wDie with moves := [{ unit := 255, phys := 255, remap := false, wait := 0, skipped := 0, owed := 0, changed := [], part := some wPart, lost := wLoss }] }
    sideB := { Side.start with waiting := w } }

theorem witness_unitResync :
    after (exec (.unitResyncInstall .b 255) (wInstall true)) (fun t => t.dieB.moves == [] &&
      Tbl.get 0 t.twin.resynced 255 == 9 && t.regs == wTwin.regs) = true ∧
    after (exec (.unitResyncInstall .b 255) (wInstall false)) (fun t => t == wInstall false) = true ∧
    (wInstall true).dieB.moves.find? (fun m => !m.remap && decide (m.unit = 255)) ≠ none := by decide +kernel

theorem witness_stageLost :
    after (exec (.lockstepMismatch .a) wTwin) (fun t => t.holder == none && t.journal.stopped &&
      t.twin.release == some (.a, 3) && t.roleOf .a == roTEST && t.get (TWN_STATUS.provisional .b) == 1 &&
      t.posts.length == 1) = true ∧
    after (exec (.sweepOverrun .a) wTwin) (fun t => t.get (TWN_HO_CAUSE.cause .b) == 2 &&
      t.get (CUE_OVERRUNS.count .a) == 1 && t.get (CUE_INT_STATUS.overrun .a) == 1) = true ∧
    after (exec (.crossbarFault .a) wTwin) (fun t => t.get (TWN_HO_CAUSE.cause .a) == 5 && t.roleOf .a == roTEST) = true ∧
    after (exec (.stageRelease 6) wTwin) (fun t => t.get (TWN_HO_CAUSE.cause .a) == 6 && t.holder == none) = true ∧
    after (exec (.stageRelease 0) wTwin) (fun t => t == wTwin) = true := by decide +kernel

theorem witness_understudyLost :
    after (exec (.watchdogExpiry .b) wTwin) (fun t => t.roleOf .b == roTEST && t.holder == some .a && !t.sideB.tested &&
      t.get (TWN_INT_STATUS.other_left .a) == 1) = true ∧
    after (exec (.crossbarFault .b) wTwin) (fun t => t.roleOf .b == roUNFIT) = true ∧
    after (exec (.lockstepMismatch .b) (wTwin.set (TWN_STATUS.role .b) roTEST)) (fun t =>
      t == wTwin.set (TWN_STATUS.role .b) roTEST) = true ∧
    after (exec (.sweepOverrun .b) (wTwin.set (TWN_STATUS.role .b) roUNFIT)) (fun t =>
      onlyRegs [CUE_OVERRUNS.count .b, CUE_INT_STATUS.overrun .b] (wTwin.set (TWN_STATUS.role .b) roUNFIT) t) = true := by
  decide +kernel

def wResync (st : Nat) : State :=
  ({ wTwin with dieB := { wDie with alone := [wRec] } }.set (TWN_STATUS.role .b) roRESYNC).set (TWN_RESYNC.stage .b) st

theorem witness_resync :
    after (exec (.resyncRequest .b) (wResync 4)) (fun t => t.get (TWN_RESYNC.stage .b) == 1 && t.dieB.alone == [] &&
      t.continuity == [(.a, .records [wRec])] && regsBut [TWN_RESYNC.stage .b, TWN_RESYNC.cycles .b, CBD_FORWARDED.count .b]
        (wResync 4) t) = true ∧
    after (exec (.resyncRequest .b) { wResync 0 with sideB := { Side.start with format := 1 } }) (fun t =>
      t.get (TWN_INT_STATUS.format_mismatch .b) == 1 && t.dieB.alone == [wRec]) = true ∧
    after (exec (.resyncCopyDone .b) (wResync 1)) (fun t => t.get (TWN_RESYNC.stage .b) == 2) = true ∧
    after (exec (.resyncCopyDone .b) (wResync 2)) (fun t => t == wResync 2) = true ∧
    after (exec (.resyncRestart .b) ((wResync 3).set (TWN_RESYNC.cycles .b) 1)) (fun t => t.sideB.restarts == 1 &&
      t.get (TWN_RESYNC.stage .b) == 1 && t.get (TWN_RESYNC.cycles .b) == 0 &&
      t.get (TWN_INT_STATUS.resync_failed .b) == 1 && t.posts.length == 1) = true ∧
    after (exec (.resyncRestart .b) wTwin) (fun t => t == wTwin) = true := by decide +kernel

theorem witness_linkErrors :
    after (exec (.linkPacketError .b false) wTwin) (fun t => t.twin.resends == 1 &&
      t.get (TWN_LINK_RETRIES.count .b) == 1 && regsBut [TWN_LINK_RETRIES.count .b] wTwin t) = true ∧
    after (exec (.linkPacketError .b true) { wTwin with twin := { Twin.start with resends := 8 } }) (fun t =>
      t.get (TWN_STATUS.link_up .a) == 0 && t.get (TWN_LINK_DOWNS.count .b) == 1 && t.roleOf .b == roRESYNC &&
      t.twin.downAt == 8 && decide (2 ≤ t.posts.length)) = true ∧
    after (exec .linkDown wTwin) (fun t => t.get (TWN_INT_STATUS.link_down .b) == 1 && t.twin.resends == 0) = true ∧
    laneCode (setBit 8 0) = 0 ∧
    after (exec (.laneFailure 0) { wTwin with twin := { Twin.start with badLanes := 8 } }) (fun t =>
      t.get (TWN_STATUS.link_up .b) == 0) = true ∧
    after (exec (.laneFailure 3) wTwin) (fun t => t.twin.badLanes == 8 && t.get (TWN_STATUS.lanes .a) == 1 &&
      t.get (TWN_INT_STATUS.link_degraded .b) == 1) = true := by decide +kernel

def wDown (n : Nat) : State := { (wTwin.set (TWN_STATUS.link_up .a) 0) with clk := { ClockState.reset with cycle := n } }

theorem witness_linkRetrain :
    after (exec (.linkRetrain 2) (wDown 64)) (fun t => t.get (TWN_STATUS.link_up .b) == 1 &&
      t.get (TWN_STATUS.lanes .a) == 2) = true ∧
    after (exec (.linkRetrain 2) (wDown 63)) (fun t => t == wDown 63) = true ∧
    after (exec (.linkRetrain 0) (wDown 64)) (fun t => t == wDown 64) = true ∧
    after (exec .linkDown (wDown 64)) (fun t => t == wDown 64) = true ∧
    after (exec (.linkRetrain 1) wTwin) (fun t => t == wTwin) = true := by decide +kernel

def wPlanned (b : Nat) : State := (wFit.set (TWN_STATUS.fit .b) b).setObj 0x1108 0 1

theorem witness_twinCommands : (wPlanned 1).power.on = true ∧ (wPlanned 1).obj 0x1108 0 ≠ 0 ∧ (wPlanned 1).plannedOk = true ∧
    (wPlanned 1).activation.state ≠ 4 ∧ (wPlanned 1).holder = some .a ∧ (wPlanned 1).roleOf .a = roSTAGE ∧
    after (exec (.handOverCommand (.register .host) 0) (wPlanned 1)) (fun t => t.twin.planned == some 8 &&
      t.regs == (wPlanned 1).regs) = true ∧
    (wPlanned 0).plannedOk = false ∧
    after (exec (.handOverCommand (.register .coresA) 0) (wPlanned 0)) (fun t =>
      onlyRegs [TWN_CMD_REFUSED.count .a] (wPlanned 0) t && t.get (TWN_CMD_REFUSED.count .a) == 1) = true ∧
    after (exec (.selfTestCommand (.register .coresB) .b) (wPlanned 1)) (fun t => t.sideB.toTest &&
      t.regs == (wPlanned 1).regs) = true ∧
    after (exec (.selfTestCommand (.register .host) .a) (wPlanned 1)) (fun t =>
      onlyRegs [TWN_CMD_REFUSED.count .a] (wPlanned 1) t) = true := by decide +kernel
/-! ## The backbone and the PTP clock -/

def wEth : State :=
  ((((((((wTwin.set (ETH_CTRL.enable 0) 1).set (ETH_CTRL.enable 1) 1).set (ETH_STATUS.link 0) 1).set (ETH_STATUS.link 1) 1).set
    (ETH_STATUS.active 0) 1).set (ETH_STATUS.standby 1) 1).set (ETH_CTRL.accept_untagged 0) 1).set (ETH_MAC_LO.mac_lo 0) 7).set
    PTP_CTRL.enable 1

def wEthFrame (dst : Nat) (n : Nat) : List Byte := withEthFcs (beBytes 6 dst ++ List.replicate (n - 10) 0)

theorem witness_ethLengths : (wEthFrame 7 64).length = 64 ∧
    after (exec (.ethFrameReceive 0 (wEthFrame 7 64) false 0) wEth) (fun t => (t.eth 0).ring.map (fun x => (x.octets, x.cls, x.buffers)) ==
      [(wEthFrame 7 64, 0, 1)] && Tbl.get 0 (t.eth 0).counts 1 == 1) = true ∧
    after (exec (.ethFrameReceive 0 (wEthFrame 7 63) false 0) wEth) (fun t => (t.eth 0).ring == [] && (t.eth 0).counts == [(10, 1)]) = true ∧
    after (exec (.ethFrameReceive 0 (wEthFrame 7 64) true 0) wEth) (fun t => (t.eth 0).counts == [(13, 1)]) = true ∧
    after (exec (.ethFrameReceive 0 (List.replicate 63 0 ++ [1]) false 0) wEth) (fun t => (t.eth 0).counts == [(12, 1)]) = true := by
  decide +kernel

theorem witness_ethLong :
    after (exec (.ethFrameReceive 0 (wEthFrame 7 257) false 0) wEth) (fun t => (t.eth 0).ring.map (fun x => x.buffers) == [2]) = true ∧
    after (exec (.ethFrameReceive 0 (List.replicate 1523 0) false 0) wEth) (fun t => (t.eth 0).counts == [(11, 1)]) = true := by
  decide +kernel

def wEthRing (n : Nat) : State := { wEth with eths := Tbl.put EthState.empty wEth.eths 0 { EthState.empty with ring := [{ buffers := n, octets := [], cls := 0, stamp := 0 }] } }

theorem witness_ethRing :
    after (exec (.ethFrameReceive 0 (wEthFrame 7 64) false 0) (wEthRing 511)) (fun t => (t.eth 0).ring.length == 2) = true ∧
    after (exec (.ethFrameReceive 0 (wEthFrame 7 64) false 0) (wEthRing 512)) (fun t => (t.eth 0).ring.length == 1 &&
      Tbl.get 0 (t.eth 0).counts 14 == 1 && t.get (ETH_INT_STATUS.rx_nobuf 0) == 1) = true ∧
    wEth.ethAccepts 0 (beBytes 6 8) = false ∧
    after (exec (.ethFrameReceive 0 (wEthFrame 8 64) false 0) wEth) (fun t => (t.eth 0).ring == [] &&
      Tbl.get 0 (t.eth 0).counts 15 == 1) = true ∧
    after (exec (.ethFrameReceive 0 (wEthFrame 7 64) false 0) (wEth.set (ETH_CTRL.enable 0) 0)) (fun t => (t.eth 0).ring == [] &&
      (t.eth 0).counts == []) = true := by decide +kernel

def wPause (n : Nat) (pausing : Nat) : State :=
  ((((wEthRing n).set (ETH_RX_WM.low 0) 10).set (ETH_RX_WM.high 0) 20).set (ETH_STATUS.rx_pausing 0) pausing).set
    (ETH_CTRL.pause_send 0) 1 |>.set (ETH_PAUSE.quanta 0) 5

theorem witness_pause :
    after (exec (.pauseRefresh 0 0) (wPause 10 1)) (fun t => t.out.length == 1 && t.get (ETH_STATUS.rx_pausing 0) == 0 &&
      (t.eth 0).ring.length == 1) = true ∧
    after (exec (.pauseRefresh 0 0) (wPause 20 0)) (fun t => t.out.length == 1 && t.get (ETH_STATUS.rx_pausing 0) == 1) = true ∧
    after (exec (.pauseRefresh 0 0) (wPause 19 0)) (fun t => t.out == [] && regsBut [ETH_RX_RING.used 0, ETH_RX_RING.max 0]
      (wPause 19 0) t) = true ∧ wEth.shed = false := by decide +kernel

theorem witness_pauseReceive :
    after (exec (.pauseReceive 0 3) (wEth.set (ETH_CTRL.pause_honour 0) 1)) (fun t => Tbl.get 0 (t.eth 0).counts 16 == 1 &&
      (t.eth 0).heldUntil == wEth.now + (3 * 5120 + 39) / 40 && t.get (ETH_STATUS.tx_held 0) == 1) = true ∧
    after (exec (.pauseReceive 0 3) wEth) (fun t => (t.eth 0).heldUntil == 0 && t.get (ETH_STATUS.tx_held 0) == 0) = true ∧
    after (exec (.pauseReceive 2 3) wEth) (fun t => t == wEth) = true ∧
    after (exec (.pauseExpiry 0) (wEth.set (ETH_STATUS.tx_held 0) 1)) (fun t => t.get (ETH_STATUS.tx_held 0) == 0) = true ∧
    after (exec (.pauseExpiry 0) (wEth.setEth 0 { EthState.empty with heldUntil := 10000 })) (fun t =>
      t == wEth.setEth 0 { EthState.empty with heldUntil := 10000 }) = true := by decide +kernel

def wTx (c : Fin 8) (stamp : Option (BitVec 16)) : EthFrame := { cls := c, octets := beBytes 6 9 ++ List.replicate 10 3, oneStep := false, stamp := stamp }

theorem witness_ethTransmit : wEth.activePort = some 0 ∧ (wEth.eth 0).queue = [] ∧ wEth.get (ETH_GCL_CTRL.enable 0) = 0 ∧
    after (exec (.ethFrameTransmit 0 [wTx 1 none]) wEth) (fun t => t.out == [.eth 0 (wEth.ethLine 0 (wTx 1 none))] &&
      (t.eth 0).queue == [] && Tbl.get 0 (t.eth 0).counts 18 == 1) = true ∧
    after (exec (.ethFrameTransmit 0 [wTx 1 none, wTx 2 none]) wEth) (fun t =>
      t.out == [.eth 0 (wEth.ethLine 0 (wTx 2 none))] && (t.eth 0).queue == [wTx 1 none]) = true ∧
    after (exec (.ethFrameTransmit 0 [wTx 1 none, wTx 2 none]) (wEth.set (ETH_STATUS.tx_held 0) 1)) (fun t => t.out == [] &&
      (t.eth 0).queue == [wTx 1 none, wTx 2 none]) = true := by decide +kernel

theorem witness_ethTransmitNot :
    after (exec (.ethFrameTransmit 0 [wTx 1 none]) { wEth with holder := none }) (fun t => t.out == []) = true ∧
    after (exec (.ethFrameTransmit 0 [wTx 1 none]) { wEth with power := { wEth.power with failedAt := some 0 } }) (fun t =>
      t.eths == [] && t.out == []) = true ∧
    after (exec (.ethFrameTransmit 1 [wTx 1 none, wTx 2 none]) (((wEth.set (ETH_STATUS.active 0) 0).set (ETH_STATUS.link 0) 0).set (ETH_STATUS.link 1) 0))
      (fun t => t.out == [] && Tbl.get 0 (t.eth 1).counts 23 == 2) = true := by decide +kernel

theorem witness_ethStamps :
    after (exec (.ethFrameTransmit 0 [wTx 1 (some 9)]) wEth) (fun t => (t.eth 0).stamps == [(9, wEth.ptpNs)] &&
      t.get (ETH_INT_STATUS.txts_ready 0) == 1) = true ∧
    after (exec (.ethFrameTransmit 0 [wTx 1 (some 9)]) (wEth.setEth 0 { EthState.empty with stamps := List.replicate 8 (1, 2) }))
      (fun t => (t.eth 0).stamps.length == 8 && t.get (ETH_INT_STATUS.txts_overflow 0) == 1) = true ∧
    after (exec (.txtsRead .host 0) (wEth.setEth 0 { EthState.empty with stamps := [(5, 2 ^ 32 + 3)] })) (fun t =>
      (t.eth 0).stamps == [] && t.get (ETH_TXTS_ID.id 0) == 5 && t.get (ETH_TXTS_LO.ts_lo 0) == 3 &&
      t.get (ETH_TXTS_HI.ts_hi 0) == 1 &&
      t.out == [.regRead .host (ethBase 0 + 0x804) (BitVec.ofNat 32 (2 ^ 31 + 5))]) = true ∧
    after (exec (.txtsRead .host 0) wEth) (fun t => t.get (ETH_TXTS_ID.valid 0) == 0) = true := by decide +kernel

def wQueued : State := wEth.setEth 0 { EthState.empty with queue := [wTx 1 none] }

theorem witness_failover :
    after (exec (.linkFailure 0 false) wQueued) (fun t => t.activePort == some 1 && (t.eth 1).queue.take 1 == [wTx 1 none] &&
      (t.eth 0).queue == [] && t.get (ETH_FAILOVERS.count 0) == 1 && t.get (ETH_INT_STATUS.failover 1) == 1 &&
      t.get PTP_STATUS.port_state == 1 && t.get (ETH_BKP.active_port 0) == 1 && t.get PTP_STATUS.holdover == 1) = true ∧
    after (exec (.linkFailure 0 true) wQueued) (fun t => t.activePort == some 1 && Tbl.get 0 (t.eth 1).counts 24 == 1) = true ∧
    after (exec .failoverForce wQueued) (fun t => t.activePort == some 1 && t.get (ETH_BKP.force 0) == 0) = true ∧
    after (exec .failback { ((wQueued.set (ETH_BKP.revertive 0) 1).set (ETH_BKP.preferred 0) 1) with now := 250000000 })
      (fun t => t.activePort == some 1) = true ∧
    after (exec .failback wQueued) (fun t => t == wQueued) = true := by decide +kernel

theorem witness_linkFailure :
    after (exec (.linkFailure 0 false) (wEth.set (ETH_STATUS.link 0) 0)) (fun t => t == wEth.set (ETH_STATUS.link 0) 0) = true ∧
    (wQueued.set (ETH_CTRL.enable 1) 0).portReady 1 = false ∧
    after (exec (.linkFailure 0 false) (wQueued.set (ETH_CTRL.enable 1) 0)) (fun t => t.get (ETH_STATUS.active 0) == 0 &&
      (t.eth 0).queue == [] && Tbl.get 0 (t.eth 0).counts 23 == 1) = true ∧
    after (exec (.linkFailure 1 true) wEth) (fun t => t.get (ETH_STATUS.standby 1) == 0 &&
      onlyRegs [ETH_STATUS.link 1, ETH_STATUS.speed 1, ETH_INT_STATUS.link_change 1, ETH_STATUS.standby 1] wEth t) = true ∧
    after (exec .failoverForce (wEth.set (ETH_STATUS.active 0) 0)) (fun t => t.get (ETH_BKP.force 0) == 1) = true := by
  decide +kernel

theorem witness_linkUp :
    after (exec (.ethLinkUp 1 true) ((wEth.set (ETH_STATUS.active 0) 0).set (ETH_STATUS.link 1) 0)) (fun t =>
      t.activePort == some 1 && t.get (ETH_STATUS.speed 1) == 2 && t.get (ETH_INT_STATUS.link_change 1) == 1) = true ∧
    after (exec (.ethLinkUp 1 false) (wEth.set (ETH_STATUS.standby 1) 0)) (fun t => t.activePort == some 0 &&
      t.get (ETH_STATUS.standby 1) == 1) = true := by decide +kernel

def wGcl (len cyc base : Nat) : State :=
  { ((((wEth.set (ETH_GCL_LEN.length 0) len).set (ETH_GCL_CYCLE.ns 0) cyc).set (ETH_GCL_BASE_LO.base_lo 0) base).set
      (ETH_GCL_ADMIN.interval 0 0) 1000).set (ETH_GCL_ADMIN.gates 0 0) 0xFF with
    ptp := { PtpState.reset with time := 2500 * 2 ^ 32 } }

theorem witness_gateList :
    after (exec (.gclChangeRequest 0) (wGcl 1 1000 2501)) (fun t => (t.eth 0).changeAt == some 2501 &&
      t.get (ETH_GCL_STATUS.pending 0) == 1 && t.get (ETH_GCL_CTRL.error 0) == 0) = true ∧
    after (exec (.gclChangeRequest 0) (wGcl 1 1000 2500)) (fun t => (t.eth 0).changeAt == some 3500) = true ∧
    after (exec (.gclChangeRequest 0) (wGcl 1 1000000000 0)) (fun t => (t.eth 0).changeAt == some 1000000000) = true ∧
    after (exec (.gclChangeRequest 0) (wGcl 0 1000 0)) (fun t => t.get (ETH_GCL_CTRL.error 0) == 1 &&
      onlyRegs [ETH_GCL_CTRL.error 0, ETH_GCL_CTRL.change 0] (wGcl 0 1000 0) t) = true ∧
    after (exec (.gclChangeRequest 0) (wGcl 1 999 0)) (fun t => t.get (ETH_GCL_CTRL.error 0) == 1) = true ∧
    after (exec (.gclChangeRequest 0) (wGcl 1 1000000001 0)) (fun t => t.get (ETH_GCL_CTRL.error 0) == 1) = true ∧
    after (exec (.gclChangeRequest 0) (wGcl 2 1000 0)) (fun t => t.get (ETH_GCL_CTRL.error 0) == 1) = true ∧
    after (exec (.gclChangeRequest 0) (wGcl 65 1000 0)) (fun t => t.get (ETH_GCL_CTRL.error 0) == 1) = true := by
  decide +kernel

def wGclDue (a : Nat) : State := (wGcl 1 1000 0).setEth 0 { EthState.empty with changeAt := some a }

theorem witness_gateChange :
    after (exec (.gclChange 0) (wGclDue 2500)) (fun t => (t.eth 0).changeAt == none &&
      t.get (ETH_GCL_OPER.entry 0 0) == 0xFF0003E8 && t.get (ETH_GCL_OPER_CYCLE.ns 0) == 1000 &&
      t.get (ETH_GCL_STATUS.oper_len 0) == 1 && t.get (ETH_GCL_OPER_BASE_LO.base_lo 0) == 2500 && (t.gcl 0).length == 1) = true ∧
    after (exec (.gclChange 0) (wGclDue 2501)) (fun t => (t.eth 0).changeAt == some 2501) = true ∧
    after (exec (.gclChange 0) wEth) (fun t => t == wEth) = true ∧
    after (exec (.gclEntryEnd 0) wEth) (fun t => t == wEth) = true := by decide +kernel

theorem witness_mdio :
    after (exec (.mdioCommand .host 0 (BitVec.ofNat 32 (2 ^ 25 + 2 ^ 16 * 31 + 5))) (wEth.setObj 0x1108 0 1)) (fun t =>
      t.get (ETH_MDIO_CMD.busy 0) == 1 && t.get (ETH_MDIO_CMD.write 0) == 0 && t.out == [.mdio 0 false 31 5]) = true ∧
    after (exec (.mdioCommand .coresA 0 (BitVec.ofNat 32 (2 ^ 25))) (wEth.set (ETH_MDIO_CMD.busy 0) 1)) (fun t =>
      t.out == [] && t.posts.length == 1) = true ∧
    after (exec (.mdioDone 0 0xFFFF) (wEth.set (ETH_MDIO_CMD.busy 0) 1)) (fun t => t.get (ETH_MDIO_CMD.busy 0) == 0 &&
      t.get (ETH_MDIO_DATA.rdata 0) == 0xFFFF) = true ∧
    after (exec (.mdioDone 0 1) wEth) (fun t => t == wEth) = true := by decide +kernel

def wPtp : State :=
  { (((((wEth.set PTP_JUMP.ns 100).set PTP_LOCK.lock 50).set PTP_LOCK.holdover 2).set PTP_GAIN.ki 128).set PTP_GAIN.kp 256).set
      PTP_STATUS.ever_valid 1 with ptp := { PtpState.reset with time := 2 ^ 40, agree := 7 } }

theorem witness_ptpServo :
    after (exec (.ptpOffsetWrite 50) wPtp) (fun t => t.ptp.integral == 25 && t.getS PTP_FREQ.ppb == -75 &&
      t.ptp.time == 2 ^ 40 && t.get PTP_STATUS.valid == 1 && t.get CYC_STATUS.tai_valid == 1 &&
      t.get PTP_STATUS.run == 0) = true ∧
    after (exec (.ptpOffsetWrite (BitVec.ofInt 64 (-100))) wPtp) (fun t => t.ptp.integral == -50 && t.getS PTP_FREQ.ppb == 150 &&
      t.ptp.agree == 0 && t.get PTP_STATUS.locked == 0) = true ∧
    after (exec (.ptpOffsetWrite 50) (wPtp.set PTP_CTRL.enable 0)) (fun t => t.get PTP_LAST_LO.last_lo == 50 &&
      onlyRegs [PTP_LAST_LO.last_lo, PTP_LAST_HI.last_hi] (wPtp.set PTP_CTRL.enable 0) t) = true := by decide +kernel

theorem witness_ptpStep :
    after (exec (.ptpOffsetWrite 101) (wPtp.set PTP_STATUS.ever_valid 0)) (fun t =>
      t.ptp.time == (2 ^ 40 + 2 ^ 96 - 101 * 2 ^ 32) % 2 ^ 96 && t.get PTP_STEPS.count == 1 &&
      t.get PTP_INT_STATUS.step == 1 && t.ptp.agree == 0) = true ∧
    after (exec (.ptpOffsetWrite 101) wPtp) (fun t => t.ptp.time == 2 ^ 40 && t.get PTP_STATUS.run == 1 &&
      t.get PTP_REFUSED.count == 1 && t.get PTP_STATUS.jump_pending == 1 && t.posts.length == 1 && t.ptp.lo == 101) = true ∧
    after (exec (.ptpOffsetWrite 10101) { wPtp.set PTP_STATUS.run 15 with ptp := { wPtp.ptp with lo := 101, hi := 200 } })
      (fun t => t.get PTP_STEPS.count == 1) = true ∧
    after (exec (.ptpOffsetWrite 10102) { wPtp.set PTP_STATUS.run 15 with ptp := { wPtp.ptp with lo := 101, hi := 200 } })
      (fun t => t.get PTP_STEPS.count == 0) = true := by decide +kernel

def wHold (n : Nat) : State := { wPtp.set PTP_STATUS.valid 1 with now := n }

theorem witness_ptpHoldover :
    after (exec .ptpHoldoverExpiry (wHold 50000000)) (fun t => t.get PTP_STATUS.valid == 0 &&
      t.get PTP_STATUS.holdover == 1 && t.get PTP_INT_STATUS.valid_lost == 1 && t.get CYC_STATUS.tai_valid == 0) = true ∧
    after (exec .ptpHoldoverExpiry (wHold 49999999)) (fun t => t == wHold 49999999) = true ∧
    after (exec (.announceReceiptTimeout 4) wPtp) (fun t => t.get PTP_STATUS.port_state == 1) = true ∧
    after (exec (.announceReceiptTimeout 4) (wPtp.set PTP_CTRL.tt_capable 1)) (fun t => t.get PTP_STATUS.port_state == 4) = true ∧
    after (exec (.announceReceiptTimeout 3) (wPtp.set PTP_CTRL.enable 0)) (fun t => t.ptp == wPtp.ptp &&
      t.get PTP_STATUS.port_state == 0) = true := by decide +kernel
/-! ## The object protocol -/

def wMsg (type : Nat) (body : List Byte) : List Byte :=
  leBytes 1 1 ++ leBytes 1 type ++ leBytes 4 7 ++ [0, 0] ++ leBytes 2 body.length ++ [0, 0] ++ body

def wIdle (now : Nat) : State := { wServe.setObj 0x1104 0 2 with now := now }

theorem witness_sessions : (placesOf true).find? (fun n => !wServe.sessionOpen n) = some 32 ∧
    wServe.handshakeOk true true = true ∧ wServe.handshakeOk false true = false ∧
    after (exec (.sessionOpen true true) wServe) (fun t => t.sessionOpen 32 && t.sessionOpen 3 && t.regs == []) = true ∧
    after (exec (.sessionOpen false true) wServe) (fun t => t == wServe) = true ∧
    after (exec (.sessionOpen true true) { wServe with sessions := [(32, { service := true, commissioning := true, last := 0 })] })
      (fun t => t.obj 0x110F 0 == 1) = true ∧
    after (exec .sessionIdleTimeout (wIdle 50000000)) (fun t => !t.sessionOpen 3 && t.regs == []) = true ∧
    after (exec .sessionIdleTimeout (wIdle 49999999)) (fun t => t.sessionOpen 3) = true ∧
    after (exec (.sessionPeerClose 3) wServe) (fun t => !t.sessionOpen 3) = true ∧
    after (exec (.sessionPeerClose 32) wServe) (fun t => t.sessionOpen 3) = true := by decide +kernel

def wRead (idx sub : Nat) : List Byte := wMsg 1 ([1, 0, 0, 0] ++ leBytes 2 idx ++ leBytes 1 sub ++ [0])

def wRemembers (response : Option (List Byte)) : State :=
  { wServe with remembered := [{ session := 3, request := 7, cycle := 3, response := response }] }

theorem witness_admitted : requestOf (wRead 0x2001 0) = some (.read [(0x2001, 0)]) ∧ requestOf [1, 2, 3, 4, 5, 6] = none ∧
    after (exec (.read 3 [1, 2, 3, 4, 5, 6]) wServe) (fun t => t.obj 0x110C 0 == 1 &&
      t.out == [.message 3 (respBytes 2 0x06050403 0x0B 0 [])] && t.remembered == []) = true ∧
    after (exec (.write 3 [1, 2, 3, 4, 5]) wServe) (fun t => t.obj 0x110C 0 == 1 && t.out == []) = true ∧
    after (exec (.read 4 (wRead 0x2001 0)) wServe) (fun t => t == wServe) = true ∧
    after (exec (.read 3 (wRead 0x2001 0)) (wRemembers none)) (fun t => t.obj 0x1107 0 == 1 && t.out == []) = true ∧
    after (exec (.read 3 (wRead 0x2001 0)) (wRemembers (some (respBytes 1 7 0 0 [])))) (fun t => t.obj 0x1107 0 == 1 &&
      t.out == [.message 3 (respBytes 1 7 0 2 [])]) = true := by decide +kernel

theorem witness_memoryFull : after (exec (.read 3 (wRead 0x2001 0)) { wServe with
      remembered := (List.range 1024).map fun k => { session := 3, request := k + 8, cycle := 3, response := none } })
    (fun t => t.obj 0x110D 0 == 1 && t.out == [.message 3 (respBytes 1 7 5 0 [])] && t.progress == []) = true := by
  decide +kernel

theorem witness_read : (objRow 0x2001 0).isSome = true ∧ (objField 0x2001).isSome = true ∧ objRow 0xFFFF 0 = none ∧
    (objRow 0x6065 0).any (fun r => r.acc == .wo) = true ∧
    after (exec (.read 3 (wRead 0x2001 0)) (wServe.set CYC_STATUS.state 2)) (fun t =>
      t.out == [.message 3 (respBytes 1 7 0 0 ([1, 0, 0, 0, 1, 0x20, 0, 0, 1, 0, 2]))] && t.posts == []) = true ∧
    after (exec (.read 3 (wRead 0xFFFF 0)) wServe) (fun t =>
      t.out == [.message 3 (respBytes 1 7 0 0 ([1, 0, 0, 0, 0xFF, 0xFF, 0, 1, 0, 0]))] && t.obj 0x110A 0 == 1 &&
      t.oct 0x110B 0 == [0xFF, 0xFF, 0, 1, 3, 0, 0, 0] && t.posts.length == 1) = true ∧
    after (exec (.read 3 (wRead 0x6065 0)) wServe) (fun t =>
      t.out == [.message 3 (respBytes 1 7 0 0 ([1, 0, 0, 0, 0x65, 0x60, 0, 2, 0, 0]))]) = true := by decide +kernel

def wEpRead (first count code : Nat) : List Byte := wMsg 3 (leBytes 4 first ++ leBytes 2 count ++ leBytes 1 code ++ [0])

theorem witness_epRead : requestOf (wEpRead (2 ^ 20 - 1) 256 0x30) = some (.epRead (2 ^ 20 - 1) 256 0x30) ∧
    epField 0x30 = some (32, 0) ∧ epCold 0x30 = true ∧ epField 0x31 = some (1, 2) ∧ epField 0x32 = none ∧
    after (exec (.epRead 3 (wEpRead 5 2 1)) wServe) (fun t =>
      t.out == [.message 3 (respBytes 3 7 0 0 ([5, 0, 0, 0, 2, 0, 2, 0] ++ wDie.epValue 5 1 ++ wDie.epValue 6 1))]) = true ∧
    after (exec (.epRead 3 (wEpRead 5 2 0x20)) { wServe with dieA := { wDie with damaged := [(6, true)] } }) (fun t =>
      t.out == [.message 3 (respBytes 3 7 9 0 ([5, 0, 0, 0, 1, 0, 1, 0] ++ wDie.epValue 5 0x20))]) = true ∧
    after (exec (.epRead 3 (wEpRead 5 2 0x31)) wServe) (fun t => t.out == [.message 3 (respBytes 3 7 2 0 [5, 0, 0, 0, 0, 0, 1, 0])]) = true ∧
    after (exec (.epRead 3 (wEpRead 5 2 0x32)) wServe) (fun t => t.out == [.message 3 (respBytes 3 7 1 0 [5, 0, 0, 0, 0, 0, 0, 0])]) = true ∧
    after (exec (.epRead 3 (wEpRead 5 36 0x30)) wServe) (fun t => t.out == [.message 3 (respBytes 3 7 0x0C 0 [5, 0, 0, 0, 0, 0, 32, 0])]) = true := by
  decide +kernel

def wWrite (l : List (Nat × Nat × List Byte)) : List Byte :=
  wMsg 2 (leBytes 4 l.length ++ l.flatMap fun x => leBytes 2 x.1 ++ leBytes 1 x.2.1 ++ [0] ++ leBytes 2 x.2.2.length ++ x.2.2)

theorem witness_write : requestOf (wWrite [(0x6065, 0, [1])]) = some (.write [(0x6065, 0, [1])]) ∧
    wServe.writeStatus 3 0xFFFF 0 [] = 1 ∧ wServe.writeStatus 3 0x6065 0 [1] = stOK ∧
    after (exec (.write 3 (wWrite [(0xFFFF, 0, [])])) wServe) (fun t =>
      t.out == [.message 3 (respBytes 2 7 0 0 [1, 0, 0, 0, 0xFF, 0xFF, 0, 1])] && t.obj 0x110A 0 == 1 && t.posts.length == 1) =
      true ∧
    after (exec (.write 3 (wWrite [(0x6065, 0, [1])])) wServe) (fun t => t.dieA.staged.length == 1 && t.out == [] &&
      t.progress == [{ session := 3, request := 7, type := 2, items := [([0x65, 0x60, 0], none)] }]) = true ∧
    after (exec (.write 3 (wWrite [(0xFFFF, 0, []), (0x6065, 0, [1])])) wServe) (fun t =>
      t.dieA.staged.map (fun w => w.who) == [some (3, 7, 1)] && t.obj 0x110A 0 == 1 && t.out == []) = true := by decide +kernel

def wEpWrite (e code : Nat) (b : List Byte) : List Byte :=
  wMsg 4 ([1, 0, 0, 0] ++ leBytes 4 e ++ leBytes 1 code ++ [0] ++ leBytes 2 b.length ++ b)

theorem witness_epWrite : requestOf (wEpWrite (2 ^ 20 - 1) 0x22 [1, 2]) = some (.epWrite [(2 ^ 20 - 1, 0x22, [1, 2])]) ∧
    epStatus 0x22 [1, 2] = stOK ∧ epStatus 0x22 [1] = stType ∧ epStatus 0x31 [2] = stType ∧
    after (exec (.epWrite 3 (wEpWrite 9 0x22 [1, 2])) wServe) (fun t =>
      t.dieA.staged == [{ target := 0, code := 0x22, sub := 9, ptr := 0, value := [1, 2], who := some (3, 7, 0) }] &&
      t.out == [] && t.dieA.hot == wDie.hot) = true ∧
    after (exec (.epWrite 3 (wEpWrite 9 0x22 [1])) wServe) (fun t => t.dieA.staged == [] &&
      t.out == [.message 3 (respBytes 4 7 0 0 ([1, 0, 0, 0, 9, 0, 0, 0, 0x22] ++ leBytes 1 stType))]) = true := by
  decide +kernel

/-- A go command of sender 9 for every module, or those named; the tag is the HMAC-SHA-384 of the first 52 octets of
the command for every module under the key [7], computed outside the model. -/
def wCompany (kind : Nat) (targets : List Byte) : List Byte :=
  wMsg 5 (leBytes 2 9 ++ [0, 0] ++ leBytes 4 6 ++ leBytes 8 0 ++ leBytes 1 kind ++ [1, 0, 0] ++ targets ++ wGo.take 32 ++
    natOcts (bigEnd 16 0x1fb369a82877f6e6c6c04d10ebe6b06f))

def wJoined (last : Nat) : State :=
  { (wKeys [7]).setObj 0x1202 0 2 with
    dieA := { wServe.dieA with workKeys := [(7, [7])] }
    company := { Company.start with senders := [(9, last)] } }

def wCommand : Command := ⟨9, 6, 0, 1, wGo.take 32⟩

theorem witness_company : requestOf (wCompany 0 []) = some (.company ((wCompany 0 []).drop 12)) ∧
    ((wJoined 6).companyMsg ((wCompany 0 []).drop 12)).map (fun x => (x.cmd, x.addressed)) = some (wCommand, true) ∧
    ((wJoined 6).companyMsg ((wCompany 1 [9, 0, 9, 0]).drop 12)).map (fun x => x.addressed) = some false ∧
    (wJoined 6).companyMsg [] = none ∧ (wJoined 6).joinState = 2 ∧ (wJoined 6).slotValid 7 = true ∧
    Tbl.get 0 (wJoined 6).company.senders 9 ≤ wCommand.counter ∧ (wJoined 6).companyExpired (wJoined 6).tai wCommand = false ∧
    (wJoined 6).actionStatus wCommand = stOK ∧
    after (exec (.company none (wCompany 1 [9, 0, 9, 0])) (wJoined 6)) (fun t => t == wJoined 6) = true ∧
    after (exec (.company (some 3) (wCompany 1 [9, 0, 9, 0])) (wJoined 6)) (fun t => t.out == [] && t.regs == []) = true := by
  decide +kernel

theorem witness_companyRefused :
    after (exec (.company none (wCompany 0 [])) wServe) (fun t => t.obj 0x1215 0 == 1 && t.out == [] &&
      t.company.received.take 4 == [9, 0, 1, 0x0A]) = true ∧
    after (exec (.company none (wCompany 0 [])) ((wKeys []).setObj 0x1202 0 2)) (fun t => t.obj 0x1215 0 == 1 &&
      t.company.received.take 4 == [9, 0, 1, 0x0D] && t.company.senders == []) = true ∧
    after (exec (.company (some 3) (wMsg 5 [])) wServe) (fun t => t.out == [.message 3 (respBytes 5 7 0x0B 0 [])] &&
      t.obj 0x110C 0 == 1) = true ∧
    wCommand.counter < Tbl.get 0 (wJoined 7).company.senders wCommand.sender := by decide +kernel

theorem witness_companyTag :
    ((wJoined 6).companyMsg ((wCompany 0 []).drop 12)).any (fun x => x.tag == (wJoined 6).companyTag x.signed_) = true ∧
    after (exec (.company none (wCompany 0 [])) (wJoined 6)) (fun t => t.obj 0x1215 0 == 0 && t.out == [] &&
      Tbl.get 0 t.company.senders 9 == 7 && t.dieA.staged == [{ target := 1, code := 0x4420, sub := 0, ptr := 0, value := companyGo wCommand, who := none }]) = true := by
  decide +kernel

/-- A command whose tag has one bit wrong is refused. -/
theorem test_companyTag : after (exec (.company none ((wCompany 0 []).take 79 ++ [0])) (wJoined 6)) (fun t =>
    t.obj 0x1215 0 == 1 && t.dieA.staged == [] && t.company.received.take 4 == [9, 0, 1, 0x0D]) = true := by
  decide +kernel

def wSent : State :=
  { wServe with company := { Company.start with send := some { counter := 1, waits := [16383], sent := 1, ok := 0, refused := 0, lapsed := 0, cycle := 3 } } }

theorem witness_companyResponse :
    after (exec (.companyResponse 16383 0) wSent) (fun t => (t.company.send.map fun y => (y.waits, y.ok, y.refused)) ==
      some ([], 1, 0)) = true ∧
    after (exec (.companyResponse 16383 1) wSent) (fun t => (t.company.send.map fun y => (y.ok, y.refused)) == some (0, 1)) =
      true ∧
    after (exec (.companyResponse 5 0) wSent) (fun t => t == wSent) = true ∧
    after (exec (.companyResponse 5 0) wServe) (fun t => t == wServe) = true := by decide +kernel

def wCommitting : State :=
  { wServe with
    committing := some ({ seq := 5, entries := [] }, some (3, 7, 0))
    progress := [{ session := 3, request := 7, type := 2, items := [([0x40, 0x10, 0], none)] }] }

theorem witness_commitEnd :
    after (exec .promptCommitEnd wCommitting) (fun t => t.committing == none && t.dieA.everSeq == 5 &&
      t.dieA.books.contains (some { seq := 5, entries := [] }) &&
      t.out == [.message 3 (respBytes 2 7 0 0 [1, 0, 0, 0, 0x40, 0x10, 0, 0])]) = true ∧
    after (exec .promptCommitEnd wServe) (fun t => t == wServe) = true := by decide +kernel
/-! ## The access ports -/

def wBus : State := wTwin.setObj 0x1108 0 1

theorem witness_pairRead : wBus.namedReg 0xC0090008 = (Block.ptp.register 8).map (fun r => (.ptp, r, 8)) ∧
    (Block.ptp.register 8).isSome = true ∧ Block.ptp.lows.contains 8 = true ∧
    after (exec (.lowWordRead .host 0xC0090008) { wBus with ptp := { PtpState.reset with time := 2 ^ 70 + 2 ^ 33 } }) (fun t =>
      t.out == [.regRead .host 0xC0090008 2] && t.shadowAt .host 0xC0090008 == some 64) = true ∧
    after (exec (.highWordRead .host 0xC009000C) (wBus.setShadow .host 0xC0090008 78)) (fun t =>
      t.out == [.regRead .host 0xC009000C 77] && t.shadowAt .host 0xC0090008 == none) = true ∧
    after (exec (.highWordRead .coresA 0xC009000C) (wBus.setShadow .host 0xC0090008 78)) (fun t =>
      t.out == [.regRead .coresA 0xC009000C 0] && t.shadowAt .host 0xC0090008 == some 77) = true := by decide +kernel

theorem witness_readClear :
    ((wBus.namedReg 0xC0020044).map fun x => (x.1, x.2.2)) = some (.cyc, 0x44) ∧
    after (exec (.readClear .host 0xC0020044) (wBus.set ⟨0xC0020044, 0, 32⟩ 9)) (fun t =>
      t.out == [.regRead .host 0xC0020044 9] && t.get ⟨0xC0020044, 0, 32⟩ == 0 && t.objs == wBus.objs) = true ∧
    ((wBus.namedReg 0x30110).map fun x => (x.1, x.2.2)) = some (.qcm .a, 0x110) ∧
    after (exec (.readClear .coresA 0x30110) ((wBus.set (QCM_Q_SEL.queue .a) 0x0201).setQueue (queueKey .a 0x0201)
      { wBus.queue (queueKey .a 0x0201) with hwm := 5 })) (fun t => (t.queue (queueKey .a 0x0201)).hwm == 0) = true ∧
    queueNamed 0x0201 = true := by decide +kernel

def wAccess (p : Port) (addr : Nat) : Access := { port := p, addr := addr, target := addr, write := true, alias_ := decide (aliasOf addr ≠ 0) }

theorem witness_registerWrite : busAddr wBus.holder 0xC0080010 = some 0xC0080010 ∧
    wBus.place 0xC0080010 = .reg (.eth 0) 0x10 ∧ wBus.place 0xC0081010 = .reg (.eth 0) 0x10 ∧
    wBus.hostLocked (wAccess .host 0xC0080010) = false ∧ wTwin.hostLocked (wAccess .host 0xC0080010) = true ∧
    wBus.writeKind (wAccess .host 0xC0080010) (.eth 0) 0x10 4094 = none ∧
    (wBus.special .host (.eth 0) 0x10 4094).isNone = true ∧
    after (exec (.registerWrite .host 0xC0080010 4094) wBus) (fun t => t.get (ETH_VLAN.vid 0) == 4094 && t.posts == []) = true ∧
    wBus.writeKind (wAccess .host 0xC0080010) (.eth 0) 0x10 4095 = some 5 ∧
    after (exec (.registerWrite .host 0xC0080010 4095) wBus) (fun t => t.out == [.refused .host 0xC0080010 1] &&
      t.get (ETH_VLAN.vid 0) == 0) = true := by decide +kernel

theorem witness_registerRefused :
    after (exec (.registerWrite .host 0xC0080010 1) wTwin) (fun t => t.get HPT_ERR_ADDR.addr == 0xC0080010 &&
      t.get (VIOL_INFO.kind 0xC0080000) == 11) = true ∧
    after (exec (.registerWrite .coresA 0xC0080FE0 1) wBus) (fun t => t.get (VIOL_INFO.kind 0xC0080000) == 1) = true ∧
    ((Block.eth 0).register 0xFE0).isNone = true ∧ wBus.place 0xC0080FE0 = .reg (.eth 0) 0xFE0 ∧
    after (exec (.registerWrite .coresA 0xC0090008 1) wBus) (fun t => t.get (VIOL_INFO.kind 0xC0090000) == 2) = true ∧
    (Block.ptp.register 8).any (fun r => !r.writable) = true ∧
    after (exec (.registerWrite .coresB 0x1000 1) { wBus with holder := none }) (fun t =>
      t.out == [.refused .coresB 0x1000 4] && t.regs == wBus.regs) = true ∧
    after (exec (.registerWrite .coresB 0x1000 1) { wBus with power := Power.off }) (fun t => t.out == []) = true := by
  decide +kernel

theorem test_aliasSets : aliasOf 0xC0081010 = 1 ∧
    after (exec (.registerWrite .coresA 0xC0081010 3) (wBus.set (ETH_VLAN.vid 0) 8)) (fun t => t.get (ETH_VLAN.vid 0) == 11) = true ∧
    after (exec (.registerWrite .coresA 0xC0082010 3) (wBus.set (ETH_VLAN.vid 0) 10)) (fun t => t.get (ETH_VLAN.vid 0) == 8) = true ∧
    after (exec (.registerWrite .coresA 0xC0083010 3) (wBus.set (ETH_VLAN.vid 0) 10)) (fun t => t.get (ETH_VLAN.vid 0) == 9) = true := by
  decide +kernel

theorem witness_aliasRefused : ((Block.eth 0).register 0x70).any (fun r => r.writable && decide (r.rwMask = 0)) = true ∧
    after (exec (.registerWrite .coresA 0xC0081070 1) wBus) (fun t => t.get (VIOL_INFO.kind 0xC0080000) == 7 &&
      t.get (VIOL_INFO.alias_ 0xC0080000) == 1) = true ∧
    after (exec (.registerWrite .coresA 0xC0080070 0xFFFFFFFF) (wBus.set (ETH_INT_STATUS.rx_nobuf 0) 1)) (fun t =>
      t.get (ETH_INT_STATUS.rx_nobuf 0) == 0) = true := by decide +kernel

theorem witness_pairWrite :
    after (exec (.highWordWrite .host 0xC0080028 7) wBus) (fun t => t.held .host 0xC0080028 == 7 && t.regs == wBus.regs) = true ∧
    after (exec (.lowWordWrite .host 0xC0080024 9) (wBus.hold .host 0xC0080028 7)) (fun t =>
      t.get (ETH_MC_HASH_LO.hash_lo 0) == 9 && t.get (ETH_MC_HASH_HI.hash_hi 0) == 7 && t.held .host 0xC0080028 == 0) = true ∧
    after (exec (.lowWordWrite .coresA 0xC008410C 9) (wBus.hold .host 0xC0084110 7)) (fun t =>
      t.get (ETH_GCL_BASE_LO.base_lo 1) == 9 && t.get (ETH_GCL_BASE_HI.base_hi 1) == 0) = true ∧
    after (exec (.lowWordWrite .coresB 0xC0090010 9) (wBus.hold .coresB 0xC0090014 7)) (fun t =>
      t.get PTP_LAST_LO.last_lo == 9 && t.get PTP_LAST_HI.last_hi == 7) = true := by decide +kernel

def wIrq : State := (((wBus.set (ICU_PEND.pend .a 7) (2 ^ 31 + 2 ^ 30)).set (ICU_EN.en .a 7) (2 ^ 31 + 2 ^ 30)).set
  (ICU_TSTATUS.active .a 0) 0x100).set (ICU_ROUTE.cores .a 254) 1 |>.set (ICU_ROUTE.cores .a 255) 1

theorem witness_icuWrites : wIrq.roleOf .a ≠ roBOOT ∧ wIrq.roleOf .a ≠ roUNFIT ∧
    after (exec (.icuPendSet .coresA .a 0 3) wIrq) (fun t => t.get (ICU_PEND.pend .a 0) == 2 &&
      onlyRegs [ICU_PEND.pend .a 0] wIrq t) = true ∧
    after (exec (.icuPendClear .host .a 7 (BitVec.ofNat 32 (2 ^ 31))) wIrq) (fun t => t.get (ICU_PEND.pend .a 7) == 2 ^ 30) = true ∧
    after (exec (.icuClaim .host .a 3) wIrq) (fun t => t.posts.length == 1) = true := by decide +kernel

theorem witness_icuClaim : wIrq.offers .a 0 = [254, 255] ∧
    after (exec (.icuClaim .coresA .a 0) wIrq) (fun t => t.get (ICU_TSTATUS.active .a 0) == 254 &&
      t.out == [.regRead .coresA (DieId.a.space + 0x800) (BitVec.ofNat 32 (2 ^ 31 + 254))] &&
      !t.icuBit (ICU_PEND.pend .a) 254 && t.icuBit (ICU_ACTIVE.act .a) 254 && t.icuBit (ICU_PEND.pend .a) 255) = true ∧
    after (exec (.icuClaim .coresA .a 1) wIrq) (fun t => t.get (ICU_EMPTY_CLAIMS.count .a) == 1) = true ∧
    after (exec (.icuComplete .coresA .a 0 254) (wIrq.set (ICU_TSTATUS.active .a 0) 254)) (fun t =>
      t.get (ICU_TSTATUS.active .a 0) == 0x100) = true ∧
    after (exec (.icuComplete .coresA .a 0 255) (wIrq.set (ICU_TSTATUS.active .a 0) 254)) (fun t =>
      t.get (ICU_STRAY.count .a) == 1) = true := by decide +kernel

def wMsgBuf (n : Nat) : State :=
  (((wBus.set HPT_CTRL.msg_en 1).set (HPT_MSG_REQ.data 0) 0x00070101).set (HPT_MSG_REQ.data 2) n)

theorem witness_doorbell :
    after (exec (.msgDoorbell .host 11) (wMsgBuf 0)) (fun t => t.get (VIOL_INFO.kind 0xC0010000) == 5) = true ∧
    after (exec (.msgDoorbell .host 1153) (wMsgBuf 0)) (fun t => t.get (VIOL_INFO.kind 0xC0010000) == 5) = true ∧
    after (exec (.msgDoorbell .host 12) ((wMsgBuf 0).set HPT_MSG_STAT.busy 1)) (fun t =>
      t.get (VIOL_INFO.kind 0xC0010000) == 9) = true ∧
    (wMsgBuf 0).requestOctets 12 = [1, 1, 7, 0, 0, 0, 0, 0, 0, 0, 0, 0] ∧ requestOf ((wMsgBuf 0).requestOctets 12) = none ∧
    after (exec (.msgDoorbell .host 12) (wMsgBuf 0)) (fun t => t.get HPT_MSG_STAT.busy == 1 &&
      t.get HPT_MSG_STAT.ready == 0 && t.obj 0x110C 0 == 1 && t.replies.length == 1 && t.out == []) = true := by decide +kernel

def wReplied (n : Nat) : State :=
  { wBus.set HPT_MSG_STAT.busy 1 with replies := [{ session := 0, request := 7, kept := true, after := 0, mirrors := n, body := [1, 2, 3, 4, 5] }] }

theorem witness_msgResponse :
    after (exec .msgResponse (wReplied 0)) (fun t => t.get HPT_MSG_STAT.busy == 0 && t.get HPT_MSG_STAT.ready == 1 &&
      t.get HPT_INT_STATUS.msg_ready == 1 && t.get HPT_MSG_STAT.rsp_len == 5 && t.get (HPT_MSG_RSP.data 0) == 0x04030201 &&
      t.get (HPT_MSG_RSP.data 1) == 5 && t.replies == []) = true ∧
    after (exec .msgResponse { (wReplied 0).set (TWN_STATUS.fit .b) 1 with mirrors := [(.b, .requests [])] }) (fun t =>
      t.get HPT_MSG_STAT.busy == 1) = true ∧
    after (exec .msgResponse wBus) (fun t => t == wBus) = true := by decide +kernel

theorem witness_hostRead :
    after (exec (.hostRead true 0xC0010880 63 400 [5]) (wBus.set (HPT_MSG_RSP.data 63) 9)) (fun t =>
      t.out == [.host (List.replicate 63 0 ++ [9]) 0 0 none]) = true ∧
    after (exec (.hostRead false 0xC0010880 3 0 []) wBus) (fun t => t.out == [.host [] 6 0 none] &&
      t.get HPT_ERRORS.count == 1) = true ∧
    after (exec (.hostRead true 0xC0010882 3 0 []) wBus) (fun t => t.out == [.host [] 6 0 none] &&
      t.get HPT_ERR_ADDR.addr == 0xC0010882) = true ∧
    DieId.b.space + 0x10000000 = 0x90000000 ∧
    after (exec (.hostRead true 0x90000000 3 0 [0]) wBus) (fun t => t.out == [.host [0, 0, 0, 0] 5 0 none] &&
      t.get HPT_ERR_ADDR.addr == 0x90000000) = true ∧
    after (exec (.hostRead true 0xA47FFFFC 0 0 [0]) wBus) (fun t => t.out == [.host [0] 5 0 none]) = true := by decide +kernel

theorem witness_hostBurst :
    after (exec (.hostRead true 0 63 0 []) { wBus with holder := none }) (fun t =>
      t.out == [.host (List.replicate 64 0) 4 0 none]) = true ∧
    after (exec (.hostWrite 0x3FFFFFFC [1] 0) { wBus with holder := none }) (fun t => t.out == [.host [] 4 0 none]) = true ∧
    after (exec (.hostWrite 0xC001087C [1, 2, 3] 0) wBus) (fun t => t.out == [.host [] 1 1 none] &&
      t.get (HPT_MSG_REQ.data 287) == 1 && t.get (HPT_MSG_RSP.data 0) == 0 && t.get HPT_ERR_ADDR.addr == 0xC0010880) = true ∧
    after (exec (.hostAbort false 0xC0010880 64 []) wBus) (fun t => t.out == [] && t.get HPT_ABORTS.count == 1) = true ∧
    after (exec (.hostAbort true 0xC0010400 0 [7]) wBus) (fun t => t.get (HPT_MSG_REQ.data 0) == 7 &&
      t.get HPT_ABORTS.count == 1) = true := by decide +kernel

theorem witness_stallCap :
    after (exec (.stallCap true false 0x4000009C 0 [] 5) wBus) (fun t => t.out == [.host [] 2 0 none] &&
      t.get HPT_STALLS.count == 1 && t.get (ICU_PEND.pend .a 7) == 0) = true ∧
    after (exec (.stallCap true true 0x8000009C 0 [] 5) wBus) (fun t => t.out == [.host [] 3 0 none] &&
      t.get (ICU_PEND.pend .b 7) == 5 && t.get HPT_ERR_ADDR.addr == 0x8000009C) = true := by decide +kernel

/-- While host-port writes are locked the message buffer still takes one, and a write that ends a line latches it first:
rx_nobuf of port 0 was raised and enabled. -/
def wLine13 : State := (wBus.set (ETH_INT_STATUS.rx_nobuf 0) 1).set ⟨0xC0080074, (ETH_INT_STATUS.rx_nobuf 0).lo, 1⟩ 1

theorem witness_lockExempt : lockExempt .hpt 0x400 = true ∧ aliasOf 0xC0010400 = 0 ∧
    wTwin.hostLocked (wAccess .host 0xC0010400) = true ∧
    after (exec (.registerWrite .host 0xC0010400 7) wTwin) (fun t => t.get (HPT_MSG_REQ.data 0) == 7 && t.posts == []) = true ∧
    endsLine 0xC0080070 = true ∧ (List.range 256).any (fun n => wLine13.line .a n) = true ∧
    after (exec (.registerWrite .coresA 0xC0080070 0xFFFFFFFF) wLine13) (fun t =>
      t.get (ETH_INT_STATUS.rx_nobuf 0) == 0 &&
      (List.range 256).all fun n => t.icuBit (ICU_PEND.pend .a) n == wLine13.line .a n) = true := by decide +kernel
/-! ## Keys, tamper and images -/

theorem witness_invalidate : (wKeys [3, 4, 5, 9]).beneath 4 = (wKeys []).beneath 4 ∧
    after (exec (.keyInvalidate 4) (wKeys [3, 4, 5, 9])) (fun t => (t.slot 4).state == 2 && (t.slot 5).state == 2 &&
      (t.slot 5).value == [] && (t.slot 5).gen == 1 && t.slot 3 == wSlot 3 && t.sessions == [] && t.posts.length == 1 &&
      t.get (KEY_INT_STATUS.invalidated .b) == 1) = true ∧
    after (exec (.keyInvalidate 13) (wKeys [13])) (fun t => (t.slot 13).state == 2 && t.sessions.length == 1) = true ∧
    after (exec (.keyInvalidate 2) (wKeys [3])) (fun t => t == wKeys [3]) = true ∧
    after (exec (.keyInvalidate 14) (wKeys [14])) (fun t => t == wKeys [14]) = true ∧
    after (exec (.keyInvalidate 4) (wKeys [3])) (fun t => t == wKeys [3]) = true := by decide +kernel

def wKeyOp : State := { wKeys [3] with keys := { (wKeys [3]).keys with ops := [{ slot := 3, op := 1, data := [], who := none }] } }

theorem witness_remask :
    after (exec .keyRemask (wKeys [3])) (fun t => !t.keys.remaskWaits && t.get (KEY_REMASKS.count .b) == 1 &&
      (t.slot 3).state == 1) = true ∧
    after (exec .keyRemask wKeyOp) (fun t => t.keys.remaskWaits && t.keys.slots == wKeyOp.keys.slots &&
      t.get (KEY_INT_STATUS.remask_late .a) == 1) = true ∧
    after (exec .attestationReady wKeyOp) (fun t => t.keys.ops == [] && t.get (KEY_OPS.count .a) == 1 &&
      t.get (KEY_INT_STATUS.attest_ready .a) == 1) = true ∧ wKeyOp.twin.held = [] ∧
    after (exec .attestationReady wServe) (fun t => t == wServe) = true := by decide +kernel

def wTamper (j on : Nat) (confirmed power : Bool) : State :=
  { wKeys [4] with
    keys := { (wKeys [4]).keys with inputs := [(j, { TamperInput.quiet with on := on, confirmed := confirmed })] }
    rtc := { RtcState.reset with count := 99 }
    power := { quiet.power with on := power } }

theorem witness_tamper :
    (∀ i, i < 4 → decide (bitOf 8 i + bitOf (wTamper 3 1 false true).keys.polarity i = 1) = decide (i = 3)) ∧
    after (exec (.tamperSample 8 false) (wTamper 3 1 false true)) (fun t => t.keys.latched == 8 && t.keys.events == 1 &&
      t.keys.firstTick == 99 && t.keys.present == 8 && t.slotState 4 == 2 && t.sessions == [] &&
      t.get (KEY_INT_STATUS.tamper .a) == 1 && t.posts.any (fun p => p.code == 0x0071)) = true ∧
    after (exec (.tamperSample 0 true) (wTamper 4 1 false false)) (fun t => t.keys.latched == 16 && t.slotState 4 == 1 &&
      t.posts == [] && t.power.posts.length == 1 && t.regs == []) = true := by decide +kernel

theorem witness_tamperNot :
    after (exec (.tamperSample 8 false) (wTamper 3 0 false true)) (fun t => t.keys.latched == 0 && t.keys.present == 8 &&
      (Tbl.get TamperInput.quiet t.keys.inputs 3).on == 1 && t.slotState 4 == 1) = true ∧
    after (exec (.tamperSample 8 false) (wTamper 3 1 true true)) (fun t => t.keys.latched == 0) = true ∧
    after (exec (.tamperSample 0 false) (wTamper 3 1 true true)) (fun t =>
      (Tbl.get TamperInput.quiet t.keys.inputs 3).on == 0 && (Tbl.get TamperInput.quiet t.keys.inputs 3).confirmed) = true ∧
    after (exec (.tamperSample 8 false) { wTamper 3 1 false true with power := Power.off }) (fun t => t.keys.latched == 0 &&
      t.keys.present == 0) = true ∧
    after (exec (.tamperSample 8 false) (((wTamper 3 1 false true).setSlot 4
      { (wTamper 3 1 false true).slot 4 with state := 2 }))) (fun t => t.keys.latched == 8 && t.keys.events == 1 &&
      t.sessions.length == 1 && t.posts.length == 1) = true := by decide +kernel

def wSegment (sec : Nat) (use : Option Nat) (new : Bool) : State :=
  { ((wKeys [9, 10, 11]).setObj 0x701A 0 1).setObj 0x7019 0 60 with
    ptp := { PtpState.reset with time := sec * 10 ^ 9 * 2 ^ 32 }
    keys := { (wKeys [9, 10, 11]).keys with segStart := some 10 }
    segUse := use, segNew := new }

theorem witness_segment : (wSegment 86410 none false).taiSec = 86410 ∧ (wSegment 86409 none false).taiSec = 86409 ∧
    after (exec .segmentKeyPeriod (wSegment 86410 none false)) (fun t => t.segUse == some 86470 && !t.segNew &&
      t.keys.segStart == some 86410 && (t.slot 11).value == [10] && t.slot 9 == wSlot 9 && (t.slot 10).state == 1 &&
      t.link.currentGen == 1) = true ∧
    after (exec .segmentKeyPeriod (wSegment 86409 none false)) (fun t => t.segUse == none) = true ∧
    after (exec .segmentKeyUse (wSegment 70 (some 70) false)) (fun t => t.segNew && t.segUse == some 70 &&
      t.get (KEY_INT_STATUS.seg_change .a) == 1) = true ∧
    after (exec .segmentKeyUse (wSegment 69 (some 70) false)) (fun t => !t.segNew) = true ∧
    after (exec .segmentKeyRetire (wSegment 130 (some 70) true)) (fun t => t.segUse == none && t.slot 11 == KeySlot.empty &&
      t.slot 10 == wSlot 10 && t.link.previous == []) = true ∧
    after (exec .segmentKeyRetire (wSegment 129 (some 70) true)) (fun t => t.segUse == some 70) = true := by decide +kernel

def wBoot (st0 st1 minimum : Nat) : State :=
  { quiet.set (TWN_STATUS.role .a) roBOOT with
    power := { quiet.power with booted := [false, true] }
    dieA := { wDie with green := { Green.delivered with
      run0 := { ImageSlot.empty with state := st0, header := List.replicate 256 1 },
      run1 := { ImageSlot.empty with state := st1, header := List.replicate 256 0 }, minimum := minimum } } }

/-- The routes of a booted die are free values, so the premises of a boot are shown. -/
theorem witness_dieBoot : (wBoot 2 2 0).booted .a = false ∧ (wBoot 2 2 0).roleOf .a = roBOOT ∧
    ((wBoot 2 2 9).green .a).bootSlot true false = some (0, false) ∧ ((wBoot 2 2 0).green .a).run1.security = 0 ∧
    ((wBoot 2 2 0).green .a).bootSlot false true = some (1, true) ∧ assigned 112 = true ∧ assigned 255 = false := by
  decide +kernel

theorem witness_dieBootNot :
    after (exec (.dieBoot .a false true) (wBoot 2 2 1)) (fun t => t.roleOf .a == roUNFIT && t.posts == []) = true ∧
    after (exec (.dieBoot .a true true) (wBoot 3 3 0)) (fun t => t.roleOf .a == roUNFIT) = true ∧
    after (exec (.dieBoot .a true true) wTwin) (fun t => t == wTwin) = true ∧
    after (exec (.dieBoot .b true true) (wBoot 2 2 0)) (fun t => t == wBoot 2 2 0) = true := by decide +kernel

def wTrial (now : Nat) (running : Nat) : State :=
  { wTwin with
    now := now
    dieB := { wDie with green := { Green.delivered with
      running := running, stage := { ImageSlot.empty with state := 2, header := List.replicate 256 3 } } }
    dieA := { wDie with green := { Green.delivered with stage := { ImageSlot.empty with state := 2, header := List.replicate 256 2 } } }
    activation := { Activation.none_ with state := 4, die := some .a, until_ := 100 } }

theorem witness_probation :
    after (exec .probationExpiry (wTrial 100 0)) (fun t => t.activation.state == 7 && t.roleOf .b == roBOOT &&
      (t.green .b).minimum == ((wTrial 100 0).green .a).stage.security &&
      (t.green .b).run1 == ((wTrial 100 0).green .b).stage && (t.green .b).boot == 1 &&
      t.get (GRN_INT_STATUS.probation_end .a) == 1 && t.holder == some .a) = true ∧
    after (exec .probationExpiry (wTrial 100 1)) (fun t => (t.green .b).boot == 0 &&
      (t.green .b).run0 == ((wTrial 100 0).green .b).stage) = true ∧
    after (exec .probationExpiry (wTrial 99 0)) (fun t => t == wTrial 99 0) = true := by decide +kernel

def wCampaign (done : Nat) : State :=
  { quiet.set (PLC_CTRL.enable 1) 1 with
    holder := some .a
    dieA := { wDie with green := { Green.delivered with nodes := [(7, { ImageSlot.empty with state := 2, header := List.replicate 56 0 ++ leBytes 4 65 ++ List.replicate 196 0 })] } }
    campaign := { Campaign.none_ with on := true, slot := 7, rounds := 3, done := [(5, done)] } }

theorem witness_campaign : ((wCampaign 6).nodeSlot 7).blocks = 2 ∧ (wCampaign 6).inService 5 = true ∧
    after (exec .campaignDone (wCampaign 6)) (fun t => !t.campaign.on && t.get (GRN_INT_STATUS.campaign_done .a) == 1) = true ∧
    after (exec .campaignDone (wCampaign 5)) (fun t => t == wCampaign 5) = true ∧
    after (exec .campaignDone { wCampaign 6 with regs := [] }) (fun t => t.campaign.on) = true := by decide +kernel
/-! ## The callboard and the tests -/

def wPost (source : Nat) (pl : Plane) (tick : Nat) : Post := { source := source, code := 5, data := [], plane := pl, tick := tick }

def wPosts (ps : List Post) (b : Board) : State := { wTwin with posts := ps, dieA := { wTwin.dieA with board := b } }

theorem witness_pickPost : pickPost [wPost 9 .control 3, wPost 8 .management 3, wPost 7 .control 3, wPost 1 .control 4] =
    some (wPost 7 .control 3) := by decide +kernel

theorem witness_callboard :
    after (exec .callboardPost (wPosts [wPost 9 .control 3] Board.empty)) (fun t => t.posts == [] && t.dieA.board.fill == 1 &&
      t.dieA.board.next == 1 && (t.dieA.board.at_ 0).code == 5 && t.get (CBD_INT_STATUS.stored .a) == 1 &&
      t.get (CBD_LAST.code .a) == 5 && t.dieB == wTwin.dieB) = true ∧
    after (exec .callboardPost (wPosts [wPost (2 ^ 14) .control 3] Board.empty)) (fun t => t.posts == [] &&
      t.continuity.length == 1 && t.get (CBD_FORWARDED.count .b) == 1 && t.dieA.board.fill == 0) = true ∧
    after (exec .callboardPost { wPosts [wPost (2 ^ 14) .control 3] Board.empty with holder := none }) (fun t =>
      t.dieB.alone.length == 1 && t.dieB.board.fill == wDie.board.fill + 1) = true ∧
    after (exec .callboardPost wTwin) (fun t => t == wTwin) = true := by decide +kernel

def wStored : Board :=
  { Board.empty with
    log := [(262143, { (wTwin.makeRec (wPost 9 .control 3) false) with seq := 3 })], fill := 262144, next := 7, stored := true }

theorem witness_callboardFull :
    after (exec .callboardPost (wPosts [wPost 8 .control 3] wStored)) (fun t => t.dieA.board.fill == 262144 &&
      t.dieA.board.lost == 1 && t.get (CBD_INT_STATUS.lost .a) == 1) = true ∧
    mayRepeat (wStored.at_ 262143) (wTwin.makeRec (wPost 9 .control 3) false) = true ∧
    after (exec .callboardPost (wPosts [wPost 9 .control 3] { wStored with
        log := [(262142, { (wTwin.makeRec (wPost 9 .control 3) false) with seq := 3 })], fill := 262143 }))
      (fun t => t.dieA.board.fill == 262143 && (t.dieA.board.at_ 262142).count == 2 && t.get (CBD_REPEATS.count .a) == 1) =
      true := by decide +kernel

def wTest (n i : Nat) : State := { wTwin with tests := { wTwin.tests with running := some (n, i), verdict := none } }

def wOff (n i : Nat) : State := (wTest n i).set (TST_MODE.offline .a) 1

theorem witness_spareTest : (wTest 2 31).runs 2 31 = true ∧ (wTest 2 31).spareTestable .a 31 = true ∧
    after (exec (.spareUnitTest 31 true false) (wTest 2 31)) (fun t => t.get (TST_SPARE_FAIL.failed .a) == 2 ^ 31 &&
      t.get (TST_INT_STATUS.spare_fail .a) == 1 && t.tests.verdict == some 1 && t.get (TST_SPARE_FAIL.failed .b) == 0) = true ∧
    after (exec (.spareUnitTest 31 false false) (wTest 2 31)) (fun t => t.tests.verdict == some 0) = true ∧
    after (exec (.spareUnitTest 30 true true) (wTest 2 31)) (fun t => t == wTest 2 31) = true ∧
    after (exec (.mramScrubTest 3 [] false) (wTest 3 3)) (fun t => t.tests.verdict == some 1 &&
      t.get (EPS_SCRUB_POS.bank .b) == 3 && Tbl.get 0 t.dieA.scrubPass 3 == 1) = true := by decide +kernel

def wSteps (n i k : Nat) : State := { wTest n i with tests := { (wTest n i).tests with steps := k } }

theorem witness_calibrations : slotKind ((wTest 4 3).slotEntry 3 ((wTest 4 3).slotIndex ((wTest 4 3).phase / 128))) = 0 ∧
    after (exec (.radioCalibration 3 true) (wSteps 4 3 6)) (fun t => t.tests.steps == 7 && t.tests.verdict == none) = true ∧
    after (exec (.radioCalibration 3 true) (wSteps 4 3 7)) (fun t => t.tests.verdict == some 0) = true ∧
    after (exec (.plcLineMeasurement 1 false) (wSteps 5 1 7)) (fun t => t.tests.verdict == some 1) = true ∧
    after (exec (.chainCountTest 15) (wTest 6 15)) (fun t => t.get (FLC_CTRL.count 15) == 1 && t.tests.steps == 1) = true ∧
    after (exec (.chainCountTest 15) (wSteps 6 15 1)) (fun t => t == wSteps 6 15 1) = true ∧
    after (exec (.offsetCalibrationTest 21) (wTest 7 21)) (fun t => t.meter.calQueue == [21]) = true ∧
    after (exec (.offsetCalibrationTest 18) (wTest 7 18)) (fun t => t.tests.verdict == some 3) = true := by decide +kernel

theorem witness_offlineTests :
    after (exec (.cableDiagnostic 1 true) (wTest 8 1)) (fun t => t.tests.verdict == some 0) = true ∧
    after (exec (.cableDiagnostic 1 true) ((wTest 8 1).set (ETH_STATUS.active 1) 1)) (fun t => t.tests.verdict == some 3) = true ∧
    after (exec (.falsiaLaneTest false) (wOff 9 0)) (fun t => t.tests.verdict == some 1) = true ∧
    after (exec (.phyLoopback 2 true) (wOff 10 2)) (fun t => t.tests.verdict == some 0) = true ∧
    after (exec (.phyLoopback 2 true) (wTest 10 2)) (fun t => t == wTest 10 2) = true := by decide +kernel

def wSelf (d : Nat) (s : State) : State := { s with tests := { wTwin.tests with running := some (1, d), verdict := none } }

theorem witness_fullSelfTest : wFit.plannedOk = true ∧
    after (exec (.dieFullSelfTest .a) (wSelf 0 wFit)) (fun t => t.twin.planned.isSome && t.regs == wFit.regs) = true ∧
    after (exec (.dieFullSelfTest .a) (wSelf 0 wTwin)) (fun t => t.tests.verdict == some 3) = true ∧
    after (exec (.dieFullSelfTest .b) (wSelf 1 wTwin)) (fun t => t.sideB.toTest && t.tests.steps == 1) = true ∧
    after (exec (.dieFullSelfTest .b) (wSelf 1 (wTwin.set (TWN_STATUS.role .b) roTEST))) (fun t => t.tests.steps == 1) = true ∧
    after (exec (.dieFullSelfTest .b) (wSelf 0 wTwin)) (fun t => t == wSelf 0 wTwin) = true := by decide +kernel

def wVerdict (r : Nat) : State :=
  { wTwin with tests := { wTwin.tests with running := some (10, 2), verdict := some r, queue := [(2, 31)] } }

/-- The detail of a result is a free value, so of the record only its being posted is shown. -/
theorem witness_testEnd : (wVerdict 1).testResult = some 1 ∧ (wVerdict 3).testResult = some 3 ∧
    after (exec (.testEnd none) (wVerdict 1)) (fun t => t.tests.verdict == none && t.posts.length == 1) = true ∧
    after (exec (.testEnd none) wTwin) (fun t => t == wTwin) = true := by decide +kernel

def wTesting : State := wTwin.set (TWN_STATUS.role .b) roTEST

/-- A die whose region has a failed unit and no spare that is free. -/
def wNoSpare : State :=
  { wTesting with dieB := { wDie with failed := (resetPhys 9, true) :: (List.range 32).map fun k => (spareAt k, true) } }

theorem witness_noSpare : wNoSpare.lacksSpare .b = true ∧
    after (exec (.testEnd (some (.b, true))) wNoSpare) (fun t => t.roleOf .b == roUNFIT) = true := by decide +kernel

theorem witness_selfTestEnd : wTesting.lacksSpare .b = false ∧ (wTesting.moveFailed .b).lacksSpare .b = false ∧ wTesting.power.chosen ≠ some .b ∧ wTesting.offline = false ∧
    wTesting.tests.running = none ∧
    after (exec (.testEnd (some (.b, true))) wTesting) (fun t => t.roleOf .b == roRESYNC && t.sideB.tested) = true ∧
    after (exec (.testEnd (some (.b, false))) wTesting) (fun t => t.roleOf .b == roUNFIT) = true ∧
    after (exec (.testEnd (some (.a, true))) wTesting) (fun t => t == wTesting) = true := by decide +kernel

def wPeriod (now cycle : Nat) : State :=
  { (wTwin.setObj 0x7815 0 8).setObj 0x7814 0 1 with
    now := now, clk := { ClockState.reset with cycle := cycle } }

theorem witness_testPeriodic :
    after (exec (.testPeriodic none [(.b, 31)]) (wPeriod 0 8)) (fun t => t.tests.spareFrom == 8) = true ∧
    (wPeriod 0 8).spareTestable .b 31 = true ∧
    after (exec (.testPeriodic none []) (wPeriod 0 7)) (fun t => t == wPeriod 0 7) = true ∧
    after (exec (.testPeriodic (some 3) []) (wPeriod 90000000000 8)) (fun t => Tbl.get 0 t.tests.radioFrom 3 == 90000000000 &&
      t.tests.running == some (4, 3)) = true ∧
    after (exec (.testPeriodic (some 3) []) (wPeriod 89999999999 8)) (fun t => t.tests.running == none) = true := by decide +kernel

def wTap (state : Nat) (ir : Nat) (tck : Bool) : State :=
  { wTwin with tap := { Tap.reset with out := true, state := state, ir := ir, tck := tck, drShift := [true, false], irShift := [true, false] } }

theorem witness_tap :
    after (exec .tapRelease (wOff 9 0)) (fun t => t.tap.out && t.tap.state == 0 && t.tap.ir == 1 &&
      t.get (TST_MODE.tap .b) == 1 && t.get (TST_MODE.debug .a) == 1 && t.get (TST_INT_STATUS.tap_active .a) == 1) = true ∧
    after (exec .tapRelease wTwin) (fun t => t == wTwin) = true ∧
    after (exec (.tapClockEdge true true false) wTwin) (fun t => t == wTwin) = true ∧
    after (exec (.tapClockEdge true true true) (wTap 4 1 false)) (fun t => t.tap.drShift == [false, true] &&
      t.tap.state == tapNext 4 true && t.tap.tck) = true ∧
    after (exec (.tapClockEdge true false true) (wTap 11 1 false)) (fun t => t.tap.irShift == [false, true]) = true ∧
    after (exec (.tapClockEdge true false true) (wTap 3 0 false)) (fun t => t.tap.drShift == [false]) = true ∧
    after (exec (.tapClockEdge false true true) (wTap 0 3 true)) (fun t => t.tap.ir == 1 && !t.tap.tck) = true ∧
    after (exec (.tapClockEdge false true true) (wTap 8 2 true)) (fun t => t.tap.boundary == [true, false] && t.tap.ir == 2) =
      true ∧
    after (exec (.tapClockEdge false true true) (wTap 4 2 true)) (fun t => t.tap.tdo) = true := by decide +kernel
/-! ## Power and the start -/

def wVin (mv : BitVec 16) (p : State → Bool) : Bool := after (exec (.vinMonitor mv) wTwin) p

theorem witness_vin :
    wVin 17999 (fun t => t.get MCTL_STATUS.vin_low == 1 && t.get MCTL_INT_STATUS.vin_low == 1 && t.get MCTL_VIN.mv == 17999) = true ∧
    wVin 18000 (fun t => t.get MCTL_STATUS.vin_low == 0 && t.get MCTL_INT_STATUS.vin_low == 0) = true ∧
    wVin 36000 (fun t => t.get MCTL_STATUS.vin_high == 0) = true ∧
    wVin 36001 (fun t => t.get MCTL_STATUS.vin_high == 1 && t.get MCTL_INT_STATUS.vin_high == 1) = true ∧
    after (exec (.vinMonitor 5) { wTwin with power := Power.off }) (fun t => t.regs == wTwin.regs) = true := by decide +kernel

/-- The identity registers are Config's, so no register is read back. -/
theorem witness_supplyGood :
    after (exec (.supplyGood true) { quiet with power := Power.off, now := 77 }) (fun t => t.power.on && t.power.testEn &&
      t.power.startedAt == 77 && t.clk.cycleStart == 77 && t.meter.running) = true ∧
    after (exec (.supplyGood true) quiet) (fun t => t == quiet) = true := by decide +kernel

theorem witness_powerFail :
    after (exec (.powerFail wBoundary.meter) wTwin) (fun t => t.power.failedAt == some 7813 && !t.power.restart &&
      !t.meter.running && t.get MCTL_STATUS.pfail == 1 && t.get MCTL_INT_STATUS.pfail == 1 &&
      (t.dieA.commitAt 8).any (fun r => r.final)) = true ∧
    after (exec (.powerFail wBoundary.meter) { wTwin with power := { wTwin.power with failedAt := some 9 } })
      (fun t => t.power.failedAt == some 9 && t.regs == wTwin.regs) = true := by decide +kernel

def wFailed (restart : Bool) : State :=
  { wTwin with
    now := 500000, counterSaved := 9
    dieA := { wDie with dirty := [(5, 1)] }
    power := { wTwin.power with failedAt := some 1, restart := restart } }

theorem witness_moduleReset :
    after (exec (.moduleReset false 1 0) (wFailed false)) (fun t => t.holder == none && t.sessions == [] &&
      t.frameCounter == 4105 && !t.power.on && Tbl.get Hot.delivered t.dieA.image 5 == wDie.hotOf 5 &&
      t.now == 500000 && t.journal == Journal.start) = true ∧
    after (exec (.moduleReset true 0 0) (wFailed false)) (fun t => !t.power.on &&
      Tbl.get Hot.delivered t.dieA.image 5 == Hot.delivered) = true ∧
    after (exec (.moduleReset false 0 0) (wFailed false)) (fun t => t.power.on) = true ∧
    after (exec (.moduleReset true 0 0) (wFailed true)) (fun t => t.holder == some .a) = true ∧
    after (exec (.moduleReset false 1 0) (wFailed true)) (fun t => t.power.on && t.holder == none) = true ∧
    after (exec (.moduleReset true 9 9) wTwin) (fun t => t == wTwin) = true := by decide +kernel

theorem test_pfailNote : after (exec (.moduleReset true 0 0) (wFailed false)) (fun t => t.get GHL_PFAIL_NOTE.valid == 1 &&
    t.get GHL_PFAIL_NOTE.flush_a == 0 && t.get GHL_PFAIL_NOTE.flush_b == 1 && t.get GHL_PFAIL_NOTE.hold_short == 1 &&
    t.get GHL_PFAIL_NOTE.early == 0) = true := by decide +kernel

def wBackup (b : Bool) : State :=
  { (wTwin.set GHL_THEFT_CFG.enable 1).set GHL_BACKUP_CFG.low_mv 2500 with power := { wTwin.power with backup := b } }

theorem witness_backup :
    after (exec (.backupSwitch 2699 0) (wBackup false)) (fun t => t.power.backup && t.get GHL_SWITCHES.count == 1 &&
      t.get GHL_SUPPLY.ran_backup == 1 && t.get GHL_PWR_INT_STATUS.switched == 1 && t.theft.running) = true ∧
    after (exec (.backupSwitch 2700 2700) (wBackup false)) (fun t => t == wBackup false) = true ∧
    after (exec (.backupSwitch 3000 3001) (wBackup false)) (fun t => t.power.backup) = true ∧
    after (exec (.standbyReturn 2800 2700) (wBackup true)) (fun t => !t.power.backup && !t.theft.running) = true ∧
    after (exec (.standbyReturn 2800 2701) (wBackup true)) (fun t => t == wBackup true) = true ∧
    after (exec (.standbyReturn 2799 0) (wBackup true)) (fun t => t == wBackup true) = true := by decide +kernel

def wSealed : State := { wKeys [3, 9] with rtc := { RtcState.reset with count := 9 } }

theorem witness_ghostReset : Tbl.wf KeySlot.empty wSealed.keys.slots = true ∧
    after (exec .ghostLightReset wSealed) (fun t => !t.power.ghost && t.rtc == RtcState.reset &&
      t.get GHL_RESETS.count == 1 && (t.slot 3).value == [] && (t.slot 3).state == 1 &&
      t.get GHL_PWR_INT_STATUS.watch_lapsed == 1) = true ∧
    after (exec .ghostLightReset { wSealed with power := Power.off }) (fun t => t.rtc.count == 9) = true ∧
    after (exec (.ghostLightLeavesReset 2001 0) { wSealed with power := Power.off }) (fun t => t.power.ghost && t.power.backup) =
      true ∧
    after (exec (.ghostLightLeavesReset 2700 2700) { wSealed with power := Power.off }) (fun t => t.power.ghost &&
      !t.power.backup) = true ∧
    after (exec (.ghostLightLeavesReset 2000 2000) { wSealed with power := Power.off }) (fun t => !t.power.ghost) = true := by
  decide +kernel

def wCharge (vbat now : Nat) : State :=
  { ((wBackup false).set GHL_SUPPLY.charging 1).set GHL_SUPPLY.vbat vbat with now := now }

theorem witness_charge :
    after (exec (.vbatMeasure 3000 2499) ((wBackup false).set GHL_BACKUP_CFG.kind 1)) (fun t => t.get GHL_SUPPLY.vbat == 2499 &&
      t.get GHL_SUPPLY.backup_low == 1 && t.get GHL_SUPPLY.charging == 1 && t.get GHL_PWR_INT_STATUS.backup_low == 1) = true ∧
    after (exec (.vbatMeasure 3000 3000) ((wBackup false).set GHL_BACKUP_CFG.kind 1)) (fun t =>
      t.get GHL_SUPPLY.backup_low == 0 && t.get GHL_SUPPLY.charging == 0) = true ∧
    after (exec .chargeFault (wCharge 2799 90000000000)) (fun t => t.get GHL_PWR_INT_STATUS.charge_fault == 1) = true ∧
    after (exec .chargeFault (wCharge 2800 90000000000)) (fun t => t == wCharge 2800 90000000000) = true ∧
    after (exec .chargeFault (wCharge 2799 89999999999)) (fun t => t == wCharge 2799 89999999999) = true := by decide +kernel

def wLoad (since : Nat) (c : Commit) : State :=
  { quiet with
    now := since
    dieA := { wDie.putCommit 0 (some c) with dirty := [] }
    power := { quiet.power with loaded := false, booted := [since == 0, since == 0] } }

def wSaved (final : Bool) : Commit := { Commit.delivered with stamp := 9 * 1024 + 5, final := final, optime := 2 ^ 32 - 1, pwrcyc := 2 ^ 24 - 2 }

theorem witness_counterLoad : (wLoad 0 (wSaved true)).latestCommit [] = some (wSaved true) ∧
    after (exec (.counterLoad []) (wLoad 0 (wSaved true))) (fun t => t.power.loaded && t.clk.cycle == 11 &&
      t.power.savedCycle == 9 && t.get CYC_OPTIME.optime == 2 ^ 32 - 1 && t.get CYC_PWRCYC.count == 2 ^ 24 - 1 &&
      t.get MCTL_STATUS.step == 4 && t.get CYC_INT_STATUS.cycle_gap == 1 && t.get MTR_STATUS.energy_gap == 0 &&
      t.posts.any (fun p => p.code == 0x0010 && p.data == leBytes 8 9)) = true ∧
    after (exec (.counterLoad []) (wLoad 0 (wSaved false))) (fun t => t.get MTR_STATUS.energy_gap == 1 && t.meter.gap &&
      t.posts.any (fun p => p.code == 0x0050)) = true := by decide +kernel

theorem witness_counterLoadLate :
    after (exec (.counterLoad [(.a, 0)]) (wLoad 6250000 (wSaved true))) (fun t => t.power.loaded && t.clk.cycle == 2 &&
      t.get MTR_STATUS.energy_gap == 1) = true ∧
    after (exec (.counterLoad []) (wLoad 6249999 (wSaved true))) (fun t => !t.power.loaded) = true := by decide +kernel

def wWords (x y : Option Bool) (since : Nat) : State :=
  { wKeys [4] with
    holder := none, now := since
    keys := { (wKeys [4]).keys with latched := 1 }
    power := { quiet.power with words := [x, y] } }

theorem witness_startSelfTest : (wWords none (some false) 0).lacksSpare .a = false ∧
    after (exec (.startSelfTest .a true) (wWords none (some false) 0)) (fun t => t.power.words == [some true, some false] &&
      t.get MCTL_STATUS.step == 5) = true ∧
    after (exec (.startSelfTest .a true) (wWords none none 0)) (fun t => t.slotState 4 == 2 && t.sessions == []) = true ∧
    after (exec (.startSelfTest .a true) (wWords (some true) none 0)) (fun t => t == wWords (some true) none 0) = true := by
  decide +kernel

/-- The chosen die applies the factory book, which is Config's, so of a choice the premises are shown. -/
theorem witness_stageChoice :
    (wWords (some true) none 0).power.words.getD 0 none = some true ∧
    (wWords none (some true) 20000000).sinceStart = 20000000 ∧
    after (exec .stageChoice (wWords none (some true) 19999999)) (fun t => t.power.chosen == none && t.get MCTL_STATUS.stage_choice == 0) = true ∧
    after (exec .stageChoice (wWords (some false) (some false) 0)) (fun t => t.get MCTL_STATUS.stage_choice == 3 &&
      t.get MCTL_INT_STATUS.no_stage == 1 && t.roleOf .a == roTEST) = true := by decide +kernel

def wRestore : State :=
  { quiet with
    dieA := { wDie with image := [(5, { Hot.delivered with current := 77 })], dirty := [(5, 1)] }
    power := { quiet.power with chosen := some .a } }

theorem witness_hotRestore : wDie.active 5 = true ∧
    after (exec .hotRestore wRestore) (fun t => t.power.restored && t.dieA.dirty == [] && (t.dieA.hotOf 5).current == 77 &&
      (t.dieA.hotOf 5).fadeCtrl == 128 && t.get MCTL_STATUS.step == 8 && t.dieB == wRestore.dieB) = true ∧
    after (exec .hotRestore quiet) (fun t => t == quiet) = true := by decide +kernel

end Sys2Proof.Machine
end

section
/-! PROOFS. The crossings that the detector discards (R64), the coherent reads of the real-time clock (R99) and
its set from TAI (R104). -/

namespace Sys2Proof.Machine

/-! ### Registers: a named write, a saturating counter, an access that reads -/

/-- A write of a field changes no other field, and nothing but registers. -/
theorem onlyRegs_set (s : State) (f : Fld) (v : Nat) : OnlyRegs [f] s (s.set f v) :=
  ⟨fun _ hg => State.get_set_other s v (by simpa using hg), rfl⟩

@[simp] theorem State.get_addSat_same (s : State) (f : Fld) (n : Nat) :
    (s.addSat f n).get f = min (s.get f + n) (f.size - 1) := by
  have hpos : 0 < f.size := Nat.two_pow_pos f.width
  exact (State.get_set_same s f _).trans (Nat.mod_eq_of_lt (by omega))

/-- A read of an Apron register by its own command is never locked (R598 locks writes alone). -/
theorem State.access_apronRead {s : State} (hon : s.power.on = true) (p : Port) (addr : Nat)
    (act : State → State) : s.access (apronRead p addr) act = act s := by
  simp [State.access, State.hostLocked, apronRead, hon]

/-! ### Crossings (R61, R64) -/

section
variable {s : State} {k : Nat} {x y low : Int} {p : Nat}

/-- R64 in terms of the register: the measured period is CYC_PERIOD. -/
theorem State.isGlitch_iff {u : Nat} {earlier : List Nat} {t : Int} (hu : s.clk.detected = u :: earlier) :
    s.isGlitch t = true ↔ 2 * 256 * (t - (u : Int)) < (s.get CYC_PERIOD.period : Int) := by
  simp only [State.isGlitch, hu]
  exact decide_eq_true_iff

theorem exec_crossingDetected_noCrossing (hx : s.isCrossing x y low p = false) :
    exec (.crossingDetected k x y low p) s = .next s := by
  change execCrossingDetected k x y low p s = _
  simp [execCrossingDetected, hx]

theorem exec_crossingDetected_glitch (hon : s.power.on = true) (hdet : s.detectorOn = true)
    (hx : s.isCrossing x y low p = true) (hg : s.isGlitch (s.crossingTime k x y) = true) :
    exec (.crossingDetected k x y low p) s = .next (s.addSat CYC_GLITCHES.count 1) := by
  change execCrossingDetected k x y low p s = _
  simp [execCrossingDetected, hon, hdet, hx, hg]

end

/-- Settles O9: samples that make no crossing leave the state, and a glitch runs into the branch that only
counts. -/
theorem glitchCrossingIsOnlyCounted : Obligations.GlitchCrossingIsOnlyCounted := by
  intro k x y low p s
  refine ⟨fun u earlier hon hdet hx hu hshort => ?_, exec_crossingDetected_noCrossing⟩
  have hg : s.isGlitch (s.crossingTime k x y) = true := (State.isGlitch_iff hu).2 hshort
  exact ⟨_, exec_crossingDetected_glitch hon hdet hx hg, State.get_addSat_same s CYC_GLITCHES.count 1,
    onlyRegs_set s CYC_GLITCHES.count _⟩

/-! ### The shadows of the ports (R99) -/

@[simp] theorem RtcState.shadow_setShadow_same (r : RtcState) (p : Port) (v : Option RtcShadow) :
    (r.setShadow p v).shadow p = v := by cases p <;> rfl

theorem RtcState.shadow_setShadow_other (r : RtcState) {p q : Port} (v : Option RtcShadow) (h : q ≠ p) :
    (r.setShadow p v).shadow q = r.shadow q := by
  cases p <;> cases q <;> simp [RtcState.setShadow, RtcState.shadow] at h ⊢

theorem State.rtcHi_frozen {s : State} {p : Port} {f : RtcShadow} (h : s.rtc.shadow p = some f) :
    s.rtcHi p = f.count / 2 ^ 32 := by simp [State.rtcHi, h]

theorem State.rtcHi_live {s : State} {p : Port} (h : s.rtc.shadow p = none) :
    s.rtcHi p = s.rtc.mirror / 2 ^ 32 := by simp [State.rtcHi, h]

/-- The word of a register keeps of the mirror what GHL_RTC_LO shows. -/
theorem State.ofNat_rtcLo (s : State) : BitVec.ofNat 32 s.rtcLo = BitVec.ofNat 32 s.rtc.mirror := by
  apply BitVec.eq_of_toNat_eq
  simp [State.rtcLo]

theorem exec_rtcLoRead {s : State} (hon : s.power.on = true) (p : Port) :
    exec (.rtcLoRead p) s =
      .next ((s.rtcFreeze p).emit (.regRead p 0xC0030000 (BitVec.ofNat 32 s.rtc.mirror))) := by
  change execRtcLoRead p s = _
  simp only [execRtcLoRead, State.access_apronRead hon, State.ofNat_rtcLo]

theorem exec_rtcHiRead {s : State} (hon : s.power.on = true) (p : Port) :
    exec (.rtcHiRead p) s =
      .next ((s.rtcRelease p).emit (.regRead p 0xC0030004 (BitVec.ofNat 32 (s.rtcHi p)))) := by
  change execRtcHiRead p s = _
  simp only [execRtcHiRead, State.access_apronRead hon]

/-! ### The host port's read of GHL_RTC_STATUS -/

/-- The address of GHL_RTC_STATUS is no address of a die, and names its register at its base. -/
theorem accessOf_rtcStatus (bound : Option DieId) :
    accessOf .host bound 0xC0030008 false = some (apronRead .host 0xC0030008) := rfl

theorem State.place_rtcStatus (s : State) : s.place 0xC0030008 = .reg .ghl 8 := rfl

/-- A frozen status is read as it was frozen, and the read leaves the freeze (R99). -/
theorem State.readReg_rtcStatus {s : State} {p : Port} {f : RtcShadow} (h : s.rtc.shadow p = some f)
    (r : RegDesc) : s.readReg p .ghl r 8 = (s, f.status) := by
  simp [State.readReg, h]

theorem State.readWord_rtcStatus {s : State} {f : RtcShadow} (h : s.rtc.shadowHost = some f)
    (bound : Option DieId) (bad : Bool) :
    s.readWord .host bound 0xC0030008 bad = (s, hcOK, f.status) := by
  have hreg : Block.register .ghl 8 =
      some ⟨0x8, 0, 1, [⟨31, 16, .ro⟩, ⟨15, 8, .ro⟩, ⟨1, 1, .ro⟩, ⟨0, 0, .ro⟩]⟩ := rfl
  have hread := State.readReg_rtcStatus (s := s) (p := .host) h
  simp [State.readWord, accessOf_rtcStatus, State.readAt, apronRead, State.place_rtcStatus, hreg, hread]

theorem exec_hostRead_rtcStatus {s : State} {f : RtcShadow} (hon : s.power.on = true)
    (h : s.rtc.shadowHost = some f) :
    exec (.hostRead true 0xC0030008 0 0 []) s =
      .next ((s.heldLow 0).emit (.host [BitVec.ofNat 32 f.status] 0 0 none)) := by
  have hword := State.readWord_rtcStatus (s := s.heldLow 0) h (s.heldLow 0).holder false
  change execHostRead true 0xC0030008 0 0 [] s = _
  simp [execHostRead, hon, State.readBurst, Burst.read, State.burst, hword, Burst.finish, State.servedBy, hcOK]

/-- Settles O11: what each of the three reads does, by the rules of the shadows above. -/
theorem rtcReadsAreCoherent : Obligations.RtcReadsAreCoherent := by
  refine ⟨fun p s hon => ?_, fun p f s hon hf => ?_, fun p s hon hf => ?_, fun f s hon hf => ?_⟩
  · exact ⟨_, exec_rtcLoRead hon p, RtcState.shadow_setShadow_same _ _ _,
      fun _ hq => RtcState.shadow_setShadow_other _ _ hq, rfl, rfl, rfl⟩
  · refine ⟨_, exec_rtcHiRead hon p, RtcState.shadow_setShadow_same _ _ _,
      fun _ hq => RtcState.shadow_setShadow_other _ _ hq, ?_, rfl⟩
    rw [State.rtcHi_frozen hf]; rfl
  · refine ⟨_, exec_rtcHiRead hon p, ?_, rfl⟩
    rw [State.rtcHi_live hf]; rfl
  · exact ⟨_, exec_hostRead_rtcStatus hon hf, rfl, rfl⟩

/-! ### The set from TAI (R104) -/

/-- R104: how far the RTC's seconds lie from the TAI seconds, in ms. -/
def State.rtcTaiGap (s : State) : Nat :=
  1000 * (((s.tai / 1000000000 : Nat) : Int) - ((s.rtc.count / 2 ^ 15 : Nat) : Int)).natAbs

theorem State.rtcFollows_iff (s : State) : s.rtcFollows = true ↔
    s.obj 0x2045 0 = 1 ∧ s.mapValid = true ∧
      (s.get GHL_RTC_STATUS.time_lost = 1 ∨ s.obj 0x2046 0 < s.rtcTaiGap) := by
  simp [State.rtcFollows, State.flag, State.rtcTaiGap, and_assoc]

theorem State.taiSecondStarts_iff (s : State) : s.taiSecondStarts = true ↔ s.tai % 1000000000 ≤ 40 := by
  simp [State.taiSecondStarts]

theorem exec_rtcSetFromTai_sets {s : State} (hf : s.rtcFollows = true) (hs : s.taiSecondStarts = true) :
    exec .rtcSetFromTai s =
      .next ((s.rtcApply (s.tai / 1000000000)).raise GHL_RTC_INT_STATUS.tai_set) :=
  if_pos ⟨hf, hs⟩

theorem exec_rtcSetFromTai_idle {s : State} (h : ¬ (s.rtcFollows = true ∧ s.taiSecondStarts = true)) :
    exec .rtcSetFromTai s = .next s := if_neg h

/-- R101, R102: a set gives the seconds, with the prescaler at 0. -/
theorem State.rtcApply_count (s : State) (sec : Nat) : (s.rtcApply sec).rtc.count = sec * 2 ^ 15 % 2 ^ 48 := rfl

theorem State.rtcApply_mirror (s : State) (sec : Nat) : (s.rtcApply sec).rtc.mirror = (s.rtcApply sec).rtc.count := rfl

theorem State.rtcApply_timeLost (s : State) (sec : Nat) : (s.rtcApply sec).get GHL_RTC_STATUS.time_lost = 0 := by
  have hother : GHL_RTC_STATUS.time_lost.key ≠ GHL_RTC_INT_STATUS.set_applied.key := by decide
  exact (State.get_set_other _ 1 hother).trans (State.get_set_same _ GHL_RTC_STATUS.time_lost 0)

theorem State.rtcApply_posts (s : State) (sec : Nat) : (s.rtcApply sec).posts.length = s.posts.length + 1 := by
  simp [State.rtcApply, State.post, State.raise]

/-- Settles O12: the command tests R104's condition and the moment, and takes the seconds as any set does. -/
theorem rtcFollowsTai : Obligations.RtcFollowsTai := by
  refine fun s => ⟨fun hobj hmap hoff hmoment => ?_, fun hno => ?_⟩
  · have hf : s.rtcFollows = true := s.rtcFollows_iff.2 ⟨hobj, hmap, hoff⟩
    refine ⟨_, exec_rtcSetFromTai_sets hf (s.taiSecondStarts_iff.2 hmoment), s.rtcApply_count _,
      s.rtcApply_mirror _, ?_, State.get_set_same _ GHL_RTC_INT_STATUS.tai_set 1, s.rtcApply_posts _⟩
    have hother : GHL_RTC_STATUS.time_lost.key ≠ GHL_RTC_INT_STATUS.tai_set.key := by decide
    exact (State.get_set_other _ 1 hother).trans (s.rtcApply_timeLost _)
  · refine exec_rtcSetFromTai_idle fun hset => ?_
    obtain ⟨hf, hs⟩ := hset
    obtain ⟨hobj, hmap, hoff⟩ := s.rtcFollows_iff.1 hf
    have hmoment := s.taiSecondStarts_iff.1 hs
    rcases hno with hobj' | hmap' | hmoment' | ⟨hkept, hnear⟩
    · exact hobj' hobj
    · exact absurd (hmap'.symm.trans hmap) (by decide)
    · omega
    · change s.rtcTaiGap ≤ _ at hnear
      omega

end Sys2Proof.Machine
end

section
/-! PROOFS. The cue area as delivered (R763). -/

namespace Sys2Proof.Machine

/-- R763: the state after reset holds the delivered cue area on both dies. -/
theorem State.cues_reset (d : DieId) : State.reset.cues d = CueArea.delivered := by
  cases d with
  | a => rfl
  | b => rfl

theorem CueArea.activeBank_of_active_zero {c : CueArea} (h : c.active = 0) : c.activeBank = c.bank0 := by
  simp [CueArea.activeBank, CueArea.bank, h]

theorem CueArea.inactiveBank_of_active_zero {c : CueArea} (h : c.active = 0) : c.inactiveBank = c.bank1 := by
  simp [CueArea.inactiveBank, CueArea.bank, h]

/-- Neither delivered cue bank lists a scene header, a scene entry or a schedule entry. -/
theorem CueArea.delivered_bank_tables {b : CueBank}
    (hb : b = CueArea.delivered.bank0 ∨ b = CueArea.delivered.bank1) :
    b.headers = [] ∧ b.entries = [] ∧ b.sched = [] := by
  rcases hb with rfl | rfl
  · exact ⟨rfl, rfl, rfl⟩
  · exact ⟨rfl, rfl, rfl⟩

/-- Settles O60: both dies hold the delivered cue area, in which every table is empty and so reads 0. -/
theorem cueAreaAsDelivered : Obligations.CueAreaAsDelivered := by
  rintro d _ rfl
  rw [State.cues_reset d]
  exact ⟨rfl, CueArea.activeBank_of_active_zero rfl, CueArea.inactiveBank_of_active_zero rfl, rfl, rfl,
    fun _ => CueArea.delivered_bank_tables, rfl, rfl, rfl, rfl, rfl, rfl, Tbl.get_nil 0, Tbl.get_nil 0⟩

end Sys2Proof.Machine
end

section
/-! PROOFS. Arbiters: window boundaries, grant points, and how a grant is taken back, cut off or withdrawn
(R270-R275). -/

namespace Sys2Proof.Machine

/-! ### Bits of a bitmap -/

@[simp] theorem bitOf_zero (k : Nat) : bitOf 0 k = 0 := by simp [bitOf]

@[simp] theorem bitOf_setBit_same (w k : Nat) : bitOf (setBit w k) k = 1 := by
  unfold setBit
  split
  · assumption
  · next h =>
    have hdiv : (w + 2 ^ k) / 2 ^ k = w / 2 ^ k + 1 := Nat.add_div_right w (Nat.two_pow_pos k)
    simp only [bitOf] at h ⊢
    omega

/-! ### An arbiter read after a write -/

theorem State.arb_setArb {s : State} {d : DieId} {a : Nat} {row : ArbKind × List Nat × Nat × Nat} {x : Arb}
    (h : s.arb d a = some (row, x)) (y : Arb) : (s.setArb d a y).arb d a = some (row, y) := by
  obtain ⟨r, hr, hpair⟩ := Option.map_eq_some_iff.1 h
  obtain ⟨rfl, -⟩ := Prod.mk.inj hpair
  simp [State.arb, State.setArb, hr]

@[simp] theorem State.arb_set (s : State) (f : Fld) (v : Nat) (d : DieId) (a : Nat) :
    (s.set f v).arb d a = s.arb d a := rfl

@[simp] theorem State.arb_post (s : State) (p : Plane) (k c : Nat) (b : List Byte) (d : DieId) (a : Nat) :
    (s.post p k c b).arb d a = s.arb d a := rfl

@[simp] theorem State.get_setArb (s : State) (d : DieId) (a : Nat) (x : Arb) (f : Fld) :
    (s.setArb d a x).get f = s.get f := rfl

@[simp] theorem State.posts_setArb (s : State) (d : DieId) (a : Nat) (x : Arb) :
    (s.setArb d a x).posts = s.posts := rfl

@[simp] theorem State.emergencyOk_setArb (s : State) (d : DieId) (a : Nat) (x : Arb) :
    (s.setArb d a x).emergencyOk d a = s.emergencyOk d a := rfl

/-! ### The holder's clocks (R270) -/

theorem Arb.run_free {x : Arb} (hx : x.holder = none) (clocks : Nat) : x.run clocks = x := by
  simp [Arb.run, hx]

section
variable {x : Arb} {i held : Nat} {f : Option Xfer} (hx : x.holder = some { req := some i, held := held, xfer := f })
include hx

theorem Arb.run_held (clocks : Nat) :
    x.run clocks =
      { x with
        counters := x.counters.set i (max (-(2 ^ 23 : Int)) (x.counters.getD i 0 - clocks))
        holder := some { req := some i, held := held + clocks, xfer := f } } := by
  simp [Arb.run, hx]

theorem Arb.run_holder (clocks : Nat) :
    (x.run clocks).holder = some { req := some i, held := held + clocks, xfer := f } := by
  rw [Arb.run_held hx]

/-- R270: the holder's counter is debited, down to its floor. -/
theorem Arb.run_debits (clocks : Nat) (hi : i < x.counters.length) :
    (x.run clocks).counters.getD i 0 = max (-(2 ^ 23)) (x.counters.getD i 0 - clocks) := by
  simp [Arb.run_held hx, hi]

end

/-- The clocks move the counters and the grant in force alone. -/
theorem Arb.run_frame (x : Arb) (clocks : Nat) :
    x.run clocks = { x with counters := (x.run clocks).counters, holder := (x.run clocks).holder } := by
  unfold Arb.run
  split <;> rfl

theorem Arb.run_weights (x : Arb) (clocks : Nat) : (x.run clocks).weights = x.weights := by rw [Arb.run_frame]
theorem Arb.run_margin (x : Arb) (clocks : Nat) : (x.run clocks).margin = x.margin := by rw [Arb.run_frame]
theorem Arb.run_limits (x : Arb) (clocks : Nat) : (x.run clocks).limits = x.limits := by rw [Arb.run_frame]
theorem Arb.run_cutoffs (x : Arb) (clocks : Nat) : (x.run clocks).cutoffs = x.cutoffs := by rw [Arb.run_frame]
theorem Arb.run_preempts (x : Arb) (clocks : Nat) : (x.run clocks).preempts = x.preempts := by rw [Arb.run_frame]

/-! ### The pick (R270) -/

/-- Requester `i` has a pending request and is not masked. -/
def Arb.Asks (x : Arb) (requests i : Nat) : Prop := bitOf requests i = 1 ∧ bitOf x.masked i = 0

/-- R270 among the requesters of a list: the one of those that ask with the highest counter, the lowest index
among equals; none when none asks. -/
def Arb.IsPick (x : Arb) (requests : Nat) (l : List Nat) : Option Nat → Prop
  | none => ∀ j ∈ l, ¬ x.Asks requests j
  | some i => i ∈ l ∧ x.Asks requests i ∧ ∀ j ∈ l, x.Asks requests j →
      x.counters.getD j 0 ≤ x.counters.getD i 0 ∧ (x.counters.getD j 0 = x.counters.getD i 0 → i ≤ j)

section
variable {x : Arb} {requests i b : Nat} {seen : List Nat}

theorem Arb.pickFrom_asks_none {rest : List Nat} (hi : x.Asks requests i) :
    x.pickFrom requests (i :: rest) none = x.pickFrom requests rest (some i) := if_pos hi

theorem Arb.pickFrom_asks_some {rest : List Nat} (hi : x.Asks requests i) :
    x.pickFrom requests (i :: rest) (some b) =
      x.pickFrom requests rest (if x.counters.getD b 0 < x.counters.getD i 0 then some i else some b) := if_pos hi

theorem Arb.pickFrom_silent {rest : List Nat} {best : Option Nat} (hi : ¬ x.Asks requests i) :
    x.pickFrom requests (i :: rest) best = x.pickFrom requests rest best := if_neg hi

/-- A requester that does not ask leaves the pick. -/
theorem Arb.IsPick.append_silent {best : Option Nat} (h : x.IsPick requests seen best)
    (hi : ¬ x.Asks requests i) : x.IsPick requests (seen ++ [i]) best := by
  have hold : ∀ j ∈ seen ++ [i], x.Asks requests j → j ∈ seen := fun j hj hasks => by
    rcases List.mem_append.1 hj with hseen | hnew
    · exact hseen
    · exact absurd (List.mem_singleton.1 hnew ▸ hasks) hi
  cases best with
  | none => exact fun j hj hasks => h j (hold j hj hasks) hasks
  | some b =>
    obtain ⟨hmem, hb, hbest⟩ := h
    exact ⟨List.mem_append_left _ hmem, hb, fun j hj hasks => hbest j (hold j hj hasks) hasks⟩

/-- The first requester that asks is the pick. -/
theorem Arb.IsPick.append_first (h : x.IsPick requests seen none) (hi : x.Asks requests i) :
    x.IsPick requests (seen ++ [i]) (some i) := by
  refine ⟨by simp, hi, fun j hj hasks => ?_⟩
  rcases List.mem_append.1 hj with hseen | hnew
  · exact absurd hasks (h j hseen)
  · obtain rfl := List.mem_singleton.1 hnew
    exact ⟨Int.le_refl _, fun _ => Nat.le_refl _⟩

/-- A later requester that asks takes the pick over only with a higher counter. -/
theorem Arb.IsPick.append_rival (h : x.IsPick requests seen (some b)) (hi : x.Asks requests i)
    (hlater : ∀ j ∈ seen, j < i) :
    x.IsPick requests (seen ++ [i])
      (if x.counters.getD b 0 < x.counters.getD i 0 then some i else some b) := by
  obtain ⟨hmem, hb, hbest⟩ := h
  have hbi : b < i := hlater b hmem
  split
  · next hlt =>
    refine ⟨by simp, hi, fun j hj hasks => ?_⟩
    rcases List.mem_append.1 hj with hseen | hnew
    · have hle := (hbest j hseen hasks).1
      omega
    · obtain rfl := List.mem_singleton.1 hnew
      omega
  · next hle =>
    refine ⟨List.mem_append_left _ hmem, hb, fun j hj hasks => ?_⟩
    rcases List.mem_append.1 hj with hseen | hnew
    · exact hbest j hseen hasks
    · obtain rfl := List.mem_singleton.1 hnew
      omega

end

/-- The scan keeps the pick of the requesters seen so far. -/
theorem Arb.isPick_pickFrom (x : Arb) (requests : Nat) (rest : List Nat) :
    ∀ (seen : List Nat) (best : Option Nat), (seen ++ rest).Pairwise (· < ·) → x.IsPick requests seen best →
      x.IsPick requests (seen ++ rest) (x.pickFrom requests rest best) := by
  induction rest with
  | nil =>
    intro seen best _ h
    simpa [Arb.pickFrom] using h
  | cons i rest ih =>
    intro seen best hsorted h
    have hlater : ∀ j ∈ seen, j < i := fun j hj => (List.pairwise_append.1 hsorted).2.2 j hj i (by simp)
    rw [List.append_cons] at hsorted ⊢
    by_cases hi : x.Asks requests i
    · cases best with
      | none => simpa only [Arb.pickFrom_asks_none hi] using ih _ _ hsorted (h.append_first hi)
      | some b => simpa only [Arb.pickFrom_asks_some hi] using ih _ _ hsorted (h.append_rival hi hlater)
    · simpa only [Arb.pickFrom_silent hi] using ih _ _ hsorted (h.append_silent hi)

/-- The arbiter's pick is that of R270 among all its requesters. -/
theorem Arb.isPick_pick (x : Arb) (requests : Nat) :
    x.IsPick requests (List.range x.weights.length) (x.pick requests) :=
  x.isPick_pickFrom requests _ [] none List.pairwise_lt_range fun _ hj => absurd hj List.not_mem_nil

/-! ### Grant points (R270, R273) -/

/-- R270: the arbiter after a grant point without an emergency or a transfer. -/
def Arb.granted (x : Arb) (requests now cycle : Nat) : Arb :=
  let y := x.passOver requests (x.pick requests) now cycle
  match x.pick requests with
  | none => { y with holder := none }
  | some i =>
    { y with
      grants := x.grants.set i ((x.grants.getD i 0 + 1) % 2 ^ 32)
      holder := some { req := some i, held := 0, xfer := none } }

/-- R270: the grant goes to the asker with the highest counter and is counted. -/
theorem Arb.granted_highest {x : Arb} {requests : Nat} (now cycle : Nat)
    (hasks : ∃ i, i < x.weights.length ∧ x.Asks requests i) :
    ∃ i, (x.granted requests now cycle).holder = some { req := some i, held := 0, xfer := none } ∧
      i < x.weights.length ∧ x.Asks requests i ∧
      (x.granted requests now cycle).grants = x.grants.set i ((x.grants.getD i 0 + 1) % 2 ^ 32) ∧
      ∀ j, j < x.weights.length → x.Asks requests j →
        x.counters.getD j 0 ≤ x.counters.getD i 0 ∧ (x.counters.getD j 0 = x.counters.getD i 0 → i ≤ j) := by
  have hpick := x.isPick_pick requests
  cases hp : x.pick requests with
  | none =>
    obtain ⟨j, hj, hasks⟩ := hasks
    rw [hp] at hpick
    exact absurd hasks (hpick j (List.mem_range.2 hj))
  | some i =>
    rw [hp] at hpick
    obtain ⟨hi, hasks, hbest⟩ := hpick
    exact ⟨i, by simp [Arb.granted, hp], List.mem_range.1 hi, hasks, by simp [Arb.granted, hp],
      fun j hj => hbest j (List.mem_range.2 hj)⟩

/-- Where nobody asks, nobody holds the grant. -/
theorem Arb.granted_none {x : Arb} {requests : Nat} (now cycle : Nat)
    (hno : ∀ i, i < x.weights.length → ¬ x.Asks requests i) : (x.granted requests now cycle).holder = none := by
  have hpick := x.isPick_pick requests
  cases hp : x.pick requests with
  | none => simp [Arb.granted, hp]
  | some i =>
    rw [hp] at hpick
    obtain ⟨hi, hasks, -⟩ := hpick
    exact absurd hasks (hno i (List.mem_range.1 hi))

theorem Arb.granted_zero (x : Arb) (now cycle : Nat) : (x.granted 0 now cycle).holder = none :=
  Arb.granted_none now cycle fun i _ => by simp [Arb.Asks]

section
variable {s : State} {d : DieId} {a : Nat} {row : ArbKind × List Nat × Nat × Nat} {x : Arb}
variable (h : s.arb d a = some (row, x))
include h

theorem State.grantPoint_calm (requests : Nat) :
    s.grantPoint d a requests false none = s.setArb d a (x.granted requests s.now s.clk.cycle) := by
  cases hp : x.pick requests with
  | none => simp [State.grantPoint, h, Arb.granted, hp]
  | some i => simp [State.grantPoint, h, Arb.granted, hp, Arb.passOver]

theorem State.grantPoint_emergency (hrow : row.1 = .large) (hok : s.emergencyOk d a = true) :
    s.grantPoint d a 0 true none =
      s.setArb d a { x with holder := some { req := none, held := 0, xfer := none } } := by
  simp [State.grantPoint, h, hrow, hok]

end

/-! ### A grant without a transfer is taken back, or cut off (R271-R273) -/

/-- R272, R273: an arbiter whose grant has been taken back, and counted. -/
def Arb.preempted (x : Arb) : Arb :=
  { x with holder := none, preempts := min (x.preempts + 1) (2 ^ 32 - 1) }

theorem State.takeBack_held (s : State) (d : DieId) (a : Nat) {x : Arb} {r : Option Nat} {held : Nat}
    (hx : x.holder = some { req := r, held := held, xfer := none }) :
    s.takeBack d a x = s.setArb d a x.preempted := by
  simp [State.takeBack, hx, State.rewind, Arb.preempted]

/-- R271: an arbiter without its holder, which is masked, flagged and counted. -/
def Arb.cutOff (x : Arb) (i : Nat) : Arb :=
  { x with holder := none, masked := setBit x.masked i, flags := setBit x.flags i,
           cutoffs := min (x.cutoffs + 1) 0xFFFF }

/-- R271: without a transfer, a cut-off changes the arbiter, raises its interrupt and posts a record. -/
theorem State.cutOff_held (s : State) (d : DieId) (a : Nat) (x : Arb) (r : Option Nat) (held i : Nat) :
    s.cutOff d a x { req := r, held := held, xfer := none } i =
      ((s.setArb d a (x.cutOff i)).set (QCM_INT_STATUS.cutoff (s.qcmDie d (decide (a ≤ 40)))) 1).post .control
        (cbSource (originDie (s.qcmDie d (decide (a ≤ 40)))) cbQCM 0) (unnamed 249) [] := rfl

section
variable (s : State) (d : DieId) (a : Nat) (x : Arb) (r : Option Nat) (held i : Nat)

theorem State.arb_cutOff {row : ArbKind × List Nat × Nat × Nat} {y : Arb} (h : s.arb d a = some (row, y)) :
    (s.cutOff d a x { req := r, held := held, xfer := none } i).arb d a = some (row, x.cutOff i) := by
  simpa [State.cutOff_held] using State.arb_setArb h (x.cutOff i)

theorem State.posts_cutOff :
    (s.cutOff d a x { req := r, held := held, xfer := none } i).posts.length = s.posts.length + 1 := by
  simp [State.cutOff_held]

theorem State.get_cutOff_raised :
    (s.cutOff d a x { req := r, held := held, xfer := none } i).get
      (QCM_INT_STATUS.cutoff (s.qcmDie d (decide (a ≤ 40)))) = 1 := by
  rw [State.cutOff_held, State.get_post]
  exact State.get_set_same _ _ 1

theorem State.regsBut_cutOff :
    RegsBut [QCM_INT_STATUS.cutoff (s.qcmDie d (decide (a ≤ 40)))] s
      (s.cutOff d a x { req := r, held := held, xfer := none } i) := by
  intro f hf
  rw [State.cutOff_held, State.get_post, State.get_set_other _ 1 (by simpa using hf), State.get_setArb]

end

/-! ### A counted withdrawal (R275) -/

/-- R275: the holder has withdrawn, and is counted at the QCM of the arbiter. -/
def State.withdrawn (s : State) (d : DieId) (a : Nat) (x : Arb) : State :=
  (s.setArb d a { x with holder := none }).addSat (QCM_WITHDRAWALS.count (s.qcmDie d (decide (a ≤ 40)))) 1

section
variable (s : State) (d : DieId) (a : Nat) (x : Arb)

theorem State.arb_withdrawn {row : ArbKind × List Nat × Nat × Nat} {y : Arb} (h : s.arb d a = some (row, y)) :
    (s.withdrawn d a x).arb d a = some (row, { x with holder := none }) :=
  (State.arb_set _ _ _ d a).trans (State.arb_setArb h _)

theorem State.get_withdrawn_count :
    (s.withdrawn d a x).get (QCM_WITHDRAWALS.count (s.qcmDie d (decide (a ≤ 40)))) =
      min (s.get (QCM_WITHDRAWALS.count (s.qcmDie d (decide (a ≤ 40)))) + 1) (2 ^ 32 - 1) :=
  State.get_addSat_same (s.setArb d a _) _ 1

theorem State.regsBut_withdrawn :
    RegsBut [QCM_WITHDRAWALS.count (s.qcmDie d (decide (a ≤ 40)))] s (s.withdrawn d a x) :=
  fun _ hf => (State.get_set_other _ _ (by simpa using hf)).trans (State.get_setArb s d a _ _)

end

/-! ### What the commands do at an arbiter that is free -/

section
variable {s : State} {d : DieId} {a : Fin 256} {row : ArbKind × List Nat × Nat × Nat} {x : Arb}
variable (h : s.arb d a = some (row, x)) (hx : x.holder = none) (clocks : Nat)
include h hx

theorem exec_arbWindowBoundary_free :
    exec (.arbWindowBoundary d a clocks) s =
      .next (s.setArb d a { x with counters := x.weights.map Int.ofNat, masked := 0 }) := by
  change execArbWindowBoundary d a clocks s = _
  simp [execArbWindowBoundary, h, Arb.run_free hx]

theorem exec_arbGrant_free (requests : Nat) :
    exec (.arbGrant d a clocks requests false none) s =
      .next ((s.setArb d a x).setArb d a (x.granted requests s.now s.clk.cycle)) := by
  change execArbGrant d a clocks requests false none s = _
  have hfree : { x with holder := none } = x := by rw [← hx]
  simp only [execArbGrant, h, Arb.run_free hx, hx, hfree, State.grantPoint_calm (State.arb_setArb h x)]
  rfl

end

/-! ### What they do at one that a requester holds without a transfer -/

section
variable {s : State} {d : DieId} {a : Fin 256} {row : ArbKind × List Nat × Nat × Nat} {x : Arb} {i held : Nat}
variable (h : s.arb d a = some (row, x)) (clocks : Nat)
include h

theorem exec_arbEmergency_keeps (hno : ¬ (row.1 = .large ∧ s.emergencyOk d a = true)) :
    exec (.arbEmergency d a clocks none) s = .next (s.setArb d a (x.run clocks)) := by
  change execArbEmergency d a clocks none s = _
  simp only [execArbEmergency, h, if_neg hno]

variable (hx : x.holder = some { req := some i, held := held, xfer := none })
include hx

theorem exec_arbEmergency_preempts (hrow : row.1 = .large) (hok : s.emergencyOk d a = true) :
    exec (.arbEmergency d a clocks none) s =
      .next ((s.setArb d a (x.run clocks).preempted).setArb d a { (x.run clocks).preempted with
        holder := some { req := none, held := 0, xfer := none } }) := by
  change execArbEmergency d a clocks none s = _
  have hrun := Arb.run_holder hx clocks
  have hback := State.arb_setArb h (x.run clocks).preempted
  have hok' := (s.emergencyOk_setArb d a (x.run clocks).preempted).trans hok
  simp only [execArbEmergency, h, if_pos (And.intro hrow hok), hrun, State.takeBack_held s d a hrun,
    State.grantPoint_emergency hback hrow hok']

theorem exec_arbPreempt_leads {j : Fin 16} (hrow : row.1 = .small) (hij : i ≠ j.val)
    (hj : j.val < x.weights.length)
    (hlead : (x.run clocks).counters.getD i 0 + x.margin ≤ (x.run clocks).counters.getD j 0) :
    exec (.arbPreempt d a clocks j) s = .next (s.setArb d a (x.run clocks).preempted) := by
  change execArbPreempt d a clocks j s = _
  have hrun := Arb.run_holder hx clocks
  rw [← Arb.run_weights x clocks] at hj
  rw [← Arb.run_margin x clocks] at hlead
  have hcond := And.intro hrow (And.intro hij (And.intro hj hlead))
  simp only [execArbPreempt, h, hrun, if_pos hcond, State.takeBack_held s d a hrun]

theorem exec_arbCutoff_beyond (ha : 31 < a.val) (hlim : x.limits.getD i 0 < held + clocks) :
    exec (.arbCutoff d a clocks) s =
      .next (s.cutOff d a (x.run clocks) { req := some i, held := held + clocks, xfer := none } i) := by
  change execArbCutoff d a clocks s = _
  rw [← Arb.run_limits x clocks] at hlim
  have hcluster : ¬ (a.val ≤ 31 ∧ i ≤ 8) := fun hc => absurd hc.1 (Nat.not_le.2 ha)
  simp only [execArbCutoff, h, Arb.run_holder hx, if_pos hlim, if_neg hcluster]

theorem exec_arbCutoff_within (hlim : held + clocks ≤ x.limits.getD i 0) :
    exec (.arbCutoff d a clocks) s = .next (s.setArb d a (x.run clocks)) := by
  change execArbCutoff d a clocks s = _
  rw [← Arb.run_limits x clocks] at hlim
  simp only [execArbCutoff, h, Arb.run_holder hx, if_neg (Nat.not_lt.2 hlim)]

theorem exec_arbWithdraw_refused {who : Privileged} (hno : s.privileged who a i = false) :
    exec (.arbWithdraw d a clocks who 0 false none) s = .next (s.setArb d a (x.run clocks)) := by
  change execArbWithdraw d a clocks who 0 false none s = _
  simp only [execArbWithdraw, h, Arb.run_holder hx, if_pos hno]

/-- R275: the grant is given up, the withdrawal counted, and the arbiter picks again. -/
theorem exec_arbWithdraw_withdraws {who : Privileged} (hpriv : s.privileged who a i = true) :
    exec (.arbWithdraw d a clocks who 0 false none) s =
      .next ((s.withdrawn d a (x.run clocks)).setArb d a
        ({ x.run clocks with holder := none }.granted 0 s.now s.clk.cycle)) := by
  change execArbWithdraw d a clocks who 0 false none s = _
  have hpriv' : ¬ s.privileged who a i = false := by simp [hpriv]
  simp only [execArbWithdraw, h, Arb.run_holder hx, if_neg hpriv']
  exact congrArg _ (State.grantPoint_calm (s.arb_withdrawn d a (x.run clocks) h) 0)

end

/-- Settles O25: each clause is one of the equations above; the pick by the scan's invariant, R271 to R273 and
R275 by the branch that the hypotheses choose. -/
theorem arbitersShareByCounters : Obligations.ArbitersShareByCounters := by
  refine ⟨fun d a row x clocks s h hx => ⟨?_, fun requests => ?_⟩,
    fun d a row x g i clocks s h hx hreq hxfer => ?_⟩
  · exact ⟨_, _, exec_arbWindowBoundary_free h hx clocks, State.arb_setArb h _, rfl, rfl⟩
  · refine ⟨_, _, exec_arbGrant_free h hx clocks requests, State.arb_setArb (State.arb_setArb h x) _, rfl,
      fun hasks => ?_, fun hno => Arb.granted_none _ _ fun i hi hasks => ?_⟩
    · obtain ⟨i, hholder, hi, ⟨hreq, hmask⟩, hgrants, hbest⟩ := Arb.granted_highest s.now s.clk.cycle hasks
      exact ⟨i, hholder, hi, hreq, hmask, hgrants, fun j hj hreq' hmask' => hbest j hj ⟨hreq', hmask'⟩⟩
    · obtain ⟨hreq, hmask⟩ := hasks
      exact absurd (hmask.symm.trans (hno i hi hreq)) (by decide)
  · obtain ⟨_, held, _⟩ := g
    obtain rfl : _ = some i := hreq
    obtain rfl : _ = none := hxfer
    have hrun := Arb.run_holder hx clocks
    have hpre : (x.run clocks).preempted.preempts = min (x.preempts + 1) (2 ^ 32 - 1) := by
      simp [Arb.preempted, Arb.run_preempts]
    have hcut : ((x.run clocks).cutOff i).cutoffs = min (x.cutoffs + 1) 0xFFFF := by
      simp [Arb.cutOff, Arb.run_cutoffs]
    refine ⟨fun j hrow hij hj hlead => ?_, fun hrow hok => ?_, fun hno => ?_, fun ha hlim e he => ?_,
      fun hlim => ?_, fun who hno => ?_, fun who e hpriv he => ?_⟩
    · exact ⟨_, _, exec_arbPreempt_leads h clocks hx hrow hij hj hlead, State.arb_setArb h _, rfl, hpre, rfl⟩
    · exact ⟨_, _, exec_arbEmergency_preempts h clocks hx hrow hok,
        State.arb_setArb (State.arb_setArb h _) _, rfl, hpre, rfl⟩
    · have hno' : ¬ (row.1 = .large ∧ s.emergencyOk d a = true) := by
        rintro ⟨hrow, hok⟩
        rcases hno with hrow' | hok'
        · exact hrow' hrow
        · simp [hok] at hok'
      exact ⟨_, _, exec_arbEmergency_keeps h clocks hno', State.arb_setArb h _, hrun, x.run_preempts clocks, rfl⟩
    · subst he
      exact ⟨_, _, exec_arbCutoff_beyond h clocks hx ha hlim, s.arb_cutOff d a _ _ _ i h, rfl,
        bitOf_setBit_same _ i, bitOf_setBit_same _ i, hcut, s.get_cutOff_raised d a _ _ _ i, s.posts_cutOff d a _ _ _ i,
        s.regsBut_cutOff d a _ _ _ i⟩
    · exact ⟨_, _, exec_arbCutoff_within h clocks hx hlim, State.arb_setArb h _, hrun, Arb.run_debits hx clocks, rfl⟩
    · exact ⟨_, _, exec_arbWithdraw_refused h clocks hx hno, State.arb_setArb h _, hrun, rfl⟩
    · subst he
      exact ⟨_, _, exec_arbWithdraw_withdraws h clocks hx hpriv, State.arb_setArb (s.arb_withdrawn d a _ h) _,
        Arb.granted_zero _ _ _, s.get_withdrawn_count d a _, s.regsBut_withdrawn d a _⟩

end Sys2Proof.Machine
end
